-- ==== Sys2Proof/Word.lean ====
section
/-!
DEFINITION. Words of the device and their plainest arithmetic: the bit-vector types, bit fields of naturals, and
saturating sums (R6, R10).
-/

namespace Sys2Proof

/-- A 64-bit register word. -/
abbrev Word := BitVec 64
/-- A byte. -/
abbrev Byte := BitVec 8
/-- A 64 B line of presented memory, byte 0 in bits 7:0 (R6). -/
abbrev Line := BitVec 512
/-- An 80-byte Reed-Solomon codeword of DRAM, symbol 0 in bits 7:0 (R276). -/
abbrev Codeword := BitVec 640

/-- Bits `lo + w - 1` down to `lo` of a natural number. -/
def slice (x lo w : Nat) : Nat := x / 2 ^ lo % 2 ^ w

/-- `x` with bits `lo + w - 1` down to `lo` replaced by the low bits of `v`. -/
def setSlice (x lo w v : Nat) : Nat :=
  x / 2 ^ (lo + w) * 2 ^ (lo + w) + v % 2 ^ w * 2 ^ lo + x % 2 ^ lo

/-- Sum saturating at `m`. -/
def satAdd (m a b : Nat) : Nat := min m (a + b)

/-- The two's complement value of the low `w` bits of `x`. -/
def toSigned (w x : Nat) : Int :=
  if x % 2 ^ w < 2 ^ (w - 1) then (x % 2 ^ w : Nat) else ((x % 2 ^ w : Nat) : Int) - (2 ^ w : Nat)

/-- The `w`-bit two's complement code of an integer. -/
def ofSigned (w : Nat) (v : Int) : Nat := (v % (2 ^ w : Nat)).toNat

/-- A Boolean as a bit. -/
def bit (b : Bool) : Nat := if b then 1 else 0

end Sys2Proof
end

