-- ==== Sys2Proof/Syntax.lean ====
section
/-!
DEFINITION. The commands of the AQ-2416, one constructor per row of the table of operations and events, with the
operands that name the unit concerned and the facts that come from outside the device (data, error patterns, sensor
readings, answers of hosts, peers and the board). The table gives the rows no operand fields (log entry 1).
-/

namespace Sys2Proof

/-- MetaValue of a CXL.mem request, or MetaField No-Op (R192). -/
inductive Meta where
  | noOp | i | s | a
deriving DecidableEq, Repr

/-- A memory error met by an access: the pattern is added to the 80 symbols read; `stored` says that it lies in the
stored cells and not only in this transfer (R279). -/
structure MemErr where
  pattern : Codeword
  stored : Bool
deriving DecidableEq, Repr

/-- R195, R199: what a lookup finds of an almanac entry: sound words, a word that SECDED corrects, or an uncorrectable error in word 0
(PRESENCE) or word 1; or, where it misses and reads a backing line at once, the memory error that this read meets. -/
inductive SramCheck where
  | sound | corrected | word0 | word1 | backing (err : MemErr)
deriving DecidableEq, Repr

/-- A hop of the spine (R14, R18): the sending stop and the direction of travel. -/
structure Hop where
  stop : Fin 16
  dir : Fin 4
deriving DecidableEq, Repr

/-- R14, R16: a word's place on the spine: the stops its message comes from and goes to, and which hop of the route it crosses. -/
structure Crossing where
  src : Fin 16
  dst : Fin 16
  leg : Fin 6
deriving DecidableEq, Repr

/-- R454: an access of the management processor to an address: a store of a value, or a load. The table has no row for loads
(log entry 64). -/
inductive RegAccess where
  | store (value : BitVec 64)
  | load
deriving DecidableEq, Repr

/-- R46: the options of CXL 3.1 and PCIe 6.x that the table of R46 names, by its rows. -/
inductive CxlOption where
  | linkRates | widths | laneReversal | retimers | flitMode | flit68 | l0p | aspm | d3hot | d3cold | aer | msix | sriov | doe | ptm
  | tdisp | surpriseDown
  | cxlIo | cxlMem | cxlCache | singleLd | multiLd | multiHeaded | switching | unorderedIo
  | hdmH | hdmD | hdmDb | hdmDecoders | dynamicCapacity | meta0 | poison | viral | devLoad | gpf | cdat
  | memIde | linkIde | selectiveIde | tsp | memoryCommands | fmApi | persistent | managedHotAdd
deriving DecidableEq, Repr

/-- What a host reads of its LD beside CXL.mem: a register of the vendor DVSEC (R61, R63), a word of the data-mover page (R62),
the CXL DVSEC's Memory_Active (R70), a counter of the user page (R452), whether an option is reported as present, the CDAT (R46), or a
64-bit word of its mailbox page for a channel (R326); and what it writes there. The table has a row for AQ_TB_LO alone (log entry 64). -/
inductive HostRead where
  | dvsec (offset : Fin 48)
  | dmrPage (offset : BitVec 12)
  | memoryActive
  | userPage (offset : BitVec 12)
  | capability (option : CxlOption)
  | cdat
  | mailbox (chan : Fin 16) (offset : Fin 0x3000)
  | mailboxStore (chan : Fin 16) (offset : Fin 0x3000) (value : BitVec 64)
deriving DecidableEq, Repr

/-- Paths on which command packets arrive and their replies leave (R314, R315); `doe` is SPDM vendor-defined requests on an LD's DOE
(R321). A packet from another member keeps the port
and tag of its CMD, and the member that sent it. -/
inductive Path where
  | mbx (c : Fin 16)
  | tunnel (slot : Fin 64)
  | sideband
  | doe (slot : Fin 64)
  | uart
  | stitch (port : Fin 4) (tag : BitVec 12) (src : BitVec 6)
deriving DecidableEq, Repr

/-- A command packet (R313) with what the device knows of its arrival: path, requester's local slot and host link (for
the paths of a host), and whether it came inside a secured SPDM session (R322). `cls` is the original arrival class of a
command that a member forwarded to the top head (R259); FLAGS[15:8] is SENDER on channel 15, and on a stitch path the stamp of the LD
it came from (log entry 196). `muted` says that the far end has been reset since it was taken, so that its replies are discarded (R329).
The payload's length plus 16 is the number of bytes received. -/
structure Packet where
  path : Path
  cls : Option (Fin 17)
  slot : Fin 64
  secured : Bool
  opcode : BitVec 16
  tag : BitVec 16
  flags : BitVec 16
  length : BitVec 16
  param : BitVec 64
  payload : List Byte
  muted : Bool := false
deriving DecidableEq, Repr

/-- A data beat of a stitch transfer (R222, R237): payload, POISON bit and SCODE. -/
structure Beat where
  data : Line
  poison : Bool
  scode : BitVec 4
deriving DecidableEq, Repr

/-- A stitch message (R235) with the data beats of its transfer. -/
structure StMsg where
  opcode : BitVec 8
  flags : BitVec 8
  tag : BitVec 12
  src : BitVec 6
  dst : BitVec 6
  han : BitVec 6
  code : BitVec 8
  addr : BitVec 64
  mask : BitVec 64
  arg : BitVec 32
  status : BitVec 8
  seg : BitVec 8
  beats : List Beat
deriving DecidableEq, Repr

/-- Forms of a BIRsp (R205). -/
inductive BiAnswer where
  | i | s | e | block
deriving DecidableEq, Repr

/-- R168, R279: the memory error that the fetch of a page's metadata meets, and which line of the path it lies in: kind 0 the counter
block, 1 the catalogue line, 2 to 6 tree level 1 to 5. -/
structure MetaFetch where
  kind : Fin 7
  err : MemErr
deriving DecidableEq, Repr

/-- R297: what a training step measured on a lane: first and last passing positions, and errors at the centre. -/
structure LaneEye where
  left : BitVec 8
  right : BitVec 8
  errors : BitVec 16
deriving DecidableEq, Repr

/-- R51: a Dynamic Capacity extent as the host's response or release names it: DC region, DPA base, GiB, the presented base it
was offered with, and its tag (0: none). -/
structure DcExtent where
  region : Fin 8
  dpa : BitVec 64
  gib : BitVec 22
  base : BitVec 64
  tag : BitVec 64
deriving DecidableEq, Repr

/-- R51, R52: a step of adding Dynamic Capacity: the fabric manager's Add, or the host's response with the extents it accepts. -/
inductive DcStep where
  | offer (extents : List DcExtent)
  | accept (extents : List DcExtent)
deriving DecidableEq, Repr

/-- R424: what reading the SPD hub of a present module gave: its bytes, the CRC check of the base block, and the serial number
(none of them where the hub did not answer). -/
structure SpdHub where
  bytes : Vector Byte 1024
  crcOk : Bool
  serial : BitVec 32
deriving DecidableEq, Repr

/-- The commands. -/
inductive Instr where
  /-- R30. In the first fabric clock of each transit the device runs its fixed start-of-transit actions in order. -/
  | transitStart
  /-- R450. In transits that are multiples of 1000 × PERIOD_MS a plate is taken at the start of job 0x03's unit. -/
  | periodicPlate
  /-- R32. A periodic unit completes and its effects become visible at once. -/
  | periodicUnitComplete (job inst : BitVec 8)
  /-- R33. A unit not complete at its deadline is abandoned, counted, logged and re-queued whole at the head of its queue. -/
  | transitOverrun (job inst : BitVec 8)
  /-- R18. A hop receiver finds a word with bad parity, discards it and later words, and returns a replay request. -/
  | spineParityError (at_ : Crossing) (seq earlier later : BitVec 5) (word : BitVec 65)
  /-- R19. A hop sender receives a replay request and resends from the named (or oldest, on bad parity) word in order. -/
  | spineReplayRequest (hop : Hop) (parityOk : Bool)
  /-- R18. A word is released from the hop replay buffer when 4 fabric clocks pass without a replay request naming it. -/
  | spineReplayRelease (hop : Hop)
  /-- R289. Job 0x04 accrues elapsed TB into each rank's ACC and increments OWED per tREFI_eff. -/
  | refreshPlanning (chan : Fin 16)
  /-- R295. Job 0x05 reads DCn_SCRUB.LINES lines from POS, decodes them, writes back corrected ones and logs uncorrectable ones. -/
  | patrolScrubQuantum (chan : Fin 16) (errs : List MemErr)
  /-- R200. Job 0x06 reads 512 backing lines of one slice, corrects, filters dead agents and writes back as needed. -/
  | directoryScrubQuantum (lines : List Nat) (errs : List MemErr)
  /-- R440. Job 0x07 reads 256 almanac entries of one slice as an arbiter input and rewrites corrected entries. -/
  | almanacEccScrubQuantum (corrected presenceBad tagBad : List Nat)
  /-- R90. Job 0x08 serves FREEING entries, then visits 64 catalogue entries, updating heat and starting demotions or evacuation moves. -/
  | demotionSweepQuantum
  /-- R86. Job 0x09 increments TIER_EPOCH every 1024 transits. -/
  | heatEpochAdvance
  /-- R335. Job 0x0A runs frame-executive task units in priority order within at most 900 cycles. -/
  | frameExecutiveSlot (units : BitVec 8) (cycles : List (BitVec 10))
  /-- R390. Job 0x0B samples one survey channel and writes HK_SURVEYk, clearing STALE. -/
  | surveySubround (chan : Fin 64) (value : Option (BitVec 24)) (selfCheck : Bool)
  /-- R393. Job 0x0C updates the per-zone thermal model, TJ_MAX and the power cap control. -/
  | thermalModelUpdate
  /-- R311. Job 0x0D raises GUARANTEE_SHORTFALL and updates QOS_SHORTFALL in each transit with SCALE below 65,536. -/
  | regulatorShortfallCheck
  /-- R291. Job 0x0E reads DIMM sensors and MR4 and sets each rank's refresh rate. -/
  | dimmTemperatureRead (chan : Fin 16) (sensors : Vector (Option Int) 2) (bands : Vector (Fin 3) 8)
  /-- R212. Job 0x0F visits the next 64 almanac entries of every slice, clearing dead agents' bits and marking lost lines. -/
  | reclamationQuantum
  /-- R404. Job 0x10 measures one channel or lane group's margins and writes a margin record. -/
  | remarginingQuantum (eyes : List (Vector LaneEye 40)) (steps : List (Byte × Byte))
  /-- R404. Every PERIOD_S seconds of TB a re-margining pass of 36 targets begins. -/
  | remarginPassStart
  /-- R22. A CXL.mem MemRd or MemRdData is received and served through the home slice. -/
  | memRd (slot : Fin 64) (tag : BitVec 16) (hpa : BitVec 64) (mv : Meta) (data : Bool)
  /-- R26. A full-line MemWr is received and completed at write-buffer acceptance. -/
  | memWr (slot : Fin 64) (tag : BitVec 16) (hpa : BitVec 64) (mv : Meta) (line : Line) (poison : Bool)
  /-- R28. A MemWrPtl is received, completed at acceptance and merged in the background. -/
  | memWrPtl (slot : Fin 64) (tag : BitVec 16) (hpa : BitVec 64) (mv : Meta) (line : Line) (mask : BitVec 64) (poison : Bool)
  /-- R192. A MemInv or MemInvNT is received and reduced to INV_A, DOWN_S or EVICT. -/
  | memInv (slot : Fin 64) (tag : BitVec 16) (hpa : BitVec 64) (mv : Meta)
  /-- R192. A MemClnEvct is received and handled as EVICT. -/
  | memClnEvct (slot : Fin 64) (tag : BitVec 16) (hpa : BitVec 64)
  /-- R192. A MemSpecRd is received and ignored. -/
  | memSpecRd (slot : Fin 64) (tag : BitVec 16) (hpa : BitVec 64)
  /-- R192. A MemRdFwd or MemWrFwd is received, logged as HOST_PROTOCOL and dropped. -/
  | memFwd (slot : Fin 64) (tag : BitVec 16) (hpa : BitVec 64)
  /-- R192. An unnamed opcode in a shared region is logged and answered with poison or Cmp. -/
  | unknownMemOpcode (slot : Fin 64) (tag : BitVec 16) (hpa : BitVec 64) (data : Bool)
  /-- R203. A home slice arbiter accepts a request, ordering same-clock requests by WB first then rotation. -/
  | arbiterAccept (slice : Fin 16) (entry : SramCheck)
  /-- R207. A request waiting on a wholly pinned set takes the first way whose pins fall to 0. -/
  | pinWaitGrant (slice : Fin 16) (set : BitVec 14)
  /-- R304. The regulator admits waiting requests in guaranteed, shared and slack passes each fabric clock. -/
  | admission
  /-- R94. CAPACITY_STALL is raised again every 1000 transits while no frame is free. -/
  | capacityStallRepeat
  /-- R95. A write or fill that waited for free storage proceeds once frames become available. -/
  | storageWaitResume (slice : Fin 16)
  /-- R199. A backing-directory line read completes, is filtered for dead agents and installed in the almanac. -/
  | backingFetchComplete (slice : Fin 16) (err : MemErr)
  /-- R168. Metadata lines arrive, are checked top-down against trusted parents and enter the cache. -/
  | metadataFetchComplete (slice : Fin 16) (found : MetaFetch)
  /-- R168. A dirty metadata line evicted increments its parent's minor and is written with a new tag. -/
  | metadataEvictUpdate (slice : Fin 16)
  /-- R168. A tree-node rekey finishes rewriting its children under the new state and unpins. -/
  | nodeRekeyComplete (slice : Fin 16)
  /-- R169. A crypto engine finishes computing blocks 0 to 5 and H_k for a keystream entry. -/
  | keystreamReady (engine : Fin 8)
  /-- R285. The DRAM scheduler issues the next FR-FCFS command for a subchannel. -/
  | dramCommandIssue (chan : Fin 16) (sc : Fin 2) (blocked : List Nat)
  /-- R285. An open row with no queued hit is closed 60 ns after its last access. -/
  | rowCloseTimeout (chan : Fin 16) (sc : Fin 2)
  /-- R285. A rank idle 100 ns with no refresh owed enters precharge power-down. -/
  | powerDownEntry (chan : Fin 16) (rank : Fin 8)
  /-- R290. A REFab is issued to an idle rank with OWED ≥ 1 or when OWED reaches the limit. -/
  | refabIssue (chan : Fin 16) (rank : Fin 8)
  /-- R279. Read data arrives at the controller and is RS-decoded with its outcome classified. -/
  | dramReadComplete (chan : Fin 16) (sc : Fin 2) (err : MemErr)
  /-- R281. Each 2^24-transit window ends and per-device correction counts restart. -/
  | markWindowEnd
  /-- R161. A data unit reaches its crypto engine, is tag-checked under both masks and decrypted or poisoned. -/
  | cryptoReadUnit (engine : Fin 8)
  /-- R187. A crypto pipeline parity mismatch reruns the unit elsewhere and may fail the engine. -/
  | cryFault (engine : Fin 8)
  /-- R175. The merge source of a partial write is decoded, checked, decrypted and merged. -/
  | mergeReadComplete (slice : Fin 16) (err : MemErr)
  /-- R27. A buffered line's encrypted DRAM write completes and the line leaves the write buffer. -/
  | writeBufferDrain (slice : Fin 16)
  /-- R87. A move's copy completes and in one clock the slice replaces LOCATION and counters or aborts. -/
  | moveCommit (page : BitVec 39)
  /-- R100. A metadata band copy to the partner channel completes and the slice switches copies. -/
  | bandCopyComplete (chan : Fin 16)
  /-- R134. An idle encoder takes the next job from the demotion, data-mover or recompression queue. -/
  | encoderDispatch (engine : Fin 8)
  /-- R135. An encoder finishes a segment and its shadow decoder verifies it before release. -/
  | encodeComplete (engine : Fin 8) (fault : Option (BitVec 4))
  /-- R145. A decoder job is placed on the centre stop with most free lanes and dispatched. -/
  | decoderDispatch
  /-- R122. A decoder lane finishes a partial or full decode or refuses the segment. -/
  | decodeComplete (engine : Fin 24) (lane : Fin 4)
  /-- R146. A window-memory parity error retries the job once on another lane. -/
  | decoderParityError (engine : Fin 24) (lane : Fin 4)
  /-- R141. The recompressor takes a page round robin from a slice queue and starts a recompression move. -/
  | recompressorDequeue
  /-- R142. A recompression not committed within MAX_TRANSITS aborts. -/
  | recompressionTimeout (page : BitVec 39)
  /-- R147. A DRAINING engine with no running job becomes OFFLINE. -/
  | engineDrained (crypto : Bool) (engine : Fin 32)
  /-- R148. A compression engine self-test finishes, setting pass or fail. -/
  | cmpSelftestComplete (engine : Fin 32) (pass : Bool)
  /-- R189. A crypto engine self-test finishes, leaving it OFFLINE or FAILED. -/
  | crySelftestComplete (engine : Fin 8) (pass : Bool)
  /-- R147. Writing CMP_ENGn_CTRL.OFFLINE takes an engine out of or back into service, or is refused. -/
  | cmpEngOfflineWrite (engine : Fin 32) (offline : Bool)
  /-- R148. Writing CMP_ENGn_CTRL.SELFTEST starts a compression engine self-test. -/
  | cmpEngSelftestWrite (engine : Fin 32)
  /-- R149. Writing CMP_CTRL.TIER_DISABLE stops or resumes new demotions and recompressions. -/
  | tierDisableWrite (value : BitVec 32)
  /-- R188. Writing CRY_ENGn_CTRL.OFFLINE swaps in the spare and drains the engine, or returns it. -/
  | cryEngOfflineWrite (engine : Fin 8) (offline : Bool)
  /-- R189. Writing CRY_ENGn_CTRL.SELFTEST starts AES and GHASH known-answer tests. -/
  | cryEngSelftestWrite (engine : Fin 8)
  /-- R174. A write changing ALARM_ZEROIZE or ALARM_LIMIT zeroizes at once if COUNT meets the limit. -/
  | cryCtrlWrite (value : BitVec 32)
  /-- R186. When a retiring slot's REGIONS reaches 0 it is flushed, zeroized and goes EMPTY. -/
  | keyFlush (key : Fin 64)
  /-- R181. A waiting walk takes a free context, the descriptors are written with WALK set, and it starts. -/
  | walkStart
  /-- R154. After a crypto reset the tier engine initialises every metadata band before slices serve. -/
  | metadataInit
  /-- R45. Writing HP_PORTp_CTRL.HOLD or PORT_RESET resets or holds a host port domain. -/
  | hostPortCtrlWrite (port : Fin 4) (value : BitVec 32)
  /-- R45. A host port domain leaves reset 10 µs after PORT_RESET unless held, latching its configuration. -/
  | portResetRelease (port : Fin 4)
  /-- R45. Writing HP_PORTp_CFG sets bifurcation, speed, lane reversal or LOCK, flagging reserved encodings. -/
  | hostPortCfgWrite (port : Fin 4) (value : BitVec 32)
  /-- R66. Writing HP_LINKn_CTRL.RESET retrains one link, treated as a link drop. -/
  | linkResetWrite (link : Fin 16) (lostWrites : BitVec 8)
  /-- R66. Setting HP_LINKn_CTRL.DISABLE holds the link Disabled, which is a link drop. -/
  | linkDisableWrite (link : Fin 16) (disable : Bool) (lostWrites : BitVec 8)
  /-- R71. A write to HP_HAN_MAPm sets VALID or HAN while the slot is IDLE or DEAD, rejecting duplicates. -/
  | hanMapWrite (slot : Fin 64) (value : BitVec 32)
  /-- R66. A host link trains up and its LDs may leave IDLE or DEAD. -/
  | linkUp (link : Fin 16) (width : BitVec 5) (speed : BitVec 3) (flit68 : Bool) (lds : Fin 4) (ptm : Bool)
  /-- R66. An LD's Memory Space Enable is set, moving it to ALIVE. -/
  | memorySpaceEnable (slot : Fin 64) (on : Bool)
  /-- R67. A link's data link layer goes down; its LDs go DOWN and outstanding work ends per table. -/
  | linkDrop (link : Fin 16) (lostWrites : BitVec 8)
  /-- R68. A DOWN link's data link layer returns; LDs go ALIVE and held snoops are re-sent. -/
  | dlUp (link : Fin 16)
  /-- R66. A hot reset, secondary bus reset, Detect retrain or CXL Reset moves the LDs to RECLAIMING. -/
  | hotReset (link : Fin 16) (ld : Option (Fin 4))
  /-- R469. PERSTp_N asserted holds port p's links in Detect and resets their LDs. -/
  | perst (port : Fin 4) (asserted : Bool)
  /-- R69. The transit timeout check declares a DOWN agent dead when HOST_DEAD_TIMEOUT has elapsed. -/
  | hostDeadTimeout (slot : Fin 64)
  /-- R57. A host changes a link's width by L0p and bandwidth follows. -/
  | l0pChange (link : Fin 16) (width : BitVec 5)
  /-- R54. A back-invalidate credit returns and a waiting snoop is sent. -/
  | biCreditReturn (link : Fin 16) (n : BitVec 6)
  /-- R205. A BIRsp answer arrives and ends or keeps the agent's presence. -/
  | birsp (slot : Fin 64) (addr : BitVec 64) (answer : BiAnswer)
  /-- R206. A BIConflict arrives and the home sends BI-ConflictAck at once or after the completion. -/
  | biconflict (slot : Fin 64) (addr : BitVec 64)
  /-- R55. IDE keys are set or refreshed over a secured SPDM session. -/
  | ideKm (link : Fin 16) (key : BitVec 256) (containment : Bool)
  /-- R55. An IDE failure puts the link in insecure state, treated as a link drop. -/
  | ideIntegrityFailure (link : Fin 16) (lostWrites : BitVec 8)
  /-- R46. Both GPF phases are acknowledged within 1 µs with no action. -/
  | globalPersistentFlush (link : Fin 16) (phase : Fin 2)
  /-- R48. An HDM decoder commit succeeds or reports Error Not Committed. -/
  | hdmDecoderCommit (slot : Fin 64) (decoder : Fin 4) (base size : BitVec 64) (ways : BitVec 5) (gran : BitVec 15) (dpa : BitVec 64)
  /-- R64. Writing AQ_STREAM_CTRL.STREAM_BITS sets the stream tag width for later requests. -/
  | streamCtrlWrite (slot : Fin 64) (value : BitVec 32)
  /-- R63. Reading AQ_TB_LO latches TB and holds the high half for AQ_TB_HI. -/
  | tbLoRead (slot : Fin 64) (read : HostRead)
  /-- R58. Standard Identify Memory Device mailbox command. -/
  | identifyMemoryDevice (slot : Fin 64)
  /-- R58. Standard Get Partition Info command for volatile capacity. -/
  | getPartitionInfo (slot : Fin 64)
  /-- R58. Standard Get Supported Logs command. -/
  | getSupportedLogs (slot : Fin 64)
  /-- R58. Standard Get Log command. -/
  | getLog (slot : Fin 64)
  /-- R59. Standard Get Event Records command returning the LD's events. -/
  | getEventRecords (slot : Fin 64)
  /-- R59. Standard Clear Event Records command. -/
  | clearEventRecords (slot : Fin 64) (n : BitVec 8)
  /-- R58. Standard Get Event Interrupt Policy command. -/
  | getEventInterruptPolicy (slot : Fin 64)
  /-- R58. Standard Set Event Interrupt Policy command. -/
  | setEventInterruptPolicy (slot : Fin 64) (vector : BitVec 5)
  /-- R58. Standard Set Timestamp command. -/
  | setTimestamp (slot : Fin 64) (ns : BitVec 64)
  /-- R58. Standard Get Health Info command. -/
  | getHealthInfo (slot : Fin 64)
  /-- R438. Returns the LD-visible part of the 256-entry poison list with overflow indication. -/
  | getPoisonList (slot : Fin 64) (dpa len : BitVec 64)
  /-- R438. Writes a poison marker at the named line. -/
  | injectPoison (slot : Fin 64) (dpa : BitVec 64)
  /-- R438. Performs a full-line write of the carried data. -/
  | clearPoison (slot : Fin 64) (dpa : BitVec 64) (line : Line)
  /-- R59. Retires key IDs and frees pages of regions only this LD maps. -/
  | sanitize (slot : Fin 64)
  /-- R59. As Sanitize for the regions only this LD maps. -/
  | secureErase (slot : Fin 64)
  /-- R58. Standard Get Dynamic Capacity Configuration command. -/
  | getDcConfiguration (slot : Fin 64)
  /-- R58. Standard Get Dynamic Capacity Extent List command. -/
  | getDcExtentList (slot : Fin 64)
  /-- R51. The host accepts a DC extent, which becomes an extent table entry. -/
  | addDcResponse (slot : Fin 64) (dc : DcStep)
  /-- R51. A released DC extent leaves the table and unshared regions are freed. -/
  | releaseDc (slot : Fin 64) (extents : List DcExtent)
  /-- R58. FM API Get LD Info command. -/
  | getLdInfo (slot : Fin 64) (sideband : Bool)
  /-- R58. FM API Get LD Allocations command. -/
  | getLdAllocations (slot : Fin 64) (sideband : Bool)
  /-- R50. FM API Set LD Allocations translated into static extents from free presented capacity. -/
  | setLdAllocations (slot : Fin 64) (sideband : Bool) (gib : List (BitVec 22))
  /-- R60. Vendor opcode 0xC000 carries one device command packet and returns its reply. -/
  | aqCommandTunnel (slot : Fin 64) (bytes : List Byte)
  /-- R58. Any other standard or vendor opcode returns Unsupported. -/
  | unsupportedMailboxOpcode (slot : Fin 64) (opcode : BitVec 16)
  /-- R319. Command 0x0101 returns part, revision, image versions, clutch ID and mailbox page location. -/
  | identify (p : Packet)
  /-- R454. Command 0x0102 returns up to 64 register words without side effects. -/
  | readReg (p : Packet)
  /-- R319. Command 0x0103 returns logbook bytes. -/
  | readLogbook (p : Packet)
  /-- R72. Command 0x0201 allocates a contiguous run of regions with class and key ID. -/
  | regionAlloc (p : Packet)
  /-- R75. Command 0x0202 sets a region FREEING and completes when it reaches FREE. -/
  | regionFree (p : Packet)
  /-- R73. Command 0x0203 changes a region's class while unmapped. -/
  | regionClass (p : Packet)
  /-- R482. Command 0x0204 adds a static extent entry to an LD. -/
  | extentSet (p : Packet)
  /-- R482. Command 0x0205 removes a static extent entry from an LD. -/
  | extentClear (p : Packet)
  /-- R179. Command 0x0206 starts a region rekey walk. -/
  | regionRekey (p : Packet)
  /-- R93. Command 0x0301 with bit 0 set pins a page range, promoting T1 pages. -/
  | tierPin (p : Packet)
  /-- R93. Command 0x0301 with bit 0 clear unpins a page range. -/
  | tierUnpin (p : Packet)
  /-- R99. Command 0x0302 starts evacuation of a channel. -/
  | channelEvacuate (p : Packet)
  /-- R101. Command 0x0303 trains, zero-initialises and returns a channel to allocation. -/
  | channelReturn (p : Packet)
  /-- R152. Command 0x0401 GENERATE loads a TRNG key into an EMPTY slot and derives its working key. -/
  | keyLoadGenerate (p : Packet)
  /-- R151. Command 0x0401 IMPORT loads a supplied key only within a secured SPDM session when policy permits. -/
  | keyLoadImport (p : Packet)
  /-- R184. Command 0x0402 retires a slot, with key-move walks to a destination or NONE. -/
  | keyRetire (p : Packet)
  /-- R210. LEASE_ANSWER RELEASE hands the lease to the breaker or makes it VACANT. -/
  | leaseRelease (p : Packet)
  /-- R210. LEASE_ANSWER KEEP returns the lease to HELD and denies waiting requests. -/
  | leaseKeep (p : Packet)
  /-- R210. A break unanswered within LEASE_MS is treated as KEEP. -/
  | leaseTimeout (region : BitVec 21)
  /-- R211. Command 0x0502 sets an ORPHANED leased region VACANT. -/
  | leaseClearOrphan (p : Packet)
  /-- R310. Command 0x0601 sets G, W, QMAX and NCMIN for masters whole or not at all. -/
  | qosConfig (p : Packet)
  /-- R147. ENGINE_SET returns a compression or crypto engine to service. -/
  | engineSetOnline (p : Packet)
  /-- R147. ENGINE_SET takes a compression or crypto engine out of service. -/
  | engineSetOffline (p : Packet)
  /-- R148. ENGINE_SET starts a self-test of a compression or crypto engine. -/
  | engineSetSelftest (p : Packet)
  /-- R375. Command 0x0801 sets REQUESTED and replies when the PL sequencer finishes. -/
  | setPl (p : Packet)
  /-- R377. Command 0x0802 checks and enters SL1, or runs the stop sequence for SL2 or SL3. -/
  | sleep (p : Packet)
  /-- R416. SLOT_POWER on arms an OFF slot to start once presence and VIN conditions hold. -/
  | slotPowerOn (p : Packet)
  /-- R420. SLOT_POWER off lowers PGOOD, turns the gate off and waits in DOWN, or clears a latch. -/
  | slotPowerOff (p : Packet)
  /-- R268. Command 0x0901 adds a path to EXPECT. -/
  | memberJoin (p : Packet)
  /-- R270. Command 0x0902 recalls spills and removes a member from the clutch. -/
  | memberRemove (p : Packet)
  /-- R446. Command 0x0A01 configures counters in one clock, zeroing them. -/
  | pmuConfig (p : Packet)
  /-- R450. Command 0x0A02 takes a plate and returns its number. -/
  | pmuPlate (p : Packet)
  /-- R452. PMU_USER_PAGE opens the user counter page of a local slot. -/
  | pmuUserPageOpen (p : Packet)
  /-- R452. PMU_USER_PAGE closes the user counter page of a local slot. -/
  | pmuUserPageClose (p : Packet)
  /-- R432. Command 0x0B01 returns ERR_FIRST, ERR_FATAL and the queue, removing the entries. -/
  | errRead (p : Packet)
  /-- R432. Command 0x0B02 clears ERR_FIRST and OVERFLOW. -/
  | errClear (p : Packet)
  /-- R360. Command 0x0C01 writes data into the inactive firmware slot. -/
  | fwWrite (p : Packet)
  /-- R361. Command 0x0C02 verifies a slot and writes BOOT_CTRL to set or cancel a trial. -/
  | fwActivate (p : Packet)
  /-- R347. Command 0x0D01 checks entries and hands them to the fuse sequencer. -/
  | fuseProgram (p : Packet)
  /-- R367. DEBUG_UNLOCK with LENGTH 0 returns a fresh 38-byte challenge. -/
  | debugUnlockChallenge (p : Packet)
  /-- R368. DEBUG_UNLOCK with a signed answer opens the lock, zeroizing keys and clearing the DIK. -/
  | debugUnlockAnswer (p : Packet)
  /-- R454. Command 0x0E02 writes any register while the debug lock is open. -/
  | dbgWrite (p : Packet)
  /-- R318. A packet with an undefined class or command receives UNSUPPORTED. -/
  | unsupportedCommand (p : Packet)
  /-- R327. The far end posts a message to a channel's IN mailbox, setting FULL and interrupting. -/
  | inPost (chan : Fin 16) (slot : Fin 64) (mgt : Bool) (len : BitVec 13) (bytes : List Byte)
  /-- R327. The management processor takes an IN message, clearing FULL. -/
  | inTaken (chan : Fin 16) (mgt : Bool)
  /-- R327. The management processor posts a reply to OUT, interrupting the far end. -/
  | outPost (chan : Fin 16) (mgt : Bool)
  /-- R327. The far end takes an OUT message, clearing FULL. -/
  | outTaken (chan : Fin 16) (slot : Fin 64) (mgt : Bool)
  /-- R330. An LD writes CLAIM to take the shared channel 15. -/
  | ch15Claim (slot : Fin 64)
  /-- R330. A claim not followed by POST within 100 µs is revoked and the buffer cleared. -/
  | ch15ClaimRevoke
  /-- R331. A write to MBX_CHc_BIND changes a channel's far end while both mailboxes are empty. -/
  | mbxBindWrite (chan : Fin 16) (value : BitVec 32)
  /-- R329. A far-end reset clears both mailboxes and sets OUT_ABORT. -/
  | farEndReset (chan : Fin 16)
  /-- R338. A START addressing the device begins a sideband FIFO item. -/
  | sbItemStart
  /-- R338. A sideband byte is written into the FIFO, or the item is discarded on overflow. -/
  | sbByte (byte : Byte)
  /-- R338. STOP or repeated START commits the item's words together. -/
  | sbItemEnd
  /-- R341. A bus timeout or error inside an item tears it as a FLUSH would. -/
  | sbBusFault
  /-- R339. A read of MBX_SB_DATA pops the oldest word and latches its META, or underruns. -/
  | sbDataRead (corrected : Bool) (bad : Option (BitVec 64))
  /-- R340. Writing MARK records the position of the next word to be popped. -/
  | sbMark
  /-- R340. Writing REWIND returns to the mark or drops the packet if the mark was lost. -/
  | sbRewind
  /-- R341. Writing FLUSH discards every word of the FIFO. -/
  | sbFlush
  /-- R325. A debug UART frame arrives and is checked by CRC-32. -/
  | uartFrame (bytes : List Byte)
  /-- R348. Every 20 µs the sequencer blows and verifies one logical fuse bit. -/
  | fuseBitProgram (result : Fin 3)
  /-- R360. An SPI NOR program or erase finishes. -/
  | norWriteComplete
  /-- R356. The boot ROM loads fuses, unseals the DIK, selects and verifies a slot and starts it. -/
  | boot (identity : List Byte)
  /-- R359. After 1,000 slots without a fatal error a trial image writes BOOT_CTRL to confirm itself. -/
  | trialConfirm
  /-- R364. An SPDM GET_CERTIFICATE request returns the slot-0 chain. -/
  | spdmGetCertificate (transport : Fin 65) (certSlot : Fin 8)
  /-- R364. An SPDM CHALLENGE is signed with the DIK. -/
  | spdmChallenge (transport : Fin 65) (certSlot : Fin 8)
  /-- R365. An SPDM GET_MEASUREMENTS returns measurement indices 1 to 6. -/
  | spdmGetMeasurements (transport : Fin 65) (index : BitVec 8) (signed : Bool)
  /-- R364. An SPDM KEY_EXCHANGE opens a secured session up to 4 per transport. -/
  | spdmKeyExchange (transport : Fin 65)
  /-- R364. An SPDM KEY_UPDATE refreshes a session's keys. -/
  | spdmKeyUpdate (transport : Fin 65) (session : BitVec 16)
  /-- R364. An SPDM HEARTBEAT keeps a session alive. -/
  | spdmHeartbeat (transport : Fin 65) (session : BitVec 16)
  /-- R374. VDD_CORE settles at a new level's voltage and the sequencer proceeds. -/
  | plVoltageSettled
  /-- R374. The sequencer reserves a transit and switches the fabric clock in its first clock. -/
  | plClockSwitch
  /-- R378. A block finishes stopping and the sequencer asks the next block, or enters the sleep state. -/
  | blockStopComplete
  /-- R472. A filtered falling edge on WAKE0_N or WAKE1_N is a wake source. -/
  | wakePin (pin : Fin 2)
  /-- R381. TB reaching PWR_WAKE_TIMER fires the TIMER wake source. -/
  | wakeTimer
  /-- R473. A masked source's mask clears after 1 s without firing. -/
  | wakeMaskClear (src : Fin 10)
  /-- R383. PLLs lock during exit and TB returns to fine counting. -/
  | pllLock
  /-- R383. The exit sequence finishes, blocks restart, WAKE is raised and SL0 is reported. -/
  | slExitComplete (retentionUe : Bool)
  /-- R372. VDD_AON below 0.68 V resets the whole device as a power-on reset. -/
  | brownOut
  /-- R385. Every INTERVAL_MS a PTM exchange measures the offset and TB steps or slews. -/
  | ptmExchange (offset : Int)
  /-- R386. Every 2^20 crystal ticks while LOCKED hardware updates TB_XTAL.TRIM. -/
  | xtalTrimUpdate (trim : BitVec 32)
  /-- R399. The reference sensor comparator finds the edge at or above REF_SHUT_C. -/
  | refComparatorTrip (temp : BitVec 16)
  /-- R401. After channel 0 reads at or below RESTART_C for 1 s the device restarts. -/
  | thermalRestart
  /-- R403. Every 24 h of TB firmware writes an ageing record and re-plans voltages. -/
  | roDay (ageing : Vector (BitVec 16) 12)
  /-- R410. A queued logbook record is appended when Tj is within the write window. -/
  | logbookWrite
  /-- R421. A debounced socket presence change may start a slot or pull its gate off. -/
  | presenceChange (slot : Fin 16) (prsnt0 prsnt1 : Bool)
  /-- R420. VIN leaving or entering its window returns a slot to OFF or enables its start. -/
  | vinWindowChange (slot : Fin 16) (vin : BitVec 16)
  /-- R416. The insertion delay ends and the slot enters RAMP. -/
  | insertionDelayExpiry (slot : Fin 16)
  /-- R417. VOUT near VIN and the gate fully enhanced move the slot to SETTLE. -/
  | slotFullyOn (slot : Fin 16)
  /-- R417. A slot not fully on 100 ms after RAMP began latches with RAMP_TIMEOUT. -/
  | rampTimeout (slot : Fin 16)
  /-- R418. After PG_DELAY fully on, PGOOD rises and the slot is ON. -/
  | pgDelayExpiry (slot : Fin 16)
  /-- R419. The sense voltage exceeding ILIM starts regulation and the fault timer. -/
  | currentLimitOnset (slot : Fin 16)
  /-- R419. Limiting ends and the fault timer resets. -/
  | currentLimitRelease (slot : Fin 16)
  /-- R419. The fault timer reaching FAULT_T pulls the gate off and latches the slot. -/
  | faultTimerExpiry (slot : Fin 16)
  /-- R420. DOWN ends when VOUT falls below 0.5 V or 150 ms pass, and the slot is OFF. -/
  | slotDownEnd (slot : Fin 16) (low : Bool)
  /-- R422. Each millisecond the slot meter and power averages are updated. -/
  | meterUpdate (slot : Fin 16) (current : BitVec 32) (vout vin : BitVec 16) (power energy : BitVec 32)
  /-- R424. 10 ms after PGOOD rises the SPD engine starts reading each hub. -/
  | spdReadStart (slot : Fin 16)
  /-- R424. The SPD read completes, setting serials and SPD_DONE or SPD_ERR. -/
  | spdReadComplete (slot : Fin 16) (hub0 hub1 : Option SpdHub) (same : Bool)
  /-- R272. A write to DCn_CFG sets configuration, LOCK with its checks, or ENABLE under its conditions. -/
  | dcCfgWrite (chan : Fin 16) (value : Word) (same : Bool) (maxFrames : BitVec 28) (rated : Fin 5)
  /-- R281. Firmware writes a device mark into DCn_MARKk. -/
  | dcMarkWrite (chan : Fin 16) (rank : Fin 8) (value : BitVec 32)
  /-- R296. Zero initialisation of every line finishes and ZEROED is set. -/
  | zeroInitComplete (chan : Fin 16)
  /-- R297. Writing DCn_TRN_CTRL.GO starts a training step or is refused. -/
  | trainingGo (chan : Fin 16) (value : BitVec 32)
  /-- R297. A training step records per-lane eye edges and sets DONE. -/
  | trainingStepComplete (chan : Fin 16) (lanes : Vector LaneEye 40)
  /-- R303. A write to QOS_CTRL sets water marks, TURN or ENABLE, refusing bad marks. -/
  | qosCtrlWrite (value : BitVec 32)
  /-- R109. A write to TIER_DMRr CTRL enables or stops a data-mover ring. -/
  | dmrCtrlWrite (ring : Fin 32) (value : BitVec 32)
  /-- R109. Writing a ring's TAIL lets the ring fetch descriptors up to it. -/
  | dmrDoorbell (ring : Fin 32) (tail : BitVec 15) (page : Option (Fin 64))
  /-- R109. A ring's descriptor fetch completes and the operation starts, or the ring stops on poison. -/
  | descriptorFetch (ring : Fin 32)
  /-- R107. Data-mover COPY copies LENGTH bytes from SRC to DST. -/
  | dmCopy (ring : Fin 32)
  /-- R107. Data-mover FILL writes PATTERN over LENGTH bytes. -/
  | dmFill (ring : Fin 32)
  /-- R107. Data-mover ZERO zeroes a range, turning whole pages to ZERO. -/
  | dmZero (ring : Fin 32)
  /-- R138. Data-mover COMPRESS writes AQZ segments in order until done or NOGAIN. -/
  | dmCompress (ring : Fin 32)
  /-- R128. Data-mover DECOMPRESS decodes segments by framing until LENGTH bytes are written. -/
  | dmDecompress (ring : Fin 32)
  /-- R40. Data-mover FENCE orders later operations on the ring. -/
  | dmFence (ring : Fin 32)
  /-- R107. Data-mover NOP completes OK with no work. -/
  | dmNop (ring : Fin 32)
  /-- R108. A reserved opcode or out-of-range field completes with REFUSED. -/
  | dmReservedOpcode (ring : Fin 32)
  /-- R109. An operation completes, writes DONE, STATUS and RESULT_LEN, and HEAD advances. -/
  | dmOperationComplete (ring : Fin 32)
  /-- R239. Writing ST_PORTp_CTRL.RETRAIN resets a stitch link keeping link-layer state. -/
  | stRetrainWrite (port : Fin 4)
  /-- R239. Writing ST_PORTp_CTRL.PORT_RESET gives the port a cold start. -/
  | stPortResetWrite (port : Fin 4)
  /-- R239. Writing ST_PORTp_CTRL.DISABLE holds the port in DETECT or releases it. -/
  | stDisableWrite (port : Fin 4) (disable : Bool)
  /-- R221. A stitch training attempt not done in 100 µs restarts at DETECT. -/
  | trainingAttemptTimeout (port : Fin 4)
  /-- R220. A training block is received and drives the port through its training states. -/
  | trainingBlockReceived (port : Fin 4) (lane : Fin 9) (detected : BitVec 9) (block : BitVec 576) (advance : Bool)
  /-- R240. In SYNC an end sends a SYNC CTRL flit every 1 µs. -/
  | syncSend (port : Fin 4)
  /-- R240. After SYNC and SYNC_SEEN the port enters ACTIVE and replays. -/
  | linkActive (port : Fin 4)
  /-- R227. A SEQ flit is received and accepted, discarded as duplicate, or triggers a NAK. -/
  | flitReceived (port : Fin 4) (flit copy : BitVec 576)
  /-- R226. A CTRL flit releases acknowledged flits, updates credit limits or triggers replay. -/
  | ctrlFlitReceived (port : Fin 4) (flit copy : BitVec 576)
  /-- R228. 200 ns after the first unacknowledged acceptance an ACK or credit CTRL flit is sent. -/
  | ackTimer (port : Fin 4)
  /-- R227. In WAIT a NAK is resent if SEQ = E has not arrived within 1 µs. -/
  | nakResendTimer (port : Fin 4)
  /-- R229. A 1 µs replay timer replays from the oldest buffered flit, resetting after four. -/
  | replayTimer (port : Fin 4)
  /-- R241. A port out of ACTIVE longer than DOWN_US, or with too many resets, raises STITCH_DOWN. -/
  | stitchDown (port : Fin 4)
  /-- R243. At the end of a 2^20-flit window spare comparisons may fail a lane or the spare. -/
  | spareWindowEnd (port : Fin 4)
  /-- R243. A lane losing lock fails at once or sets SPARE_BAD. -/
  | laneLockLoss (port : Fin 4) (lane : Fin 9)
  /-- R244. A received SPARE_REQ makes the sender drive the spare with the lane and answer SPARE_ACK. -/
  | spareReq (port : Fin 4) (lane : Fin 8)
  /-- R244. A received SPARE_ACK switches the receiver to the spare and raises STITCH_SPARED. -/
  | spareAck (port : Fin 4) (lane : Fin 8)
  /-- R244. SPARE_REQ is repeated every 1 µs until SPARE_ACK arrives. -/
  | spareReqRepeat (port : Fin 4)
  /-- R248. A stitch RD message is served as a local read by the home or forwarded. -/
  | stRd (port : Fin 4)
  /-- R248. A stitch WR message is served as a local write by the home or forwarded. -/
  | stWr (port : Fin 4)
  /-- R248. A stitch WR_PTL message is served as a partial write. -/
  | stWrPtl (port : Fin 4)
  /-- R261. A holder stores one spilled segment in a slot and answers with the slot. -/
  | spillPut (port : Fin 4)
  /-- R262. A holder returns a slot's segment with its storage codes. -/
  | spillGet (port : Fin 4)
  /-- R262. A holder releases a spill slot. -/
  | spillFree (port : Fin 4)
  /-- R259. A CMD message carries a command to the top head or as stitch-from-head. -/
  | stCmd (port : Fin 4)
  /-- R236. A CMP completion arrives and completes the originating transaction. -/
  | stCmp (port : Fin 4)
  /-- R257. A snoop result arrives at the home from the agent's member. -/
  | snpRsp (port : Fin 4)
  /-- R236. A command reply packet arrives over the stitch link. -/
  | cmdRsp (port : Fin 4)
  /-- R257. The receiving member sends BISnpInv to the named agent, honouring PRIOR. -/
  | snpInv (port : Fin 4)
  /-- R257. The receiving member sends BISnpData to the named agent, honouring PRIOR. -/
  | snpData (port : Fin 4)
  /-- R236. A message with an undefined opcode is answered CMP REFUSED. -/
  | stUndefinedOpcode (port : Fin 4)
  /-- R255. A HELLO clutch message is received and flooded. -/
  | hello (port : Fin 4)
  /-- R255. A forming device floods HELLO every 1000 transits. -/
  | helloTimer
  /-- R255. A ROSTER is received, applied if newest, and HAN maps written. -/
  | roster (port : Fin 4)
  /-- R253. The top head floods ROSTER every 1000 transits. -/
  | rosterHeartbeat
  /-- R254. A ROUTE_SET loads a member's CLU_ROUTEd egress ports. -/
  | routeSet (port : Fin 4)
  /-- R269. A HOLD stops origination of new REQ messages. -/
  | hold (port : Fin 4)
  /-- R269. A HELD is received and, once all members are held, routes are set and RESUME sent. -/
  | held (port : Fin 4)
  /-- R269. A RESUME lets members originate REQ messages under the new routes. -/
  | resume (port : Fin 4)
  /-- R264. A LINK_DOWN report is flooded and collected by the top head. -/
  | linkDown (port : Fin 4)
  /-- R256. A CLAIM from a member that lost the heartbeat is received. -/
  | claim (port : Fin 4)
  /-- R254. A LEVEL message reports a member's free level and free spill slots. -/
  | level (port : Fin 4)
  /-- R263. A RECALL makes owners move their pages out of the named holder. -/
  | recallLeases (port : Fin 4)
  /-- R270. A LEAVE announces the removal of a member. -/
  | leave (port : Fin 4)
  /-- R255. SETTLE_MS without a ROSTER makes the lowest path top head. -/
  | headElection
  /-- R255. 2 s after the top head began, the clutch forms DEGRADED or raises CLUTCH_FORM_FAIL. -/
  | formationDeadline
  /-- R256. No heartbeat for HEAD_MS makes a member flood CLAIM. -/
  | heartbeatLoss
  /-- R256. SETTLE_MS after claiming a member defers, fences or becomes top head. -/
  | claimSettle
  /-- R264. SETTLE_MS after LINK_DOWN reports the top head removes members and sends a new roster. -/
  | failureDecision
  /-- R430. An error record reaches the ERR block and is latched, folded or queued. -/
  | errorRecord (code inst : BitVec 8) (fatal : Bool) (addr : BitVec 64) (detail : BitVec 32)
  /-- R433. A core disagreement runs the fatal response and resets the management domain. -/
  | mgtLockstep
  /-- R440. An uncorrectable SRAM word is handled per array by invalidation, loss or quarantine. -/
  | sramUe (slice : Fin 16) (kind : Fin 8) (index : BitVec 40)
  /-- R440. An SRAM scrubber reads one line of an array at least every 128 fabric clocks. -/
  | sramScrubStep (slice : Fin 16) (array : Fin 3) (corrected : Bool)
  /-- R446. A write to PMU_CTRn_VALUE sets the count and re-arms the counter. -/
  | pmuValueWrite (ctr : Fin 256) (value : BitVec 48)
  /-- R450. Writing PMU_CTRL.PLATE takes a plate in that clock. -/
  | pmuPlateWrite
  /-- R443. A counter wraps, carrying into a chained counter or setting OVF and maybe taking a plate. -/
  | counterWrap (ctr : Fin 256) (inc : BitVec 48)
  /-- R447. An uncorrectable counter word freezes the counter and is logged. -/
  | pmuUe (ctr : Fin 256)
  /-- R468. VAUX_1V8 rises, the always-on domain leaves reset and TB starts at 0. -/
  | powerOn
  /-- R469. CORE_RST_N asserted holds the core domain and those below it in reset. -/
  | coreRst (asserted : Bool)
  /-- R469. MGT_RST_N asserted resets the management domain. -/
  | mgtRst (asserted : Bool)
  /-- R469. PWR_OK low acts as CORE_RST_N and forces every slot gate off. -/
  | pwrOkLow (low : Bool)
  /-- R469. A domain leaves reset 10 µs after its reset input is released. -/
  | resetRelease
  /-- R454. A write to a register with no behaviour of its own sets its fields by access code. -/
  | registerWrite (addr : BitVec 32) (wide : Bool) (access : RegAccess)
  /-- R378. A block asked to stop for SL2 or SL3 reaches the end of its stop budget without stopping, so it refuses and the sequencer restarts the stopped blocks and replies REFUSED. -/
  | stopBudgetExpiry
  /-- R265. A member that deferred to a lower claim and then receives no roster listing it within a further HEAD_MS becomes FENCED. -/
  | deferredClaimTimeout
  /-- R457. VAUX_1V8 falls below its power-on threshold, which resets the VAUX domain including BROWNOUT and, through the internal pull-downs, turns every slot gate off. -/
  | vaux1v8Loss
  /-- R364. A secured SPDM session ends, by the requester or by heartbeat expiry, which frees one of the 4 session places of its transport instance. -/
  | spdmSessionEnd (transport : Fin 65) (session : BitVec 16)
deriving DecidableEq, Repr

end Sys2Proof
end

