-- ==== Sys2Proof/Decode.lean ====
section
/-!
DEFINITION. The device decodes no instruction words. The table of operations and events gives its rows no bits, so no word of the
table's numbering spells a command; how commands come to the device is said in Syntax.lean and in log entry 1.
-/

namespace Sys2Proof

/-- The command that a word of the table spells: none, since no row has bits. -/
def decodeTableWord (_nbits _w : Nat) : Option Instr := none

end Sys2Proof
end

