-- ==== Sys2Proof/Machine/Bytes.lean ====
section
/-!
DEFINITION. Byte strings as lists of naturals below 256, their little-endian and big-endian readings (R6), CRC-32 and
CRC-24 style remainders, and arithmetic of GF(2^8).
-/

namespace Sys2Proof.Machine

/-- The `n` low bytes of `x`, least significant first (R6). -/
def toBytes : Nat → Nat → List Nat
  | 0, _ => []
  | n + 1, x => x % 256 :: toBytes n (x / 256)

/-- The natural that little-endian bytes spell. -/
def ofBytes : List Nat → Nat
  | [] => 0
  | b :: r => b % 256 + 256 * ofBytes r

/-- The natural that big-endian bytes spell. -/
def ofBytesBE (l : List Nat) : Nat := l.foldl (fun a b => a * 256 + b % 256) 0

/-- The `n` low bytes of `x`, most significant first. -/
def toBytesBE (n x : Nat) : List Nat := (toBytes n x).reverse

/-- Byte-wise exclusive or; the shorter string decides the length. -/
def xorBytes (a b : List Nat) : List Nat := List.zipWith (fun x y => x ^^^ y) a b

/-- Bytes `off` to `off + n - 1` as a little-endian natural; a byte past the end reads 0. -/
def fieldLE (l : List Nat) (off n : Nat) : Nat := ofBytes (((l.drop off).take n))

/-- A list cut into pieces of `n` elements, at most `fuel` of them. -/
def chunks (n : Nat) : Nat → List Nat → List (List Nat)
  | 0, _ => []
  | _, [] => []
  | fuel + 1, l => l.take n :: chunks n fuel (l.drop n)

/-- A list padded with zeros, or cut, to `n` elements. -/
def padTo (n : Nat) (l : List Nat) : List Nat := (l ++ List.replicate (n - l.length) 0).take n

/-- Product in GF(2^8) modulo the polynomial `poly` (bit 8 included). -/
def gfMulAux (poly : Nat) : Nat → Nat → Nat → Nat → Nat
  | 0, _, _, acc => acc
  | fuel + 1, a, b, acc =>
    let acc' := if b % 2 = 1 then acc ^^^ a else acc
    let a2 := a * 2
    gfMulAux poly fuel (if 256 ≤ a2 then a2 ^^^ poly else a2) (b / 2) acc'

/-- Product in GF(2^8) modulo `poly`. -/
def gfMul (poly a b : Nat) : Nat := gfMulAux poly 8 a b 0

/-- `acc` times the power `n` of `a`, from the low `fuel` bits of `n`. -/
def gfPowAux (poly : Nat) : Nat → Nat → Nat → Nat → Nat
  | 0, _, _, acc => acc
  | fuel + 1, a, n, acc =>
    gfPowAux poly fuel (gfMul poly a a) (n / 2) (if n % 2 = 1 then gfMul poly acc a else acc)

/-- Power in GF(2^8) modulo `poly`, for exponents below 256. -/
def gfPow (poly a n : Nat) : Nat := gfPowAux poly 8 a n 1

/-- One reflected CRC-32 bit step (polynomial 0xEDB88320). -/
def crc32Bits : Nat → Nat → Nat
  | 0, c => c
  | n + 1, c => crc32Bits n (if c % 2 = 1 then (c / 2) ^^^ 0xEDB88320 else c / 2)

/-- CRC-32 of IEEE 802.3, with initial value and final exclusive or 0xFFFFFFFF. -/
def crc32 (l : List Nat) : Nat :=
  (l.foldl (fun c b => crc32Bits 8 (c ^^^ (b % 256))) 0xFFFFFFFF) ^^^ 0xFFFFFFFF

/-- `x` to the power `e` modulo `m`, by squaring over at most `fuel` bits. -/
def powMod (m : Nat) : Nat → Nat → Nat → Nat → Nat
  | 0, _, _, acc => acc
  | fuel + 1, b, e, acc => powMod m fuel (b * b % m) (e / 2) (if e % 2 = 1 then acc * b % m else acc)

/-- Index of the first element that satisfies `p`. -/
def findIdx? {α : Type} (p : α → Bool) : List α → Nat → Option Nat
  | [], _ => none
  | a :: r, i => if p a then some i else findIdx? p r (i + 1)

end Sys2Proof.Machine
end

