-- ==== Sys2Proof/Machine/Crypto.lean ====
section
/-!
DEFINITION. The ciphers and hashes the chapters name by their standards: AES-256 (FIPS 197), GHASH (SP 800-38D, as R158
takes it), SHA-256 and HMAC-SHA-256 (R152), and RSA verification with PKCS#1 v1.5 (R352, R368). Byte strings are lists
of naturals below 256 in the order the cipher takes them in.
-/

namespace Sys2Proof.Machine

/-- FIPS 197: the S-box of one byte: inverse in GF(2^8) modulo 0x11B, then the affine map. -/
def aesSubCompute (b : Nat) : Nat :=
  let i := gfPow 0x11B b 254
  let rot k := (i * 2 ^ k + i * 2 ^ k / 256) % 256
  i ^^^ rot 1 ^^^ rot 2 ^^^ rot 3 ^^^ rot 4 ^^^ 0x63

/-- The S-box as a table. -/
def aesSbox : List Nat := (List.range 256).map aesSubCompute

/-- The S-box of one byte. -/
def aesSub (b : Nat) : Nat := aesSbox.getD b 0

/-- FIPS 197: key expansion of AES-256; words are lists of 4 bytes, the newest first. -/
def aesExpand : Nat → Nat → List (List Nat) → List (List Nat)
  | 0, _, ws => ws
  | n + 1, i, ws =>
    let t := ws.getD 0 []
    let t' :=
      if i % 8 = 0 then
        xorBytes [aesSub (t.getD 1 0), aesSub (t.getD 2 0), aesSub (t.getD 3 0), aesSub (t.getD 0 0)]
          [gfPow 0x11B 2 (i / 8 - 1), 0, 0, 0]
      else if i % 8 = 4 then t.map aesSub
      else t
    aesExpand n (i + 1) (xorBytes (ws.getD 7 []) t' :: ws)

/-- The 15 round keys of a 32-byte key. -/
def aesRoundKeys (key : List Nat) : List (List Nat) :=
  chunks 16 15 ((aesExpand 52 8 (chunks 4 8 key).reverse).reverse.flatten)

/-- SubBytes and ShiftRows of a 16-byte state, column by column. -/
def aesSubShift (s : List Nat) : List Nat :=
  (List.range 16).map (fun i => aesSub (s.getD ((i + 4 * (i % 4)) % 16) 0))

/-- MixColumns of one column. -/
def aesMix (c : List Nat) : List Nat :=
  (List.range 4).map (fun i =>
    gfMul 0x11B 2 (c.getD i 0) ^^^ gfMul 0x11B 3 (c.getD ((i + 1) % 4) 0) ^^^ c.getD ((i + 2) % 4) 0
      ^^^ c.getD ((i + 3) % 4) 0)

/-- The rounds after the first key addition. -/
def aesRounds : List (List Nat) → List Nat → List Nat
  | [], s => s
  | [k], s => xorBytes (aesSubShift s) k
  | k :: ks, s => aesRounds ks (xorBytes ((chunks 4 4 (aesSubShift s)).map aesMix).flatten k)

/-- AES-256 of one 16-byte block under a 32-byte key. -/
def aes256 (key block : List Nat) : List Nat :=
  match aesRoundKeys key with
  | [] => block
  | k0 :: ks => aesRounds ks (xorBytes block k0)

/-- SP 800-38D: the product of two blocks as 128-bit strings (bit 0 the most significant). -/
def ghashMulAux (x : Nat) : Nat → Nat → Nat → Nat
  | 0, _, z => z
  | n + 1, v, z =>
    let z' := if x / 2 ^ n % 2 = 1 then z ^^^ v else z
    ghashMulAux x n (if v % 2 = 1 then (v / 2) ^^^ (0xE1 * 2 ^ 120) else v / 2) z'

/-- SP 800-38D: GHASH of 16-byte blocks under the hash key. -/
def ghash (h : List Nat) (blocks : List (List Nat)) : List Nat :=
  toBytesBE 16 (blocks.foldl (fun y b => ghashMulAux (y ^^^ ofBytesBE b) 128 (ofBytesBE h) 0) 0)

/-- SP 800-38D: the tag of AES-256-GCM over a ciphertext without additional data, under a nonce of 12 bytes. -/
def gcmTag (key nonce ct : List Nat) : List Nat :=
  let h := aes256 key (List.replicate 16 0)
  let blocks := (chunks 16 (ct.length / 16 + 1) ct).map (padTo 16)
  xorBytes (ghash h (blocks ++ [toBytesBE 8 0 ++ toBytesBE 8 (8 * ct.length)])) (aes256 key (nonce ++ [0, 0, 0, 1]))

/-! ### SHA-256 (R343, R353, R354, R363) -/

/-- The largest number of at most `bits` bits, above what `z` has, whose `k`-th power is at most `x`. -/
def rootBits (k x : Nat) : Nat → Nat → Nat
  | 0, z => z
  | n + 1, z => if (z + 2 ^ n) ^ k ≤ x then rootBits k x n (z + 2 ^ n) else rootBits k x n z

/-- FIPS 180-4: the first 32 bits of the fractional part of the `k`-th root of a number below 2^9. -/
def rootFraction (k p : Nat) : Nat := rootBits k (p * 2 ^ (32 * k)) 37 0 % 2 ^ 32

/-- Whether no number from 2 up to `n` divides `p`. -/
def noDivisor (p : Nat) : Nat → Bool
  | 0 => true
  | n + 1 => (decide (n = 0) || p % (n + 1) != 0) && noDivisor p n

/-- The primes below 312: the first 64. -/
def firstPrimes : List Nat := (List.range 312).filter (fun p => decide (2 ≤ p) && noDivisor p (p - 1))

/-- FIPS 180-4: the round constants are cube roots, the initial hash value square roots, of the first primes. -/
def shaConstants : List Nat := firstPrimes.map (rootFraction 3)

/-- FIPS 180-4: the initial hash value. -/
def shaStart : List Nat := (firstPrimes.take 8).map (rootFraction 2)

/-- FIPS 180-4: the exclusive or of rotations of a 32-bit word to the right. -/
def shaMix (turns : List Nat) (x : Nat) : Nat :=
  turns.foldl (fun z n => z ^^^ (x / 2 ^ n + x % 2 ^ n * 2 ^ (32 - n))) 0

/-- FIPS 180-4: word `t` of a block's schedule is formed from four earlier words, given by how far back they lie. -/
def shaNext (back : Nat → Nat) : Nat :=
  let near := back 2
  let far := back 15
  (back 16 + back 7 + (shaMix [7, 18] far ^^^ far / 8) + (shaMix [17, 19] near ^^^ near / 1024)) % 2 ^ 32

/-- FIPS 180-4: the schedule's `n` next words behind those there are. -/
def shaExtend : Nat → List Nat → List Nat
  | 0, l => l
  | n + 1, l => shaExtend n (l ++ [shaNext (fun d => l.getD (l.length - d) 0)])

/-- FIPS 180-4: one step of the compression: the eight working words are `v`, oldest last. -/
def shaStep (v : List Nat) (kw : Nat) : List Nat :=
  let at_ (i : Nat) : Nat := v.getD i 0
  let pick := (at_ 4 &&& at_ 5) ||| ((2 ^ 32 - 1 - at_ 4) &&& at_ 6)
  let most := (at_ 0 &&& (at_ 1 ||| at_ 2)) ||| (at_ 1 &&& at_ 2)
  let t := at_ 7 + shaMix [6, 11, 25] (at_ 4) + pick + kw
  let moved := (v.take 7).set 3 ((at_ 3 + t) % 2 ^ 32)
  (t + shaMix [2, 13, 22] (at_ 0) + most) % 2 ^ 32 :: moved

/-- FIPS 180-4: the hash value after a block of 64 bytes. -/
def shaBlock (h block : List Nat) : List Nat :=
  let words := shaExtend 48 ((chunks 4 16 block).map ofBytesBE)
  let last := (List.zipWith (· + ·) shaConstants words).foldl shaStep h
  List.zipWith (fun x y => (x + y) % 2 ^ 32) h last

/-- FIPS 180-4: a message with its padding: a 1 bit, zeros, and the length in bits. -/
def shaPadded (m : List Nat) : List Nat :=
  m ++ [0x80] ++ List.replicate ((119 - m.length % 64) % 64) 0 ++ toBytesBE 8 (8 * m.length)

/-- FIPS 180-4: SHA-256 of a byte string. -/
def sha256 (m : List Nat) : List Nat :=
  let p := shaPadded m
  (((chunks 64 (p.length / 64) p).foldl shaBlock shaStart).map (toBytesBE 4)).flatten

/-- FIPS 198: HMAC-SHA-256 of a message under a key of at most 64 bytes. -/
def hmacSha256 (key msg : List Nat) : List Nat :=
  let k := padTo 64 key
  sha256 (k.map (· ^^^ 0x5C) ++ sha256 (k.map (· ^^^ 0x36) ++ msg))

end Sys2Proof.Machine
end

