-- ==== Sys2Proof/Config.lean ====
section
/-!
DEFINITION. What an implementation fixes and what the spec leaves open. Every value the spec leaves open is an opaque
constant here, without a body: nothing can be proved of its value, so a claim holds whatever it is.
-/

namespace Sys2Proof.Config

/-- R151 to R153, R364, R367: the n-th 256-bit draw from the TRNG. -/
opaque trng : Nat → BitVec 256

/-- R272, R299, R425: what the SPD contents of a channel's modules say, by the 2,048 bytes of its mirror: the RWL fields of DCn_CFG, in
their places; DCn_TIMING0 and DCn_TIMING1; whether the two modules are the same part; the frames they can hold; and their rated speed,
as DCn_CFG.SPEED counts it. The contents are those of the JEDEC SPD standard. -/
opaque spdCfg : List Nat → BitVec 64
@[inherit_doc spdCfg] opaque spdTiming0 : List Nat → BitVec 64
@[inherit_doc spdCfg] opaque spdTiming1 : List Nat → BitVec 64
@[inherit_doc spdCfg] opaque spdSame : List Nat → Bool
@[inherit_doc spdCfg] opaque spdFrames : List Nat → BitVec 28
@[inherit_doc spdCfg] opaque spdRated : List Nat → Fin 5

/-- R98: the frame number at which the n-th search for a free frame of a channel begins; which free frame of the
channel is taken is not stated. -/
opaque frameStart : Nat → Nat

/-- R61, R319: SI_REV, the silicon revision of a part. -/
opaque siRev : Nat

/-- R61: the Vendor ID register of the device's functions. -/
opaque vendorId : Nat

/-- R324: whether the sideband bus is I3C; otherwise it is SMBus. -/
opaque sidebandI3c : Bool

/-- R324: the address byte of the device's sideband target, over which the PEC runs too. -/
opaque sidebandAddress : BitVec 8

/-- R336: the cost in cycles that each kind of task unit declares; none is more than 900. -/
opaque unitCost : Nat → BitVec 10

/-- R319: the bytes of IDENTIFY's payload from the values it reports; their layout and the part number are not stated. -/
opaque identifyLayout : List Nat → List (BitVec 8)

/-- R270: whether, at the n-th draw, another member has no ALLOCATED region and no LD with an extent, and none that is ALIVE with a
HAN. -/
opaque memberIdle : Nat → Bool

/-- R259: the free presented regions, at the n-th draw, of another member, by its path. -/
opaque freeRegions : Nat → Nat → Nat

/-- R268: whether, at the n-th draw, an extent of an LD of another member maps the window of a path. -/
opaque farWindow : Nat → Nat → Bool

/-- R49: the state, as a region descriptor codes it, that another member's region has at the n-th draw, by the region's CPA. -/
opaque farState : Nat → Nat → Nat

/-- R49: the class that another member's region has at the n-th draw, by the region's CPA. -/
opaque farClass : Nat → Nat → Nat

/-- R49: whether, at the n-th draw, the extent table of an LD of another member maps a region, by the region's CPA. -/
opaque farMapped : Nat → Nat → Bool

/-- R342, R343: the fuse array as it leaves manufacture. -/
opaque fuses : BitVec 2048

/-- R365: SHA-256 of the boot ROM. -/
opaque romDigest : BitVec 256

/-- R363: the length in bytes of the certificate chain of the identity partition. -/
opaque chainBytes : Nat

/-- R363: the length in bytes of the sealed identity key in the identity partition. -/
opaque sealedKeyBytes : Nat

/-- R364: the n-th signature of the SPDM responder. -/
opaque spdmSignature : Nat → BitVec 3072

/-- R364: the session number at which the n-th search for a free one begins. -/
opaque spdmSession : Nat → BitVec 16

/-- R216: the n-th byte of the scrambler of a logical lane from its seed; the polynomial and the seeds are those of PCIe 6.x. -/
opaque scrambler : Nat → Nat → BitVec 8

/-- R219: the EQ bytes of the n-th training block sent in EQ on a lane. -/
opaque eqBytes : Nat → Nat → BitVec 32

/-- R236: the beat of the n-th CMP that answers a read which asks for no data. -/
opaque emptyBeat : Nat → BitVec 512

/-- R257: whether, at the n-th draw, a completion that a PRIOR snoop speaks of is still to come for an agent that has had another grant of
the line before. -/
opaque grantComing : Nat → Bool

/-- R400, R419: what a stored DRAM line reads after its modules lost power, at the n-th loss, by its place. -/
opaque lostCell : Nat → Nat → BitVec 640

end Sys2Proof.Config
end

