-- ==== Sys2Proof/Machine/Fuses.lean ====
section
/-!
DEFINITION. The fuse array as a part is shipped (R323, R342, R343).
-/

namespace Sys2Proof.Machine

/-- R323: the cells of the port authority table that are blown at manufacture, as class and column. -/
def shippedDenials : List (Nat × Nat) :=
  [2, 3, 4, 5, 6, 8, 9, 0xC, 0xD].map (fun c => (c, 18)) ++ ((List.range 16).map (fun k => (0xD, k)) ++ [(0xD, 17)])
    ++ (List.range 18).map (fun k => (0xE, k))

/-- R323, R343: the bits that are blown in every part: MFG_LOCK and the denials of the port authority table. -/
def shippedBits : Nat := 2 ^ 48 ||| (shippedDenials.map (fun x => 2 ^ (640 + 19 * (x.1 - 1) + x.2))).foldl (· ||| ·) 0

/-- R342, R343: the logical fuse bits of a part as shipped; those that differ from part to part are open. -/
def shippedFuses : BitVec 2048 := Config.fuses ||| BitVec.ofNat 2048 shippedBits

end Sys2Proof.Machine
end

