-- ==== Sys2Proof/Machine/Registers.lean ====
section
/-!
DEFINITION. The register file (R8 to R11, R453 to R462): every software-visible register of the 19 blocks and of the
vendor DVSEC, as a table of fields with their access codes, reset values and write rules, taken from the register
tables of the chapters. A field is named by the byte address of its register (R453) and its lowest bit. The register
file of the state holds the fields whose value differs from the reset value (a sparse list in rising key order).
The DVSEC registers (R61) lie in configuration space, not in the register space: local slot `m` has the pseudo-base
`2^32 + 0x1000 * m` (DESIGN CHOICE, log entry 2).
-/

namespace Sys2Proof.Machine

/-- Access codes of R10. A LOCK bit (RW, writing 0 has no effect once it is 1) is `w1s`. -/
inductive Acc where
  | rw | ro | w1c | w1s | rc | wo | rwl
deriving DecidableEq, Repr

/-- A field of a register: byte address of its register, lowest bit, width, and value after the reset of its domain. -/
structure Fld where
  addr : Nat
  lo : Nat
  width : Nat
  reset : Nat
deriving DecidableEq, Repr

/-- A row of a register table: the field's place, access code, reset value at index `j`, and the values a software
write may store (any other value leaves the field unchanged). -/
structure FieldSpec where
  lo : Nat
  width : Nat
  acc : Acc
  reset : Nat → Nat
  ok : Nat → Bool

/-- One register of the map, with its block instances (`DCn`) and its index. -/
structure RegSpec where
  name : String
  base : Nat
  insts : Nat
  count : Nat
  stride : Nat
  width : Nat
  lock : Option (Nat → Nat → Fld)
  fields : List FieldSpec

/-- R300, R310 (register table): reset guarantee of master `m`. -/
def qosG (m : Nat) : Nat :=
  if m < 64 then 0 else [256, 0, 1152, 512, 0, 16, 0, 256].getD (m - 64) 0

/-- R300, R310 (register table): reset weight of master `m`. -/
def qosW (m : Nat) : Nat :=
  if m < 64 then 16 else [16, 8, 4, 32, 16, 4, 16, 32].getD (m - 64) 0

/-- R373: VDD_CORE of performance level `n`, in mV. -/
def plVolt (n : Nat) : Nat := [820, 770, 720, 690, 650, 620].getD n 0

/-- R373: fabric clock of performance level `n`, in MHz. -/
def plFreq (n : Nat) : Nat := [2000, 1700, 1400, 1200, 1000, 800].getD n 0

/-- HP_DEAD_TIMEOUT.MS. -/
def F.HP_DEAD_TIMEOUT.MS : Fld := ⟨0x100200, 0, 10, 50⟩

/-- HP_AGENT_STATE.DROP_TB. -/
def F.HP_AGENT_STATE.DROP_TB (j : Nat) : Fld := ⟨0x102000 + 0x10 * j, 8, 56, 0⟩

/-- HP_AGENT_STATE.FLIT68. -/
def F.HP_AGENT_STATE.FLIT68 (j : Nat) : Fld := ⟨0x102000 + 0x10 * j, 7, 1, 0⟩

/-- HP_AGENT_STATE.DEAD_SEEN. -/
def F.HP_AGENT_STATE.DEAD_SEEN (j : Nat) : Fld := ⟨0x102000 + 0x10 * j, 3, 1, 0⟩

/-- HP_AGENT_STATE.STATE. -/
def F.HP_AGENT_STATE.STATE (j : Nat) : Fld := ⟨0x102000 + 0x10 * j, 0, 3, 0⟩

/-- HP_HAN_MAP.ASSIGNED. -/
def F.HP_HAN_MAP.ASSIGNED (j : Nat) : Fld := ⟨0x102008 + 0x10 * j, 8, 1, 1⟩

/-- HP_HAN_MAP.VALID. -/
def F.HP_HAN_MAP.VALID (j : Nat) : Fld := ⟨0x102008 + 0x10 * j, 7, 1, 1⟩

/-- HP_HAN_MAP.HAN. -/
def F.HP_HAN_MAP.HAN (j : Nat) : Fld := ⟨0x102008 + 0x10 * j, 0, 6, j⟩

/-- HP_LINK_CTRL.DISABLE. -/
def F.HP_LINK_CTRL.DISABLE (j : Nat) : Fld := ⟨0x101000 + 0x100 * j, 1, 1, 0⟩

/-- HP_LINK_CTRL.RESET. -/
def F.HP_LINK_CTRL.RESET (j : Nat) : Fld := ⟨0x101000 + 0x100 * j, 0, 1, 0⟩

/-- HP_PTM_SEL.VALID of entry `k`. -/
def F.HP_PTM_SEL.VALID (k : Nat) : Fld := ⟨0x100208, 4 + 8 * k, 1, 0⟩

/-- HP_PTM_SEL.LINK of entry `k`. -/
def F.HP_PTM_SEL.LINK (k : Nat) : Fld := ⟨0x100208, 0 + 8 * k, 4, 0⟩

/-- HP_PORT_CTRL.HOLD. -/
def F.HP_PORT_CTRL.HOLD (j : Nat) : Fld := ⟨0x100008 + 0x40 * j, 1, 1, 1⟩

/-- HP_PORT_CTRL.PORT_RESET. -/
def F.HP_PORT_CTRL.PORT_RESET (j : Nat) : Fld := ⟨0x100008 + 0x40 * j, 0, 1, 0⟩

/-- HP_PORT_CFG.LOCK. -/
def F.HP_PORT_CFG.LOCK (j : Nat) : Fld := ⟨0x100000 + 0x40 * j, 31, 1, 0⟩

/-- HP_PORT_CFG.BAD_ENC. -/
def F.HP_PORT_CFG.BAD_ENC (j : Nat) : Fld := ⟨0x100000 + 0x40 * j, 9, 1, 0⟩

/-- HP_PORT_CFG.LANE_REV. -/
def F.HP_PORT_CFG.LANE_REV (j : Nat) : Fld := ⟨0x100000 + 0x40 * j, 8, 1, 0⟩

/-- HP_PORT_CFG.MAX_SPEED. -/
def F.HP_PORT_CFG.MAX_SPEED (j : Nat) : Fld := ⟨0x100000 + 0x40 * j, 2, 3, 5⟩

/-- HP_PORT_CFG.BIFURC. -/
def F.HP_PORT_CFG.BIFURC (j : Nat) : Fld := ⟨0x100000 + 0x40 * j, 0, 2, 0⟩

/-- ST_PORT_CFG.DOWN_US. -/
def F.ST_PORT_CFG.DOWN_US (j : Nat) : Fld := ⟨0x110000 + 0x100 * j, 48, 16, 1000⟩

/-- ST_PORT_CFG.THRESH. -/
def F.ST_PORT_CFG.THRESH (j : Nat) : Fld := ⟨0x110000 + 0x100 * j, 40, 8, 16⟩

/-- ST_PORT_CFG.COALESCE. -/
def F.ST_PORT_CFG.COALESCE (j : Nat) : Fld := ⟨0x110000 + 0x100 * j, 32, 6, 32⟩

/-- ST_PORT_CFG.SPARE_EN. -/
def F.ST_PORT_CFG.SPARE_EN (j : Nat) : Fld := ⟨0x110000 + 0x100 * j, 8, 1, 1⟩

/-- ST_PORT_CFG.MAX_WIDTH. -/
def F.ST_PORT_CFG.MAX_WIDTH (j : Nat) : Fld := ⟨0x110000 + 0x100 * j, 4, 4, 15⟩

/-- ST_PORT_CFG.MAX_SPEED. -/
def F.ST_PORT_CFG.MAX_SPEED (j : Nat) : Fld := ⟨0x110000 + 0x100 * j, 0, 3, 7⟩

/-- ST_PORT_CTRL.DISABLE. -/
def F.ST_PORT_CTRL.DISABLE (j : Nat) : Fld := ⟨0x110008 + 0x100 * j, 2, 1, 1⟩

/-- ST_PORT_CTRL.PORT_RESET. -/
def F.ST_PORT_CTRL.PORT_RESET (j : Nat) : Fld := ⟨0x110008 + 0x100 * j, 1, 1, 0⟩

/-- ST_PORT_CTRL.RETRAIN. -/
def F.ST_PORT_CTRL.RETRAIN (j : Nat) : Fld := ⟨0x110008 + 0x100 * j, 0, 1, 0⟩

/-- ST_PORT_STATUS.PEER_ID. -/
def F.ST_PORT_STATUS.PEER_ID (j : Nat) : Fld := ⟨0x110010 + 0x100 * j, 16, 48, 0⟩

/-- ST_PORT_STATUS.PEER_PORT. -/
def F.ST_PORT_STATUS.PEER_PORT (j : Nat) : Fld := ⟨0x110010 + 0x100 * j, 14, 2, 0⟩

/-- ST_PORT_STATUS.SPARE_BAD. -/
def F.ST_PORT_STATUS.SPARE_BAD (j : Nat) : Fld := ⟨0x110010 + 0x100 * j, 13, 1, 0⟩

/-- ST_PORT_STATUS.SPARE_USED. -/
def F.ST_PORT_STATUS.SPARE_USED (j : Nat) : Fld := ⟨0x110010 + 0x100 * j, 12, 1, 0⟩

/-- ST_PORT_STATUS.SPARE_LANE. -/
def F.ST_PORT_STATUS.SPARE_LANE (j : Nat) : Fld := ⟨0x110010 + 0x100 * j, 9, 3, 0⟩

/-- ST_PORT_STATUS.WIDTH. -/
def F.ST_PORT_STATUS.WIDTH (j : Nat) : Fld := ⟨0x110010 + 0x100 * j, 6, 3, 0⟩

/-- ST_PORT_STATUS.SPEED. -/
def F.ST_PORT_STATUS.SPEED (j : Nat) : Fld := ⟨0x110010 + 0x100 * j, 4, 2, 0⟩

/-- ST_PORT_STATUS.STATE. -/
def F.ST_PORT_STATUS.STATE (j : Nat) : Fld := ⟨0x110010 + 0x100 * j, 0, 3, 0⟩

/-- ST_PORT_ERR.CRC. -/
def F.ST_PORT_ERR.CRC (j : Nat) : Fld := ⟨0x110018 + 0x100 * j, 48, 16, 0⟩

/-- ST_PORT_ERR.REPLAYS. -/
def F.ST_PORT_ERR.REPLAYS (j : Nat) : Fld := ⟨0x110018 + 0x100 * j, 32, 16, 0⟩

/-- ST_PORT_ERR.DUPS. -/
def F.ST_PORT_ERR.DUPS (j : Nat) : Fld := ⟨0x110018 + 0x100 * j, 16, 16, 0⟩

/-- ST_PORT_ERR.RESETS. -/
def F.ST_PORT_ERR.RESETS (j : Nat) : Fld := ⟨0x110018 + 0x100 * j, 8, 8, 0⟩

/-- ST_PORT_ERR.PROTOCOL. -/
def F.ST_PORT_ERR.PROTOCOL (j : Nat) : Fld := ⟨0x110018 + 0x100 * j, 0, 8, 0⟩

/-- ST_PORT_LANEERR.LANE of entry `k`. -/
def F.ST_PORT_LANEERR.LANE (j : Nat) (k : Nat) : Fld := ⟨0x110020 + 0x100 * j, 0 + 8 * k, 8, 0⟩

/-- HA_CTRL.LEASE_MS. -/
def F.HA_CTRL.LEASE_MS : Fld := ⟨0x120000, 16, 10, 10⟩

/-- HA_ARB.ROT. -/
def F.HA_ARB.ROT : Fld := ⟨0x120008, 0, 4, 0⟩

/-- HA_PIN_STALL.MAX_NS. -/
def F.HA_PIN_STALL.MAX_NS : Fld := ⟨0x120010, 32, 32, 0⟩

/-- HA_PIN_STALL.COUNT. -/
def F.HA_PIN_STALL.COUNT : Fld := ⟨0x120010, 0, 32, 0⟩

/-- HA_RECLAIM.GEN. -/
def F.HA_RECLAIM.GEN : Fld := ⟨0x120020, 32, 32, 0⟩

/-- HA_RECLAIM.ACTIVE. -/
def F.HA_RECLAIM.ACTIVE : Fld := ⟨0x120020, 31, 1, 0⟩

/-- HA_RECLAIM.HAN. -/
def F.HA_RECLAIM.HAN : Fld := ⟨0x120020, 13, 6, 0⟩

/-- HA_RECLAIM.QUANTA. -/
def F.HA_RECLAIM.QUANTA : Fld := ⟨0x120020, 0, 13, 0⟩

/-- HA_RECLAIM_SET.SET. -/
def F.HA_RECLAIM_SET.SET : Fld := ⟨0x120038, 0, 64, 0⟩

/-- HA_DEAD_PEND.PEND. -/
def F.HA_DEAD_PEND.PEND : Fld := ⟨0x120028, 0, 64, 0⟩

/-- HA_LOST_COUNT.LINES. -/
def F.HA_LOST_COUNT.LINES : Fld := ⟨0x120030, 32, 32, 0⟩

/-- HA_LOST_COUNT.DIR_UE. -/
def F.HA_LOST_COUNT.DIR_UE : Fld := ⟨0x120030, 0, 32, 0⟩

/-- HA_DEAD_GEN.GEN. -/
def F.HA_DEAD_GEN.GEN (j : Nat) : Fld := ⟨0x120100 + 0x8 * j, 0, 32, 0⟩

/-- HA_SLICE_STATUS.CE. -/
def F.HA_SLICE_STATUS.CE (j : Nat) : Fld := ⟨0x120800 + 0x10 * j, 48, 16, 0⟩

/-- HA_SLICE_STATUS.TRACKERS. -/
def F.HA_SLICE_STATUS.TRACKERS (j : Nat) : Fld := ⟨0x120800 + 0x10 * j, 19, 9, 0⟩

/-- HA_SLICE_STATUS.ENTRIES. -/
def F.HA_SLICE_STATUS.ENTRIES (j : Nat) : Fld := ⟨0x120800 + 0x10 * j, 0, 19, 0⟩

/-- TIER_CAP_CFG.LOCK. -/
def F.TIER_CAP_CFG.LOCK : Fld := ⟨0x130000, 31, 1, 0⟩

/-- TIER_CAP_CFG.ERR. -/
def F.TIER_CAP_CFG.ERR : Fld := ⟨0x130000, 30, 1, 0⟩

/-- TIER_CAP_CFG.SHARED_REGIONS. -/
def F.TIER_CAP_CFG.SHARED_REGIONS : Fld := ⟨0x130000, 16, 12, 0⟩

/-- TIER_CAP_CFG.PRESENTED_REGIONS. -/
def F.TIER_CAP_CFG.PRESENTED_REGIONS : Fld := ⟨0x130000, 0, 16, 0⟩

/-- TIER_POOL_STATUS.EVAC. -/
def F.TIER_POOL_STATUS.EVAC (j : Nat) : Fld := ⟨0x130100 + 0x10 * j, 62, 2, 0⟩

/-- TIER_POOL_STATUS.METAMOVED. -/
def F.TIER_POOL_STATUS.METAMOVED (j : Nat) : Fld := ⟨0x130100 + 0x10 * j, 61, 1, 0⟩

/-- TIER_POOL_STATUS.GRAN_FRAMES. -/
def F.TIER_POOL_STATUS.GRAN_FRAMES (j : Nat) : Fld := ⟨0x130100 + 0x10 * j, 28, 28, 0⟩

/-- TIER_POOL_STATUS.FREE_FRAMES. -/
def F.TIER_POOL_STATUS.FREE_FRAMES (j : Nat) : Fld := ⟨0x130100 + 0x10 * j, 0, 28, 0⟩

/-- TIER_POLICY.FREE_LOW. -/
def F.TIER_POLICY.FREE_LOW : Fld := ⟨0x130008, 48, 8, 4⟩

/-- TIER_POLICY.PROMO_RESERVE. -/
def F.TIER_POLICY.PROMO_RESERVE : Fld := ⟨0x130008, 32, 16, 4096⟩

/-- TIER_POLICY.NC_FILL_HEAT. -/
def F.TIER_POLICY.NC_FILL_HEAT : Fld := ⟨0x130008, 24, 8, 8⟩

/-- TIER_POLICY.MIN_GAIN. -/
def F.TIER_POLICY.MIN_GAIN : Fld := ⟨0x130008, 16, 4, 4⟩

/-- TIER_POLICY.READ_PROMOTE. -/
def F.TIER_POLICY.READ_PROMOTE : Fld := ⟨0x130008, 8, 8, 64⟩

/-- TIER_POLICY.COLD. -/
def F.TIER_POLICY.COLD : Fld := ⟨0x130008, 0, 8, 2⟩

/-- TIER_T0_BUDGET.T0_NOW. -/
def F.TIER_T0_BUDGET.T0_NOW : Fld := ⟨0x130010, 32, 32, 0⟩

/-- TIER_T0_BUDGET.FRAMES. -/
def F.TIER_T0_BUDGET.FRAMES : Fld := ⟨0x130010, 0, 32, 0⟩

/-- TIER_EPOCH.EPOCH. -/
def F.TIER_EPOCH.EPOCH : Fld := ⟨0x130018, 0, 24, 0⟩

/-- TIER_NC_HINT.VALID. -/
def F.TIER_NC_HINT.VALID (j : Nat) : Fld := ⟨0x130400 + 0x8 * j, 6, 1, 0⟩

/-- TIER_NC_HINT.HAN. -/
def F.TIER_NC_HINT.HAN (j : Nat) : Fld := ⟨0x130400 + 0x8 * j, 0, 6, 0⟩

/-- TIER_DMR_BASE.BASE. -/
def F.TIER_DMR_BASE.BASE (j : Nat) : Fld := ⟨0x131000 + 0x40 * j, 12, 52, 0⟩

/-- TIER_DMR_CTRL.MSIX. -/
def F.TIER_DMR_CTRL.MSIX (j : Nat) : Fld := ⟨0x131008 + 0x40 * j, 16, 8, 0⟩

/-- TIER_DMR_CTRL.STOPPED. -/
def F.TIER_DMR_CTRL.STOPPED (j : Nat) : Fld := ⟨0x131008 + 0x40 * j, 15, 1, 0⟩

/-- TIER_DMR_CTRL.OWNER_MGT. -/
def F.TIER_DMR_CTRL.OWNER_MGT (j : Nat) : Fld := ⟨0x131008 + 0x40 * j, 14, 1, 0⟩

/-- TIER_DMR_CTRL.OWNER. -/
def F.TIER_DMR_CTRL.OWNER (j : Nat) : Fld := ⟨0x131008 + 0x40 * j, 8, 6, 0⟩

/-- TIER_DMR_CTRL.SIZE_LOG2. -/
def F.TIER_DMR_CTRL.SIZE_LOG2 (j : Nat) : Fld := ⟨0x131008 + 0x40 * j, 1, 4, 4⟩

/-- TIER_DMR_CTRL.ENABLE. -/
def F.TIER_DMR_CTRL.ENABLE (j : Nat) : Fld := ⟨0x131008 + 0x40 * j, 0, 1, 0⟩

/-- TIER_DMR_TAIL.TAIL. -/
def F.TIER_DMR_TAIL.TAIL (j : Nat) : Fld := ⟨0x131010 + 0x40 * j, 0, 15, 0⟩

/-- TIER_DMR_HEAD.HEAD. -/
def F.TIER_DMR_HEAD.HEAD (j : Nat) : Fld := ⟨0x131018 + 0x40 * j, 0, 15, 0⟩

/-- CMP_CTRL.ENC_NONE. -/
def F.CMP_CTRL.ENC_NONE : Fld := ⟨0x140000, 17, 1, 0⟩

/-- CMP_CTRL.BAD_REQ. -/
def F.CMP_CTRL.BAD_REQ : Fld := ⟨0x140000, 16, 1, 0⟩

/-- CMP_CTRL.FULL_LANES. -/
def F.CMP_CTRL.FULL_LANES : Fld := ⟨0x140000, 12, 2, 3⟩

/-- CMP_CTRL.RECOMP_ENC_MAX. -/
def F.CMP_CTRL.RECOMP_ENC_MAX : Fld := ⟨0x140000, 8, 4, 2⟩

/-- CMP_CTRL.DM_ENC_MAX. -/
def F.CMP_CTRL.DM_ENC_MAX : Fld := ⟨0x140000, 4, 4, 4⟩

/-- CMP_CTRL.TIER_DISABLE. -/
def F.CMP_CTRL.TIER_DISABLE : Fld := ⟨0x140000, 0, 1, 0⟩

/-- CMP_RECOMP_CFG.MAX_TRANSITS. -/
def F.CMP_RECOMP_CFG.MAX_TRANSITS : Fld := ⟨0x140008, 16, 16, 256⟩

/-- CMP_RECOMP_CFG.MIN_SAVE. -/
def F.CMP_RECOMP_CFG.MIN_SAVE : Fld := ⟨0x140008, 4, 4, 1⟩

/-- CMP_RECOMP_CFG.LEVEL. -/
def F.CMP_RECOMP_CFG.LEVEL : Fld := ⟨0x140008, 1, 3, 5⟩

/-- CMP_RECOMP_CFG.ENABLE. -/
def F.CMP_RECOMP_CFG.ENABLE : Fld := ⟨0x140008, 0, 1, 1⟩

/-- CMP_RECOMP_STATUS.QUEUE_DROPS. -/
def F.CMP_RECOMP_STATUS.QUEUE_DROPS : Fld := ⟨0x140010, 56, 8, 0⟩

/-- CMP_RECOMP_STATUS.TIMEOUTS. -/
def F.CMP_RECOMP_STATUS.TIMEOUTS : Fld := ⟨0x140010, 48, 8, 0⟩

/-- CMP_RECOMP_STATUS.ABORT_NOSAVE. -/
def F.CMP_RECOMP_STATUS.ABORT_NOSAVE : Fld := ⟨0x140010, 32, 16, 0⟩

/-- CMP_RECOMP_STATUS.ABORT_WRITE. -/
def F.CMP_RECOMP_STATUS.ABORT_WRITE : Fld := ⟨0x140010, 16, 16, 0⟩

/-- CMP_RECOMP_STATUS.COMMITS. -/
def F.CMP_RECOMP_STATUS.COMMITS : Fld := ⟨0x140010, 0, 16, 0⟩

/-- CMP_NOGAIN.DEMOTE_ABORT. -/
def F.CMP_NOGAIN.DEMOTE_ABORT : Fld := ⟨0x140018, 48, 16, 0⟩

/-- CMP_NOGAIN.DM_AUXFULL. -/
def F.CMP_NOGAIN.DM_AUXFULL : Fld := ⟨0x140018, 32, 16, 0⟩

/-- CMP_NOGAIN.DM_NOGAIN. -/
def F.CMP_NOGAIN.DM_NOGAIN : Fld := ⟨0x140018, 16, 16, 0⟩

/-- CMP_NOGAIN.TIER. -/
def F.CMP_NOGAIN.TIER : Fld := ⟨0x140018, 0, 16, 0⟩

/-- CMP_ERR_LAST.FAULT. -/
def F.CMP_ERR_LAST.FAULT : Fld := ⟨0x140020, 60, 4, 0⟩

/-- CMP_ERR_LAST.PATH. -/
def F.CMP_ERR_LAST.PATH : Fld := ⟨0x140020, 57, 3, 0⟩

/-- CMP_ERR_LAST.ENGINE. -/
def F.CMP_ERR_LAST.ENGINE : Fld := ⟨0x140020, 52, 5, 0⟩

/-- CMP_ERR_LAST.PAGE. -/
def F.CMP_ERR_LAST.PAGE : Fld := ⟨0x140020, 13, 39, 0⟩

/-- CMP_ERR_LAST.SEG. -/
def F.CMP_ERR_LAST.SEG : Fld := ⟨0x140020, 11, 2, 0⟩

/-- CMP_ERR_LAST.VALID. -/
def F.CMP_ERR_LAST.VALID : Fld := ⟨0x140020, 0, 1, 0⟩

/-- CMP_ENG_CTRL.SELFTEST. -/
def F.CMP_ENG_CTRL.SELFTEST (j : Nat) : Fld := ⟨0x140100 + 0x10 * j, 1, 1, 0⟩

/-- CMP_ENG_CTRL.OFFLINE. -/
def F.CMP_ENG_CTRL.OFFLINE (j : Nat) : Fld := ⟨0x140100 + 0x10 * j, 0, 1, 0⟩

/-- CMP_ENG_STATUS.SEGMENTS. -/
def F.CMP_ENG_STATUS.SEGMENTS (j : Nat) : Fld := ⟨0x140108 + 0x10 * j, 32, 32, 0⟩

/-- CMP_ENG_STATUS.LEVEL. -/
def F.CMP_ENG_STATUS.LEVEL (j : Nat) : Fld := ⟨0x140108 + 0x10 * j, 16, 4, 0⟩

/-- CMP_ENG_STATUS.FAULTS. -/
def F.CMP_ENG_STATUS.FAULTS (j : Nat) : Fld := ⟨0x140108 + 0x10 * j, 8, 8, 0⟩

/-- CMP_ENG_STATUS.SELFTEST_RESULT. -/
def F.CMP_ENG_STATUS.SELFTEST_RESULT (j : Nat) : Fld := ⟨0x140108 + 0x10 * j, 3, 2, 0⟩

/-- CMP_ENG_STATUS.STATE. -/
def F.CMP_ENG_STATUS.STATE (j : Nat) : Fld := ⟨0x140108 + 0x10 * j, 0, 3, 0⟩

/-- CRY_CTRL.ALARM_LIMIT. -/
def F.CRY_CTRL.ALARM_LIMIT : Fld := ⟨0x150000, 16, 8, 0⟩

/-- CRY_CTRL.ALARM_ZEROIZE. -/
def F.CRY_CTRL.ALARM_ZEROIZE : Fld := ⟨0x150000, 9, 1, 0⟩

/-- CRY_CTRL.BAD_REQ. -/
def F.CRY_CTRL.BAD_REQ : Fld := ⟨0x150000, 8, 1, 0⟩

/-- CRY_KEY_STATUS.LOADS. -/
def F.CRY_KEY_STATUS.LOADS (j : Nat) : Fld := ⟨0x150100 + 0x8 * j, 32, 32, 0⟩

/-- CRY_KEY_STATUS.REGIONS. -/
def F.CRY_KEY_STATUS.REGIONS (j : Nat) : Fld := ⟨0x150100 + 0x8 * j, 16, 16, 0⟩

/-- CRY_KEY_STATUS.ZEROIZED. -/
def F.CRY_KEY_STATUS.ZEROIZED (j : Nat) : Fld := ⟨0x150100 + 0x8 * j, 4, 1, 0⟩

/-- CRY_KEY_STATUS.IMPORTED. -/
def F.CRY_KEY_STATUS.IMPORTED (j : Nat) : Fld := ⟨0x150100 + 0x8 * j, 3, 1, 0⟩

/-- CRY_KEY_STATUS.STATE. -/
def F.CRY_KEY_STATUS.STATE (j : Nat) : Fld := ⟨0x150100 + 0x8 * j, 0, 2, 0⟩

/-- CRY_ALARM_LAST.KIND. -/
def F.CRY_ALARM_LAST.KIND : Fld := ⟨0x150300, 61, 3, 0⟩

/-- CRY_ALARM_LAST.SLICE. -/
def F.CRY_ALARM_LAST.SLICE : Fld := ⟨0x150300, 57, 4, 0⟩

/-- CRY_ALARM_LAST.LEVEL. -/
def F.CRY_ALARM_LAST.LEVEL : Fld := ⟨0x150300, 54, 3, 0⟩

/-- CRY_ALARM_LAST.PAGE. -/
def F.CRY_ALARM_LAST.PAGE : Fld := ⟨0x150300, 13, 39, 0⟩

/-- CRY_ALARM_LAST.IDX. -/
def F.CRY_ALARM_LAST.IDX : Fld := ⟨0x150300, 7, 6, 0⟩

/-- CRY_ALARM_LAST.KEY_ID. -/
def F.CRY_ALARM_LAST.KEY_ID : Fld := ⟨0x150300, 1, 6, 0⟩

/-- CRY_ALARM_LAST.VALID. -/
def F.CRY_ALARM_LAST.VALID : Fld := ⟨0x150300, 0, 1, 0⟩

/-- CRY_ALARM_COUNT.QUARANTINED. -/
def F.CRY_ALARM_COUNT.QUARANTINED : Fld := ⟨0x150308, 48, 16, 0⟩

/-- CRY_ALARM_COUNT.COUNT. -/
def F.CRY_ALARM_COUNT.COUNT : Fld := ⟨0x150308, 0, 32, 0⟩

/-- CRY_WALK_STATUS.BUSY. -/
def F.CRY_WALK_STATUS.BUSY (j : Nat) : Fld := ⟨0x150400 + 0x10 * j, 63, 1, 0⟩

/-- CRY_WALK_STATUS.KIND. -/
def F.CRY_WALK_STATUS.KIND (j : Nat) : Fld := ⟨0x150400 + 0x10 * j, 61, 2, 0⟩

/-- CRY_WALK_STATUS.SRC_KEY. -/
def F.CRY_WALK_STATUS.SRC_KEY (j : Nat) : Fld := ⟨0x150400 + 0x10 * j, 55, 6, 0⟩

/-- CRY_WALK_STATUS.SRC_GEN. -/
def F.CRY_WALK_STATUS.SRC_GEN (j : Nat) : Fld := ⟨0x150400 + 0x10 * j, 48, 7, 0⟩

/-- CRY_WALK_STATUS.REGION. -/
def F.CRY_WALK_STATUS.REGION (j : Nat) : Fld := ⟨0x150400 + 0x10 * j, 32, 15, 0⟩

/-- CRY_WALK_STATUS.DONE. -/
def F.CRY_WALK_STATUS.DONE (j : Nat) : Fld := ⟨0x150400 + 0x10 * j, 0, 19, 0⟩

/-- CRY_ENG_CTRL.SELFTEST. -/
def F.CRY_ENG_CTRL.SELFTEST (j : Nat) : Fld := ⟨0x150800 + 0x10 * j, 1, 1, 0⟩

/-- CRY_ENG_CTRL.OFFLINE. -/
def F.CRY_ENG_CTRL.OFFLINE (j : Nat) : Fld := ⟨0x150800 + 0x10 * j, 0, 1, 0⟩

/-- CRY_ENG_STATUS.UNITS. -/
def F.CRY_ENG_STATUS.UNITS (j : Nat) : Fld := ⟨0x150808 + 0x10 * j, 32, 32, 0⟩

/-- CRY_ENG_STATUS.FAULTS. -/
def F.CRY_ENG_STATUS.FAULTS (j : Nat) : Fld := ⟨0x150808 + 0x10 * j, 8, 8, 0⟩

/-- CRY_ENG_STATUS.SELFTEST_RESULT. -/
def F.CRY_ENG_STATUS.SELFTEST_RESULT (j : Nat) : Fld := ⟨0x150808 + 0x10 * j, 3, 2, 0⟩

/-- CRY_ENG_STATUS.STATE. -/
def F.CRY_ENG_STATUS.STATE (j : Nat) : Fld := ⟨0x150808 + 0x10 * j, 0, 3, if j = 7 then 5 else 0⟩

/-- QOS_CTRL.ENABLE. -/
def F.QOS_CTRL.ENABLE : Fld := ⟨0x160000, 31, 1, 1⟩

/-- QOS_CTRL.BAD_WM. -/
def F.QOS_CTRL.BAD_WM : Fld := ⟨0x160000, 30, 1, 0⟩

/-- QOS_CTRL.TURN. -/
def F.QOS_CTRL.TURN : Fld := ⟨0x160000, 16, 8, 24⟩

/-- QOS_CTRL.HIGH_WM. -/
def F.QOS_CTRL.HIGH_WM : Fld := ⟨0x160000, 8, 8, 48⟩

/-- QOS_CTRL.LOW_WM. -/
def F.QOS_CTRL.LOW_WM : Fld := ⟨0x160000, 0, 8, 24⟩

/-- QOS_CAP.C_CRYPTO. -/
def F.QOS_CAP.C_CRYPTO : Fld := ⟨0x160008, 48, 16, 0⟩

/-- QOS_CAP.C_DRAM. -/
def F.QOS_CAP.C_DRAM : Fld := ⟨0x160008, 32, 16, 0⟩

/-- QOS_CAP.C_CERT. -/
def F.QOS_CAP.C_CERT : Fld := ⟨0x160008, 16, 16, 0⟩

/-- QOS_CAP.SUM_G. -/
def F.QOS_CAP.SUM_G : Fld := ⟨0x160008, 0, 16, 2192⟩

/-- QOS_SCALE.SHORTFALL. -/
def F.QOS_SCALE.SHORTFALL : Fld := ⟨0x160010, 31, 1, 0⟩

/-- QOS_SCALE.SCALE. -/
def F.QOS_SCALE.SCALE : Fld := ⟨0x160010, 0, 17, 65536⟩

/-- QOS_SHORTFALL.TRANSITS. -/
def F.QOS_SHORTFALL.TRANSITS : Fld := ⟨0x160018, 32, 32, 0⟩

/-- QOS_SHORTFALL.LAST. -/
def F.QOS_SHORTFALL.LAST : Fld := ⟨0x160018, 0, 32, 0⟩

/-- QOS_MASTER.GEFF. -/
def F.QOS_MASTER.GEFF (j : Nat) : Fld := ⟨0x160100 + 0x10 * j, 48, 16, qosG j⟩

/-- QOS_MASTER.NCMIN. -/
def F.QOS_MASTER.NCMIN (j : Nat) : Fld := ⟨0x160100 + 0x10 * j, 32, 10, 0⟩

/-- QOS_MASTER.QMAX. -/
def F.QOS_MASTER.QMAX (j : Nat) : Fld := ⟨0x160100 + 0x10 * j, 24, 6, 16⟩

/-- QOS_MASTER.W. -/
def F.QOS_MASTER.W (j : Nat) : Fld := ⟨0x160100 + 0x10 * j, 16, 8, qosW j⟩

/-- QOS_MASTER.G. -/
def F.QOS_MASTER.G (j : Nat) : Fld := ⟨0x160100 + 0x10 * j, 0, 16, qosG j⟩

/-- QOS_MSTAT.DELIV_S. -/
def F.QOS_MSTAT.DELIV_S (j : Nat) : Fld := ⟨0x160108 + 0x10 * j, 25, 25, 0⟩

/-- QOS_MSTAT.DELIV_G. -/
def F.QOS_MSTAT.DELIV_G (j : Nat) : Fld := ⟨0x160108 + 0x10 * j, 0, 25, 0⟩

/-- CLU_CFG.LOCK. -/
def F.CLU_CFG.LOCK : Fld := ⟨0x170000, 31, 1, 0⟩

/-- CLU_CFG.HEAD_MS. -/
def F.CLU_CFG.HEAD_MS : Fld := ⟨0x170000, 16, 8, 10⟩

/-- CLU_CFG.SETTLE_MS. -/
def F.CLU_CFG.SETTLE_MS : Fld := ⟨0x170000, 12, 4, 2⟩

/-- CLU_CFG.DEPTH. -/
def F.CLU_CFG.DEPTH : Fld := ⟨0x170000, 8, 2, 0⟩

/-- CLU_CFG.PATH. -/
def F.CLU_CFG.PATH : Fld := ⟨0x170000, 0, 6, 0⟩

/-- CLU_EXPECT.EXPECT. -/
def F.CLU_EXPECT.EXPECT : Fld := ⟨0x170008, 0, 64, 0⟩

/-- CLU_STATUS.EPOCH. -/
def F.CLU_STATUS.EPOCH : Fld := ⟨0x170010, 32, 32, 0⟩

/-- CLU_STATUS.CLUTCH_ID. -/
def F.CLU_STATUS.CLUTCH_ID : Fld := ⟨0x170010, 16, 16, 0⟩

/-- CLU_STATUS.HEAD. -/
def F.CLU_STATUS.HEAD : Fld := ⟨0x170010, 10, 6, 0⟩

/-- CLU_STATUS.CFG_ERR. -/
def F.CLU_STATUS.CFG_ERR : Fld := ⟨0x170010, 9, 1, 0⟩

/-- CLU_STATUS.STATE. -/
def F.CLU_STATUS.STATE : Fld := ⟨0x170010, 0, 3, 0⟩

/-- CLU_ROSTER.MAP. -/
def F.CLU_ROSTER.MAP : Fld := ⟨0x170018, 0, 64, 0⟩

/-- CLU_FAILED.MAP. -/
def F.CLU_FAILED.MAP : Fld := ⟨0x170020, 0, 64, 0⟩

/-- CLU_LINKS.UP_END. -/
def F.CLU_LINKS.UP_END : Fld := ⟨0x170028, 4, 4, 0⟩

/-- CLU_LINKS.IN_ROUTES. -/
def F.CLU_LINKS.IN_ROUTES : Fld := ⟨0x170028, 0, 4, 0⟩

/-- CLU_SPILL_CFG.FRAMES. -/
def F.CLU_SPILL_CFG.FRAMES : Fld := ⟨0x170030, 0, 24, 0⟩

/-- CLU_SPILL_STATUS.HELD. -/
def F.CLU_SPILL_STATUS.HELD : Fld := ⟨0x170038, 32, 32, 0⟩

/-- CLU_SPILL_STATUS.OUT. -/
def F.CLU_SPILL_STATUS.OUT : Fld := ⟨0x170038, 0, 32, 0⟩

/-- CLU_ROUTE.PORT_DOWN. -/
def F.CLU_ROUTE.PORT_DOWN (j : Nat) : Fld := ⟨0x170100 + 0x8 * j, 4, 3, 7⟩

/-- CLU_ROUTE.PORT_UP. -/
def F.CLU_ROUTE.PORT_UP (j : Nat) : Fld := ⟨0x170100 + 0x8 * j, 0, 3, 7⟩

/-- CLU_HAN.VALID. -/
def F.CLU_HAN.VALID (j : Nat) : Fld := ⟨0x170400 + 0x8 * j, 13, 1, 0⟩

/-- CLU_HAN.DEAD. -/
def F.CLU_HAN.DEAD (j : Nat) : Fld := ⟨0x170400 + 0x8 * j, 12, 1, 0⟩

/-- CLU_HAN.PATH. -/
def F.CLU_HAN.PATH (j : Nat) : Fld := ⟨0x170400 + 0x8 * j, 6, 6, 0⟩

/-- CLU_HAN.SLOT. -/
def F.CLU_HAN.SLOT (j : Nat) : Fld := ⟨0x170400 + 0x8 * j, 0, 6, 0⟩

/-- DC_CFG.FRAMES. -/
def F.DC_CFG.FRAMES (i : Nat) : Fld := ⟨0x200000 + 0x10000 * i, 36, 28, 0⟩

/-- DC_CFG.CFG_ERR. -/
def F.DC_CFG.CFG_ERR (i : Nat) : Fld := ⟨0x200000 + 0x10000 * i, 35, 1, 0⟩

/-- DC_CFG.ZEROED. -/
def F.DC_CFG.ZEROED (i : Nat) : Fld := ⟨0x200000 + 0x10000 * i, 34, 1, 0⟩

/-- DC_CFG.LOCK. -/
def F.DC_CFG.LOCK (i : Nat) : Fld := ⟨0x200000 + 0x10000 * i, 31, 1, 0⟩

/-- DC_CFG.ENABLE. -/
def F.DC_CFG.ENABLE (i : Nat) : Fld := ⟨0x200000 + 0x10000 * i, 30, 1, 0⟩

/-- DC_CFG.AGE_NS. -/
def F.DC_CFG.AGE_NS (i : Nat) : Fld := ⟨0x200000 + 0x10000 * i, 16, 14, 2000⟩

/-- DC_CFG.DPC. -/
def F.DC_CFG.DPC (i : Nat) : Fld := ⟨0x200000 + 0x10000 * i, 12, 2, 0⟩

/-- DC_CFG.RANK_BITS. -/
def F.DC_CFG.RANK_BITS (i : Nat) : Fld := ⟨0x200000 + 0x10000 * i, 10, 2, 0⟩

/-- DC_CFG.MRDIMM. -/
def F.DC_CFG.MRDIMM (i : Nat) : Fld := ⟨0x200000 + 0x10000 * i, 9, 1, 0⟩

/-- DC_CFG.X8. -/
def F.DC_CFG.X8 (i : Nat) : Fld := ⟨0x200000 + 0x10000 * i, 8, 1, 0⟩

/-- DC_CFG.SPEED. -/
def F.DC_CFG.SPEED (i : Nat) : Fld := ⟨0x200000 + 0x10000 * i, 0, 3, 0⟩

/-- DC_TIMING0.TWTR_L. -/
def F.DC_TIMING0.TWTR_L (i : Nat) : Fld := ⟨0x200010 + 0x10000 * i, 56, 8, 0xFF⟩

/-- DC_TIMING0.TRAS. -/
def F.DC_TIMING0.TRAS (i : Nat) : Fld := ⟨0x200010 + 0x10000 * i, 48, 8, 0xFF⟩

/-- DC_TIMING0.TWR. -/
def F.DC_TIMING0.TWR (i : Nat) : Fld := ⟨0x200010 + 0x10000 * i, 40, 8, 0xFF⟩

/-- DC_TIMING0.TRTP. -/
def F.DC_TIMING0.TRTP (i : Nat) : Fld := ⟨0x200010 + 0x10000 * i, 32, 8, 0xFF⟩

/-- DC_TIMING0.TRP. -/
def F.DC_TIMING0.TRP (i : Nat) : Fld := ⟨0x200010 + 0x10000 * i, 24, 8, 0xFF⟩

/-- DC_TIMING0.TRCD. -/
def F.DC_TIMING0.TRCD (i : Nat) : Fld := ⟨0x200010 + 0x10000 * i, 16, 8, 0xFF⟩

/-- DC_TIMING0.TCWL. -/
def F.DC_TIMING0.TCWL (i : Nat) : Fld := ⟨0x200010 + 0x10000 * i, 8, 8, 0xFF⟩

/-- DC_TIMING0.TCL. -/
def F.DC_TIMING0.TCL (i : Nat) : Fld := ⟨0x200010 + 0x10000 * i, 0, 8, 0xFF⟩

/-- DC_TIMING1.TRFC_NS. -/
def F.DC_TIMING1.TRFC_NS (i : Nat) : Fld := ⟨0x200018 + 0x10000 * i, 48, 10, 1023⟩

/-- DC_TIMING1.TFAW. -/
def F.DC_TIMING1.TFAW (i : Nat) : Fld := ⟨0x200018 + 0x10000 * i, 40, 8, 0xFF⟩

/-- DC_TIMING1.TWTR_S. -/
def F.DC_TIMING1.TWTR_S (i : Nat) : Fld := ⟨0x200018 + 0x10000 * i, 32, 8, 0xFF⟩

/-- DC_TIMING1.TCCD_L_WR. -/
def F.DC_TIMING1.TCCD_L_WR (i : Nat) : Fld := ⟨0x200018 + 0x10000 * i, 24, 8, 0xFF⟩

/-- DC_TIMING1.TCCD_L. -/
def F.DC_TIMING1.TCCD_L (i : Nat) : Fld := ⟨0x200018 + 0x10000 * i, 16, 8, 0xFF⟩

/-- DC_TIMING1.TRRD_L. -/
def F.DC_TIMING1.TRRD_L (i : Nat) : Fld := ⟨0x200018 + 0x10000 * i, 8, 8, 0xFF⟩

/-- DC_TIMING1.TRRD_S. -/
def F.DC_TIMING1.TRRD_S (i : Nat) : Fld := ⟨0x200018 + 0x10000 * i, 0, 8, 0xFF⟩

/-- DC_SCRUB.POS. -/
def F.DC_SCRUB.POS (i : Nat) : Fld := ⟨0x200030 + 0x10000 * i, 30, 34, 0⟩

/-- DC_SCRUB.PASSES. -/
def F.DC_SCRUB.PASSES (i : Nat) : Fld := ⟨0x200030 + 0x10000 * i, 16, 14, 0⟩

/-- DC_SCRUB.LINES. -/
def F.DC_SCRUB.LINES (i : Nat) : Fld := ⟨0x200030 + 0x10000 * i, 0, 7, 8⟩

/-- DC_ECC_STATUS.CE. -/
def F.DC_ECC_STATUS.CE (i : Nat) : Fld := ⟨0x200040 + 0x10000 * i, 48, 16, 0⟩

/-- DC_ECC_STATUS.UE. -/
def F.DC_ECC_STATUS.UE (i : Nat) : Fld := ⟨0x200040 + 0x10000 * i, 32, 16, 0⟩

/-- DC_ECC_STATUS.WB_CANCEL. -/
def F.DC_ECC_STATUS.WB_CANCEL (i : Nat) : Fld := ⟨0x200040 + 0x10000 * i, 16, 16, 0⟩

/-- DC_ECC_STATUS.WB. -/
def F.DC_ECC_STATUS.WB (i : Nat) : Fld := ⟨0x200040 + 0x10000 * i, 0, 16, 0⟩

/-- DC_ECC_CFG.AUTO_MARK. -/
def F.DC_ECC_CFG.AUTO_MARK (i : Nat) : Fld := ⟨0x200048 + 0x10000 * i, 31, 1, 1⟩

/-- DC_ECC_CFG.MARK_THRESH. -/
def F.DC_ECC_CFG.MARK_THRESH (i : Nat) : Fld := ⟨0x200048 + 0x10000 * i, 0, 16, 64⟩

/-- DC_SLOTS.DELIVERABLE. -/
def F.DC_SLOTS.DELIVERABLE (i : Nat) : Fld := ⟨0x200050 + 0x10000 * i, 32, 16, 0⟩

/-- DC_SLOTS.MNT_RES. -/
def F.DC_SLOTS.MNT_RES (i : Nat) : Fld := ⟨0x200050 + 0x10000 * i, 24, 8, 12⟩

/-- DC_SLOTS.REF_RES. -/
def F.DC_SLOTS.REF_RES (i : Nat) : Fld := ⟨0x200050 + 0x10000 * i, 16, 8, 0⟩

/-- DC_SLOTS.SLOTS. -/
def F.DC_SLOTS.SLOTS (i : Nat) : Fld := ⟨0x200050 + 0x10000 * i, 0, 16, 0⟩

/-- DC_REF_STATUS.RATE2X. -/
def F.DC_REF_STATUS.RATE2X (i : Nat) (j : Nat) : Fld := ⟨0x200100 + 0x10000 * i + 0x8 * j, 31, 1, 0⟩

/-- DC_REF_STATUS.BLOCKED. -/
def F.DC_REF_STATUS.BLOCKED (i : Nat) (j : Nat) : Fld := ⟨0x200100 + 0x10000 * i + 0x8 * j, 30, 1, 0⟩

/-- DC_REF_STATUS.OWED. -/
def F.DC_REF_STATUS.OWED (i : Nat) (j : Nat) : Fld := ⟨0x200100 + 0x10000 * i + 0x8 * j, 24, 4, 0⟩

/-- DC_REF_STATUS.ACC. -/
def F.DC_REF_STATUS.ACC (i : Nat) (j : Nat) : Fld := ⟨0x200100 + 0x10000 * i + 0x8 * j, 8, 16, 0⟩

/-- DC_REF_STATUS.TEMP. -/
def F.DC_REF_STATUS.TEMP (i : Nat) (j : Nat) : Fld := ⟨0x200100 + 0x10000 * i + 0x8 * j, 0, 8, 0x80⟩

/-- DC_MARK.SC1_VALID. -/
def F.DC_MARK.SC1_VALID (i : Nat) (j : Nat) : Fld := ⟨0x200200 + 0x10000 * i + 0x8 * j, 16, 1, 0⟩

/-- DC_MARK.SC1_DEV. -/
def F.DC_MARK.SC1_DEV (i : Nat) (j : Nat) : Fld := ⟨0x200200 + 0x10000 * i + 0x8 * j, 12, 4, 0⟩

/-- DC_MARK.SC0_VALID. -/
def F.DC_MARK.SC0_VALID (i : Nat) (j : Nat) : Fld := ⟨0x200200 + 0x10000 * i + 0x8 * j, 4, 1, 0⟩

/-- DC_MARK.SC0_DEV. -/
def F.DC_MARK.SC0_DEV (i : Nat) (j : Nat) : Fld := ⟨0x200200 + 0x10000 * i + 0x8 * j, 0, 4, 0⟩

/-- DC_TRN_CTRL.BUSY. -/
def F.DC_TRN_CTRL.BUSY (i : Nat) : Fld := ⟨0x200800 + 0x10000 * i, 31, 1, 0⟩

/-- DC_TRN_CTRL.DONE. -/
def F.DC_TRN_CTRL.DONE (i : Nat) : Fld := ⟨0x200800 + 0x10000 * i, 30, 1, 0⟩

/-- DC_TRN_CTRL.BAD_REQ. -/
def F.DC_TRN_CTRL.BAD_REQ (i : Nat) : Fld := ⟨0x200800 + 0x10000 * i, 29, 1, 0⟩

/-- DC_TRN_CTRL.PATTERN. -/
def F.DC_TRN_CTRL.PATTERN (i : Nat) : Fld := ⟨0x200800 + 0x10000 * i, 24, 2, 0⟩

/-- DC_TRN_CTRL.SWEEP. -/
def F.DC_TRN_CTRL.SWEEP (i : Nat) : Fld := ⟨0x200800 + 0x10000 * i, 16, 8, 64⟩

/-- DC_TRN_CTRL.STEP. -/
def F.DC_TRN_CTRL.STEP (i : Nat) : Fld := ⟨0x200800 + 0x10000 * i, 12, 4, 0⟩

/-- DC_TRN_CTRL.SC. -/
def F.DC_TRN_CTRL.SC (i : Nat) : Fld := ⟨0x200800 + 0x10000 * i, 11, 1, 0⟩

/-- DC_TRN_CTRL.RANK. -/
def F.DC_TRN_CTRL.RANK (i : Nat) : Fld := ⟨0x200800 + 0x10000 * i, 8, 3, 0⟩

/-- DC_TRN_CTRL.GO. -/
def F.DC_TRN_CTRL.GO (i : Nat) : Fld := ⟨0x200800 + 0x10000 * i, 0, 1, 0⟩

/-- DC_TRN_RESULT.ERRORS. -/
def F.DC_TRN_RESULT.ERRORS (i : Nat) (j : Nat) : Fld := ⟨0x200900 + 0x10000 * i + 0x4 * j, 16, 16, 0⟩

/-- DC_TRN_RESULT.RIGHT. -/
def F.DC_TRN_RESULT.RIGHT (i : Nat) (j : Nat) : Fld := ⟨0x200900 + 0x10000 * i + 0x4 * j, 8, 8, 0⟩

/-- DC_TRN_RESULT.LEFT. -/
def F.DC_TRN_RESULT.LEFT (i : Nat) (j : Nat) : Fld := ⟨0x200900 + 0x10000 * i + 0x4 * j, 0, 8, 0⟩

/-- DC_DLY.PROBE_OFS. -/
def F.DC_DLY.PROBE_OFS (i : Nat) (j : Nat) : Fld := ⟨0x200b00 + 0x10000 * i + 0x4 * j, 24, 8, 0⟩

/-- DC_DLY.RD_VREF. -/
def F.DC_DLY.RD_VREF (i : Nat) (j : Nat) : Fld := ⟨0x200b00 + 0x10000 * i + 0x4 * j, 16, 8, 0x80⟩

/-- DC_DLY.WR_DLY. -/
def F.DC_DLY.WR_DLY (i : Nat) (j : Nat) : Fld := ⟨0x200b00 + 0x10000 * i + 0x4 * j, 8, 8, 0⟩

/-- DC_DLY.RD_DLY. -/
def F.DC_DLY.RD_DLY (i : Nat) (j : Nat) : Fld := ⟨0x200b00 + 0x10000 * i + 0x4 * j, 0, 8, 0⟩

/-- MGT_FE_STATUS.QUEUED. -/
def F.MGT_FE_STATUS.QUEUED : Fld := ⟨0x300000, 48, 16, 0⟩

/-- MGT_FE_STATUS.MAX_CYCLES. -/
def F.MGT_FE_STATUS.MAX_CYCLES : Fld := ⟨0x300000, 32, 16, 0⟩

/-- MGT_FE_STATUS.UNITS. -/
def F.MGT_FE_STATUS.UNITS : Fld := ⟨0x300000, 0, 32, 0⟩

/-- MGT_ACCESS_ERR.ADDR. -/
def F.MGT_ACCESS_ERR.ADDR : Fld := ⟨0x300008, 32, 32, 0⟩

/-- MGT_ACCESS_ERR.VALID. -/
def F.MGT_ACCESS_ERR.VALID : Fld := ⟨0x300008, 31, 1, 0⟩

/-- MGT_ACCESS_ERR.CAUSE. -/
def F.MGT_ACCESS_ERR.CAUSE : Fld := ⟨0x300008, 28, 3, 0⟩

/-- MGT_ACCESS_ERR.WRITE. -/
def F.MGT_ACCESS_ERR.WRITE : Fld := ⟨0x300008, 27, 1, 0⟩

/-- MGT_ACCESS_ERR.COUNT. -/
def F.MGT_ACCESS_ERR.COUNT : Fld := ⟨0x300008, 0, 16, 0⟩

/-- MBX_CTRL.SECURE_LOCK. -/
def F.MBX_CTRL.SECURE_LOCK : Fld := ⟨0x310000, 31, 1, 0⟩

/-- MBX_SB_DATA.WORD. -/
def F.MBX_SB_DATA.WORD : Fld := ⟨0x311000, 0, 64, 0⟩

/-- MBX_SB_META.UE. -/
def F.MBX_SB_META.UE : Fld := ⟨0x311008, 7, 1, 0⟩

/-- MBX_SB_META.CE. -/
def F.MBX_SB_META.CE : Fld := ⟨0x311008, 6, 1, 0⟩

/-- MBX_SB_META.VALID_BYTES. -/
def F.MBX_SB_META.VALID_BYTES : Fld := ⟨0x311008, 2, 4, 0⟩

/-- MBX_SB_META.EOP. -/
def F.MBX_SB_META.EOP : Fld := ⟨0x311008, 1, 1, 0⟩

/-- MBX_SB_META.SOP. -/
def F.MBX_SB_META.SOP : Fld := ⟨0x311008, 0, 1, 0⟩

/-- MBX_SB_STATUS.WORDS. -/
def F.MBX_SB_STATUS.WORDS : Fld := ⟨0x311010, 12, 10, 0⟩

/-- MBX_SB_STATUS.MARK_VALID. -/
def F.MBX_SB_STATUS.MARK_VALID : Fld := ⟨0x311010, 6, 1, 0⟩

/-- MBX_SB_STATUS.OVERFLOW. -/
def F.MBX_SB_STATUS.OVERFLOW : Fld := ⟨0x311010, 5, 1, 0⟩

/-- MBX_SB_STATUS.TORN. -/
def F.MBX_SB_STATUS.TORN : Fld := ⟨0x311010, 4, 1, 0⟩

/-- MBX_SB_STATUS.MARK_LOST. -/
def F.MBX_SB_STATUS.MARK_LOST : Fld := ⟨0x311010, 3, 1, 0⟩

/-- MBX_SB_STATUS.UNDERRUN. -/
def F.MBX_SB_STATUS.UNDERRUN : Fld := ⟨0x311010, 2, 1, 0⟩

/-- MBX_SB_STATUS.MID. -/
def F.MBX_SB_STATUS.MID : Fld := ⟨0x311010, 1, 1, 0⟩

/-- MBX_SB_STATUS.EMPTY. -/
def F.MBX_SB_STATUS.EMPTY : Fld := ⟨0x311010, 0, 1, 1⟩

/-- MBX_SB_CTRL.FLUSH. -/
def F.MBX_SB_CTRL.FLUSH : Fld := ⟨0x311018, 2, 1, 0⟩

/-- MBX_SB_CTRL.REWIND. -/
def F.MBX_SB_CTRL.REWIND : Fld := ⟨0x311018, 1, 1, 0⟩

/-- MBX_SB_CTRL.MARK. -/
def F.MBX_SB_CTRL.MARK : Fld := ⟨0x311018, 0, 1, 0⟩

/-- MBX_SB_ECC.CE. -/
def F.MBX_SB_ECC.CE : Fld := ⟨0x311020, 16, 16, 0⟩

/-- MBX_SB_ECC.UE. -/
def F.MBX_SB_ECC.UE : Fld := ⟨0x311020, 0, 16, 0⟩

/-- MBX_SB_COUNT.DROPPED. -/
def F.MBX_SB_COUNT.DROPPED : Fld := ⟨0x311028, 16, 16, 0⟩

/-- MBX_SB_COUNT.PACKETS. -/
def F.MBX_SB_COUNT.PACKETS : Fld := ⟨0x311028, 0, 16, 0⟩

/-- MBX_CH_BIND.MSIX. -/
def F.MBX_CH_BIND.MSIX (j : Nat) : Fld := ⟨0x310100 + 0x40 * j, 16, 8, 0⟩

/-- MBX_CH_BIND.SLOT. -/
def F.MBX_CH_BIND.SLOT (j : Nat) : Fld := ⟨0x310100 + 0x40 * j, 8, 6, 0⟩

/-- MBX_CH_BIND.KIND. -/
def F.MBX_CH_BIND.KIND (j : Nat) : Fld := ⟨0x310100 + 0x40 * j, 0, 3, if j = 15 then 7 else 0⟩

/-- MBX_CH_STATUS.OUT_LEN. -/
def F.MBX_CH_STATUS.OUT_LEN (j : Nat) : Fld := ⟨0x310108 + 0x40 * j, 32, 13, 0⟩

/-- MBX_CH_STATUS.IN_LEN. -/
def F.MBX_CH_STATUS.IN_LEN (j : Nat) : Fld := ⟨0x310108 + 0x40 * j, 16, 13, 0⟩

/-- MBX_CH_STATUS.OUT_ABORT. -/
def F.MBX_CH_STATUS.OUT_ABORT (j : Nat) : Fld := ⟨0x310108 + 0x40 * j, 7, 1, 0⟩

/-- MBX_CH_STATUS.IN_ABORT. -/
def F.MBX_CH_STATUS.IN_ABORT (j : Nat) : Fld := ⟨0x310108 + 0x40 * j, 6, 1, 0⟩

/-- MBX_CH_STATUS.OUT_ERR. -/
def F.MBX_CH_STATUS.OUT_ERR (j : Nat) : Fld := ⟨0x310108 + 0x40 * j, 5, 1, 0⟩

/-- MBX_CH_STATUS.IN_ERR. -/
def F.MBX_CH_STATUS.IN_ERR (j : Nat) : Fld := ⟨0x310108 + 0x40 * j, 4, 1, 0⟩

/-- MBX_CH_STATUS.OUT_FULL. -/
def F.MBX_CH_STATUS.OUT_FULL (j : Nat) : Fld := ⟨0x310108 + 0x40 * j, 1, 1, 0⟩

/-- MBX_CH_STATUS.IN_FULL. -/
def F.MBX_CH_STATUS.IN_FULL (j : Nat) : Fld := ⟨0x310108 + 0x40 * j, 0, 1, 0⟩

/-- MBX_CH_DOORBELL.LEN. -/
def F.MBX_CH_DOORBELL.LEN (j : Nat) : Fld := ⟨0x310110 + 0x40 * j, 16, 13, 0⟩

/-- MBX_CH_DOORBELL.OUT_TAKEN. -/
def F.MBX_CH_DOORBELL.OUT_TAKEN (j : Nat) : Fld := ⟨0x310110 + 0x40 * j, 3, 1, 0⟩

/-- MBX_CH_DOORBELL.OUT_POST. -/
def F.MBX_CH_DOORBELL.OUT_POST (j : Nat) : Fld := ⟨0x310110 + 0x40 * j, 2, 1, 0⟩

/-- MBX_CH_DOORBELL.IN_TAKEN. -/
def F.MBX_CH_DOORBELL.IN_TAKEN (j : Nat) : Fld := ⟨0x310110 + 0x40 * j, 1, 1, 0⟩

/-- MBX_CH_DOORBELL.IN_POST. -/
def F.MBX_CH_DOORBELL.IN_POST (j : Nat) : Fld := ⟨0x310110 + 0x40 * j, 0, 1, 0⟩

/-- MBX_CH_IRQ.FAR_POST_EN. -/
def F.MBX_CH_IRQ.FAR_POST_EN (j : Nat) : Fld := ⟨0x310118 + 0x40 * j, 1, 1, 0⟩

/-- MBX_CH_IRQ.FAR_EMPTY_EN. -/
def F.MBX_CH_IRQ.FAR_EMPTY_EN (j : Nat) : Fld := ⟨0x310118 + 0x40 * j, 0, 1, 0⟩

/-- MBX_CH15_CLAIM.HELD. -/
def F.MBX_CH15_CLAIM.HELD : Fld := ⟨0x3104e0, 31, 1, 0⟩

/-- MBX_CH15_CLAIM.CLAIM. -/
def F.MBX_CH15_CLAIM.CLAIM : Fld := ⟨0x3104e0, 7, 1, 0⟩

/-- MBX_CH15_CLAIM.BUSY. -/
def F.MBX_CH15_CLAIM.BUSY : Fld := ⟨0x3104e0, 6, 1, 0⟩

/-- MBX_CH15_CLAIM.OWNER. -/
def F.MBX_CH15_CLAIM.OWNER : Fld := ⟨0x3104e0, 0, 6, 0⟩

/-- MBX_CH15_OUT_DEST.VALID. -/
def F.MBX_CH15_OUT_DEST.VALID : Fld := ⟨0x3104e8, 6, 1, 0⟩

/-- MBX_CH15_OUT_DEST.SLOT. -/
def F.MBX_CH15_OUT_DEST.SLOT : Fld := ⟨0x3104e8, 0, 6, 0⟩

/-- SEC_STATUS.ARB_COUNT. -/
def F.SEC_STATUS.ARB_COUNT : Fld := ⟨0x320000, 56, 8, 0⟩

/-- SEC_STATUS.RUN_SVN. -/
def F.SEC_STATUS.RUN_SVN : Fld := ⟨0x320000, 48, 8, 0⟩

/-- SEC_STATUS.UNLOCK_FAILS. -/
def F.SEC_STATUS.UNLOCK_FAILS : Fld := ⟨0x320000, 32, 2, 0⟩

/-- SEC_STATUS.FUSE_WEAK. -/
def F.SEC_STATUS.FUSE_WEAK : Fld := ⟨0x320000, 8, 1, 0⟩

/-- SEC_STATUS.RECOVERY. -/
def F.SEC_STATUS.RECOVERY : Fld := ⟨0x320000, 7, 1, 0⟩

/-- SEC_STATUS.FALLBACK. -/
def F.SEC_STATUS.FALLBACK : Fld := ⟨0x320000, 6, 1, 0⟩

/-- SEC_STATUS.DIK_FAIL. -/
def F.SEC_STATUS.DIK_FAIL : Fld := ⟨0x320000, 5, 1, 0⟩

/-- SEC_STATUS.DEBUG_OPEN. -/
def F.SEC_STATUS.DEBUG_OPEN : Fld := ⟨0x320000, 4, 1, 0⟩

/-- SEC_STATUS.MFG_LOCK. -/
def F.SEC_STATUS.MFG_LOCK : Fld := ⟨0x320000, 3, 1, 0⟩

/-- SEC_STATUS.RUN_SLOT. -/
def F.SEC_STATUS.RUN_SLOT : Fld := ⟨0x320000, 2, 1, 0⟩

/-- SEC_STATUS.FUSE_BUSY. -/
def F.SEC_STATUS.FUSE_BUSY : Fld := ⟨0x320000, 1, 1, 0⟩

/-- SEC_STATUS.FLASH_BUSY. -/
def F.SEC_STATUS.FLASH_BUSY : Fld := ⟨0x320000, 0, 1, 0⟩

/-- SEC_BOOT.RUN_VERSION. -/
def F.SEC_BOOT.RUN_VERSION : Fld := ⟨0x320008, 32, 32, 0⟩

/-- SEC_BOOT.BCTL_SEQ. -/
def F.SEC_BOOT.BCTL_SEQ : Fld := ⟨0x320008, 0, 32, 0⟩

/-- SEC_BOOT_TRY.SEQ. -/
def F.SEC_BOOT_TRY.SEQ : Fld := ⟨0x320010, 32, 32, 0⟩

/-- SEC_BOOT_TRY.TRIED. -/
def F.SEC_BOOT_TRY.TRIED : Fld := ⟨0x320010, 0, 1, 0⟩

/-- SEC_FUSE.BITS. -/
def F.SEC_FUSE.BITS (j : Nat) : Fld := ⟨0x320100 + 0x8 * j, 0, 64, 0⟩

/-- ERR_STATUS.DROPPED. -/
def F.ERR_STATUS.DROPPED : Fld := ⟨0x330000, 48, 16, 0⟩

/-- ERR_STATUS.NEXT_SEQ. -/
def F.ERR_STATUS.NEXT_SEQ : Fld := ⟨0x330000, 32, 16, 1⟩

/-- ERR_STATUS.QCOUNT. -/
def F.ERR_STATUS.QCOUNT : Fld := ⟨0x330000, 16, 8, 0⟩

/-- ERR_STATUS.FATAL_MORE. -/
def F.ERR_STATUS.FATAL_MORE : Fld := ⟨0x330000, 8, 8, 0⟩

/-- ERR_STATUS.VIRAL. -/
def F.ERR_STATUS.VIRAL : Fld := ⟨0x330000, 3, 1, 0⟩

/-- ERR_STATUS.FATAL_VALID. -/
def F.ERR_STATUS.FATAL_VALID : Fld := ⟨0x330000, 2, 1, 0⟩

/-- ERR_STATUS.FIRST_VALID. -/
def F.ERR_STATUS.FIRST_VALID : Fld := ⟨0x330000, 1, 1, 0⟩

/-- ERR_STATUS.OVERFLOW. -/
def F.ERR_STATUS.OVERFLOW : Fld := ⟨0x330000, 0, 1, 0⟩

/-- ERR_FIRST.WORD. -/
def F.ERR_FIRST.WORD (j : Nat) : Fld := ⟨0x330010 + 0x8 * j, 0, 64, 0⟩

/-- ERR_FATAL.WORD. -/
def F.ERR_FATAL.WORD (j : Nat) : Fld := ⟨0x330040 + 0x8 * j, 0, 64, 0⟩

/-- ERR_AON_LAST.WORD. -/
def F.ERR_AON_LAST.WORD (j : Nat) : Fld := ⟨0x330100 + 0x8 * j, 0, 64, 0⟩

/-- ERR_Q.WORD. -/
def F.ERR_Q.WORD (j : Nat) : Fld := ⟨0x331000 + 0x8 * j, 0, 64, 0⟩

/-- TB_TRANSIT.NUMBER. -/
def F.TB_TRANSIT.NUMBER : Fld := ⟨0x400100, 0, 64, 0⟩

/-- TB_OVR_COUNT.SAT. -/
def F.TB_OVR_COUNT.SAT : Fld := ⟨0x400108, 31, 1, 0⟩

/-- TB_OVR_COUNT.COUNT. -/
def F.TB_OVR_COUNT.COUNT : Fld := ⟨0x400108, 0, 31, 0⟩

/-- TB_OVR_LAST.TRANSIT. -/
def F.TB_OVR_LAST.TRANSIT : Fld := ⟨0x400110, 32, 32, 0⟩

/-- TB_OVR_LAST.VALID. -/
def F.TB_OVR_LAST.VALID : Fld := ⟨0x400110, 31, 1, 0⟩

/-- TB_OVR_LAST.CONSEC. -/
def F.TB_OVR_LAST.CONSEC : Fld := ⟨0x400110, 16, 8, 0⟩

/-- TB_OVR_LAST.INSTANCE. -/
def F.TB_OVR_LAST.INSTANCE : Fld := ⟨0x400110, 8, 8, 0⟩

/-- TB_OVR_LAST.JOB_ID. -/
def F.TB_OVR_LAST.JOB_ID : Fld := ⟨0x400110, 0, 8, 0⟩

/-- TB_NOW.TB. -/
def F.TB_NOW.TB : Fld := ⟨0x400000, 0, 64, 0⟩

/-- TB_STATUS.SLEWING. -/
def F.TB_STATUS.SLEWING : Fld := ⟨0x400008, 9, 1, 0⟩

/-- TB_STATUS.STEPPED. -/
def F.TB_STATUS.STEPPED : Fld := ⟨0x400008, 8, 1, 0⟩

/-- TB_STATUS.PTM_LINK. -/
def F.TB_STATUS.PTM_LINK : Fld := ⟨0x400008, 4, 4, 0⟩

/-- TB_STATUS.SOURCE. -/
def F.TB_STATUS.SOURCE : Fld := ⟨0x400008, 2, 1, 0⟩

/-- TB_STATUS.LOCKED. -/
def F.TB_STATUS.LOCKED : Fld := ⟨0x400008, 1, 1, 0⟩

/-- TB_STATUS.COARSE. -/
def F.TB_STATUS.COARSE : Fld := ⟨0x400008, 0, 1, 0⟩

/-- TB_DISC.OFFSET_NS. -/
def F.TB_DISC.OFFSET_NS : Fld := ⟨0x400010, 32, 32, 0⟩

/-- TB_DISC.INTERVAL_MS. -/
def F.TB_DISC.INTERVAL_MS : Fld := ⟨0x400010, 0, 8, 10⟩

/-- TB_XTAL.TRIM. -/
def F.TB_XTAL.TRIM : Fld := ⟨0x400018, 0, 32, 0⟩

/-- PWR_PL_STATUS.BUSY. -/
def F.PWR_PL_STATUS.BUSY : Fld := ⟨0x410000, 16, 1, 0⟩

/-- PWR_PL_STATUS.THERMAL_MIN. -/
def F.PWR_PL_STATUS.THERMAL_MIN : Fld := ⟨0x410000, 8, 3, 0⟩

/-- PWR_PL_STATUS.REQUESTED. -/
def F.PWR_PL_STATUS.REQUESTED : Fld := ⟨0x410000, 4, 3, 0⟩

/-- PWR_PL_STATUS.CURRENT. -/
def F.PWR_PL_STATUS.CURRENT : Fld := ⟨0x410000, 0, 3, 0⟩

/-- PWR_SL_STATUS.ENTRIES. -/
def F.PWR_SL_STATUS.ENTRIES : Fld := ⟨0x410008, 32, 32, 0⟩

/-- PWR_SL_STATUS.BROWNOUT. -/
def F.PWR_SL_STATUS.BROWNOUT : Fld := ⟨0x410008, 16, 1, 0⟩

/-- PWR_SL_STATUS.LAST_REFUSED. -/
def F.PWR_SL_STATUS.LAST_REFUSED : Fld := ⟨0x410008, 8, 8, 0⟩

/-- PWR_SL_STATUS.IN_ENTRY. -/
def F.PWR_SL_STATUS.IN_ENTRY : Fld := ⟨0x410008, 2, 1, 0⟩

/-- PWR_SL_STATUS.STATE. -/
def F.PWR_SL_STATUS.STATE : Fld := ⟨0x410008, 0, 2, 0⟩

/-- PWR_WAKE_EN.SRC. -/
def F.PWR_WAKE_EN.SRC : Fld := ⟨0x410010, 0, 10, 0x1C1⟩

/-- PWR_WAKE_STATUS.SRC. -/
def F.PWR_WAKE_STATUS.SRC : Fld := ⟨0x410018, 0, 10, 0⟩

/-- PWR_WAKE_TIMER.TB. -/
def F.PWR_WAKE_TIMER.TB : Fld := ⟨0x410020, 0, 64, 0⟩

/-- PWR_SL3_CFG.LOAD_EST. -/
def F.PWR_SL3_CFG.LOAD_EST : Fld := ⟨0x410028, 22, 10, 0⟩

/-- PWR_SL3_CFG.SURVEY. -/
def F.PWR_SL3_CFG.SURVEY : Fld := ⟨0x410028, 16, 5, 4⟩

/-- PWR_SL3_CFG.SIDEBAND. -/
def F.PWR_SL3_CFG.SIDEBAND : Fld := ⟨0x410028, 8, 1, 1⟩

/-- PWR_SL3_CFG.LINK. -/
def F.PWR_SL3_CFG.LINK : Fld := ⟨0x410028, 0, 4, 0⟩

/-- PWR_PL_CFG.VOLT_MV. -/
def F.PWR_PL_CFG.VOLT_MV (j : Nat) : Fld := ⟨0x410100 + 0x8 * j, 16, 10, plVolt j⟩

/-- PWR_PL_CFG.FREQ_MHZ. -/
def F.PWR_PL_CFG.FREQ_MHZ (j : Nat) : Fld := ⟨0x410100 + 0x8 * j, 0, 12, plFreq j⟩

/-- PWR_RESET_CAUSE.CHAN. -/
def F.PWR_RESET_CAUSE.CHAN : Fld := ⟨0x410030, 48, 16, 0⟩

/-- PWR_RESET_CAUSE.LAST. -/
def F.PWR_RESET_CAUSE.LAST : Fld := ⟨0x410030, 40, 8, 1⟩

/-- PWR_RESET_CAUSE.MGT_WHY. -/
def F.PWR_RESET_CAUSE.MGT_WHY : Fld := ⟨0x410030, 32, 8, 0⟩

/-- PWR_RESET_CAUSE.CORE_WHY. -/
def F.PWR_RESET_CAUSE.CORE_WHY : Fld := ⟨0x410030, 24, 8, 0⟩

/-- PWR_RESET_CAUSE.CRYPTO. -/
def F.PWR_RESET_CAUSE.CRYPTO : Fld := ⟨0x410030, 5, 1, 0⟩

/-- PWR_RESET_CAUSE.MGT. -/
def F.PWR_RESET_CAUSE.MGT : Fld := ⟨0x410030, 4, 1, 0⟩

/-- PWR_RESET_CAUSE.CORE. -/
def F.PWR_RESET_CAUSE.CORE : Fld := ⟨0x410030, 3, 1, 0⟩

/-- PWR_RESET_CAUSE.BROWNOUT. -/
def F.PWR_RESET_CAUSE.BROWNOUT : Fld := ⟨0x410030, 2, 1, 0⟩

/-- PWR_RESET_CAUSE.POWERON. -/
def F.PWR_RESET_CAUSE.POWERON : Fld := ⟨0x410030, 1, 1, 1⟩

/-- THM_CFG.LOCK. -/
def F.THM_CFG.LOCK : Fld := ⟨0x420000, 63, 1, 0⟩

/-- THM_CFG.RESTART_C. -/
def F.THM_CFG.RESTART_C : Fld := ⟨0x420000, 48, 8, 95⟩

/-- THM_CFG.REF_SHUT_C. -/
def F.THM_CFG.REF_SHUT_C : Fld := ⟨0x420000, 40, 8, 120⟩

/-- THM_CFG.SHUT_C. -/
def F.THM_CFG.SHUT_C : Fld := ⟨0x420000, 32, 8, 130⟩

/-- THM_CFG.WARN_C. -/
def F.THM_CFG.WARN_C : Fld := ⟨0x420000, 24, 8, 118⟩

/-- THM_CFG.THROTTLE_C. -/
def F.THM_CFG.THROTTLE_C : Fld := ⟨0x420000, 16, 8, 110⟩

/-- THM_CFG.HYST. -/
def F.THM_CFG.HYST : Fld := ⟨0x420000, 12, 4, 5⟩

/-- THM_CFG.RELEASE_ROUNDS. -/
def F.THM_CFG.RELEASE_ROUNDS : Fld := ⟨0x420000, 8, 4, 10⟩

/-- THM_CFG.CAP_FLOOR. -/
def F.THM_CFG.CAP_FLOOR : Fld := ⟨0x420000, 0, 8, 8⟩

/-- THM_STATUS.TJ_MAX. -/
def F.THM_STATUS.TJ_MAX : Fld := ⟨0x420008, 48, 16, 0⟩

/-- THM_STATUS.T_REF. -/
def F.THM_STATUS.T_REF : Fld := ⟨0x420008, 32, 16, 0⟩

/-- THM_STATUS.HOT_ZONE. -/
def F.THM_STATUS.HOT_ZONE : Fld := ⟨0x420008, 28, 4, 0⟩

/-- THM_STATUS.RELEASE_CNT. -/
def F.THM_STATUS.RELEASE_CNT : Fld := ⟨0x420008, 24, 4, 0⟩

/-- THM_STATUS.CAP. -/
def F.THM_STATUS.CAP : Fld := ⟨0x420008, 16, 8, 32⟩

/-- THM_STATUS.REF_SUBST. -/
def F.THM_STATUS.REF_SUBST : Fld := ⟨0x420008, 3, 1, 0⟩

/-- THM_STATUS.REF_FAIL. -/
def F.THM_STATUS.REF_FAIL : Fld := ⟨0x420008, 2, 1, 0⟩

/-- THM_STATUS.WARN. -/
def F.THM_STATUS.WARN : Fld := ⟨0x420008, 1, 1, 0⟩

/-- THM_STATUS.THROTTLED. -/
def F.THM_STATUS.THROTTLED : Fld := ⟨0x420008, 0, 1, 0⟩

/-- THM_TRIP_LAST.TB_HI. -/
def F.THM_TRIP_LAST.TB_HI : Fld := ⟨0x420010, 32, 32, 0⟩

/-- THM_TRIP_LAST.TEMP. -/
def F.THM_TRIP_LAST.TEMP : Fld := ⟨0x420010, 16, 16, 0⟩

/-- THM_TRIP_LAST.COUNT_24H. -/
def F.THM_TRIP_LAST.COUNT_24H : Fld := ⟨0x420010, 8, 8, 0⟩

/-- THM_TRIP_LAST.ZONE. -/
def F.THM_TRIP_LAST.ZONE : Fld := ⟨0x420010, 4, 4, 0⟩

/-- THM_TRIP_LAST.CAUSE. -/
def F.THM_TRIP_LAST.CAUSE : Fld := ⟨0x420010, 2, 2, 0⟩

/-- THM_TRIP_LAST.VALID. -/
def F.THM_TRIP_LAST.VALID : Fld := ⟨0x420010, 0, 1, 0⟩

/-- THM_ZONE.TJ. -/
def F.THM_ZONE.TJ (j : Nat) : Fld := ⟨0x420100 + 0x8 * j, 48, 16, 0⟩

/-- THM_ZONE.DT. -/
def F.THM_ZONE.DT (j : Nat) : Fld := ⟨0x420100 + 0x8 * j, 32, 16, 0⟩

/-- THM_ZONE.P_MW. -/
def F.THM_ZONE.P_MW (j : Nat) : Fld := ⟨0x420100 + 0x8 * j, 0, 32, 0⟩

/-- THM_R.R. -/
def F.THM_R.R (j : Nat) : Fld := ⟨0x420200 + 0x4 * j, 0, 16, if j / 12 = j % 12 then 1000 else 100⟩

/-- THM_ZONE_CFG.SLEEP_MW. -/
def F.THM_ZONE_CFG.SLEEP_MW (j : Nat) : Fld := ⟨0x420500 + 0x8 * j, 16, 26, 0⟩

/-- THM_ZONE_CFG.TAU_MS. -/
def F.THM_ZONE_CFG.TAU_MS (j : Nat) : Fld := ⟨0x420500 + 0x8 * j, 0, 10, 20⟩

/-- HK_SURVEY.STALE. -/
def F.HK_SURVEY.STALE (j : Nat) : Fld := ⟨0x430000 + 0x8 * j, 31, 1, 1⟩

/-- HK_SURVEY.VALUE. -/
def F.HK_SURVEY.VALUE (j : Nat) : Fld := ⟨0x430000 + 0x8 * j, 0, 24, 0⟩

/-- HK_REMARGIN_CFG.SD_MIN_H. -/
def F.HK_REMARGIN_CFG.SD_MIN_H : Fld := ⟨0x430200, 40, 8, 8⟩

/-- HK_REMARGIN_CFG.SD_MIN_W. -/
def F.HK_REMARGIN_CFG.SD_MIN_W : Fld := ⟨0x430200, 32, 8, 8⟩

/-- HK_REMARGIN_CFG.PERIOD_S. -/
def F.HK_REMARGIN_CFG.PERIOD_S : Fld := ⟨0x430200, 12, 20, 3600⟩

/-- HK_REMARGIN_CFG.ENABLE. -/
def F.HK_REMARGIN_CFG.ENABLE : Fld := ⟨0x430200, 0, 1, 1⟩

/-- HK_REMARGIN_STATUS.PASSES. -/
def F.HK_REMARGIN_STATUS.PASSES : Fld := ⟨0x430208, 32, 32, 0⟩

/-- HK_REMARGIN_STATUS.SKIPPED. -/
def F.HK_REMARGIN_STATUS.SKIPPED : Fld := ⟨0x430208, 16, 16, 0⟩

/-- HK_REMARGIN_STATUS.BUSY. -/
def F.HK_REMARGIN_STATUS.BUSY : Fld := ⟨0x430208, 7, 1, 0⟩

/-- HK_REMARGIN_STATUS.TARGET. -/
def F.HK_REMARGIN_STATUS.TARGET : Fld := ⟨0x430208, 0, 6, 0⟩

/-- HK_AGE.AGE_MIN. -/
def F.HK_AGE.AGE_MIN : Fld := ⟨0x430210, 16, 3, 0⟩

/-- HK_AGE.A_PPM. -/
def F.HK_AGE.A_PPM : Fld := ⟨0x430210, 0, 16, 0⟩

/-- HK_LOG_STATUS.DROPS. -/
def F.HK_LOG_STATUS.DROPS : Fld := ⟨0x430218, 16, 16, 0⟩

/-- HK_LOG_STATUS.QUEUED. -/
def F.HK_LOG_STATUS.QUEUED : Fld := ⟨0x430218, 8, 8, 0⟩

/-- HK_LOG_STATUS.SECTOR. -/
def F.HK_LOG_STATUS.SECTOR : Fld := ⟨0x430218, 4, 4, 0⟩

/-- SPW_SLOT_CFG.LOCK. -/
def F.SPW_SLOT_CFG.LOCK (j : Nat) : Fld := ⟨0x440000 + 0x40 * j, 63, 1, 0⟩

/-- SPW_SLOT_CFG.SENSE_NOHM. -/
def F.SPW_SLOT_CFG.SENSE_NOHM (j : Nat) : Fld := ⟨0x440000 + 0x40 * j, 32, 24, 1000000⟩

/-- SPW_SLOT_CFG.ILIM. -/
def F.SPW_SLOT_CFG.ILIM (j : Nat) : Fld := ⟨0x440000 + 0x40 * j, 24, 8, 100⟩

/-- SPW_SLOT_CFG.FAULT_T. -/
def F.SPW_SLOT_CFG.FAULT_T (j : Nat) : Fld := ⟨0x440000 + 0x40 * j, 16, 8, 20⟩

/-- SPW_SLOT_CFG.INS_DELAY. -/
def F.SPW_SLOT_CFG.INS_DELAY (j : Nat) : Fld := ⟨0x440000 + 0x40 * j, 8, 8, 20⟩

/-- SPW_SLOT_CFG.GATE_I. -/
def F.SPW_SLOT_CFG.GATE_I (j : Nat) : Fld := ⟨0x440000 + 0x40 * j, 4, 4, 4⟩

/-- SPW_SLOT_CFG.PG_DELAY. -/
def F.SPW_SLOT_CFG.PG_DELAY (j : Nat) : Fld := ⟨0x440000 + 0x40 * j, 0, 4, 10⟩

/-- SPW_SLOT_STATUS.FAULTS. -/
def F.SPW_SLOT_STATUS.FAULTS (j : Nat) : Fld := ⟨0x440008 + 0x40 * j, 24, 8, 0⟩

/-- SPW_SLOT_STATUS.LAST_FAULT. -/
def F.SPW_SLOT_STATUS.LAST_FAULT (j : Nat) : Fld := ⟨0x440008 + 0x40 * j, 16, 8, 0⟩

/-- SPW_SLOT_STATUS.SPD_ERR. -/
def F.SPW_SLOT_STATUS.SPD_ERR (j : Nat) : Fld := ⟨0x440008 + 0x40 * j, 11, 1, 0⟩

/-- SPW_SLOT_STATUS.SPD_DONE. -/
def F.SPW_SLOT_STATUS.SPD_DONE (j : Nat) : Fld := ⟨0x440008 + 0x40 * j, 10, 1, 0⟩

/-- SPW_SLOT_STATUS.PRSNT1. -/
def F.SPW_SLOT_STATUS.PRSNT1 (j : Nat) : Fld := ⟨0x440008 + 0x40 * j, 9, 1, 0⟩

/-- SPW_SLOT_STATUS.PRSNT0. -/
def F.SPW_SLOT_STATUS.PRSNT0 (j : Nat) : Fld := ⟨0x440008 + 0x40 * j, 8, 1, 0⟩

/-- SPW_SLOT_STATUS.TIMER. -/
def F.SPW_SLOT_STATUS.TIMER (j : Nat) : Fld := ⟨0x440008 + 0x40 * j, 6, 1, 0⟩

/-- SPW_SLOT_STATUS.LIMITING. -/
def F.SPW_SLOT_STATUS.LIMITING (j : Nat) : Fld := ⟨0x440008 + 0x40 * j, 5, 1, 0⟩

/-- SPW_SLOT_STATUS.PG. -/
def F.SPW_SLOT_STATUS.PG (j : Nat) : Fld := ⟨0x440008 + 0x40 * j, 4, 1, 0⟩

/-- SPW_SLOT_STATUS.STATE. -/
def F.SPW_SLOT_STATUS.STATE (j : Nat) : Fld := ⟨0x440008 + 0x40 * j, 0, 3, 0⟩

/-- SPW_SLOT_METER.CURRENT. -/
def F.SPW_SLOT_METER.CURRENT (j : Nat) : Fld := ⟨0x440010 + 0x40 * j, 32, 32, 0⟩

/-- SPW_SLOT_METER.VOUT. -/
def F.SPW_SLOT_METER.VOUT (j : Nat) : Fld := ⟨0x440010 + 0x40 * j, 16, 16, 0⟩

/-- SPW_SLOT_METER.VIN. -/
def F.SPW_SLOT_METER.VIN (j : Nat) : Fld := ⟨0x440010 + 0x40 * j, 0, 16, 0⟩

/-- SPW_SLOT_POWER.POWER. -/
def F.SPW_SLOT_POWER.POWER (j : Nat) : Fld := ⟨0x440018 + 0x40 * j, 0, 32, 0⟩

/-- SPW_SLOT_ENERGY.ENERGY. -/
def F.SPW_SLOT_ENERGY.ENERGY (j : Nat) : Fld := ⟨0x440020 + 0x40 * j, 0, 64, 0⟩

/-- SPW_SLOT_ID.SERIAL1. -/
def F.SPW_SLOT_ID.SERIAL1 (j : Nat) : Fld := ⟨0x440028 + 0x40 * j, 32, 32, 0⟩

/-- SPW_SLOT_ID.SERIAL0. -/
def F.SPW_SLOT_ID.SERIAL0 (j : Nat) : Fld := ⟨0x440028 + 0x40 * j, 0, 32, 0⟩

/-- PMU_CTRL.PLATE. -/
def F.PMU_CTRL.PLATE : Fld := ⟨0x450000, 16, 1, 0⟩

/-- PMU_CTRL.PERIOD_MS. -/
def F.PMU_CTRL.PERIOD_MS : Fld := ⟨0x450000, 0, 16, 0⟩

/-- PMU_STATUS.PLATE_NO. -/
def F.PMU_STATUS.PLATE_NO : Fld := ⟨0x450008, 32, 32, 0⟩

/-- PMU_STATUS.CE. -/
def F.PMU_STATUS.CE : Fld := ⟨0x450008, 16, 16, 0⟩

/-- PMU_STATUS.UE. -/
def F.PMU_STATUS.UE : Fld := ⟨0x450008, 0, 16, 0⟩

/-- PMU_SLOT_TRANSIT.TRANSIT. -/
def F.PMU_SLOT_TRANSIT.TRANSIT : Fld := ⟨0x450010, 0, 64, 0⟩

/-- PMU_SLOT_A.REFRESH. -/
def F.PMU_SLOT_A.REFRESH (j : Nat) : Fld := ⟨0x450100 + 0x10 * j, 48, 16, 0⟩

/-- PMU_SLOT_A.MAINT. -/
def F.PMU_SLOT_A.MAINT (j : Nat) : Fld := ⟨0x450100 + 0x10 * j, 32, 16, 0⟩

/-- PMU_SLOT_A.WR. -/
def F.PMU_SLOT_A.WR (j : Nat) : Fld := ⟨0x450100 + 0x10 * j, 16, 16, 0⟩

/-- PMU_SLOT_A.RD. -/
def F.PMU_SLOT_A.RD (j : Nat) : Fld := ⟨0x450100 + 0x10 * j, 0, 16, 0⟩

/-- PMU_SLOT_B.IDLE. -/
def F.PMU_SLOT_B.IDLE (j : Nat) : Fld := ⟨0x450108 + 0x10 * j, 48, 16, 0⟩

/-- PMU_SLOT_B.THROTTLED. -/
def F.PMU_SLOT_B.THROTTLED (j : Nat) : Fld := ⟨0x450108 + 0x10 * j, 32, 16, 0⟩

/-- PMU_SLOT_B.BANK. -/
def F.PMU_SLOT_B.BANK (j : Nat) : Fld := ⟨0x450108 + 0x10 * j, 16, 16, 0⟩

/-- PMU_SLOT_B.TURN. -/
def F.PMU_SLOT_B.TURN (j : Nat) : Fld := ⟨0x450108 + 0x10 * j, 0, 16, 0⟩

/-- PMU_CTR_CFG.ENABLE. -/
def F.PMU_CTR_CFG.ENABLE (j : Nat) : Fld := ⟨0x451000 + 0x10 * j, 63, 1, 0⟩

/-- PMU_CTR_CFG.CHAIN. -/
def F.PMU_CTR_CFG.CHAIN (j : Nat) : Fld := ⟨0x451000 + 0x10 * j, 62, 1, 0⟩

/-- PMU_CTR_CFG.PLATE_ON_OVF. -/
def F.PMU_CTR_CFG.PLATE_ON_OVF (j : Nat) : Fld := ⟨0x451000 + 0x10 * j, 61, 1, 0⟩

/-- PMU_CTR_CFG.USER. -/
def F.PMU_CTR_CFG.USER (j : Nat) : Fld := ⟨0x451000 + 0x10 * j, 60, 1, 0⟩

/-- PMU_CTR_CFG.ALL. -/
def F.PMU_CTR_CFG.ALL (j : Nat) : Fld := ⟨0x451000 + 0x10 * j, 24, 1, 0⟩

/-- PMU_CTR_CFG.INSTANCE. -/
def F.PMU_CTR_CFG.INSTANCE (j : Nat) : Fld := ⟨0x451000 + 0x10 * j, 16, 8, 0⟩

/-- PMU_CTR_CFG.EVENT. -/
def F.PMU_CTR_CFG.EVENT (j : Nat) : Fld := ⟨0x451000 + 0x10 * j, 0, 12, 0⟩

/-- PMU_CTR_VALUE.VALID. -/
def F.PMU_CTR_VALUE.VALID (j : Nat) : Fld := ⟨0x451008 + 0x10 * j, 63, 1, 1⟩

/-- PMU_CTR_VALUE.OVF. -/
def F.PMU_CTR_VALUE.OVF (j : Nat) : Fld := ⟨0x451008 + 0x10 * j, 62, 1, 0⟩

/-- PMU_CTR_VALUE.VALUE. -/
def F.PMU_CTR_VALUE.VALUE (j : Nat) : Fld := ⟨0x451008 + 0x10 * j, 0, 48, 0⟩

/-- AQ_IDENT.CLUTCH_ID. -/
def F.AQ_IDENT.CLUTCH_ID (j : Nat) : Fld := ⟨0x10000000c + 0x1000 * j, 16, 16, 0⟩

/-- AQ_IDENT.CLUTCH_LEVEL. -/
def F.AQ_IDENT.CLUTCH_LEVEL (j : Nat) : Fld := ⟨0x10000000c + 0x1000 * j, 14, 2, 0⟩

/-- AQ_IDENT.MEMBER_PATH. -/
def F.AQ_IDENT.MEMBER_PATH (j : Nat) : Fld := ⟨0x10000000c + 0x1000 * j, 8, 6, 0⟩

/-- AQ_IDENT.SI_REV. -/
def F.AQ_IDENT.SI_REV (j : Nat) : Fld := ⟨0x10000000c + 0x1000 * j, 0, 8, 0⟩

/-- AQ_AGENT.STATE. -/
def F.AQ_AGENT.STATE (j : Nat) : Fld := ⟨0x100000010 + 0x1000 * j, 16, 3, 0⟩

/-- AQ_AGENT.HAN_VALID. -/
def F.AQ_AGENT.HAN_VALID (j : Nat) : Fld := ⟨0x100000010 + 0x1000 * j, 14, 1, 0⟩

/-- AQ_AGENT.HAN. -/
def F.AQ_AGENT.HAN (j : Nat) : Fld := ⟨0x100000010 + 0x1000 * j, 8, 6, 0⟩

/-- AQ_AGENT.LOCAL_SLOT. -/
def F.AQ_AGENT.LOCAL_SLOT (j : Nat) : Fld := ⟨0x100000010 + 0x1000 * j, 0, 6, j⟩

/-- AQ_STREAM_CTRL.STREAM_BITS. -/
def F.AQ_STREAM_CTRL.STREAM_BITS (j : Nat) : Fld := ⟨0x100000014 + 0x1000 * j, 0, 3, 0⟩

/-- AQ_PMU_LOC.OFFSET. -/
def F.AQ_PMU_LOC.OFFSET (j : Nat) : Fld := ⟨0x100000018 + 0x1000 * j, 12, 20, 0⟩

/-- AQ_PMU_LOC.OPEN. -/
def F.AQ_PMU_LOC.OPEN (j : Nat) : Fld := ⟨0x100000018 + 0x1000 * j, 3, 1, 0⟩

/-- AQ_PMU_LOC.BIR. -/
def F.AQ_PMU_LOC.BIR (j : Nat) : Fld := ⟨0x100000018 + 0x1000 * j, 0, 3, 0⟩

/-- AQ_DROP_LOG.DROPS. -/
def F.AQ_DROP_LOG.DROPS (j : Nat) : Fld := ⟨0x10000001c + 0x1000 * j, 16, 16, 0⟩

/-- AQ_DROP_LOG.LOST_READS. -/
def F.AQ_DROP_LOG.LOST_READS (j : Nat) : Fld := ⟨0x10000001c + 0x1000 * j, 8, 8, 0⟩

/-- AQ_DROP_LOG.LOST_WRITES. -/
def F.AQ_DROP_LOG.LOST_WRITES (j : Nat) : Fld := ⟨0x10000001c + 0x1000 * j, 0, 8, 0⟩

/-- AQ_DMR_LOC.OFFSET. -/
def F.AQ_DMR_LOC.OFFSET (j : Nat) : Fld := ⟨0x100000028 + 0x1000 * j, 12, 20, 0⟩

/-- AQ_DMR_LOC.PRESENT. -/
def F.AQ_DMR_LOC.PRESENT (j : Nat) : Fld := ⟨0x100000028 + 0x1000 * j, 3, 1, 0⟩

/-- AQ_DMR_LOC.BIR. -/
def F.AQ_DMR_LOC.BIR (j : Nat) : Fld := ⟨0x100000028 + 0x1000 * j, 0, 3, 0⟩

/-- The HP block's registers, in address order of its tables. -/
def regsHP : List RegSpec := [
  { name := "HP_DEAD_TIMEOUT", base := 0x100200, insts := 1, count := 1, stride := 0x8, width := 32, lock := none,
    fields := [⟨0, 10, .rw, fun _ => 50, fun v => 1 ≤ v && v ≤ 1000⟩] },
  { name := "HP_AGENT_STATE", base := 0x102000, insts := 1, count := 64, stride := 0x10, width := 64, lock := none,
    fields := [⟨8, 56, .ro, fun _ => 0, fun _ => true⟩,
      ⟨7, 1, .ro, fun _ => 0, fun _ => true⟩,
      ⟨3, 1, .w1c, fun _ => 0, fun _ => true⟩,
      ⟨0, 3, .ro, fun _ => 0, fun _ => true⟩] },
  { name := "HP_HAN_MAP", base := 0x102008, insts := 1, count := 64, stride := 0x10, width := 32, lock := some fun _ j => F.HP_PORT_CFG.LOCK (j / 16),
    fields := [⟨8, 1, .ro, fun _ => 1, fun _ => true⟩,
      ⟨7, 1, .rwl, fun _ => 1, fun _ => true⟩,
      ⟨0, 6, .rwl, fun j => j, fun _ => true⟩] },
  { name := "HP_LINK_CTRL", base := 0x101000, insts := 1, count := 16, stride := 0x100, width := 32, lock := none,
    fields := [⟨1, 1, .rw, fun _ => 0, fun _ => true⟩,
      ⟨0, 1, .wo, fun _ => 0, fun _ => true⟩] },
  { name := "HP_PTM_SEL", base := 0x100208, insts := 1, count := 1, stride := 0x8, width := 32, lock := none,
    fields := [⟨4, 1, .rw, fun _ => 0, fun _ => true⟩,
      ⟨12, 1, .rw, fun _ => 0, fun _ => true⟩,
      ⟨20, 1, .rw, fun _ => 0, fun _ => true⟩,
      ⟨28, 1, .rw, fun _ => 0, fun _ => true⟩,
      ⟨0, 4, .rw, fun _ => 0, fun _ => true⟩,
      ⟨8, 4, .rw, fun _ => 0, fun _ => true⟩,
      ⟨16, 4, .rw, fun _ => 0, fun _ => true⟩,
      ⟨24, 4, .rw, fun _ => 0, fun _ => true⟩] },
  { name := "HP_PORT_CTRL", base := 0x100008, insts := 1, count := 4, stride := 0x40, width := 32, lock := none,
    fields := [⟨1, 1, .rw, fun _ => 1, fun _ => true⟩,
      ⟨0, 1, .wo, fun _ => 0, fun _ => true⟩] },
  { name := "HP_PORT_CFG", base := 0x100000, insts := 1, count := 4, stride := 0x40, width := 32, lock := some fun _ j => F.HP_PORT_CFG.LOCK j,
    fields := [⟨31, 1, .w1s, fun _ => 0, fun _ => true⟩,
      ⟨9, 1, .w1c, fun _ => 0, fun _ => true⟩,
      ⟨8, 1, .rwl, fun _ => 0, fun _ => true⟩,
      ⟨2, 3, .rwl, fun _ => 5, fun _ => true⟩,
      ⟨0, 2, .rwl, fun _ => 0, fun _ => true⟩] }]

/-- The ST block's registers, in address order of its tables. -/
def regsST : List RegSpec := [
  { name := "ST_PORT_CFG", base := 0x110000, insts := 1, count := 4, stride := 0x100, width := 64, lock := none,
    fields := [⟨48, 16, .rw, fun _ => 1000, fun v => 100 ≤ v⟩,
      ⟨40, 8, .rw, fun _ => 16, fun v => 1 ≤ v⟩,
      ⟨32, 6, .rw, fun _ => 32, fun v => 1 ≤ v && v ≤ 32⟩,
      ⟨8, 1, .rw, fun _ => 1, fun _ => true⟩,
      ⟨4, 4, .rw, fun _ => 15, fun v => 1 ≤ v⟩,
      ⟨0, 3, .rw, fun _ => 7, fun v => 1 ≤ v⟩] },
  { name := "ST_PORT_CTRL", base := 0x110008, insts := 1, count := 4, stride := 0x100, width := 32, lock := none,
    fields := [⟨2, 1, .rw, fun _ => 1, fun _ => true⟩,
      ⟨1, 1, .wo, fun _ => 0, fun _ => true⟩,
      ⟨0, 1, .wo, fun _ => 0, fun _ => true⟩] },
  { name := "ST_PORT_STATUS", base := 0x110010, insts := 1, count := 4, stride := 0x100, width := 64, lock := none,
    fields := [⟨16, 48, .ro, fun _ => 0, fun _ => true⟩,
      ⟨14, 2, .ro, fun _ => 0, fun _ => true⟩,
      ⟨13, 1, .ro, fun _ => 0, fun _ => true⟩,
      ⟨12, 1, .ro, fun _ => 0, fun _ => true⟩,
      ⟨9, 3, .ro, fun _ => 0, fun _ => true⟩,
      ⟨6, 3, .ro, fun _ => 0, fun _ => true⟩,
      ⟨4, 2, .ro, fun _ => 0, fun _ => true⟩,
      ⟨0, 3, .ro, fun _ => 0, fun _ => true⟩] },
  { name := "ST_PORT_ERR", base := 0x110018, insts := 1, count := 4, stride := 0x100, width := 64, lock := none,
    fields := [⟨48, 16, .rc, fun _ => 0, fun _ => true⟩,
      ⟨32, 16, .rc, fun _ => 0, fun _ => true⟩,
      ⟨16, 16, .rc, fun _ => 0, fun _ => true⟩,
      ⟨8, 8, .rc, fun _ => 0, fun _ => true⟩,
      ⟨0, 8, .rc, fun _ => 0, fun _ => true⟩] },
  { name := "ST_PORT_LANEERR", base := 0x110020, insts := 1, count := 4, stride := 0x100, width := 64, lock := none,
    fields := [⟨0, 8, .ro, fun _ => 0, fun _ => true⟩,
      ⟨8, 8, .ro, fun _ => 0, fun _ => true⟩,
      ⟨16, 8, .ro, fun _ => 0, fun _ => true⟩,
      ⟨24, 8, .ro, fun _ => 0, fun _ => true⟩,
      ⟨32, 8, .ro, fun _ => 0, fun _ => true⟩,
      ⟨40, 8, .ro, fun _ => 0, fun _ => true⟩,
      ⟨48, 8, .ro, fun _ => 0, fun _ => true⟩,
      ⟨56, 8, .ro, fun _ => 0, fun _ => true⟩] }]

/-- The HA block's registers, in address order of its tables. -/
def regsHA : List RegSpec := [
  { name := "HA_CTRL", base := 0x120000, insts := 1, count := 1, stride := 0x8, width := 32, lock := none,
    fields := [⟨16, 10, .rw, fun _ => 10, fun v => 1 ≤ v && v ≤ 1000⟩] },
  { name := "HA_ARB", base := 0x120008, insts := 1, count := 1, stride := 0x8, width := 32, lock := none,
    fields := [⟨0, 4, .ro, fun _ => 0, fun _ => true⟩] },
  { name := "HA_PIN_STALL", base := 0x120010, insts := 1, count := 1, stride := 0x8, width := 64, lock := none,
    fields := [⟨32, 32, .rc, fun _ => 0, fun _ => true⟩,
      ⟨0, 32, .rc, fun _ => 0, fun _ => true⟩] },
  { name := "HA_RECLAIM", base := 0x120020, insts := 1, count := 1, stride := 0x8, width := 64, lock := none,
    fields := [⟨32, 32, .ro, fun _ => 0, fun _ => true⟩,
      ⟨31, 1, .ro, fun _ => 0, fun _ => true⟩,
      ⟨13, 6, .ro, fun _ => 0, fun _ => true⟩,
      ⟨0, 13, .ro, fun _ => 0, fun _ => true⟩] },
  { name := "HA_RECLAIM_SET", base := 0x120038, insts := 1, count := 1, stride := 0x8, width := 64, lock := none,
    fields := [⟨0, 64, .ro, fun _ => 0, fun _ => true⟩] },
  { name := "HA_DEAD_PEND", base := 0x120028, insts := 1, count := 1, stride := 0x8, width := 64, lock := none,
    fields := [⟨0, 64, .ro, fun _ => 0, fun _ => true⟩] },
  { name := "HA_LOST_COUNT", base := 0x120030, insts := 1, count := 1, stride := 0x8, width := 64, lock := none,
    fields := [⟨32, 32, .rc, fun _ => 0, fun _ => true⟩,
      ⟨0, 32, .rc, fun _ => 0, fun _ => true⟩] },
  { name := "HA_DEAD_GEN", base := 0x120100, insts := 1, count := 64, stride := 0x8, width := 32, lock := none,
    fields := [⟨0, 32, .ro, fun _ => 0, fun _ => true⟩] },
  { name := "HA_SLICE_STATUS", base := 0x120800, insts := 1, count := 16, stride := 0x10, width := 64, lock := none,
    fields := [⟨48, 16, .rc, fun _ => 0, fun _ => true⟩,
      ⟨19, 9, .ro, fun _ => 0, fun _ => true⟩,
      ⟨0, 19, .ro, fun _ => 0, fun _ => true⟩] }]

/-- The TIER block's registers, in address order of its tables. -/
def regsTIER : List RegSpec := [
  { name := "TIER_CAP_CFG", base := 0x130000, insts := 1, count := 1, stride := 0x8, width := 32, lock := some fun _ _ => F.TIER_CAP_CFG.LOCK,
    fields := [⟨31, 1, .w1s, fun _ => 0, fun _ => true⟩,
      ⟨30, 1, .ro, fun _ => 0, fun _ => true⟩,
      ⟨16, 12, .rwl, fun _ => 0, fun _ => true⟩,
      ⟨0, 16, .rwl, fun _ => 0, fun _ => true⟩] },
  { name := "TIER_POOL_STATUS", base := 0x130100, insts := 1, count := 16, stride := 0x10, width := 64, lock := none,
    fields := [⟨62, 2, .ro, fun _ => 0, fun _ => true⟩,
      ⟨61, 1, .ro, fun _ => 0, fun _ => true⟩,
      ⟨28, 28, .ro, fun _ => 0, fun _ => true⟩,
      ⟨0, 28, .ro, fun _ => 0, fun _ => true⟩] },
  { name := "TIER_POLICY", base := 0x130008, insts := 1, count := 1, stride := 0x8, width := 64, lock := none,
    fields := [⟨48, 8, .rw, fun _ => 4, fun v => 1 ≤ v⟩,
      ⟨32, 16, .rw, fun _ => 4096, fun _ => true⟩,
      ⟨24, 8, .rw, fun _ => 8, fun _ => true⟩,
      ⟨16, 4, .rw, fun _ => 4, fun v => 1 ≤ v⟩,
      ⟨8, 8, .rw, fun _ => 64, fun _ => true⟩,
      ⟨0, 8, .rw, fun _ => 2, fun _ => true⟩] },
  { name := "TIER_T0_BUDGET", base := 0x130010, insts := 1, count := 1, stride := 0x8, width := 64, lock := none,
    fields := [⟨32, 32, .ro, fun _ => 0, fun _ => true⟩,
      ⟨0, 32, .rw, fun _ => 0, fun _ => true⟩] },
  { name := "TIER_EPOCH", base := 0x130018, insts := 1, count := 1, stride := 0x8, width := 32, lock := none,
    fields := [⟨0, 24, .ro, fun _ => 0, fun _ => true⟩] },
  { name := "TIER_NC_HINT", base := 0x130400, insts := 1, count := 64, stride := 0x8, width := 32, lock := none,
    fields := [⟨6, 1, .rw, fun _ => 0, fun _ => true⟩,
      ⟨0, 6, .rw, fun _ => 0, fun _ => true⟩] },
  { name := "TIER_DMR_BASE", base := 0x131000, insts := 1, count := 32, stride := 0x40, width := 64, lock := none,
    fields := [⟨12, 52, .rw, fun _ => 0, fun _ => true⟩] },
  { name := "TIER_DMR_CTRL", base := 0x131008, insts := 1, count := 32, stride := 0x40, width := 32, lock := none,
    fields := [⟨16, 8, .rw, fun _ => 0, fun _ => true⟩,
      ⟨15, 1, .w1c, fun _ => 0, fun _ => true⟩,
      ⟨14, 1, .rw, fun _ => 0, fun _ => true⟩,
      ⟨8, 6, .rw, fun _ => 0, fun _ => true⟩,
      ⟨1, 4, .rw, fun _ => 4, fun v => 4 ≤ v && v ≤ 15⟩,
      ⟨0, 1, .rw, fun _ => 0, fun _ => true⟩] },
  { name := "TIER_DMR_TAIL", base := 0x131010, insts := 1, count := 32, stride := 0x40, width := 32, lock := none,
    fields := [⟨0, 15, .rw, fun _ => 0, fun _ => true⟩] },
  { name := "TIER_DMR_HEAD", base := 0x131018, insts := 1, count := 32, stride := 0x40, width := 32, lock := none,
    fields := [⟨0, 15, .ro, fun _ => 0, fun _ => true⟩] }]

/-- The CMP block's registers, in address order of its tables. -/
def regsCMP : List RegSpec := [
  { name := "CMP_CTRL", base := 0x140000, insts := 1, count := 1, stride := 0x8, width := 32, lock := none,
    fields := [⟨17, 1, .ro, fun _ => 0, fun _ => true⟩,
      ⟨16, 1, .w1c, fun _ => 0, fun _ => true⟩,
      ⟨12, 2, .rw, fun _ => 3, fun v => 1 ≤ v⟩,
      ⟨8, 4, .rw, fun _ => 2, fun v => v ≤ 8⟩,
      ⟨4, 4, .rw, fun _ => 4, fun v => 1 ≤ v && v ≤ 8⟩,
      ⟨0, 1, .rw, fun _ => 0, fun _ => true⟩] },
  { name := "CMP_RECOMP_CFG", base := 0x140008, insts := 1, count := 1, stride := 0x8, width := 32, lock := none,
    fields := [⟨16, 16, .rw, fun _ => 256, fun v => 16 ≤ v⟩,
      ⟨4, 4, .rw, fun _ => 1, fun v => 1 ≤ v⟩,
      ⟨1, 3, .rw, fun _ => 5, fun v => 1 ≤ v⟩,
      ⟨0, 1, .rw, fun _ => 1, fun _ => true⟩] },
  { name := "CMP_RECOMP_STATUS", base := 0x140010, insts := 1, count := 1, stride := 0x8, width := 64, lock := none,
    fields := [⟨56, 8, .rc, fun _ => 0, fun _ => true⟩,
      ⟨48, 8, .rc, fun _ => 0, fun _ => true⟩,
      ⟨32, 16, .rc, fun _ => 0, fun _ => true⟩,
      ⟨16, 16, .rc, fun _ => 0, fun _ => true⟩,
      ⟨0, 16, .rc, fun _ => 0, fun _ => true⟩] },
  { name := "CMP_NOGAIN", base := 0x140018, insts := 1, count := 1, stride := 0x8, width := 64, lock := none,
    fields := [⟨48, 16, .rc, fun _ => 0, fun _ => true⟩,
      ⟨32, 16, .rc, fun _ => 0, fun _ => true⟩,
      ⟨16, 16, .rc, fun _ => 0, fun _ => true⟩,
      ⟨0, 16, .rc, fun _ => 0, fun _ => true⟩] },
  { name := "CMP_ERR_LAST", base := 0x140020, insts := 1, count := 1, stride := 0x8, width := 64, lock := none,
    fields := [⟨60, 4, .ro, fun _ => 0, fun _ => true⟩,
      ⟨57, 3, .ro, fun _ => 0, fun _ => true⟩,
      ⟨52, 5, .ro, fun _ => 0, fun _ => true⟩,
      ⟨13, 39, .ro, fun _ => 0, fun _ => true⟩,
      ⟨11, 2, .ro, fun _ => 0, fun _ => true⟩,
      ⟨0, 1, .w1c, fun _ => 0, fun _ => true⟩] },
  { name := "CMP_ENG_CTRL", base := 0x140100, insts := 1, count := 32, stride := 0x10, width := 32, lock := none,
    fields := [⟨1, 1, .wo, fun _ => 0, fun _ => true⟩,
      ⟨0, 1, .rw, fun _ => 0, fun _ => true⟩] },
  { name := "CMP_ENG_STATUS", base := 0x140108, insts := 1, count := 32, stride := 0x10, width := 64, lock := none,
    fields := [⟨32, 32, .rc, fun _ => 0, fun _ => true⟩,
      ⟨16, 4, .ro, fun _ => 0, fun _ => true⟩,
      ⟨8, 8, .rc, fun _ => 0, fun _ => true⟩,
      ⟨3, 2, .ro, fun _ => 0, fun _ => true⟩,
      ⟨0, 3, .ro, fun _ => 0, fun _ => true⟩] }]

/-- The CRY block's registers, in address order of its tables. -/
def regsCRY : List RegSpec := [
  { name := "CRY_CTRL", base := 0x150000, insts := 1, count := 1, stride := 0x8, width := 32, lock := none,
    fields := [⟨16, 8, .rw, fun _ => 0, fun _ => true⟩,
      ⟨9, 1, .rw, fun _ => 0, fun _ => true⟩,
      ⟨8, 1, .w1c, fun _ => 0, fun _ => true⟩] },
  { name := "CRY_KEY_STATUS", base := 0x150100, insts := 1, count := 64, stride := 0x8, width := 64, lock := none,
    fields := [⟨32, 32, .ro, fun _ => 0, fun _ => true⟩,
      ⟨16, 16, .ro, fun _ => 0, fun _ => true⟩,
      ⟨4, 1, .ro, fun _ => 0, fun _ => true⟩,
      ⟨3, 1, .ro, fun _ => 0, fun _ => true⟩,
      ⟨0, 2, .ro, fun _ => 0, fun _ => true⟩] },
  { name := "CRY_ALARM_LAST", base := 0x150300, insts := 1, count := 1, stride := 0x8, width := 64, lock := none,
    fields := [⟨61, 3, .ro, fun _ => 0, fun _ => true⟩,
      ⟨57, 4, .ro, fun _ => 0, fun _ => true⟩,
      ⟨54, 3, .ro, fun _ => 0, fun _ => true⟩,
      ⟨13, 39, .ro, fun _ => 0, fun _ => true⟩,
      ⟨7, 6, .ro, fun _ => 0, fun _ => true⟩,
      ⟨1, 6, .ro, fun _ => 0, fun _ => true⟩,
      ⟨0, 1, .w1c, fun _ => 0, fun _ => true⟩] },
  { name := "CRY_ALARM_COUNT", base := 0x150308, insts := 1, count := 1, stride := 0x8, width := 64, lock := none,
    fields := [⟨48, 16, .ro, fun _ => 0, fun _ => true⟩,
      ⟨0, 32, .ro, fun _ => 0, fun _ => true⟩] },
  { name := "CRY_WALK_STATUS", base := 0x150400, insts := 1, count := 4, stride := 0x10, width := 64, lock := none,
    fields := [⟨63, 1, .ro, fun _ => 0, fun _ => true⟩,
      ⟨61, 2, .ro, fun _ => 0, fun _ => true⟩,
      ⟨55, 6, .ro, fun _ => 0, fun _ => true⟩,
      ⟨48, 7, .ro, fun _ => 0, fun _ => true⟩,
      ⟨32, 15, .ro, fun _ => 0, fun _ => true⟩,
      ⟨0, 19, .ro, fun _ => 0, fun _ => true⟩] },
  { name := "CRY_ENG_CTRL", base := 0x150800, insts := 1, count := 8, stride := 0x10, width := 32, lock := none,
    fields := [⟨1, 1, .wo, fun _ => 0, fun _ => true⟩,
      ⟨0, 1, .rw, fun _ => 0, fun _ => true⟩] },
  { name := "CRY_ENG_STATUS", base := 0x150808, insts := 1, count := 8, stride := 0x10, width := 64, lock := none,
    fields := [⟨32, 32, .rc, fun _ => 0, fun _ => true⟩,
      ⟨8, 8, .rc, fun _ => 0, fun _ => true⟩,
      ⟨3, 2, .ro, fun _ => 0, fun _ => true⟩,
      ⟨0, 3, .ro, fun j => if j = 7 then 5 else 0, fun _ => true⟩] }]

/-- The QOS block's registers, in address order of its tables. -/
def regsQOS : List RegSpec := [
  { name := "QOS_CTRL", base := 0x160000, insts := 1, count := 1, stride := 0x8, width := 32, lock := none,
    fields := [⟨31, 1, .rw, fun _ => 1, fun _ => true⟩,
      ⟨30, 1, .w1c, fun _ => 0, fun _ => true⟩,
      ⟨16, 8, .rw, fun _ => 24, fun v => v ≤ 128⟩,
      ⟨8, 8, .rw, fun _ => 48, fun _ => true⟩,
      ⟨0, 8, .rw, fun _ => 24, fun _ => true⟩] },
  { name := "QOS_CAP", base := 0x160008, insts := 1, count := 1, stride := 0x8, width := 64, lock := none,
    fields := [⟨48, 16, .ro, fun _ => 0, fun _ => true⟩,
      ⟨32, 16, .ro, fun _ => 0, fun _ => true⟩,
      ⟨16, 16, .ro, fun _ => 0, fun _ => true⟩,
      ⟨0, 16, .ro, fun _ => 2192, fun _ => true⟩] },
  { name := "QOS_SCALE", base := 0x160010, insts := 1, count := 1, stride := 0x8, width := 32, lock := none,
    fields := [⟨31, 1, .ro, fun _ => 0, fun _ => true⟩,
      ⟨0, 17, .ro, fun _ => 65536, fun _ => true⟩] },
  { name := "QOS_SHORTFALL", base := 0x160018, insts := 1, count := 1, stride := 0x8, width := 64, lock := none,
    fields := [⟨32, 32, .rc, fun _ => 0, fun _ => true⟩,
      ⟨0, 32, .ro, fun _ => 0, fun _ => true⟩] },
  { name := "QOS_MASTER", base := 0x160100, insts := 1, count := 72, stride := 0x10, width := 64, lock := none,
    fields := [⟨48, 16, .ro, fun j => qosG j, fun _ => true⟩,
      ⟨32, 10, .ro, fun _ => 0, fun _ => true⟩,
      ⟨24, 6, .ro, fun _ => 16, fun _ => true⟩,
      ⟨16, 8, .ro, fun j => qosW j, fun _ => true⟩,
      ⟨0, 16, .ro, fun j => qosG j, fun _ => true⟩] },
  { name := "QOS_MSTAT", base := 0x160108, insts := 1, count := 72, stride := 0x10, width := 64, lock := none,
    fields := [⟨25, 25, .ro, fun _ => 0, fun _ => true⟩,
      ⟨0, 25, .ro, fun _ => 0, fun _ => true⟩] }]

/-- The CLU block's registers, in address order of its tables. -/
def regsCLU : List RegSpec := [
  { name := "CLU_CFG", base := 0x170000, insts := 1, count := 1, stride := 0x8, width := 32, lock := some fun _ _ => F.CLU_CFG.LOCK,
    fields := [⟨31, 1, .w1s, fun _ => 0, fun _ => true⟩,
      ⟨16, 8, .rw, fun _ => 10, fun v => 2 ≤ v⟩,
      ⟨12, 4, .rw, fun _ => 2, fun v => 1 ≤ v⟩,
      ⟨8, 2, .rwl, fun _ => 0, fun _ => true⟩,
      ⟨0, 6, .rwl, fun _ => 0, fun _ => true⟩] },
  { name := "CLU_EXPECT", base := 0x170008, insts := 1, count := 1, stride := 0x8, width := 64, lock := some fun _ _ => F.CLU_CFG.LOCK,
    fields := [⟨0, 64, .rwl, fun _ => 0, fun _ => true⟩] },
  { name := "CLU_STATUS", base := 0x170010, insts := 1, count := 1, stride := 0x8, width := 64, lock := none,
    fields := [⟨32, 32, .ro, fun _ => 0, fun _ => true⟩,
      ⟨16, 16, .ro, fun _ => 0, fun _ => true⟩,
      ⟨10, 6, .ro, fun _ => 0, fun _ => true⟩,
      ⟨9, 1, .ro, fun _ => 0, fun _ => true⟩,
      ⟨0, 3, .ro, fun _ => 0, fun _ => true⟩] },
  { name := "CLU_ROSTER", base := 0x170018, insts := 1, count := 1, stride := 0x8, width := 64, lock := none,
    fields := [⟨0, 64, .ro, fun _ => 0, fun _ => true⟩] },
  { name := "CLU_FAILED", base := 0x170020, insts := 1, count := 1, stride := 0x8, width := 64, lock := none,
    fields := [⟨0, 64, .ro, fun _ => 0, fun _ => true⟩] },
  { name := "CLU_LINKS", base := 0x170028, insts := 1, count := 1, stride := 0x8, width := 32, lock := none,
    fields := [⟨4, 4, .ro, fun _ => 0, fun _ => true⟩,
      ⟨0, 4, .ro, fun _ => 0, fun _ => true⟩] },
  { name := "CLU_SPILL_CFG", base := 0x170030, insts := 1, count := 1, stride := 0x8, width := 32, lock := some fun _ _ => F.CLU_CFG.LOCK,
    fields := [⟨0, 24, .rwl, fun _ => 0, fun _ => true⟩] },
  { name := "CLU_SPILL_STATUS", base := 0x170038, insts := 1, count := 1, stride := 0x8, width := 64, lock := none,
    fields := [⟨32, 32, .ro, fun _ => 0, fun _ => true⟩,
      ⟨0, 32, .ro, fun _ => 0, fun _ => true⟩] },
  { name := "CLU_ROUTE", base := 0x170100, insts := 1, count := 64, stride := 0x8, width := 32, lock := none,
    fields := [⟨4, 3, .ro, fun _ => 7, fun _ => true⟩,
      ⟨0, 3, .ro, fun _ => 7, fun _ => true⟩] },
  { name := "CLU_HAN", base := 0x170400, insts := 1, count := 64, stride := 0x8, width := 32, lock := none,
    fields := [⟨13, 1, .ro, fun _ => 0, fun _ => true⟩,
      ⟨12, 1, .ro, fun _ => 0, fun _ => true⟩,
      ⟨6, 6, .ro, fun _ => 0, fun _ => true⟩,
      ⟨0, 6, .ro, fun _ => 0, fun _ => true⟩] }]

/-- The DC block's registers, in address order of its tables. -/
def regsDC : List RegSpec := [
  { name := "DC_CFG", base := 0x200000, insts := 16, count := 1, stride := 0x8, width := 64, lock := some fun i _ => F.DC_CFG.LOCK i,
    fields := [⟨36, 28, .rwl, fun _ => 0, fun _ => true⟩,
      ⟨35, 1, .ro, fun _ => 0, fun _ => true⟩,
      ⟨34, 1, .ro, fun _ => 0, fun _ => true⟩,
      ⟨31, 1, .w1s, fun _ => 0, fun _ => true⟩,
      ⟨30, 1, .rw, fun _ => 0, fun _ => true⟩,
      ⟨16, 14, .rw, fun _ => 2000, fun v => 100 ≤ v⟩,
      ⟨12, 2, .rwl, fun _ => 0, fun _ => true⟩,
      ⟨10, 2, .rwl, fun _ => 0, fun _ => true⟩,
      ⟨9, 1, .rwl, fun _ => 0, fun _ => true⟩,
      ⟨8, 1, .rwl, fun _ => 0, fun _ => true⟩,
      ⟨0, 3, .rwl, fun _ => 0, fun v => v ≤ 4⟩] },
  { name := "DC_TIMING0", base := 0x200010, insts := 16, count := 1, stride := 0x8, width := 64, lock := some fun i _ => F.DC_CFG.LOCK i,
    fields := [⟨56, 8, .rwl, fun _ => 0xFF, fun _ => true⟩,
      ⟨48, 8, .rwl, fun _ => 0xFF, fun _ => true⟩,
      ⟨40, 8, .rwl, fun _ => 0xFF, fun _ => true⟩,
      ⟨32, 8, .rwl, fun _ => 0xFF, fun _ => true⟩,
      ⟨24, 8, .rwl, fun _ => 0xFF, fun _ => true⟩,
      ⟨16, 8, .rwl, fun _ => 0xFF, fun _ => true⟩,
      ⟨8, 8, .rwl, fun _ => 0xFF, fun _ => true⟩,
      ⟨0, 8, .rwl, fun _ => 0xFF, fun _ => true⟩] },
  { name := "DC_TIMING1", base := 0x200018, insts := 16, count := 1, stride := 0x8, width := 64, lock := some fun i _ => F.DC_CFG.LOCK i,
    fields := [⟨48, 10, .rwl, fun _ => 1023, fun _ => true⟩,
      ⟨40, 8, .rwl, fun _ => 0xFF, fun _ => true⟩,
      ⟨32, 8, .rwl, fun _ => 0xFF, fun _ => true⟩,
      ⟨24, 8, .rwl, fun _ => 0xFF, fun _ => true⟩,
      ⟨16, 8, .rwl, fun _ => 0xFF, fun _ => true⟩,
      ⟨8, 8, .rwl, fun _ => 0xFF, fun _ => true⟩,
      ⟨0, 8, .rwl, fun _ => 0xFF, fun _ => true⟩] },
  { name := "DC_SCRUB", base := 0x200030, insts := 16, count := 1, stride := 0x8, width := 64, lock := none,
    fields := [⟨30, 34, .ro, fun _ => 0, fun _ => true⟩,
      ⟨16, 14, .rc, fun _ => 0, fun _ => true⟩,
      ⟨0, 7, .rw, fun _ => 8, fun v => v ≤ 64⟩] },
  { name := "DC_ECC_STATUS", base := 0x200040, insts := 16, count := 1, stride := 0x8, width := 64, lock := none,
    fields := [⟨48, 16, .rc, fun _ => 0, fun _ => true⟩,
      ⟨32, 16, .rc, fun _ => 0, fun _ => true⟩,
      ⟨16, 16, .rc, fun _ => 0, fun _ => true⟩,
      ⟨0, 16, .rc, fun _ => 0, fun _ => true⟩] },
  { name := "DC_ECC_CFG", base := 0x200048, insts := 16, count := 1, stride := 0x8, width := 32, lock := none,
    fields := [⟨31, 1, .rw, fun _ => 1, fun _ => true⟩,
      ⟨0, 16, .rw, fun _ => 64, fun v => 1 ≤ v⟩] },
  { name := "DC_SLOTS", base := 0x200050, insts := 16, count := 1, stride := 0x8, width := 64, lock := none,
    fields := [⟨32, 16, .ro, fun _ => 0, fun _ => true⟩,
      ⟨24, 8, .ro, fun _ => 12, fun _ => true⟩,
      ⟨16, 8, .ro, fun _ => 0, fun _ => true⟩,
      ⟨0, 16, .ro, fun _ => 0, fun _ => true⟩] },
  { name := "DC_REF_STATUS", base := 0x200100, insts := 16, count := 8, stride := 0x8, width := 32, lock := none,
    fields := [⟨31, 1, .ro, fun _ => 0, fun _ => true⟩,
      ⟨30, 1, .ro, fun _ => 0, fun _ => true⟩,
      ⟨24, 4, .ro, fun _ => 0, fun _ => true⟩,
      ⟨8, 16, .ro, fun _ => 0, fun _ => true⟩,
      ⟨0, 8, .ro, fun _ => 0x80, fun _ => true⟩] },
  { name := "DC_MARK", base := 0x200200, insts := 16, count := 8, stride := 0x8, width := 32, lock := none,
    fields := [⟨16, 1, .w1s, fun _ => 0, fun _ => true⟩,
      ⟨12, 4, .rw, fun _ => 0, fun v => v ≤ 9⟩,
      ⟨4, 1, .w1s, fun _ => 0, fun _ => true⟩,
      ⟨0, 4, .rw, fun _ => 0, fun v => v ≤ 9⟩] },
  { name := "DC_TRN_CTRL", base := 0x200800, insts := 16, count := 1, stride := 0x8, width := 32, lock := none,
    fields := [⟨31, 1, .ro, fun _ => 0, fun _ => true⟩,
      ⟨30, 1, .w1c, fun _ => 0, fun _ => true⟩,
      ⟨29, 1, .w1c, fun _ => 0, fun _ => true⟩,
      ⟨24, 2, .rw, fun _ => 0, fun _ => true⟩,
      ⟨16, 8, .rw, fun _ => 64, fun v => 1 ≤ v⟩,
      ⟨12, 4, .rw, fun _ => 0, fun _ => true⟩,
      ⟨11, 1, .rw, fun _ => 0, fun _ => true⟩,
      ⟨8, 3, .rw, fun _ => 0, fun _ => true⟩,
      ⟨0, 1, .wo, fun _ => 0, fun _ => true⟩] },
  { name := "DC_TRN_RESULT", base := 0x200900, insts := 16, count := 80, stride := 0x4, width := 32, lock := none,
    fields := [⟨16, 16, .ro, fun _ => 0, fun _ => true⟩,
      ⟨8, 8, .ro, fun _ => 0, fun _ => true⟩,
      ⟨0, 8, .ro, fun _ => 0, fun _ => true⟩] },
  { name := "DC_DLY", base := 0x200b00, insts := 16, count := 80, stride := 0x4, width := 32, lock := none,
    fields := [⟨24, 8, .rw, fun _ => 0, fun _ => true⟩,
      ⟨16, 8, .rw, fun _ => 0x80, fun _ => true⟩,
      ⟨8, 8, .rw, fun _ => 0, fun _ => true⟩,
      ⟨0, 8, .rw, fun _ => 0, fun _ => true⟩] }]

/-- The MGT block's registers, in address order of its tables. -/
def regsMGT : List RegSpec := [
  { name := "MGT_FE_STATUS", base := 0x300000, insts := 1, count := 1, stride := 0x8, width := 64, lock := none,
    fields := [⟨48, 16, .ro, fun _ => 0, fun _ => true⟩,
      ⟨32, 16, .rc, fun _ => 0, fun _ => true⟩,
      ⟨0, 32, .rc, fun _ => 0, fun _ => true⟩] },
  { name := "MGT_ACCESS_ERR", base := 0x300008, insts := 1, count := 1, stride := 0x8, width := 64, lock := none,
    fields := [⟨32, 32, .ro, fun _ => 0, fun _ => true⟩,
      ⟨31, 1, .w1c, fun _ => 0, fun _ => true⟩,
      ⟨28, 3, .ro, fun _ => 0, fun _ => true⟩,
      ⟨27, 1, .ro, fun _ => 0, fun _ => true⟩,
      ⟨0, 16, .rc, fun _ => 0, fun _ => true⟩] }]

/-- The MBX block's registers, in address order of its tables. -/
def regsMBX : List RegSpec := [
  { name := "MBX_CTRL", base := 0x310000, insts := 1, count := 1, stride := 0x8, width := 32, lock := none,
    fields := [⟨31, 1, .w1s, fun _ => 0, fun _ => true⟩] },
  { name := "MBX_SB_DATA", base := 0x311000, insts := 1, count := 1, stride := 0x8, width := 64, lock := none,
    fields := [⟨0, 64, .ro, fun _ => 0, fun _ => true⟩] },
  { name := "MBX_SB_META", base := 0x311008, insts := 1, count := 1, stride := 0x8, width := 32, lock := none,
    fields := [⟨7, 1, .ro, fun _ => 0, fun _ => true⟩,
      ⟨6, 1, .ro, fun _ => 0, fun _ => true⟩,
      ⟨2, 4, .ro, fun _ => 0, fun _ => true⟩,
      ⟨1, 1, .ro, fun _ => 0, fun _ => true⟩,
      ⟨0, 1, .ro, fun _ => 0, fun _ => true⟩] },
  { name := "MBX_SB_STATUS", base := 0x311010, insts := 1, count := 1, stride := 0x8, width := 32, lock := none,
    fields := [⟨12, 10, .ro, fun _ => 0, fun _ => true⟩,
      ⟨6, 1, .ro, fun _ => 0, fun _ => true⟩,
      ⟨5, 1, .w1c, fun _ => 0, fun _ => true⟩,
      ⟨4, 1, .w1c, fun _ => 0, fun _ => true⟩,
      ⟨3, 1, .w1c, fun _ => 0, fun _ => true⟩,
      ⟨2, 1, .w1c, fun _ => 0, fun _ => true⟩,
      ⟨1, 1, .ro, fun _ => 0, fun _ => true⟩,
      ⟨0, 1, .ro, fun _ => 1, fun _ => true⟩] },
  { name := "MBX_SB_CTRL", base := 0x311018, insts := 1, count := 1, stride := 0x8, width := 32, lock := none,
    fields := [⟨2, 1, .wo, fun _ => 0, fun _ => true⟩,
      ⟨1, 1, .wo, fun _ => 0, fun _ => true⟩,
      ⟨0, 1, .wo, fun _ => 0, fun _ => true⟩] },
  { name := "MBX_SB_ECC", base := 0x311020, insts := 1, count := 1, stride := 0x8, width := 32, lock := none,
    fields := [⟨16, 16, .rc, fun _ => 0, fun _ => true⟩,
      ⟨0, 16, .rc, fun _ => 0, fun _ => true⟩] },
  { name := "MBX_SB_COUNT", base := 0x311028, insts := 1, count := 1, stride := 0x8, width := 32, lock := none,
    fields := [⟨16, 16, .rc, fun _ => 0, fun _ => true⟩,
      ⟨0, 16, .rc, fun _ => 0, fun _ => true⟩] },
  { name := "MBX_CH_BIND", base := 0x310100, insts := 1, count := 16, stride := 0x40, width := 32, lock := some fun _ _ => F.MBX_CTRL.SECURE_LOCK,
    fields := [⟨16, 8, .rwl, fun _ => 0, fun _ => true⟩,
      ⟨8, 6, .rwl, fun _ => 0, fun _ => true⟩,
      ⟨0, 3, .rwl, fun j => if j = 15 then 7 else 0, fun _ => true⟩] },
  { name := "MBX_CH_STATUS", base := 0x310108, insts := 1, count := 16, stride := 0x40, width := 64, lock := none,
    fields := [⟨32, 13, .ro, fun _ => 0, fun _ => true⟩,
      ⟨16, 13, .ro, fun _ => 0, fun _ => true⟩,
      ⟨7, 1, .w1c, fun _ => 0, fun _ => true⟩,
      ⟨6, 1, .w1c, fun _ => 0, fun _ => true⟩,
      ⟨5, 1, .w1c, fun _ => 0, fun _ => true⟩,
      ⟨4, 1, .w1c, fun _ => 0, fun _ => true⟩,
      ⟨1, 1, .ro, fun _ => 0, fun _ => true⟩,
      ⟨0, 1, .ro, fun _ => 0, fun _ => true⟩] },
  { name := "MBX_CH_DOORBELL", base := 0x310110, insts := 1, count := 16, stride := 0x40, width := 32, lock := none,
    fields := [⟨16, 13, .wo, fun _ => 0, fun _ => true⟩,
      ⟨3, 1, .wo, fun _ => 0, fun _ => true⟩,
      ⟨2, 1, .wo, fun _ => 0, fun _ => true⟩,
      ⟨1, 1, .wo, fun _ => 0, fun _ => true⟩,
      ⟨0, 1, .wo, fun _ => 0, fun _ => true⟩] },
  { name := "MBX_CH_IRQ", base := 0x310118, insts := 1, count := 16, stride := 0x40, width := 32, lock := none,
    fields := [⟨1, 1, .rw, fun _ => 0, fun _ => true⟩,
      ⟨0, 1, .rw, fun _ => 0, fun _ => true⟩] },
  { name := "MBX_CH15_CLAIM", base := 0x3104e0, insts := 1, count := 1, stride := 0x8, width := 32, lock := none,
    fields := [⟨31, 1, .ro, fun _ => 0, fun _ => true⟩,
      ⟨7, 1, .wo, fun _ => 0, fun _ => true⟩,
      ⟨6, 1, .ro, fun _ => 0, fun _ => true⟩,
      ⟨0, 6, .ro, fun _ => 0, fun _ => true⟩] },
  { name := "MBX_CH15_OUT_DEST", base := 0x3104e8, insts := 1, count := 1, stride := 0x8, width := 32, lock := none,
    fields := [⟨6, 1, .rw, fun _ => 0, fun _ => true⟩,
      ⟨0, 6, .rw, fun _ => 0, fun _ => true⟩] }]

/-- The SEC block's registers, in address order of its tables. -/
def regsSEC : List RegSpec := [
  { name := "SEC_STATUS", base := 0x320000, insts := 1, count := 1, stride := 0x8, width := 64, lock := none,
    fields := [⟨56, 8, .ro, fun _ => 0, fun _ => true⟩,
      ⟨48, 8, .ro, fun _ => 0, fun _ => true⟩,
      ⟨32, 2, .ro, fun _ => 0, fun _ => true⟩,
      ⟨8, 1, .w1c, fun _ => 0, fun _ => true⟩,
      ⟨7, 1, .ro, fun _ => 0, fun _ => true⟩,
      ⟨6, 1, .ro, fun _ => 0, fun _ => true⟩,
      ⟨5, 1, .ro, fun _ => 0, fun _ => true⟩,
      ⟨4, 1, .ro, fun _ => 0, fun _ => true⟩,
      ⟨3, 1, .ro, fun _ => 0, fun _ => true⟩,
      ⟨2, 1, .ro, fun _ => 0, fun _ => true⟩,
      ⟨1, 1, .ro, fun _ => 0, fun _ => true⟩,
      ⟨0, 1, .ro, fun _ => 0, fun _ => true⟩] },
  { name := "SEC_BOOT", base := 0x320008, insts := 1, count := 1, stride := 0x8, width := 64, lock := none,
    fields := [⟨32, 32, .ro, fun _ => 0, fun _ => true⟩,
      ⟨0, 32, .ro, fun _ => 0, fun _ => true⟩] },
  { name := "SEC_BOOT_TRY", base := 0x320010, insts := 1, count := 1, stride := 0x8, width := 64, lock := none,
    fields := [⟨32, 32, .ro, fun _ => 0, fun _ => true⟩,
      ⟨0, 1, .ro, fun _ => 0, fun _ => true⟩] },
  { name := "SEC_FUSE", base := 0x320100, insts := 1, count := 32, stride := 0x8, width := 64, lock := none,
    fields := [⟨0, 64, .ro, fun _ => 0, fun _ => true⟩] }]

/-- The ERR block's registers, in address order of its tables. -/
def regsERR : List RegSpec := [
  { name := "ERR_STATUS", base := 0x330000, insts := 1, count := 1, stride := 0x8, width := 64, lock := none,
    fields := [⟨48, 16, .rc, fun _ => 0, fun _ => true⟩,
      ⟨32, 16, .ro, fun _ => 1, fun _ => true⟩,
      ⟨16, 8, .ro, fun _ => 0, fun _ => true⟩,
      ⟨8, 8, .ro, fun _ => 0, fun _ => true⟩,
      ⟨3, 1, .ro, fun _ => 0, fun _ => true⟩,
      ⟨2, 1, .ro, fun _ => 0, fun _ => true⟩,
      ⟨1, 1, .ro, fun _ => 0, fun _ => true⟩,
      ⟨0, 1, .ro, fun _ => 0, fun _ => true⟩] },
  { name := "ERR_FIRST", base := 0x330010, insts := 1, count := 4, stride := 0x8, width := 64, lock := none,
    fields := [⟨0, 64, .ro, fun _ => 0, fun _ => true⟩] },
  { name := "ERR_FATAL", base := 0x330040, insts := 1, count := 4, stride := 0x8, width := 64, lock := none,
    fields := [⟨0, 64, .ro, fun _ => 0, fun _ => true⟩] },
  { name := "ERR_AON_LAST", base := 0x330100, insts := 1, count := 4, stride := 0x8, width := 64, lock := none,
    fields := [⟨0, 64, .ro, fun _ => 0, fun _ => true⟩] },
  { name := "ERR_Q", base := 0x331000, insts := 1, count := 256, stride := 0x8, width := 64, lock := none,
    fields := [⟨0, 64, .ro, fun _ => 0, fun _ => true⟩] }]

/-- The TB block's registers, in address order of its tables. -/
def regsTB : List RegSpec := [
  { name := "TB_TRANSIT", base := 0x400100, insts := 1, count := 1, stride := 0x8, width := 64, lock := none,
    fields := [⟨0, 64, .ro, fun _ => 0, fun _ => true⟩] },
  { name := "TB_OVR_COUNT", base := 0x400108, insts := 1, count := 1, stride := 0x8, width := 32, lock := none,
    fields := [⟨31, 1, .rc, fun _ => 0, fun _ => true⟩,
      ⟨0, 31, .rc, fun _ => 0, fun _ => true⟩] },
  { name := "TB_OVR_LAST", base := 0x400110, insts := 1, count := 1, stride := 0x8, width := 64, lock := none,
    fields := [⟨32, 32, .ro, fun _ => 0, fun _ => true⟩,
      ⟨31, 1, .w1c, fun _ => 0, fun _ => true⟩,
      ⟨16, 8, .ro, fun _ => 0, fun _ => true⟩,
      ⟨8, 8, .ro, fun _ => 0, fun _ => true⟩,
      ⟨0, 8, .ro, fun _ => 0, fun _ => true⟩] },
  { name := "TB_NOW", base := 0x400000, insts := 1, count := 1, stride := 0x8, width := 64, lock := none,
    fields := [⟨0, 64, .ro, fun _ => 0, fun _ => true⟩] },
  { name := "TB_STATUS", base := 0x400008, insts := 1, count := 1, stride := 0x8, width := 32, lock := none,
    fields := [⟨9, 1, .ro, fun _ => 0, fun _ => true⟩,
      ⟨8, 1, .w1c, fun _ => 0, fun _ => true⟩,
      ⟨4, 4, .ro, fun _ => 0, fun _ => true⟩,
      ⟨2, 1, .ro, fun _ => 0, fun _ => true⟩,
      ⟨1, 1, .ro, fun _ => 0, fun _ => true⟩,
      ⟨0, 1, .ro, fun _ => 0, fun _ => true⟩] },
  { name := "TB_DISC", base := 0x400010, insts := 1, count := 1, stride := 0x8, width := 64, lock := none,
    fields := [⟨32, 32, .ro, fun _ => 0, fun _ => true⟩,
      ⟨0, 8, .rw, fun _ => 10, fun v => 1 ≤ v⟩] },
  { name := "TB_XTAL", base := 0x400018, insts := 1, count := 1, stride := 0x8, width := 32, lock := none,
    fields := [⟨0, 32, .ro, fun _ => 0, fun _ => true⟩] }]

/-- The PWR block's registers, in address order of its tables. -/
def regsPWR : List RegSpec := [
  { name := "PWR_PL_STATUS", base := 0x410000, insts := 1, count := 1, stride := 0x8, width := 32, lock := none,
    fields := [⟨16, 1, .ro, fun _ => 0, fun _ => true⟩,
      ⟨8, 3, .ro, fun _ => 0, fun _ => true⟩,
      ⟨4, 3, .ro, fun _ => 0, fun _ => true⟩,
      ⟨0, 3, .ro, fun _ => 0, fun _ => true⟩] },
  { name := "PWR_SL_STATUS", base := 0x410008, insts := 1, count := 1, stride := 0x8, width := 64, lock := none,
    fields := [⟨32, 32, .ro, fun _ => 0, fun _ => true⟩,
      ⟨16, 1, .w1c, fun _ => 0, fun _ => true⟩,
      ⟨8, 8, .ro, fun _ => 0, fun _ => true⟩,
      ⟨2, 1, .ro, fun _ => 0, fun _ => true⟩,
      ⟨0, 2, .ro, fun _ => 0, fun _ => true⟩] },
  { name := "PWR_WAKE_EN", base := 0x410010, insts := 1, count := 1, stride := 0x8, width := 32, lock := none,
    fields := [⟨0, 10, .rw, fun _ => 0x1C1, fun _ => true⟩] },
  { name := "PWR_WAKE_STATUS", base := 0x410018, insts := 1, count := 1, stride := 0x8, width := 32, lock := none,
    fields := [⟨0, 10, .w1c, fun _ => 0, fun _ => true⟩] },
  { name := "PWR_WAKE_TIMER", base := 0x410020, insts := 1, count := 1, stride := 0x8, width := 64, lock := none,
    fields := [⟨0, 64, .rw, fun _ => 0, fun _ => true⟩] },
  { name := "PWR_SL3_CFG", base := 0x410028, insts := 1, count := 1, stride := 0x8, width := 32, lock := none,
    fields := [⟨22, 10, .ro, fun _ => 0, fun _ => true⟩,
      ⟨16, 5, .rw, fun _ => 4, fun v => v ≤ 16⟩,
      ⟨8, 1, .rw, fun _ => 1, fun _ => true⟩,
      ⟨0, 4, .rw, fun _ => 0, fun _ => true⟩] },
  { name := "PWR_PL_CFG", base := 0x410100, insts := 1, count := 6, stride := 0x8, width := 32, lock := none,
    fields := [⟨16, 10, .rw, fun j => plVolt j, fun v => 550 ≤ v && v ≤ 900⟩,
      ⟨0, 12, .ro, fun j => plFreq j, fun _ => true⟩] },
  { name := "PWR_RESET_CAUSE", base := 0x410030, insts := 1, count := 1, stride := 0x8, width := 64, lock := none,
    fields := [⟨48, 16, .w1c, fun _ => 0, fun _ => true⟩,
      ⟨40, 8, .ro, fun _ => 1, fun _ => true⟩,
      ⟨32, 8, .ro, fun _ => 0, fun _ => true⟩,
      ⟨24, 8, .ro, fun _ => 0, fun _ => true⟩,
      ⟨5, 1, .w1c, fun _ => 0, fun _ => true⟩,
      ⟨4, 1, .w1c, fun _ => 0, fun _ => true⟩,
      ⟨3, 1, .w1c, fun _ => 0, fun _ => true⟩,
      ⟨2, 1, .w1c, fun _ => 0, fun _ => true⟩,
      ⟨1, 1, .w1c, fun _ => 1, fun _ => true⟩] }]

/-- The THM block's registers, in address order of its tables. -/
def regsTHM : List RegSpec := [
  { name := "THM_CFG", base := 0x420000, insts := 1, count := 1, stride := 0x8, width := 64, lock := some fun _ _ => F.THM_CFG.LOCK,
    fields := [⟨63, 1, .w1s, fun _ => 0, fun _ => true⟩,
      ⟨48, 8, .rwl, fun _ => 95, fun v => 60 ≤ v && v ≤ 110⟩,
      ⟨40, 8, .rwl, fun _ => 120, fun v => 100 ≤ v && v ≤ 125⟩,
      ⟨32, 8, .rwl, fun _ => 130, fun v => 120 ≤ v && v ≤ 135⟩,
      ⟨24, 8, .rw, fun _ => 118, fun _ => true⟩,
      ⟨16, 8, .rw, fun _ => 110, fun v => 70 ≤ v && v ≤ 125⟩,
      ⟨12, 4, .rw, fun _ => 5, fun v => 1 ≤ v && v ≤ 15⟩,
      ⟨8, 4, .rw, fun _ => 10, fun v => 1 ≤ v && v ≤ 15⟩,
      ⟨0, 8, .rw, fun _ => 8, fun v => 5 ≤ v && v ≤ 31⟩] },
  { name := "THM_STATUS", base := 0x420008, insts := 1, count := 1, stride := 0x8, width := 64, lock := none,
    fields := [⟨48, 16, .ro, fun _ => 0, fun _ => true⟩,
      ⟨32, 16, .ro, fun _ => 0, fun _ => true⟩,
      ⟨28, 4, .ro, fun _ => 0, fun _ => true⟩,
      ⟨24, 4, .ro, fun _ => 0, fun _ => true⟩,
      ⟨16, 8, .ro, fun _ => 32, fun _ => true⟩,
      ⟨3, 1, .ro, fun _ => 0, fun _ => true⟩,
      ⟨2, 1, .ro, fun _ => 0, fun _ => true⟩,
      ⟨1, 1, .ro, fun _ => 0, fun _ => true⟩,
      ⟨0, 1, .ro, fun _ => 0, fun _ => true⟩] },
  { name := "THM_TRIP_LAST", base := 0x420010, insts := 1, count := 1, stride := 0x8, width := 64, lock := none,
    fields := [⟨32, 32, .ro, fun _ => 0, fun _ => true⟩,
      ⟨16, 16, .ro, fun _ => 0, fun _ => true⟩,
      ⟨8, 8, .ro, fun _ => 0, fun _ => true⟩,
      ⟨4, 4, .ro, fun _ => 0, fun _ => true⟩,
      ⟨2, 2, .ro, fun _ => 0, fun _ => true⟩,
      ⟨0, 1, .w1c, fun _ => 0, fun _ => true⟩] },
  { name := "THM_ZONE", base := 0x420100, insts := 1, count := 12, stride := 0x8, width := 64, lock := none,
    fields := [⟨48, 16, .ro, fun _ => 0, fun _ => true⟩,
      ⟨32, 16, .ro, fun _ => 0, fun _ => true⟩,
      ⟨0, 32, .ro, fun _ => 0, fun _ => true⟩] },
  { name := "THM_R", base := 0x420200, insts := 1, count := 144, stride := 0x4, width := 32, lock := none,
    fields := [⟨0, 16, .rw, fun j => if j / 12 = j % 12 then 1000 else 100, fun _ => true⟩] },
  { name := "THM_ZONE_CFG", base := 0x420500, insts := 1, count := 12, stride := 0x8, width := 64, lock := none,
    fields := [⟨16, 26, .rw, fun _ => 0, fun _ => true⟩,
      ⟨0, 10, .rw, fun _ => 20, fun v => 1 ≤ v && v ≤ 1000⟩] }]

/-- The HK block's registers, in address order of its tables. -/
def regsHK : List RegSpec := [
  { name := "HK_SURVEY", base := 0x430000, insts := 1, count := 64, stride := 0x8, width := 32, lock := none,
    fields := [⟨31, 1, .ro, fun _ => 1, fun _ => true⟩,
      ⟨0, 24, .ro, fun _ => 0, fun _ => true⟩] },
  { name := "HK_REMARGIN_CFG", base := 0x430200, insts := 1, count := 1, stride := 0x8, width := 64, lock := none,
    fields := [⟨40, 8, .rw, fun _ => 8, fun _ => true⟩,
      ⟨32, 8, .rw, fun _ => 8, fun _ => true⟩,
      ⟨12, 20, .rw, fun _ => 3600, fun v => 60 ≤ v⟩,
      ⟨0, 1, .rw, fun _ => 1, fun _ => true⟩] },
  { name := "HK_REMARGIN_STATUS", base := 0x430208, insts := 1, count := 1, stride := 0x8, width := 64, lock := none,
    fields := [⟨32, 32, .rc, fun _ => 0, fun _ => true⟩,
      ⟨16, 16, .rc, fun _ => 0, fun _ => true⟩,
      ⟨7, 1, .ro, fun _ => 0, fun _ => true⟩,
      ⟨0, 6, .ro, fun _ => 0, fun _ => true⟩] },
  { name := "HK_AGE", base := 0x430210, insts := 1, count := 1, stride := 0x8, width := 32, lock := none,
    fields := [⟨16, 3, .rw, fun _ => 0, fun v => v ≤ 5⟩,
      ⟨0, 16, .rw, fun _ => 0, fun _ => true⟩] },
  { name := "HK_LOG_STATUS", base := 0x430218, insts := 1, count := 1, stride := 0x8, width := 32, lock := none,
    fields := [⟨16, 16, .rc, fun _ => 0, fun _ => true⟩,
      ⟨8, 8, .ro, fun _ => 0, fun _ => true⟩,
      ⟨4, 4, .ro, fun _ => 0, fun _ => true⟩] }]

/-- The SPW block's registers, in address order of its tables. -/
def regsSPW : List RegSpec := [
  { name := "SPW_SLOT_CFG", base := 0x440000, insts := 1, count := 16, stride := 0x40, width := 64, lock := some fun _ j => F.SPW_SLOT_CFG.LOCK j,
    fields := [⟨63, 1, .w1s, fun _ => 0, fun _ => true⟩,
      ⟨32, 24, .rwl, fun _ => 1000000, fun v => 100000 ≤ v && v ≤ 16777215⟩,
      ⟨24, 8, .rwl, fun _ => 100, fun v => 20 ≤ v && v ≤ 240⟩,
      ⟨16, 8, .rwl, fun _ => 20, fun v => 1 ≤ v && v ≤ 100⟩,
      ⟨8, 8, .rw, fun _ => 20, fun v => 5 ≤ v⟩,
      ⟨4, 4, .rwl, fun _ => 4, fun v => 1 ≤ v⟩,
      ⟨0, 4, .rw, fun _ => 10, fun v => 1 ≤ v⟩] },
  { name := "SPW_SLOT_STATUS", base := 0x440008, insts := 1, count := 16, stride := 0x40, width := 32, lock := none,
    fields := [⟨24, 8, .rc, fun _ => 0, fun _ => true⟩,
      ⟨16, 8, .ro, fun _ => 0, fun _ => true⟩,
      ⟨11, 1, .ro, fun _ => 0, fun _ => true⟩,
      ⟨10, 1, .ro, fun _ => 0, fun _ => true⟩,
      ⟨9, 1, .ro, fun _ => 0, fun _ => true⟩,
      ⟨8, 1, .ro, fun _ => 0, fun _ => true⟩,
      ⟨6, 1, .ro, fun _ => 0, fun _ => true⟩,
      ⟨5, 1, .ro, fun _ => 0, fun _ => true⟩,
      ⟨4, 1, .ro, fun _ => 0, fun _ => true⟩,
      ⟨0, 3, .ro, fun _ => 0, fun _ => true⟩] },
  { name := "SPW_SLOT_METER", base := 0x440010, insts := 1, count := 16, stride := 0x40, width := 64, lock := none,
    fields := [⟨32, 32, .ro, fun _ => 0, fun _ => true⟩,
      ⟨16, 16, .ro, fun _ => 0, fun _ => true⟩,
      ⟨0, 16, .ro, fun _ => 0, fun _ => true⟩] },
  { name := "SPW_SLOT_POWER", base := 0x440018, insts := 1, count := 16, stride := 0x40, width := 32, lock := none,
    fields := [⟨0, 32, .ro, fun _ => 0, fun _ => true⟩] },
  { name := "SPW_SLOT_ENERGY", base := 0x440020, insts := 1, count := 16, stride := 0x40, width := 64, lock := none,
    fields := [⟨0, 64, .ro, fun _ => 0, fun _ => true⟩] },
  { name := "SPW_SLOT_ID", base := 0x440028, insts := 1, count := 16, stride := 0x40, width := 64, lock := none,
    fields := [⟨32, 32, .ro, fun _ => 0, fun _ => true⟩,
      ⟨0, 32, .ro, fun _ => 0, fun _ => true⟩] }]

/-- The PMU block's registers, in address order of its tables. -/
def regsPMU : List RegSpec := [
  { name := "PMU_CTRL", base := 0x450000, insts := 1, count := 1, stride := 0x8, width := 32, lock := none,
    fields := [⟨16, 1, .wo, fun _ => 0, fun _ => true⟩,
      ⟨0, 16, .rw, fun _ => 0, fun _ => true⟩] },
  { name := "PMU_STATUS", base := 0x450008, insts := 1, count := 1, stride := 0x8, width := 64, lock := none,
    fields := [⟨32, 32, .ro, fun _ => 0, fun _ => true⟩,
      ⟨16, 16, .rc, fun _ => 0, fun _ => true⟩,
      ⟨0, 16, .rc, fun _ => 0, fun _ => true⟩] },
  { name := "PMU_SLOT_TRANSIT", base := 0x450010, insts := 1, count := 1, stride := 0x8, width := 64, lock := none,
    fields := [⟨0, 64, .ro, fun _ => 0, fun _ => true⟩] },
  { name := "PMU_SLOT_A", base := 0x450100, insts := 1, count := 16, stride := 0x10, width := 64, lock := none,
    fields := [⟨48, 16, .ro, fun _ => 0, fun _ => true⟩,
      ⟨32, 16, .ro, fun _ => 0, fun _ => true⟩,
      ⟨16, 16, .ro, fun _ => 0, fun _ => true⟩,
      ⟨0, 16, .ro, fun _ => 0, fun _ => true⟩] },
  { name := "PMU_SLOT_B", base := 0x450108, insts := 1, count := 16, stride := 0x10, width := 64, lock := none,
    fields := [⟨48, 16, .ro, fun _ => 0, fun _ => true⟩,
      ⟨32, 16, .ro, fun _ => 0, fun _ => true⟩,
      ⟨16, 16, .ro, fun _ => 0, fun _ => true⟩,
      ⟨0, 16, .ro, fun _ => 0, fun _ => true⟩] },
  { name := "PMU_CTR_CFG", base := 0x451000, insts := 1, count := 256, stride := 0x10, width := 64, lock := none,
    fields := [⟨63, 1, .ro, fun _ => 0, fun _ => true⟩,
      ⟨62, 1, .ro, fun _ => 0, fun _ => true⟩,
      ⟨61, 1, .ro, fun _ => 0, fun _ => true⟩,
      ⟨60, 1, .ro, fun _ => 0, fun _ => true⟩,
      ⟨24, 1, .ro, fun _ => 0, fun _ => true⟩,
      ⟨16, 8, .ro, fun _ => 0, fun _ => true⟩,
      ⟨0, 12, .ro, fun _ => 0, fun _ => true⟩] },
  { name := "PMU_CTR_VALUE", base := 0x451008, insts := 1, count := 256, stride := 0x10, width := 64, lock := none,
    fields := [⟨63, 1, .ro, fun _ => 1, fun _ => true⟩,
      ⟨62, 1, .w1c, fun _ => 0, fun _ => true⟩,
      ⟨0, 48, .rw, fun _ => 0, fun _ => true⟩] }]

/-- The AQ block's registers, in address order of its tables. -/
def regsAQ : List RegSpec := [
  { name := "AQ_IDENT", base := 0x10000000c, insts := 1, count := 64, stride := 0x1000, width := 32, lock := none,
    fields := [⟨16, 16, .ro, fun _ => 0, fun _ => true⟩,
      ⟨14, 2, .ro, fun _ => 0, fun _ => true⟩,
      ⟨8, 6, .ro, fun _ => 0, fun _ => true⟩,
      ⟨0, 8, .ro, fun _ => 0, fun _ => true⟩] },
  { name := "AQ_AGENT", base := 0x100000010, insts := 1, count := 64, stride := 0x1000, width := 32, lock := none,
    fields := [⟨16, 3, .ro, fun _ => 0, fun _ => true⟩,
      ⟨14, 1, .ro, fun _ => 0, fun _ => true⟩,
      ⟨8, 6, .ro, fun _ => 0, fun _ => true⟩,
      ⟨0, 6, .ro, fun j => j, fun _ => true⟩] },
  { name := "AQ_STREAM_CTRL", base := 0x100000014, insts := 1, count := 64, stride := 0x1000, width := 32, lock := none,
    fields := [⟨0, 3, .rw, fun _ => 0, fun v => v ≤ 4⟩] },
  { name := "AQ_PMU_LOC", base := 0x100000018, insts := 1, count := 64, stride := 0x1000, width := 32, lock := none,
    fields := [⟨12, 20, .ro, fun _ => 0, fun _ => true⟩,
      ⟨3, 1, .ro, fun _ => 0, fun _ => true⟩,
      ⟨0, 3, .ro, fun _ => 0, fun _ => true⟩] },
  { name := "AQ_DROP_LOG", base := 0x10000001c, insts := 1, count := 64, stride := 0x1000, width := 32, lock := none,
    fields := [⟨16, 16, .rc, fun _ => 0, fun _ => true⟩,
      ⟨8, 8, .rc, fun _ => 0, fun _ => true⟩,
      ⟨0, 8, .rc, fun _ => 0, fun _ => true⟩] },
  { name := "AQ_DMR_LOC", base := 0x100000028, insts := 1, count := 64, stride := 0x1000, width := 32, lock := none,
    fields := [⟨12, 20, .ro, fun _ => 0, fun _ => true⟩,
      ⟨3, 1, .ro, fun _ => 0, fun _ => true⟩,
      ⟨0, 3, .ro, fun _ => 0, fun _ => true⟩] }]

/-- Every register of the map. -/
def regTable : List RegSpec :=
  regsHP ++ regsST ++ regsHA ++ regsTIER ++ regsCMP ++ regsCRY ++ regsQOS ++ regsCLU ++ regsDC ++ regsMGT ++ regsMBX ++
  regsSEC ++ regsERR ++ regsTB ++ regsPWR ++ regsTHM ++ regsHK ++ regsSPW ++ regsPMU ++ regsAQ

/-- Instance and index of a register specification that lies at byte address `addr`. -/
def RegSpec.at? (r : RegSpec) (addr : Nat) : Option (Nat × Nat) :=
  if addr < r.base then none else
  let off := addr - r.base
  let i := if r.insts = 1 then 0 else off / 0x10000
  let o := if r.insts = 1 then off else off % 0x10000
  if i < r.insts && o % r.stride == 0 && o / r.stride < r.count then some (i, o / r.stride) else none

/-- The register at byte address `addr`, with its instance and index (R453, R456). -/
def findIn : List RegSpec → Nat → Option (RegSpec × Nat × Nat)
  | [], _ => none
  | r :: rs, addr =>
    match r.at? addr with
    | some (i, j) => some (r, i, j)
    | none => findIn rs addr

/-- The blocks of R453: (base, SOURCE code of R429 and R459, registers of one instance counted with each index). -/
structure BlockInfo where
  base : Nat
  code : Nat
deriving DecidableEq, Repr

/-- The registers of a block: the table part that a base address selects. -/
def blockRegs (base : Nat) : List RegSpec :=
  if base = 0x100000 then regsHP else if base = 0x110000 then regsST else if base = 0x120000 then regsHA
  else if base = 0x130000 then regsTIER else if base = 0x140000 then regsCMP else if base = 0x150000 then regsCRY
  else if base = 0x160000 then regsQOS else if base = 0x170000 then regsCLU
  else if 0x200000 ≤ base && base ≤ 0x2F0000 then regsDC
  else if base = 0x300000 then regsMGT else if base = 0x310000 then regsMBX else if base = 0x320000 then regsSEC
  else if base = 0x330000 then regsERR else if base = 0x400000 then regsTB else if base = 0x410000 then regsPWR
  else if base = 0x420000 then regsTHM else if base = 0x430000 then regsHK else if base = 0x440000 then regsSPW
  else if base = 0x450000 then regsPMU else if 0x100000000 ≤ base then regsAQ else []

/-- The register at byte address `addr`, if one lies there. -/
def regAt (addr : Nat) : Option (RegSpec × Nat × Nat) :=
  findIn (blockRegs (if 0x100000000 ≤ addr then 0x100000000 else addr / 0x10000 * 0x10000)) addr

/-- R459: registers in one instance of the block at `base`, each index counted separately, PREFIX_BLKID among them. -/
def regsOfBlock (base : Nat) : Nat :=
  ((blockRegs base).map (·.count)).foldl (· + ·) 1

/-- Reset domains of R457. -/
inductive Domain where
  | vaux | aon | core | mgmt | crypto | port (p : Nat) | stitch | tier | clutch | chan (c : Nat)
deriving DecidableEq, Repr

/-- R453, R457: the reset domain of a register by its byte address (configuration space: the domain of the slot's
port). -/
def domainOfAddr (addr : Nat) : Domain :=
  if 0x100000000 ≤ addr then .port ((addr - 0x100000000) / 0x1000 / 16)
  else
    let off := addr % 0x10000
    match addr / 0x10000 with
    | 0x10 => if 0x1000 ≤ off && off < 0x2000 then .port ((off - 0x1000) / 0x100 / 4) else .core
    | 0x11 => .stitch
    | 0x12 => .core
    | 0x13 => .tier
    | 0x14 => .core
    | 0x15 => .crypto
    | 0x16 => .core
    | 0x17 => .clutch
    | 0x30 => .mgmt
    | 0x31 => .mgmt
    | 0x32 => if off = 0x10 then .aon else .mgmt
    | 0x33 => if 0x100 ≤ off && off < 0x120 then .aon else .core
    | b => if 0x20 ≤ b && b < 0x30 then .chan (b - 0x20) else .aon

/-- R457: the domain of a field; PWR_SL_STATUS.BROWNOUT alone lies in VAUX. -/
def domainOfKey (key : Nat) : Domain :=
  if key = 0x410008 * 64 + 16 then .vaux else domainOfAddr (key / 64)

/-- R458: fields that resets of the always-on domain leave unless it is a power-on (R401, R434, R460): none is listed,
since a brown-out resets the device as a power-on does (R372). The key of a field in the sparse register file. -/
def Fld.key (f : Fld) : Nat := f.addr * 64 + f.lo

end Sys2Proof.Machine
end

