-- ==== Sys2Proof/Machine/Tab.lean ====
section
/-!
DEFINITION. Sparse tables in one canonical form: rising keys, and no cell equal to the table's default, which is what
an unlisted key reads as. Every table of the state (DRAM, catalogue, directories, register file) is one of these, so
that equal tables are equal data.
-/

namespace Sys2Proof.Machine

/-- The first cell of key `k`. -/
def cellFind {α : Type} (k : Nat) : List (Nat × α) → Option α
  | [] => none
  | (a, v) :: r => if a = k then some v else cellFind k r

/-- The cells without those of key `k`. -/
def cellErase {α : Type} (k : Nat) (l : List (Nat × α)) : List (Nat × α) := l.filter (fun c => c.1 != k)

/-- The cells with key `k` holding `v`, kept in rising key order. -/
def cellInsert {α : Type} (k : Nat) (v : α) : List (Nat × α) → List (Nat × α)
  | [] => [(k, v)]
  | (a, w) :: r =>
    if k < a then (k, v) :: (a, w) :: r
    else if k = a then (k, v) :: r
    else (a, w) :: cellInsert k v r

/-- Keys strictly rising. -/
def cellsRising {α : Type} : List (Nat × α) → Bool
  | [] => true
  | [_] => true
  | (a, _) :: (b, w) :: r => decide (a < b) && cellsRising ((b, w) :: r)

/-- A sparse table: an unlisted key reads as `d`. -/
structure Tab (α : Type) (d : α) where
  cells : List (Nat × α) := []
deriving DecidableEq, Repr

/-- The value at key `k`. -/
def Tab.get {α : Type} {d : α} (t : Tab α d) (k : Nat) : α := (cellFind k t.cells).getD d

/-- The table with `v` at key `k`. -/
def Tab.set {α : Type} {d : α} [DecidableEq α] (t : Tab α d) (k : Nat) (v : α) : Tab α d :=
  if v = d then ⟨cellErase k t.cells⟩ else ⟨cellInsert k v t.cells⟩

/-- The table with `f` applied to the value at key `k`. -/
def Tab.upd {α : Type} {d : α} [DecidableEq α] (t : Tab α d) (k : Nat) (f : α → α) : Tab α d := t.set k (f (t.get k))

/-- The table with the listed cells that satisfy `p` alone; the others read as the default. -/
def Tab.keep {α : Type} {d : α} (t : Tab α d) (p : Nat → α → Bool) : Tab α d := ⟨t.cells.filter (fun c => p c.1 c.2)⟩

/-- The table with `f` applied to every listed cell; a cell that becomes the default is no longer listed. -/
def Tab.mapCells {α : Type} {d : α} [DecidableEq α] (t : Tab α d) (f : Nat → α → α) : Tab α d :=
  ⟨(t.cells.map (fun c => (c.1, f c.1 c.2))).filter (fun c => c.2 != d)⟩

/-- The canonical form: rising keys, no cell equal to the default. -/
def Tab.wf {α : Type} {d : α} [DecidableEq α] (t : Tab α d) : Bool :=
  cellsRising t.cells && t.cells.all (fun c => c.2 != d)

/-- Writes a list of values at consecutive keys from `k`. -/
def Tab.setList {α : Type} {d : α} [DecidableEq α] (t : Tab α d) (k : Nat) : List α → Tab α d
  | [] => t
  | v :: vs => (t.set k v).setList (k + 1) vs

/-- The `n` values at consecutive keys from `k`. -/
def Tab.getList {α : Type} {d : α} (t : Tab α d) (k : Nat) : Nat → List α
  | 0 => []
  | n + 1 => t.get k :: t.getList (k + 1) n

end Sys2Proof.Machine
end

