-- ==== Sys2Proof/Machine/State.lean ====
section
/-!
DEFINITION. The state of the device as plain data: every register (a sparse register file over the map of
Registers.lean), every table, queue and buffer the chapters name, the timebase, the queue of commands that wait, and
what has left the device. Fields without a reset value in the spec are named in the assumption log (entry 3).
-/

namespace Sys2Proof.Machine

/-! ### Errors (R427 to R438) -/

/-- R429: an error record. `known` is the CPA of the line stored at a DRAM_UE's address where the access that found it
knows it (R481); it is no part of the 32 bytes. -/
structure ErrRec where
  code : Nat
  cls : Nat
  source : Nat
  inst : Nat
  count : Nat
  seq : Nat
  tb : Nat
  addr : Nat
  detail : Nat
  lastUs : Nat
  known : Option Nat := none
deriving DecidableEq, Repr

/-- The ERR block beside its plain registers: the latched records, the queue, the copies handed to the frame executive
for host notices (R432), and the poison list (R438), newest line last. -/
structure ErrSt where
  first : Option ErrRec := none
  fatal : Option ErrRec := none
  aonLast : Option ErrRec := none
  queue : List ErrRec := []
  copies : List ErrRec := []
  poison : List Nat := []
  poisonNew : Nat := 0
deriving DecidableEq, Repr

/-! ### Host ports (R41 to R71) -/

/-- R47: an extent table entry, in bytes of the LD's DPA space, GiB, and presented bytes; `source` 0 to 7 is the DC
region, none is static; `tag` is the tag of a sharable DC extent (R51); `shared` lists which of its regions are shared or leased ones
of another member (R49). -/
structure Extent where
  dpa : Nat
  gib : Nat
  base : Nat
  source : Option Nat
  tag : Nat := 0
  shared : List Nat := []
deriving DecidableEq, Repr

/-- R48: an HDM decoder of a logical device. -/
structure Hdm where
  base : Nat := 0
  size : Nat := 0
  ways : Nat := 1
  gran : Nat := 256
  target : Nat := 0
  dpa : Nat := 0
  committed : Bool := false
  notCommitted : Bool := false
deriving DecidableEq, Repr

/-- Event records of R59, by kind, with the DPA (or 0) and the record's code. -/
inductive EventKind where
  | generalMedia | dram | memoryModule | dynamicCapacity | deviceWide
deriving DecidableEq, Repr

/-- An event record held in a logical device's event log, with the LD's timestamp (R58, Set Timestamp). -/
structure EventRec where
  kind : EventKind
  code : Nat
  dpa : Nat
  detail : Nat
  time : Nat := 0
deriving DecidableEq, Repr

/-- A logical device (R42, R47 to R51, R58, R59, R63, R66); `offers` are the DC extents offered and not answered. -/
structure LdSt where
  extents : List Extent := []
  offers : List DcExtent := []
  hdm : List Hdm := [{}, {}, {}, {}]
  mse : Bool := false
  log : List EventRec := []
  irqHeld : Bool := false
  irqPolicy : Nat := 0
  timestamp : Nat := 0
  timestampTb : Nat := 0
  tbLatch : Option Nat := none
  dropTimeout : Nat := 0
  dropTb : Nat := 0
  userPage : Bool := false
deriving DecidableEq, Repr

/-- A host link (R42, R46, R53 to R57, R64 to R66); `ideKey` is the key in force, none where none was set or it was dropped. -/
structure LinkSt where
  up : Bool := false
  width : Nat := 0
  savedWidth : Nat := 0
  trained : Nat := 0
  speed : Nat := 0
  flit68 : Bool := false
  lds : Nat := 1
  ptm : Bool := false
  ide : Bool := false
  ideMode : Nat := 0
  ideInsecure : Bool := false
  ideKey : Option (BitVec 256) := none
  credits : Nat := 32
deriving DecidableEq, Repr

/-- A host port's latched configuration (R45) and whether its domain is held in reset. -/
structure PortSt where
  inReset : Bool := true
  since : Nat := 0
  bifurc : Nat := 0
  maxSpeed : Nat := 5
  laneRev : Bool := false
  detect : Bool := false
deriving DecidableEq, Repr

/-! ### Requests and the home slices (R22 to R28, R190 to R214) -/

/-- Intents of R192. -/
inductive Intent where
  | readS | readA | readNC | invA | downS | evict | wb (keep : Nat) | wrNC | unknown (data : Bool) | recall
deriving DecidableEq, Repr

/-- Who waits for a request's reply: a host LD, a stitch port's peer member, a ring of the data mover (slot of the
descriptor, line number within the operation, `true` for a write) or its descriptor fetch, or nobody. -/
inductive Src where
  | host (slot tag stream : Nat)
  | peer (port tag member : Nat)
  | mover (ring slot line : Nat) (write : Bool)
  | fetch (ring slot : Nat)
  | internal
deriving DecidableEq, Repr

/-- Where a request stands: `order` behind an earlier one of its line (R37), `peer` with a holder's segment on its way (R262),
`away` served by another member (R248), `done` answered while later sectors of its segment are still read (R23). -/
inductive Stage where
  | arrived | pinWait | backing | lineQueue | snoop | lease | order | metaWait | storage | bufferFull | keystream | admission | dram
  | decode | peer | away | done
deriving DecidableEq, Repr

/-- A stored unit and the counter state under which it is kept (R155): where it lies, its place in its page, and the
outcome of its read (none while not read; `some none` reads as poison). -/
structure UnitRead where
  chan : Nat
  line : Nat
  idx : Nat
  key : Nat := 0
  gen : Nat := 0
  tier : Nat := 1
  major : Nat := 0
  minor : Nat := 0
  got : Bool := false
  sym : List Nat := []
  value : Option (BitVec 512) := none
deriving DecidableEq, Repr

/-- A request in the device. -/
structure Req where
  id : Nat
  src : Src
  intent : Intent
  addr : Nat
  master : Nat
  agent : Option Nat
  input : Nat
  write : Bool
  data : BitVec 512 := 0
  mask : BitVec 64 := 0
  poison : Bool := false
  hint : Option Nat := none
  stage : Stage := .arrived
  tracker : Bool := false
  opened : Bool := false
  snoops : Nat := 0
  grant : Nat := 0
  since : Nat := 0
  born : Nat := 0
  charge : Nat := 0
  throttled : Bool := false
  severe : Bool := false
  fill : Nat := 0
  units : List UnitRead := []
  firstIdx : Nat := 0
  seg : Nat := 0
  code : Nat := 0
  engine : Nat := 0
  metaOk : Bool := false
  heat : Bool := false
  absent : Bool := false
  muted : Bool := false
  discard : Bool := false
deriving DecidableEq, Repr

/-- R193: an almanac way. -/
structure AlmEnt where
  valid : Bool := false
  tag : Nat := 0
  state : Nat := 0
  presence : BitVec 64 := 0
  dirty : Bool := false
  pins : Nat := 0
  used : Nat := 0
  kept : Nat := 0
deriving DecidableEq, Repr

/-- R103, R104: a near-cache way. -/
structure NearEnt where
  valid : Bool := false
  addr : Nat := 0
  data : BitVec 512 := 0
  owner : Nat := 64
  key : Nat := 0
  used : Nat := 0
deriving DecidableEq, Repr

/-- R27: a line of a slice's write buffer. `mask` marks the bytes that hold data; a merge is pending while it is not
all ones (R175). `minor` is the increment reserved for its DRAM write, none where none is reserved (R163). -/
structure WbLine where
  addr : Nat
  data : BitVec 512
  mask : BitVec 64
  poison : Bool := false
  reserved : Bool := false
  minor : Option Nat := none
  queued : Bool := false
  issued : Bool := false
  master : Nat := 0
  hint : Option Nat := none
deriving DecidableEq, Repr

/-- A back-invalidate snoop that is not answered yet (R54, R202, R205). `home` names the port, tag and member of the
home that asked for it across the stitch links, and `data` is what the agent has written back since, with its poison, for that home
(R257); its address is then a CPA. `issued` is when it first left (R68). -/
structure Snoop where
  req : Nat
  han : Nat
  inv : Bool
  addr : Nat
  sent : Bool := false
  held : Bool := false
  issued : Option Nat := none
  toOwner : Bool := false
  wbReserved : Bool := false
  remote : Bool := false
  prior : Bool := false
  wrote : Bool := false
  home : Option (Nat × Nat × Nat) := none
  data : Option (BitVec 512 × Bool) := none
deriving DecidableEq, Repr

/-! ### Regions, the catalogue and moves (R72 to R102) -/

/-- R72, R180, R208: a region descriptor (its 16 copies are kept equal). -/
structure Region where
  state : Nat := 0
  cls : Nat := 0
  key : Nat := 0
  gen : Nat := 0
  walk : Bool := false
  srcKey : Nat := 0
  srcGen : Nat := 0
  dirSlot : Nat := 0
  holder : Nat := 0
  lease : Nat := 0
  breaker : Nat := 0
  epoch : Nat := 0
  breakTb : Nat := 0
  breakMs : Nat := 0
  initLost : Bool := false
deriving DecidableEq, Repr

/-- R97: a frame of a channel. -/
structure Frame where
  use : Nat := 0
  gmap : BitVec 16 := 0
deriving DecidableEq, Repr

/-- Kinds of page move (R87 to R92, R100, R141, R178, R182, R261 to R263). -/
inductive MoveKind where
  | demote | promote | fill | rekey | evac | recompress | walk (ctx : Nat) | spill | unspill
deriving DecidableEq, Repr

/-- A segment of a page in a move: what is still to be done with it. -/
inductive SegWork where
  | stored (bytes : List Nat) (code : Nat) (want : Option Nat)  -- waits for a decoder; no bytes: for its holder's answer (R262)
  | plain (bytes : List Nat) (code : Nat) (kept : List Nat)   -- waits for an encoder; `kept` the stored form
  | ready (bytes : List Nat) (code : Nat) (bad : List Nat)    -- final form; `bad` the sectors that are poison
deriving DecidableEq, Repr

/-- A move in flight (R87). `peer` says that the new storage is a spill slot of member `newChan`. The policy a move
started with stays with it: `minGain` of TIER_POLICY, `level`, `minSave` and `limit` of CMP_RECOMP_CFG. -/
structure Move where
  page : Nat
  kind : MoveKind
  writes : Nat := 0
  start : Nat := 0
  segs : List SegWork := []
  newChan : Nat := 0
  newAt : Nat := 0
  taken : Bool := false
  peer : Bool := false
  waitPeer : Bool := false
  secs : List Nat := []
  minGain : Nat := 0
  level : Nat := 0
  minSave : Nat := 0
  limit : Nat := 0
deriving DecidableEq, Repr

/-- R181: a walk context. -/
structure Walk where
  region : Nat
  keyMove : Bool
  srcKey : Nat
  srcGen : Nat
  ptr : List Nat
deriving DecidableEq, Repr

/-- A walk that waits for a context (R181): region, destination key for a key move. -/
structure WalkReq where
  region : Nat
  toKey : Option Nat
deriving DecidableEq, Repr

/-! ### Metadata and keys (R150 to R186) -/

/-- A metadata line of a slice: kind 0 counter block, 1 catalogue line, 2 to 6 tree level 1 to 5. -/
structure MetaLine where
  slice : Nat
  kind : Nat
  index : Nat
  val : BitVec 512
  dirty : Bool := false
  used : Nat := 0
  evicting : Bool := false
deriving DecidableEq, Repr

/-- R159: a metadata line as stored: its plaintext and its 6-byte tag. -/
structure MetaSto where
  val : BitVec 512
  tag : Nat
deriving DecidableEq, Repr

/-- R168: a node rekey in progress: the node, its counters before it, and the slots already written under its new state. -/
structure NodeRekey where
  slice : Nat
  kind : Nat
  index : Nat
  old : BitVec 512
  /-- Slots whose child has been written under the new state since. -/
  written : List Nat := []
deriving DecidableEq, Repr

/-- R150, R152: a key slot's secrets (its registers hold the rest). -/
structure KeySlot where
  wk : Option (BitVec 256) := none
deriving DecidableEq, Repr

/-- R169: a keystream entry of a crypto engine. -/
structure Keystream where
  req : Nat
  unit : Nat
  key : Nat
  ready : Bool
deriving DecidableEq, Repr

/-! ### DRAM channels (R271 to R299) -/

/-- An entry of a subchannel's read or write queue (R285): a request's unread units, or a buffered line's write. -/
structure DramReq where
  req : Nat
  addr : Nat
  master : Nat
  write : Bool
  lines : List Nat
  since : Nat
deriving DecidableEq, Repr

/-- A column access whose data has not arrived: the request and its unit. -/
structure Inflight where
  req : Nat
  unit : Nat
  line : Nat
  write : Bool
  addr : Nat
  /-- R281: the device that was marked when the read was issued. -/
  mark : Option Nat := none
deriving DecidableEq, Repr

/-- A subchannel (R285). -/
structure SubChan where
  reads : List DramReq := []
  writes : List DramReq := []
  draining : Bool := false
  inflight : List Inflight := []
deriving DecidableEq, Repr

/-- An open row of a bank (R285): rank, bank group, bank and row, with the time of its last access. -/
structure OpenRow where
  sc : Nat
  rank : Nat
  bg : Nat
  ba : Nat
  row : Nat
  last : Nat
deriving DecidableEq, Repr

/-- A rank (R285, R288, R292). -/
structure RankSt where
  powerDown : Bool := false
  selfRefresh : Bool := false
  idleSince : Nat := 0
  converted : Nat := 0
  lastRef : Option Nat := none
deriving DecidableEq, Repr

/-- R299: the training of a channel by the firmware: the rank, subchannel and place in the reference sequence of the step at hand,
whether it has been started, and the transit in which it was last polled. -/
structure Trainer where
  rank : Nat := 0
  sc : Nat := 0
  at_ : Nat := 0
  issued : Bool := false
  polled : Option Nat := none
deriving DecidableEq, Repr

/-- A channel's controller beside its registers. `bursts` holds the bursts not yet counted in a slot (bucket numbers), `buckets`
the slots of the running transit by bucket (R448), and `slotAcc` the part of a slot gone by. -/
structure ChanSt where
  sc0 : SubChan := {}
  sc1 : SubChan := {}
  rows : List OpenRow := []
  ranks : List RankSt := List.replicate 8 {}
  planTb : Nat := 0
  counts : List (Nat × Nat) := []
  writebacks : List (Nat × BitVec 640) := []
  overTemp : Bool := false
  maint : Nat := 0
  /-- R272: the DIMMs' rated speed, as DCn_CFG.SPEED counts it, once the configuration is locked. -/
  rated : Nat := 4
  /-- R299: the training steps, by 16 × STEP + 8 × SC + RANK, whose last run left lanes narrower than the guard band, with a map of
  these lanes. -/
  narrow : List (Nat × Nat) := []
  /-- R294: ENABLE as it stood when the transit began. -/
  live : Bool := false
  /-- R291: column accesses of requests in the transit. -/
  used : Nat := 0
  /-- R297: STEP, SC and RANK of the step that runs. -/
  trn : Nat × Nat × Nat := (0, 0, 0)
  /-- R299: the settings of lanes that no register holds, by 64 times the key of `narrow` plus the lane. -/
  settings : List (Nat × Nat) := []
  trainer : Option Trainer := none
  /-- R299: whether the last training failed. -/
  trainFailed : Bool := false
  /-- R282: whether the channel's marks have changed since they were saved. -/
  saveMarks : Bool := false
  /-- R296: whether zero initialisation runs. -/
  zeroing : Bool := false
  slotAcc : Nat := 0
  bursts : List Nat := []
  buckets : List Nat := List.replicate 8 0
deriving DecidableEq, Repr

/-! ### Periodic jobs (R30 to R35) -/

/-- A released unit of a job: the transit it was released in, its deadline (the end of a transit), and its consecutive
overruns. -/
structure JobUnit where
  rel : Nat
  deadline : Nat
  consec : Nat := 0
deriving DecidableEq, Repr

/-! ### Regulator (R300 to R312) -/

/-- A master's buckets and virtual time (R302, R305). -/
structure MasterSt where
  gb : Int := 0
  vt : Nat := 0
  runG : Nat := 0
  runS : Nat := 0
  /-- R301, R306: accesses of an internal master that are not admitted yet. -/
  owed : Nat := 0
deriving DecidableEq, Repr

/-- A pending configuration entry (R310): master, G, W, QMAX, NCMIN. -/
structure QosEntry where
  master : Nat
  g : Nat
  w : Nat
  qmax : Nat
  ncmin : Nat
deriving DecidableEq, Repr

/-! ### Compression engines (R129 to R149) -/

/-- Whose segment a job is: a move's page, a request's line read, or a ring's operation. -/
inductive JobOwner where
  | move (page seg : Nat)
  | read (req : Nat)
  | mover (ring slot seg : Nat)
deriving DecidableEq, Repr

/-- An encoder job (R134). -/
structure EncJob where
  owner : JobOwner
  input : List Nat
  level : Nat
  failedOn : Option Nat := none
deriving DecidableEq, Repr

/-- A decoder job (R143). -/
structure DecJob where
  owner : JobOwner
  bytes : List Nat
  code : Option Nat
  want : Option Nat
  home : Nat
  failedLane : Option Nat := none
  stop : Option Nat := none
deriving DecidableEq, Repr

/-- The engines beside their registers. -/
structure CmpSt where
  demoteQ : List EncJob := []
  moverQ : List EncJob := []
  recompQ : List EncJob := []
  encoders : List (Nat × EncJob) := []
  waitDec : List DecJob := []
  decoders : List (Nat × DecJob) := []
  faults : List (Nat × Nat) := []
  pages : List (Nat × Nat) := []
  turn : Nat := 0
deriving DecidableEq, Repr

/-! ### Data mover (R105 to R110) -/

/-- R106: a descriptor. -/
structure Desc where
  opcode : Nat
  flags : Nat
  level : Nat
  hintHan : Nat
  length : Nat
  src : Nat
  dst : Nat
  pattern : Nat
  auxLen : Nat
deriving DecidableEq, Repr

/-- An operation of a ring: descriptor slot, whether it has started, what it still waits for, and its result. `outOff`
counts bytes written by a COMPRESS, or source lines asked for by a DECOMPRESS; `inOff` is the offset of a DECOMPRESS's
segment, `decoding` says that a decoder has it; `overwritten` are lines of a ZERO that another write has been accepted for since. -/
structure MoverOp where
  slot : Nat
  desc : Desc
  started : Bool := false
  pendingLines : Nat := 0
  writing : Nat := 0
  decoding : Bool := false
  srcLines : List (Nat × Option (BitVec 512)) := []
  segOut : List (Nat × Option (List Nat)) := []
  nextSeg : Nat := 0
  outOff : Nat := 0
  inOff : Nat := 0
  status : Option Nat := none
  poisoned : Bool := false
  resultLen : Nat := 0
  done : Bool := false
  overwritten : List Nat := []
deriving DecidableEq, Repr

/-- A ring beside its registers: next slot to fetch, descriptors that arrived and are not taken up (none: poison), and the
operations of the slots from HEAD on, in slot order. -/
structure RingSt where
  fetch : Nat := 0
  got : List (Nat × Option (BitVec 512)) := []
  ops : List MoverOp := []
deriving DecidableEq, Repr

/-! ### Stitch ports (R215 to R245) and open transactions across them (R248, R251, R257, R261, R262) -/

/-- What an open stitch transaction of this member serves when its answer arrives. -/
inductive StWhat where
  | read (req : Nat) | write (req : Nat)
  | spillPut (page seg : Nat) | spillRead (req seg : Nat) | spillMove (page seg : Nat) | spillFree
  | snoop (req han : Nat)
  | command (p : Packet) (accepted : Bool)
  | forward (port : Nat) (tag : Nat)
  | control
deriving DecidableEq, Repr

/-- An open transaction: egress port and tag on it once it is sent (none before), what it serves, the message, and whether
it is sent again after a change of routes (R267). -/
structure StOpen where
  port : Nat
  tag : Option Nat := none
  what : StWhat
  msg : StMsg
  since : Nat
  again : Bool := false
deriving DecidableEq, Repr

/-- A sequenced flit (R222): VC 0 REQ, 1 RSP, 2 DAT, 3 SNP. `forwarded`: it waits here on its way between other members (R269). -/
structure Flit where
  vc : Nat
  seq : Nat := 0
  poison : Bool := false
  last : Bool := false
  dtag : Nat := 0
  beat : Nat := 0
  scode : Nat := 0
  payload : BitVec 512
  forwarded : Bool := false
deriving DecidableEq, Repr

/-- A stitch port beside its registers. Training (R219 to R221): the attempt's start, lanes that detect a receiver, receive lanes
that locked, the map the partner announces for its own, what it permits, the physical lanes of the logical ones and of the spare,
and COLD. Sending (R226, R229, R231): next SEQ, replay buffer, flits that wait, SENT and LIMIT by VC, and the replay timer with
the replays in a row. The wire (R216, R218, R225): bytes by which each logical lane's scrambler has advanced from its seed, the
start of the next flit slot in eighths of a ns, slots since the last CTRL flit, and the FLAGS and SPARE_LANE of CTRL flits that
wait for their slot. Receiving (R227, R228, R230): E, mode, NAK timer and count, flits accepted since the last acknowledgement,
FREED and what was advertised of it, and the VC buffers. The spare (R243, R244): the lane it carries in each direction, the
SPARE_REQ that waits for its answer, flits of the window, and FLIT_COUNT by direction. -/
structure StPort where
  attempt : Option Nat := none
  detected : List Nat := []
  locked : List Nat := []
  peerMap : List (Nat × Nat) := []
  peerSpeeds : Nat := 0
  peerWidths : Nat := 0
  peerFlags : Nat := 0
  map : List Nat := []
  spare : Option Nat := none
  cold : Bool := true
  leftActive : Option Nat := none
  down : Bool := false
  resets : List Nat := []
  syncGot : Bool := false
  seenGot : Bool := false
  lastSync : Option Nat := none
  nextSeq : Nat := 0
  replay : List Flit := []
  txq : List Flit := []
  sent : List Nat := [0, 0, 0, 0]
  limit : List (Option Nat) := [none, none, none, none]
  replayTb : Option Nat := none
  replays : Nat := 0
  reqWait : Nat := 0
  txSpare : Option Nat := none
  scramble : List Nat := [0, 0, 0, 0, 0, 0, 0, 0]
  slot : Nat := 0
  gap : Nat := 3
  ctrlDue : List (Nat × Nat) := []
  e : Nat := 0
  wait : Bool := false
  nakTb : Option Nat := none
  naks : Nat := 0
  acc : Nat := 0
  ackTb : Option Nat := none
  freed : List Nat := [64, 64, 256, 32]
  adv : List Nat := [64, 64, 256, 32]
  rxReq : List StMsg := []
  rxRsp : List StMsg := []
  rxSnp : List StMsg := []
  rxDat : List Flit := []
  rxSpare : Option Nat := none
  spareReq : Option Nat := none
  spareReqTb : Nat := 0
  window : Nat := 0
  txCount : Nat := 0
  rxCount : Nat := 0
deriving DecidableEq, Repr

/-- R237, R260: a spill slot held for a member: its path, the storage codes of the four segments, and the sectors that came as
poison, by 16 × segment + sector. -/
structure Spill where
  owner : Nat
  codes : List Nat := [0, 0, 0, 0]
  bad : List Nat := []
deriving DecidableEq, Repr

/-! ### Clutches (R246 to R270) -/

/-- R254: what a member's HELLO says of it. -/
structure Hello where
  id : Nat
  path : Nat
  depth : Nat
  version : Nat
  presented : Nat
  shared : Nat
  auth : BitVec 256
  peers : List Nat
  hanReq : BitVec 64
deriving DecidableEq, Repr

/-- A change of membership or routes that the top head carries out under a hold (R264, R268 to R270): members, failed
members, and the STATE the roster will show. -/
structure Change where
  members : BitVec 64
  failed : BitVec 64
  state : Nat
deriving DecidableEq, Repr

/-- A member's clutch logic beside its registers: flood numbers (R254), HELLOs received, when it began to form, when it
became top head, when a roster last arrived, its claim and those it received (R256), link reports (R264), the hold
(R269), at the top head the change in progress and the members being removed, the level and free slots last reported (R254),
the most free slots each member has reported, whether this member was told to leave (R270), and the links among the members when the
present routes were made: member, port, partner (R267). -/
structure CluSt where
  seq : Nat := 0
  seen : List (Nat × Nat) := []
  hellos : List Hello := []
  beganTb : Option Nat := none
  headTb : Option Nat := none
  heardTb : Nat := 0
  helloTransit : Option Nat := none
  rosterTransit : Option Nat := none
  rosterSeen : Bool := false
  /-- R255: CLUTCH_FORM_FAIL was raised. -/
  formFailed : Bool := false
  claimTb : Option Nat := none
  claims : List Nat := []
  deferTb : Option Nat := none
  linksDown : List (Nat × Nat) := []
  linkTb : Option Nat := none
  hold : Bool := false
  heldSent : Bool := false
  /-- R269: the member that HELD is sent to. -/
  holdFor : Nat := 0
  heldFrom : List Nat := []
  change : Option Change := none
  leaving : List Nat := []
  released : Bool := false
  lastLevel : Option (Nat × Nat) := none
  totals : List (Nat × Nat) := []
  left : Bool := false
  routeLinks : List (Nat × Nat × Nat) := []
deriving DecidableEq, Repr

/-! ### Spine hops (R13 to R20) -/

/-- R18: a hop of the spine: the words its sender may still have to resend (sequence number and the TB at which each was last
sent or named), the word its receiver waits for, the word the replay request on its way names, and the failed attempts of the
awaited word. -/
structure HopSt where
  buffer : List (Nat × Nat) := []
  await : Option Nat := none
  asked : Option Nat := none
  fails : Nat := 0
deriving DecidableEq, Repr

/-! ### Power, sleep and time (R369 to R387, R473) -/

/-- R374: stages of a change of performance level. -/
inductive PlStage where
  | idle | raising | switching | lowering
deriving DecidableEq, Repr

/-- R374, R375, R397: the PL sequencer: its stage, the level it goes to, the transit it reserved, the SET_PL whose reply waits
for it, VDD_CORE in mV, and whether BUSY was 1 during the present survey round. -/
structure PlSt where
  stage : PlStage := .idle
  target : Nat := 0
  reserved : Option Nat := none
  waiting : Option Packet := none
  volt : Nat := 820
  busySeen : Bool := false
deriving DecidableEq, Repr

/-- R378: a stop sequence: the SLEEP that asked for it, its target, whether the device was in SL1, the block being stopped and
the TB since which it has been asked. -/
structure SleepSt where
  packet : Packet
  target : Nat
  from1 : Bool
  block : Nat
  since : Nat
deriving DecidableEq, Repr

/-- R378, R380: what the retention store holds in SL3: key slots, SALT, Kint, roots, and the register fields LOADS, DCn_DLY and
DCn_MARK by their keys. -/
structure Retained where
  keys : Tab KeySlot {} := {}
  salt : BitVec 256 := 0
  kint : BitVec 256 := 0
  roots : Tab (BitVec 512) 0 := {}
  fields : List (Nat × Nat) := []
deriving DecidableEq, Repr

/-- Power beside its registers: the level sequencer, the stop sequence, the exit under way (0 until the PLLs lock, then 1), the
retention store, the always-on regulator's low-power mode (R370), whether VDD_CORE and VDD_SRAM are off, the firings of
maskable wake sources in the last second with their TB, the masked sources with the TB they last fired (R473), whether a wake
arrived during the entry (R382), the TB of the last entry (R444), and the value of PWR_WAKE_TIMER that has fired. -/
structure PwrSt where
  pl : PlSt := {}
  sleep : Option SleepSt := none
  exiting : Option Nat := none
  retained : Option Retained := none
  lowPower : Bool := false
  railsOff : Bool := false
  fires : List (Nat × Nat) := []
  masked : List (Nat × Nat) := []
  latched : Bool := false
  entryTb : Nat := 0
  timerDone : Nat := 0
deriving DecidableEq, Repr

/-- R385, R386: the timebase beside its registers: coarse counting, the accumulator of crystal corrections, a forward step that
waits for the next transit boundary, the offset still to be slewed out and the ns counted toward its next correction,
exchanges in a row below 200 ns, the offset recorded for the present PTM link, that link, the TB of the last exchange, the
crystal ticks since TRIM was last updated, and the part of a fabric clock run. -/
structure TbSt where
  coarse : Bool := false
  acc : Int := 0
  step : Nat := 0
  slew : Int := 0
  slewAcc : Nat := 0
  good : Nat := 0
  base : Int := 0
  link : Option Nat := none
  lastPtm : Nat := 0
  trimTb : Nat := 0
  clock : Nat := 0
deriving DecidableEq, Repr

/-! ### Thermal model, housekeeping, logbook (R388 to R413) -/

/-- The thermal model beside its registers: dt of each zone in 10^-6 °C (R393), invalid rounds of the reference in a row and its
last valid value in 1/16 °C (R394), whether channel 0's self-check passes, the TBs of trips (R401), whether the device is shut
down by a trip and whether it stays off, and since when channel 0 has read at or below RESTART_C. -/
structure ThmSt where
  dt : List Int := List.replicate 12 0
  bad : Nat := 0
  lastRef : Int := 0
  selfCheck : Bool := true
  trips : List Nat := []
  tripped : Bool := false
  stayOff : Bool := false
  coolSince : Option Nat := none
deriving DecidableEq, Repr

/-- R409: a logbook record without its sequence number and CRC, which it takes when it is written. -/
structure LogRec where
  kind : Nat
  subject : Nat
  tb : Nat
  payload : List Nat
deriving DecidableEq, Repr

/-- Housekeeping beside its registers: the target of the re-margining pass that runs and the TB it was released at (R404), the
TB at which the last pass began, the guard band in force of each channel in 1/64 UI (R412), the queue of records (R410), the
sector and index the next record goes to, the last sequence number, whether LOGBOOK_DROP was raised, and the TB of the last
RO_DAY. -/
structure HkSt where
  target : Option Nat := none
  passTb : Nat := 0
  guards : List Nat := List.replicate 16 16
  queue : List LogRec := []
  sector : Nat := 1
  index : Nat := 0
  seq : Nat := 0
  dropTold : Bool := false
  dayTb : Nat := 0
deriving DecidableEq, Repr

/-! ### Slots (R414 to R426) -/

/-- A slot beside its registers: a power-on request that waits for its conditions, whether VIN is in its window (R416), the TB at
which the present state began, that of the fault timer, whether the slot is fully on, whether DCn_CFG.ENABLE has been 1 since the
channel's domain last reset (R420), the TB at which PGOOD rose for the SPD engine, whether it reads, and whether the modules are
the part that was there before (R425). -/
structure SlotSt where
  armed : Bool := false
  vinOpen : Bool := false
  since : Nat := 0
  timer : Option Nat := none
  fully : Bool := false
  enabled : Bool := false
  pgTb : Option Nat := none
  spdBusy : Bool := false
  samePart : Bool := false
deriving DecidableEq, Repr

/-! ### Counters and plates (R442 to R452) -/

/-- R451: a plate buffer. -/
structure Plate where
  no : Nat := 0
  trigger : Nat := 0
  ctr : Nat := 0
  pl : Nat := 0
  merged : Nat := 0
  tb : Nat := 0
  transit : Nat := 0
  sleeps : Nat := 0
  enabled : BitVec 256 := 0
  values : List Nat := List.replicate 256 0
deriving DecidableEq, Repr

/-- The counter bank beside its registers: the plate buffers and ENTRIES at the last plate. -/
structure PmuSt where
  plate0 : Plate := {}
  plate1 : Plate := {}
  entries : Nat := 0
deriving DecidableEq, Repr

/-! ### Fuses, boot, SPI NOR, attestation (R342 to R368) -/

/-- R348: the fuse sequencer's work: the FUSE_PROGRAM that waits for its reply (none after a management reset), its logical bits,
and those left. -/
structure FuseJob where
  packet : Option Packet
  bits : List Nat
  left : List Nat
deriving DecidableEq, Repr

/-- Who asked for an SPI NOR operation. -/
inductive NorWho where
  | fwWrite | bootCtrl | logbook
deriving DecidableEq, Repr

/-- R351, R360: an SPI NOR program of bytes at an address, or the erase of `erase` bytes there. -/
structure NorOp where
  who : NorWho
  addr : Nat
  bytes : List Nat := []
  erase : Nat := 0
deriving DecidableEq, Repr

/-- R352: the BOOT_CTRL copy in force: which copy, and its fields. -/
structure BootCtrl where
  copy : Nat := 0
  seq : Nat := 0
  active : Nat := 0
  pending : Nat := 0xFF
deriving DecidableEq, Repr

/-- The SEC block beside its registers: fuse work; NOR contents, operations that wait and whether the first is under way; the
FW_WRITE that waits for its reply and its bytes done; sectors erased since boot or FW_ACTIVATE (R360); the BOOT_CTRL copy in
force; the identity key in the key store (R363); measurements 1 to 5 (R365); frame-executive slots of a trial image and whether
it has applied its CONFIG image (R359), whether the management processor has booted; session numbers in use by transport (R364); and the debug challenge with its TB (R367). -/
structure SecSt where
  fuse : Option FuseJob := none
  nor : Tab Nat 0xFF := {}
  norOps : List NorOp := []
  norBusy : Bool := false
  fw : Option (Packet × Nat) := none
  erased : List Nat := []
  ctrl : BootCtrl := {}
  dik : Bool := false
  meas : List (List Nat) := []
  trialSlots : Nat := 0
  applied : Bool := false
  running : Bool := false
  confirming : Bool := false
  sessions : Tab (List Nat) [] := {}
  challenge : Option (BitVec 256 × Nat) := none
deriving DecidableEq, Repr

/-- R469, R470, R471: reset inputs that are asserted, the domains held in reset with the TB at which their input was released, and
whether VAUX_1V8 is absent. -/
structure ResetSt where
  coreIn : Bool := false
  pwrLow : Bool := false
  mgtIn : Bool := false
  coreHeld : Bool := false
  coreTb : Nat := 0
  mgtHeld : Bool := false
  off : Bool := false
  mgtTb : Nat := 0
deriving DecidableEq, Repr

/-! ### What leaves the device -/

/-- DDR5 commands the controller sends (R285, R290). -/
inductive DramCmd where
  | act (rank bg ba row : Nat) | rd (rank bg ba col : Nat) | wr (rank bg ba col : Nat) | pre (rank bg ba : Nat)
  | refab (rank : Nat) | pde (rank : Nat) | pdx (rank : Nat) | sre (rank : Nat) | srx (rank : Nat)
deriving DecidableEq, Repr

/-- Outcomes of a standard command (R50, R51, R58, R59, R320). -/
inductive MbxCode where
  | success | unsupported | denied | refused | invalid | noResources | sanitizeNotSupported
deriving DecidableEq, Repr

/-- R364, R365: answers of the SPDM responder. Signatures and certificates are numbers the spec does not fix. -/
inductive SpdmOut where
  | certificate (chain : List Nat)
  | challengeAuth (signature : BitVec 3072)
  | measurements (blocks : List (Nat × List Nat)) (signature : Option (BitVec 3072))
  | keyExchange (session : Nat) (signature : BitVec 3072)
  | ack
  | unsupported
  | unspecified
  | sessionLimitExceeded
  | invalidSession
deriving DecidableEq, Repr

/-- Messages, interrupts and commands that leave the device. -/
inductive Out where
  /-- R204, R480: MemData to an LD (none: poisoned), with its DevLoad (R65). -/
  | memData (slot tag : Nat) (data : Option (BitVec 512)) (devLoad : Nat)
  /-- R204: a completion: 0 Cmp, 1 Cmp-S, 2 Cmp-E. -/
  | cmp (slot tag grant devLoad : Nat)
  /-- R53: BISnpInv or BISnpData. -/
  | bisnp (slot : Nat) (inv : Bool) (addr : Nat)
  /-- R206: BI-ConflictAck. -/
  | conflictAck (slot addr : Nat)
  /-- R314: a reply. -/
  | reply (path : Path) (opcode tag status detail result : Nat) (payload : List Byte)
  /-- R314: the completion event of a Long command. -/
  | completion (path : Path) (opcode tag status detail : Nat)
  /-- R314, R433: an unsolicited notice. -/
  | notice (path : Path) (code : Nat)
  /-- R59, R105, R327: an MSI-X interrupt of a logical device. -/
  | msix (slot vector : Nat)
  /-- R433: the fatal response's signals: viral on every link, and stitch transmitters in electrical idle in a clutch. -/
  | fatalResponse
  /-- R46: the acknowledgement of a phase of Global Persistent Flush on a host link. -/
  | gpfAck (link phase : Nat)
  /-- R61, R63: a value returned by a read of the vendor DVSEC of a logical device, at its offset. -/
  | dvsec (slot offset value : Nat)
  /-- R62: a value returned by a read of the data-mover page of a logical device. -/
  | dmrPage (slot offset value : Nat)
  /-- R452: a value returned by a read of the user counter page of a logical device. -/
  | userPage (slot offset value : Nat)
  /-- R70: the Memory_Active indication of a logical device, as it is read. -/
  | memoryActive (slot : Nat) (active : Bool)
  /-- R258: a device-wide event record for an agent that another member serves: the member, the agent, and the record's code and
  DETAIL. -/
  | memberEvent (member han code detail : Nat)
  /-- R46: whether a capability structure reports an option as present. -/
  | capability (slot : Nat) (option : CxlOption) (present : Bool)
  /-- R46: the DPA ranges that the CDAT of a logical device describes, in bytes: base and length of each. -/
  | cdat (slot : Nat) (ranges : List (Nat × Nat))
  /-- R326, R330: a value returned by a read of the mailbox page of a logical device, for a channel, at its offset. -/
  | mailboxPage (slot chan offset value : Nat)
  /-- R341: the SMBus target NACKs a byte of an item it has discarded for want of space. -/
  | sbNack
  /-- R454: the value that a load of the management processor returns. -/
  | loaded (addr value : Nat)
  /-- R58: the reply of a standard command of an LD's primary mailbox (slot 64: of an FM API command over MCTP), with the values the spec gives it in the order
  that its meaning names. -/
  | mailbox (slot : Nat) (code : MbxCode) (data : List Nat)
  /-- R59: the event records that Get Event Records returns. -/
  | eventRecords (slot : Nat) (records : List EventRec)
  /-- R216, R218, R222: a flit that leaves on a stitch port, and its scrambled bytes on each logical lane, then on the spare. -/
  | flit (port : Nat) (bits : BitVec 576) (lanes : List (List (BitVec 8)))
  /-- R219: a training block that a stitch port sends on a lane. -/
  | training (port lane : Nat) (bits : BitVec 576)
  /-- R285, R290: a DDR5 command of a subchannel. -/
  | dram (chan sc : Nat) (cmd : DramCmd)
  /-- R18: a hop's sender resends its words from the one named. -/
  | spineResend (stop dir : Nat) (words : List Nat)
  /-- R369, R374: VDD_CORE's regulator is sent to a voltage, in mV. -/
  | coreVoltage (mv : Nat)
  /-- R378, R400: VDD_CORE and VDD_SRAM (and at a trip the SerDes rails) are turned off or on. -/
  | rails (on : Bool)
  /-- R369: VDD_SRAM is at a voltage, in mV: 800, or 600 for retention. -/
  | sramVoltage (mv : Nat)
  /-- R400: every host and stitch transmitter goes to electrical idle. -/
  | transmittersIdle
  /-- R364: an answer of the SPDM responder on a transport: a DOE of a local slot, or 64 for MCTP. -/
  | spdm (transport : Nat) (answer : SpdmOut)
  /-- R55: the answer to an IDE_KM message of a link. -/
  | ideKm (link : Nat)
deriving DecidableEq, Repr

/-- A dead agent under reclamation (R212): quanta run since its start point, and whether its first quantum has run. -/
structure DeadAgent where
  han : Nat
  quanta : Nat := 0
  begun : Bool := false
deriving DecidableEq, Repr

/-! ### The management interface (R313 to R341) -/

/-- R315, R328, R330: a message that waits for OUT: the LD it is for, and the tag that ends when it is sent. -/
structure HeldOut where
  dest : Option Nat := none
  out : Out
  tag : Option (Nat × Nat) := none
deriving DecidableEq, Repr

/-- R326 to R328: a mailbox channel: the IN buffer and the LD that posted it, the OUT message, and the replies the
management processor holds for OUT. -/
structure MbxSt where
  inMsg : List Byte := []
  inSlot : Nat := 0
  outMsg : Option Out := none
  held : List HeldOut := []
deriving DecidableEq, Repr

/-- A word of the sideband FIFO with its META bits (R338). -/
structure SbWord where
  word : BitVec 64
  sop : Bool
  eop : Bool
  valid : Nat
deriving DecidableEq, Repr

/-- R324: an MCTP message under reassembly: source EID with tag owner and tag, the sequence number due next, and its bytes. -/
structure MctpPart where
  key : Nat
  seq : Nat
  bytes : List Nat
deriving DecidableEq, Repr

/-- R324, R339, R340: what the firmware holds of the sideband's items: the bytes `part` of the item being read, whether one of its words
was uncorrectable, the message under reassembly, and the packets not yet accepted. -/
structure SbRead where
  part : List Nat := []
  bad : Bool := false
  msg : Option MctpPart := none
  done : List Packet := []
deriving DecidableEq, Repr

/-- R338 to R341: the sideband FIFO. Positions count words from the last reset: `rd` is the next word to pop, `wr` the
next position to commit, `ring` the words at positions modulo 512. `item` holds the bytes of the item being received,
`discarding` says that the rest of an item is discarded, `nack` that its bytes are NACKed (R341), and `inPacket` that words of an item
have been popped and not its last. `fw` is what the firmware holds of the items, `saved` what it held at the mark, and `rerun` says that the
last sideband unit has overrun (R340). -/
structure SbSt where
  rd : Nat := 0
  wr : Nat := 0
  ring : Tab (Option SbWord) none := {}
  item : Option (List Byte) := none
  discarding : Bool := false
  mark : Option Nat := none
  inPacket : Bool := false
  nack : Bool := false
  fw : SbRead := {}
  saved : SbRead := {}
  rerun : Bool := false
deriving DecidableEq, Repr

/-- R314: a Long command in progress: its object (region, channel, key or path) and second parameter; `discard` where its
far end was reset (R329). -/
structure LongCmd where
  path : Path
  opcode : Nat
  tag : Nat
  object : Nat
  arg : Nat := 0
  key : Nat
  /-- R330: the LD it came from. -/
  slot : Nat := 0
  discard : Bool := false
deriving DecidableEq, Repr

/-- The management processor beside its registers (R315, R335 to R337): packets accepted and not decided, outstanding
tags by path, Long commands, and for each waiting task the slots it has waited; packets that have arrived and are not yet accepted, rows of
the sideband that wait for SL0 (R333), and the log of the replies discarded after a far-end reset, by path and tag (R329). -/
structure MgtSt where
  arrivals : List Packet := []
  rows : List Instr := []
  discarded : List (Nat × Nat) := []
  accepted : List Packet := []
  tags : List (Nat × Nat) := []
  longs : List LongCmd := []
  waits : List (Nat × Nat) := []
  fatalTold : Bool := false
deriving DecidableEq, Repr

/-- R214: the directory-scrub pass after an agent's death: the transit it begins in, and for each slice the quanta left of
each shared slot (none: the slice's part is done). The list is empty before the pass begins. -/
structure ScrubPass where
  han : Nat
  from_ : Nat
  parts : List (Option (List (Nat × Nat))) := []
deriving DecidableEq, Repr

/-- Reclamation and the directory scrub beside their registers (R200, R212 to R214): the shared almanac cursor, the agents
being reclaimed, each slice's scrub position (slot, backing line), the scrub passes of agents whose record still filters,
and each slice's almanac ECC position. -/
structure ReclaimSt where
  cursor : Nat := 0
  agents : List DeadAgent := []
  scrubAt : List (Nat × Nat) := List.replicate 16 (0, 0)
  passes : List ScrubPass := []
  eccAt : List Nat := List.replicate 16 0
deriving DecidableEq, Repr

/-- The tier engine beside its registers (R78, R90, R94, R98, R100). -/
structure TierSt where
  held : Bool := true
  demoteActive : Bool := false
  level : Nat := 0
  stallTransit : Nat := 0
  rr : Nat := 0
  sweep : List Nat := List.replicate 16 0
  poolFrames : List Nat := List.replicate 16 0
  dataTop : List Nat := List.replicate 16 0
  spillBase : List Nat := List.replicate 16 0
  bandFrames : List Nat := List.replicate 16 0
  extraBand : List (Nat × Nat) := []
  bandLost : List Nat := []
  waiting : List (Nat × MoveKind) := []
  evacPass : List (Nat × List Nat) := []
  bandCopy : List Nat := []
  metaReady : Bool := false
  freeing : List (Nat × List Nat) := []
  pinned : List Nat := []
deriving DecidableEq, Repr

/-- The whole device. -/
structure State where
  /-- Commands that wait, first in first out. -/
  pending : List Instr := []
  /-- What has left the device, newest last (the model's own record). -/
  out : List Out := []
  /-- R453: register fields whose value differs from their reset value, by `Fld.key`, rising. -/
  regs : List (Nat × Nat) := []
  /-- R384: the timebase, in ns. -/
  tb : BitVec 64 := 0
  /-- The model's own counter of draws of values the spec leaves open. -/
  freeCtr : Nat := 0
  /-- The model's own counters: recency stamps and request numbers. -/
  useCtr : Nat := 0
  nextId : Nat := 1
  err : ErrSt := {}
  lds : Tab LdSt {} := {}
  links : Tab LinkSt {} := {}
  ports : Tab PortSt {} := {}
  reqs : List Req := []
  /-- R376, R378: host requests (slot, HPA) that wait in ingress for SL0, oldest first. -/
  ingress : List (Nat × Nat × Req) := []
  almanac : Tab AlmEnt {} := {}
  near : Tab NearEnt {} := {}
  wb : List WbLine := []
  snoops : List Snoop := []
  /-- R257: agents with lines (CPA) of other members whose granting completion was passed to the agent. -/
  passed : List (Nat × Nat) := []
  dir : Tab (BitVec 64) 0 := {}
  /-- R198: STAMP + 1 of a backing line (0: the one of its slot). -/
  stamps : Tab Nat 0 := {}
  /-- R196, R198: STAMP of the lines of a slot as the slot was last zeroed, by slot. -/
  slotStamps : Tab Nat 0 := {}
  regions : Tab Region {} := {}
  frames : Tab Frame {} := {}
  moves : List Move := []
  walks : List (Nat × Walk) := []
  walkQueue : List WalkReq := []
  tier : TierSt := {}
  reclaim : ReclaimSt := {}
  /-- R260: the spill table. -/
  spills : Tab (Option Spill) none := {}
  /-- R254, R261: the level and free spill slots each member last reported, and its distance in hops. -/
  levels : Tab (Option (Nat × Nat)) none := {}
  hops : Tab Nat 0 := {}
  /-- R263: holders whose pages their owners are to take back. -/
  recalled : List Nat := []
  metaCache : List MetaLine := []
  metaSto : Tab (Option MetaSto) none := {}
  roots : Tab (BitVec 512) 0 := {}
  quarantine : List (Nat × Nat × Nat) := []
  nodeRekeys : List NodeRekey := []
  keys : Tab KeySlot {} := {}
  salt : BitVec 256 := 0
  kint : BitVec 256 := 0
  keystreams : List (Nat × Keystream) := []
  cryptoQ : List (Nat × Nat × Nat) := []
  alarms : List (Nat × Nat × Nat × Nat) := []
  dram : Tab (BitVec 640) 0 := {}
  chans : Tab ChanSt {} := {}
  /-- R281: the number of the marking window that runs. -/
  markWindow : Nat := 0
  masters : Tab MasterSt {} := {}
  sharedPool : Int := 0
  qosPending : List QosEntry := []
  quotas : Tab Nat 0 := {}
  reservedK : Option Nat := none
  cmp : CmpSt := {}
  cryFaults : List (Nat × Nat) := []
  rings : Tab RingSt {} := {}
  mbx : Tab MbxSt {} := {}
  /-- R330: the LD that holds channel 15, and when it took it. -/
  claim : Option (Nat × Nat) := none
  sb : SbSt := {}
  mgt : MgtSt := {}
  /-- R31: the units of each job and instance that wait or run, keyed job × 256 + instance. -/
  jobs : Tab (List JobUnit) [] := {}
  /-- R30: the last transit whose start was run. -/
  lastTransit : Option Nat := none
  stPorts : Tab StPort {} := {}
  clu : CluSt := {}
  stOpen : List StOpen := []
  /-- Answers this member has to send, with their port, oldest first, before they take a place in the port's queues. -/
  stSend : List (Nat × StMsg) := []
  /-- R342: the fuse array and its shadow registers (logical bits). -/
  fuses : BitVec 2048 := 0
  fuseShadow : BitVec 2048 := 0
  /-- R18: hops of the spine, by stop × 4 + direction. -/
  spine : Tab HopSt {} := {}
  /-- R34: units (job, instance) due in a reserved transit, released in the next. -/
  deferred : List (Nat × Nat) := []
  pwr : PwrSt := {}
  time : TbSt := {}
  thm : ThmSt := {}
  hk : HkSt := {}
  spw : Tab SlotSt {} := {}
  /-- R424: the SPD mirrors, by slot × 2048 + byte. -/
  spd : Tab Nat 0 := {}
  pmu : PmuSt := {}
  sec : SecSt := {}
  rst : ResetSt := {}
  /-- R440: lines scrubbed, by slice × 4 + array. -/
  sramAt : Tab Nat 0 := {}
deriving DecidableEq, Repr

/-- The machine right after power-on reset (R457, R468): every register at its Reset value, TB 0, nothing stored or queued; the
reset inputs are released and the boot ROM has not run. The fuses are those of a part as shipped, and the crypto domain has drawn its
values (R153). Values that the spec does not state are named in log entry 3. -/
def State.reset : State :=
  { fuses := shippedFuses, fuseShadow := shippedFuses, salt := Config.trng 0, kint := Config.trng 1, freeCtr := 2 }

/-- Reasons a step stops with a fault: there is none, since the spec gives every command of the table an effect. -/
inductive Fault
deriving DecidableEq, Repr

/-- Reasons a command has no meaning. -/
inductive Refusal where
  /-- The command of this mnemonic has no meaning yet; raised by `exec`'s arm alone. Safe. -/
  | notModelled (mnemonic : String)
deriving DecidableEq, Repr

end Sys2Proof.Machine
end

