-- ==== Sys2Proof/WellFormed.lean ====
section
/-!
DEFINITION. When the list operands of a command keep to the most that the device takes of them: ranks swept, lanes, logical
devices, bytes. A command that is not well formed is served all the same: what is beyond the most is not taken, an allocation
list that is too long and a payload without a packet are answered as invalid. No meaning stops for want of form.
-/

namespace Sys2Proof

/-- R404: at most 16 pairs of a rank and a subchannel are swept, and at most the nine lanes of a stitch port. -/
def eyesFit (eyes : List (Vector LaneEye 40)) (steps : List (Byte × Byte)) : Bool :=
  decide (eyes.length ≤ 16) && decide (steps.length ≤ 9)

/-- R42: a link has at most four logical devices. -/
def allocationsFit (gib : List (BitVec 22)) : Bool := decide (gib.length ≤ 4)

/-- R326: a mailbox buffer holds 4 KiB. -/
def bufferFits (bytes : List Byte) : Bool := decide (bytes.length ≤ 4096)

/-- R313: a command packet has a header of 16 bytes. -/
def packetFits (bytes : List Byte) : Bool := decide (16 ≤ bytes.length)

/-- Whether a command's operands fit together. -/
def Instr.wellFormed : Instr → Bool
  | .remarginingQuantum eyes steps => eyesFit eyes steps
  | .setLdAllocations _ _ gib => allocationsFit gib
  | .inPost _ _ _ _ bytes => bufferFits bytes
  | .aqCommandTunnel _ bytes => packetFits bytes
  | _ => true

end Sys2Proof
end

