-- ==== Sys2Proof/Machine/Ops.lean ====
section
/-!
DEFINITION. The named operations over the state that every family uses: register fields, the timebase and transits,
draws of open values, outputs, error records with the fatal response (R427 to R435), event records (R59), presented
addresses, region descriptors and extent tables.
-/

namespace Sys2Proof.Machine

/-! ### Register fields, time, open values, outputs -/

/-- The value of a register field. -/
def State.get (s : State) (f : Fld) : Nat := (cellFind f.key s.regs).getD f.reset

/-- The state with a register field set (its low bits). -/
def State.put (s : State) (f : Fld) (v : Nat) : State :=
  { s with regs :=
      if v % 2 ^ f.width = f.reset then cellErase f.key s.regs else cellInsert f.key (v % 2 ^ f.width) s.regs }

/-- A counter field raised by `n`, saturating at its maximum. -/
def State.bump (s : State) (f : Fld) (n : Nat := 1) : State := s.put f (min (2 ^ f.width - 1) (s.get f + n))

/-- A counter field raised by `n`, wrapping. -/
def State.wrapAdd (s : State) (f : Fld) (n : Nat := 1) : State := s.put f (s.get f + n)

/-- Whether a one-bit field is set. -/
def State.flag (s : State) (f : Fld) : Bool := s.get f != 0

/-- R384: the timebase as a number of ns. -/
def State.now (s : State) : Nat := s.tb.toNat

/-- Nanoseconds of TB since `t`. -/
def State.since (s : State) (t : Nat) : Nat := s.now - t

/-- R29: the transit number. -/
def State.transit (s : State) : Nat := s.now / 1000

/-- What leaves the device is appended to the record of outputs. -/
def State.emit (s : State) (o : Out) : State := { s with out := s.out ++ [o] }

/-- The next number for a draw of an open value. -/
def State.drawn (s : State) : State := { s with freeCtr := s.freeCtr + 1 }

/-- R151 to R153: 256 bits from the TRNG. -/
def State.trng (s : State) : BitVec 256 × State := (Config.trng s.freeCtr, s.drawn)

/-- The number whose bits are given, bit 0 first. -/
def ofBits (l : List Bool) : Nat := l.foldr (fun b n => bit b + 2 * n) 0

/-- A sum over a list. -/
def sumOf (l : List Nat) : Nat := l.foldl (· + ·) 0

/-- Applies `f` for every element, in order. -/
def forAll {α : Type} (l : List α) (f : α → State → State) (s : State) : State := l.foldl (fun s a => f a s) s

/-- Applies `f` where `c` holds. -/
def when_ (c : Bool) (f : State → State) (s : State) : State := if c then f s else s

/-- A fresh recency stamp. -/
def State.stamp (s : State) : Nat × State := (s.useCtr + 1, { s with useCtr := s.useCtr + 1 })

/-- R31: the key of a job's instance in the unit queues. -/
def jobKey (job inst : Nat) : Nat := job * 256 + inst

/-- R31: whether a released unit of a job's instance waits or runs; no effect of a job occurs without one. -/
def unitWaits (s : State) (job inst : Nat) : Bool := !(s.jobs.get (jobKey job inst)).isEmpty

/-- R32: the unit at the head of a job's instance completes and leaves its queue, if one waits there. -/
def jobDone (job inst : Nat) (s : State) : State := { s with jobs := s.jobs.upd (jobKey job inst) (fun q => q.tail) }

/-! ### Counters and plates -/

/-- R451: the value word of a counter. -/
def ctrWord (s : State) (n : Nat) : Nat :=
  s.get (F.PMU_CTR_VALUE.VALUE n) + s.get (F.PMU_CTR_VALUE.OVF n) * 2 ^ 62 + s.get (F.PMU_CTR_VALUE.VALID n) * 2 ^ 63

/-- R443: the enabled counters: those whose ENABLE differs from its reset value 0 in the register file. -/
def enabledCtrs (s : State) : List Nat :=
  s.regs.filterMap (fun c =>
    let k := c.1 - 0x451000 * 64
    if 0x451000 * 64 ≤ c.1 && k / 1024 < 256 && k % 1024 == 63 then some (k / 1024) else none)

/-- R450, R451: the plate buffer of a plate number. -/
def plateOf (s : State) (no : Nat) : Plate := if no % 2 = 0 then s.pmu.plate0 else s.pmu.plate1

/-- R451: a plate is held in the buffer of its number. -/
def setPlate (p : Plate) (s : State) : State :=
  { s with pmu := if p.no % 2 = 0 then { s.pmu with plate0 := p } else { s.pmu with plate1 := p } }

/-- R450: a trigger in the clock of a plate joins it: TRIGGER is the highest code, MERGED counts the others. -/
def mergePlate (trigger ctr : Nat) (p : Plate) : Plate :=
  { p with
    trigger := max p.trigger trigger
    ctr := if p.trigger < trigger then (if trigger = 4 then ctr else 0) else p.ctr
    merged := min 255 (p.merged + 1) }

/-- R450, R451: a plate is taken. -/
def takePlate (trigger ctr : Nat) (s : State) : State :=
  let no := s.get F.PMU_STATUS.PLATE_NO
  let last := plateOf s no
  if no ≠ 0 ∧ last.no = no ∧ last.tb = s.now then setPlate (mergePlate trigger ctr last) s
  else
    let no := if no = 0xFFFFFFFF then 1 else no + 1
    let entries := s.get F.PWR_SL_STATUS.ENTRIES
    let p : Plate := {
      no, trigger, ctr := if trigger = 4 then ctr else 0, pl := s.get F.PWR_PL_STATUS.CURRENT, merged := 0
      tb := s.now, transit := s.transit, sleeps := (entries + 2 ^ 32 - s.pmu.entries) % 2 ^ 32
      enabled := BitVec.ofNat 256 ((enabledCtrs s).foldl (fun n k => n + 2 ^ k) 0)
      values := (List.range 256).map (ctrWord s) }
    let s := setPlate p (s.put F.PMU_STATUS.PLATE_NO no)
    { s with pmu := { s.pmu with entries } }

/-- R443, R447: a counter adds an increment; a wrap carries through its chain in the same clock, or sets OVF and may take a
plate. A counter whose word failed is frozen. -/
def addCounter (n amt : Nat) : Nat → State → State
  | 0, s => s
  | fuel + 1, s =>
    if !s.flag (F.PMU_CTR_VALUE.VALID n) || !s.flag (F.PMU_CTR_CFG.ENABLE n) then s
    else
      let v := s.get (F.PMU_CTR_VALUE.VALUE n) + amt
      let s := s.put (F.PMU_CTR_VALUE.VALUE n) (v % 2 ^ 48)
      if v < 2 ^ 48 then s
      else if n < 255 ∧ s.get (F.PMU_CTR_CFG.CHAIN (n + 1)) = 1 then addCounter (n + 1) (v / 2 ^ 48) fuel s
      else
        let s := s.put (F.PMU_CTR_VALUE.OVF n) 1
        if s.flag (F.PMU_CTR_CFG.PLATE_ON_OVF n) then takePlate 4 n s else s

/-- R445: events whose instance is ignored. -/
def wholeEvent (ev : Nat) : Bool := ev / 256 == 0 || ev / 256 == 9 || ev / 256 == 10

/-- R443: an event of an instance occurs, with its amount. -/
def State.count (s : State) (ev inst : Nat) (amt : Nat := 1) : State :=
  forAll (enabledCtrs s) (fun n s =>
    if (n == 0 || !s.flag (F.PMU_CTR_CFG.CHAIN n)) && s.get (F.PMU_CTR_CFG.EVENT n) == ev
        && (s.flag (F.PMU_CTR_CFG.ALL n) || wholeEvent ev || s.get (F.PMU_CTR_CFG.INSTANCE n) == inst) then
      addCounter n amt 256 s
    else s) s

/-! ### Sleep and wake -/

/-- R376: the sleep state, 0 to 3. -/
def sleepState (s : State) : Nat := s.get F.PWR_SL_STATUS.STATE

/-- R400, R401, R469: whether the core domain is shut down by a trip or held in reset. -/
def State.coreDown (s : State) : Bool := s.thm.tripped || s.rst.coreHeld

/-- R376: whether the fabric's clocks are stopped: SL2, SL3 and the exit from them, and while the core domain is off. -/
def State.asleep (s : State) : Bool := decide (2 ≤ sleepState s) || s.coreDown

/-- R376, R378: whether a block of the stop sequence does no new work: it has been asked to stop, or the device sleeps. -/
def State.stops (s : State) (block : Nat) : Bool :=
  s.asleep || (match s.pwr.sleep with | some x => decide (block ≤ x.block) | none => false)

/-- R381: whether a source wakes the device in its present state; in SL2, SL3 and on the way there some always do. -/
def wakeEnabled (s : State) (src : Nat) : Bool :=
  slice (s.get F.PWR_WAKE_EN.SRC) src 1 == 1
    || ((s.asleep || s.pwr.sleep.isSome) && (src == 0 || src == 6 || src == 7 || src == 8))

/-- R381: whether a source is available in the present state. -/
def wakeAvailable (s : State) (src : Nat) : Bool :=
  sleepState s != 3 || src != 2 || s.flag F.PWR_SL3_CFG.SIDEBAND

/-- R369, R370, R383: an exit begins: the regulator returns to normal mode, the core rails come up, and VDD_CORE and VDD_SRAM return
to the voltages they had. -/
def beginExit (s : State) : State :=
  let up := s.pwr.railsOff
  let s := { s with pwr := { s.pwr with exiting := some 0, lowPower := false, railsOff := false } }
  let s := if up then s.emit (.rails true) else s
  (s.emit (.coreVoltage s.pwr.pl.volt)).emit (.sramVoltage 800)

/-- R381, R382: a source that is not masked fires: it is latched, and an enabled one wakes the device, or is kept for the end of
an entry. -/
def wakeRaw (src : Nat) (s : State) : State :=
  if !wakeAvailable s src then s
  else
    let s := s.put F.PWR_WAKE_STATUS.SRC (s.get F.PWR_WAKE_STATUS.SRC ||| 2 ^ src)
    if !wakeEnabled s src || s.coreDown then s
    else if s.pwr.sleep.isSome then { s with pwr := { s.pwr with latched := true } }
    else if sleepState s = 1 then s.put F.PWR_SL_STATUS.STATE 0
    else if s.asleep && s.pwr.exiting.isNone then beginExit s
    else s

/-- R384, R444: TB advances by `n` ns. Time events count it, but for the time in SL2 and SL3, which is brought up to date on
exit. -/
def advanceTb (n : Nat) (s : State) : State :=
  let gated := sleepState s == 1 && s.reqs.isEmpty && s.jobs.cells.isEmpty
  let s := { s with tb := s.tb + BitVec.ofNat 64 n }
  if 2 ≤ sleepState s then s
  else
    let s := s.count 0x002 0 n
    if gated then s.count 0xA02 0 n else s

/-! ### Error records -/

/-- R428: the class of a code (ALMANAC_UE is degraded here; its fatal form names the class). -/
def classOf (code : Nat) : Nat :=
  if 0x80 ≤ code then 0
  else if [0x02, 0x03, 0x21, 0x28, 0x35, 0x40].contains code then 1
  else if [0x12, 0x20, 0x32, 0x33, 0x34, 0x36, 0x43, 0x50, 0x2D].contains code then 3
  else if [0x2A, 0x2B, 0x2C].contains code then 4
  else if [0x01, 0x05, 0x29, 0x59, 0x62, 0x63].contains code then 5
  else 2

/-- R429: the SOURCE of a code's raising unit. DEDUCED where R428 leaves it to the raising rule (log entry 12). -/
def sourceOf (code : Nat) : Nat :=
  if code ≤ 0x02 then 0
  else if code ≤ 0x04 then 17
  else if code = 0x05 then 9
  else if code ≤ 0x13 then 1
  else if code ≤ 0x22 then 5
  else if code ≤ 0x2D then 6
  else if code ≤ 0x35 then 3
  else if code = 0x36 then 4
  else if code = 0x37 then 6
  else if code = 0x38 then 16
  else if code ≤ 0x44 then 2
  else if code ≤ 0x47 then 18
  else if code ≤ 0x55 then 7
  else if code ≤ 0x59 then 15
  else if code ≤ 0x61 then 11
  else if code = 0x62 then 12
  else if code ≤ 0x64 then 13
  else if code = 0x65 then 14
  else if code ≤ 0x82 then 4
  else if code = 0x83 then 8
  else if code = 0x84 then 6
  else if code ≤ 0x87 then 7
  else if code = 0x88 then 2
  else if code ≤ 0x8B then 13
  else if code ≤ 0x8D then 14
  else if code = 0x8E then 11
  else if code = 0x8F then 12
  else 3

/-- R430: the same CODE, SOURCE and INSTANCE. -/
def ErrRec.same (a b : ErrRec) : Bool := a.code == b.code && a.source == b.source && a.inst == b.inst

/-- R430: an occurrence folded into a record: COUNT and LAST_US. -/
def ErrRec.fold (r : ErrRec) (now : Nat) : ErrRec :=
  { r with count := min 0xFFFF (r.count + 1), lastUs := min 0xFFFFFFFF ((now - r.tb) / 1000) }

/-- R429: sequence numbers run 1 to 0xFFFF and wrap past 0. -/
def nextSeq (n : Nat) : Nat := if n = 0xFFFF then 1 else n + 1

/-- R430: takes the next sequence number. -/
def State.takeSeq (s : State) : Nat × State :=
  (s.get F.ERR_STATUS.NEXT_SEQ, s.put F.ERR_STATUS.NEXT_SEQ (nextSeq (s.get F.ERR_STATUS.NEXT_SEQ)))

/-- The list without its first element that satisfies `p`. -/
def eraseFirst {α : Type} (p : α → Bool) : List α → List α
  | [] => []
  | a :: r => if p a then r else a :: eraseFirst p r

/-- R431: the queue of 64 entries with a new entry, and whether an entry was dropped or replaced. -/
def enqueueErr (q : List ErrRec) (r : ErrRec) : List ErrRec × Bool :=
  if q.length < 64 then (q ++ [r], false)
  else if r.cls ≤ 1 then (q, true)
  else if q.any (fun e => e.cls ≤ 1) then (eraseFirst (fun e => e.cls ≤ 1) q ++ [r], true)
  else if q.any (fun e => e.cls < r.cls) then (eraseFirst (fun e => e.cls < r.cls) q ++ [r], true)
  else (q, true)

/-- R430 tests 4 and 5, R431, R432: the record folds into the queue or becomes a new entry, whose copy goes to the
frame executive. `seq` is the number a fatal record carries already. -/
def State.queueErr (s : State) (r : ErrRec) (seq : Option Nat) : State :=
  if s.err.queue.any r.same then
    { s with err := { s.err with
        queue := s.err.queue.map (fun e => if r.same e then e.fold s.now else e) } }
  else
    let (q0, dropped0) := enqueueErr s.err.queue r
    let entered := decide (s.err.queue.length < 64) || q0 != s.err.queue
    let (n, s1) := match seq with
      | some n => (n, s)
      | none => if entered then s.takeSeq else (0, s)
    let r := { r with seq := n }
    let (q, _) := enqueueErr s.err.queue r
    let s2 := { s1 with err := { s1.err with
      queue := q
      copies := if entered then s1.err.copies ++ [r] else s1.err.copies } }
    if dropped0 then (s2.put F.ERR_STATUS.OVERFLOW 1).bump F.ERR_STATUS.DROPPED else s2

/-- R109: a ring stops: STOPPED set, ENABLE cleared, fetched operations that have not started end ABORTED. -/
def stopRing (r : Nat) (s : State) : State :=
  let st := s.rings.get r
  let ops := st.ops.map (fun o => if o.started then o else { o with started := true, status := some 0x30 })
  ({ s with rings := s.rings.set r { st with ops := ops, got := [] } }.put (F.TIER_DMR_CTRL.STOPPED r) 1).put
    (F.TIER_DMR_CTRL.ENABLE r) 0

/-- R433: the hardware's response to a fatal record: latch, copy to the always-on record, viral, rings stopped, stitch
transmitters idle. A second fatal record repeats only the record keeping (R435). -/
def State.fatal (s : State) (r : ErrRec) : State :=
  let (n, s) := s.takeSeq
  let r := { r with seq := n }
  let already := s.err.fatal.isSome
  let s := { s with err := { s.err with
    fatal := if already then s.err.fatal else some r
    aonLast := some r } }
  let s :=
    if already then s.bump F.ERR_STATUS.FATAL_MORE
    else
      let s := (s.put F.ERR_STATUS.FATAL_VALID 1).put F.ERR_STATUS.VIRAL 1
      let s := forAll (List.range 32) (fun k s => if s.flag (F.TIER_DMR_CTRL.ENABLE k) then stopRing k s else s) s
      takePlate 5 0 (s.emit .fatalResponse)
  wakeRaw 8 (s.queueErr r (some n))

/-- R430: a record reaches the ERR block and is handled, latched, folded or queued. An uncorrectable one is a wake source
(R381). -/
def State.record (s : State) (r : ErrRec) : State :=
  if r.cls = 5 then s.fatal r
  else
    let s := if r.cls = 3 then wakeRaw 8 s else s
    match s.err.first with
    | some f =>
      if r.same f then { s with err := { s.err with first := some (f.fold s.now) } } else s.queueErr r none
    | none =>
      if 2 ≤ r.cls then
        let (n, s) := s.takeSeq
        let r := { r with seq := n }
        ({ s with err := { s.err with first := some r, copies := s.err.copies ++ [r] } }).put
          F.ERR_STATUS.FIRST_VALID 1
      else s.queueErr r none

/-- A record of a given class and source, detected now. -/
def State.logAs (s : State) (cls source code inst addr detail : Nat) : State :=
  s.record { code, cls, source, inst := inst % 256, count := 1, seq := 0, tb := s.now, addr, detail, lastUs := 0 }

/-- R427, R428: an error or event is reported by its unit. The record reaches the block in the same step (DESIGN
CHOICE, log entry 13: R430 allows 100 ns). -/
def State.log (s : State) (code : Nat) (inst : Nat := 0) (addr : Nat := 0) (detail : Nat := 0) : State :=
  s.logAs (classOf code) (sourceOf code) code inst addr detail

/-- R381, R473: a maskable source fires. The 16th firing within 1 s of TB masks it; a masked source neither wakes the device nor
is latched. -/
def wakeFrom (src : Nat) (s : State) : State :=
  if s.pwr.masked.any (fun m => m.1 == src) then
    { s with pwr := { s.pwr with
      masked := s.pwr.masked.map (fun m => if m.1 == src then (src, s.now) else m) } }
  else
    let fires := (src, s.now) :: s.pwr.fires.filter (fun f => decide (s.since f.2 ≤ 1000000000))
    if 16 ≤ (fires.filter (fun f => f.1 == src)).length then
      { s with pwr := { s.pwr with
        fires := fires.filter (fun f => f.1 != src), masked := s.pwr.masked ++ [(src, s.now)] } }.log 0x8F 0 0 (2 ^ 31 + 2 ^ src)
    else wakeRaw src { s with pwr := { s.pwr with fires } }

/-- R433: fatal mode, entered by the first fatal record and left by the reset of R434. -/
def State.inFatal (s : State) : Bool := s.err.fatal.isSome

/-- R438: a line became poison; the list keeps the 256 most recent. -/
def State.poisonAdd (s : State) (line : Nat) : State :=
  let l := s.err.poison.filter (· != line) ++ [line]
  { s with err := { s.err with
    poison := l.drop (l.length - 256)
    poisonNew := s.err.poisonNew + 1 } }

/-- R438: a full-line write to a listed line removes it. -/
def State.poisonDrop (s : State) (line : Nat) : State :=
  { s with err := { s.err with poison := s.err.poison.filter (· != line) } }

/-! ### Presented addresses -/

/-- Exclusive or of the 4-bit groups of `x`, `n` groups. -/
def xorNibbles : Nat → Nat → Nat
  | 0, _ => 0
  | n + 1, x => (x % 16) ^^^ xorNibbles n (x / 16)

/-- R15: the home slice of a presented address. -/
def sliceOf (a : Nat) : Nat := xorNibbles 10 (slice a 12 39)

/-- A presented page number A[50:12]. -/
def pageOf (a : Nat) : Nat := slice a 12 39

/-- R79: the slice-local page index A[50:16] of a page number. -/
def localPage (page : Nat) : Nat := page / 16

/-- The home slice of a page number. -/
def pageSlice (page : Nat) : Nat := sliceOf (page * 4096)

/-- The page number of slice-local page `q` of slice `sl`: the low four bits follow from R15. -/
def pageAt (sl q : Nat) : Nat := q * 16 + (sl ^^^ xorNibbles 9 q)

/-- The region number A[50:30] of a page. -/
def regionOf (page : Nat) : Nat := page / 2 ^ 18

/-- The line index A[11:6] of an address. -/
def lineIdx (a : Nat) : Nat := slice a 6 6

/-- An address cut to its 64 B line. -/
def lineAddr (a : Nat) : Nat := a / 64 * 64

/-- R247: whether the device is a member of a clutch. -/
def State.inClutch (s : State) : Bool :=
  s.get F.CLU_CFG.DEPTH != 0 && !s.flag F.CLU_STATUS.CFG_ERR && !(s.clu.left && s.get F.CLU_STATUS.STATE == 0)

/-- R246: the path of this member; 0 in a standalone device, one with a refused path included. -/
def State.path (s : State) : Nat := if s.inClutch then s.get F.CLU_CFG.PATH else 0

/-- R247: the path of the home member of a CPA, this member's own in a standalone device. -/
def homePath (s : State) (cpa : Nat) : Nat := if s.inClutch then slice cpa 45 6 else s.path

/-- R247: the presented address a home member uses for a CPA. -/
def homeAddr (s : State) (cpa : Nat) : Nat := if s.inClutch then slice cpa 0 45 else slice cpa 0 51

/-- R247: the CPA of this member's presented address. -/
def cpaOf (s : State) (a : Nat) : Nat := if s.inClutch then s.path * 2 ^ 45 + a else a

/-! ### Logical devices -/

/-- R66: the host agent state of a local slot: 0 IDLE, 1 ALIVE, 2 DOWN, 3 RECLAIMING, 4 DEAD. -/
def agentState (s : State) (slot : Nat) : Nat := s.get (F.HP_AGENT_STATE.STATE slot)

/-- R44, R53: the host agent number of a slot, if it holds one. -/
def hanOf (s : State) (slot : Nat) : Option Nat :=
  if s.flag (F.HP_HAN_MAP.ASSIGNED slot) && !s.flag (F.HP_AGENT_STATE.FLIT68 slot) then
    some (s.get (F.HP_HAN_MAP.HAN slot)) else none

/-- The local slots. -/
def slots : List Nat := List.range 64

/-- R44: the local slot that holds a host agent number, if one of this device does. -/
def slotOfHan (s : State) (h : Nat) : Option Nat := slots.find? (fun m => hanOf s m == some h)

/-- R43: the host link of a local slot. -/
def linkOfSlot (m : Nat) : Nat := m / 4

/-- R47: the extent of an LD that covers a DPA. -/
def extentAt (l : LdSt) (dpa : Nat) : Option Extent :=
  l.extents.find? (fun e => decide (e.dpa ≤ dpa) && decide (dpa < e.dpa + e.gib * 2 ^ 30))

/-- R47: the DPA at which an LD maps a CPA, if it does. -/
def dpaOf (l : LdSt) (cpa : Nat) : Option Nat :=
  (l.extents.find? (fun e => decide (e.base ≤ cpa) && decide (cpa < e.base + e.gib * 2 ^ 30))).map
    (fun e => e.dpa + (cpa - e.base))

/-- R47: whether an LD's extent table maps the region of a CPA. -/
def ldMaps (s : State) (slot cpa : Nat) : Bool := (dpaOf (s.lds.get slot) cpa).isSome

/-- R49: whether an LD's extent table maps the region of a CPA as one of another member's shared or leased regions. -/
def mapsShared (s : State) (slot cpa : Nat) : Bool :=
  (s.lds.get slot).extents.any (fun e => decide (e.base ≤ cpa) && decide (cpa < e.base + e.gib * 2 ^ 30)
    && e.shared.contains ((cpa - e.base) / 2 ^ 30))

/-- R49: whether the extent table of an LD of another member maps the region of a CPA (free, log entry 41). -/
def mappedAway (s : State) (cpa : Nat) : Bool := s.inClutch && Config.farMapped s.freeCtr (cpa / 2 ^ 30 * 2 ^ 30)

/-- R49: the draw of `mappedAway` has been used. -/
def State.farDrawn (s : State) : State := if s.inClutch then s.drawn else s

/-- R59: an event record goes to a logical device: ALIVE ones are interrupted, DOWN ones keep it. -/
def eventTo (slot : Nat) (e : EventRec) (s : State) : State :=
  let st := agentState s slot
  let l := s.lds.get slot
  let e := { e with time := l.timestamp + s.since l.timestampTb }
  if st = 1 then
    ({ s with lds := s.lds.upd slot (fun l => { l with log := l.log ++ [e] }) }).emit
      (.msix slot (s.lds.get slot).irqPolicy)
  else if st = 2 then { s with lds := s.lds.upd slot (fun l => { l with log := l.log ++ [e], irqHeld := true }) }
  else s

/-- R59: a device-wide event. -/
def eventAll (code detail : Nat) (s : State) : State :=
  forAll slots (fun m => eventTo m { kind := .deviceWide, code, dpa := 0, detail }) s

/-- R59, R173: an event to every LD whose extent table maps the region of a CPA, device-wide. -/
def eventMapping (code cpa : Nat) (s : State) : State :=
  forAll slots (fun m s =>
    if ldMaps s m (cpa / 2 ^ 30 * 2 ^ 30) then eventTo m { kind := .deviceWide, code, dpa := 0, detail := cpa } s
    else s) s

/-- R427, R481: a General Media (or DRAM) event record to each LD that maps a CPA, with the DPA of the line. -/
def eventLine (kind : EventKind) (code cpa : Nat) (s : State) : State :=
  forAll slots (fun m s =>
    match dpaOf (s.lds.get m) cpa with
    | some d => eventTo m { kind, code, dpa := d, detail := 0 } s
    | none => s) s

/-! ### Regions -/

/-- The descriptor of a region. -/
def State.region (s : State) (r : Nat) : Region := s.regions.get r

/-- R72: the descriptor of a region changed in all 16 copies. -/
def State.setRegion (s : State) (r : Nat) (f : Region → Region) : State := { s with regions := s.regions.upd r f }

/-- R78: P, the number of presented regions. -/
def State.presented (s : State) : Nat := s.get F.TIER_CAP_CFG.PRESENTED_REGIONS

/-- R182: the pointer of a walk's slice for a region, if a walk of it runs. -/
def walkPtr (s : State) (r sl : Nat) : Option Nat :=
  (s.walks.find? (fun w => w.2.region == r)).map (fun w => w.2.ptr.getD sl 0)

/-- R180, R182: the key ID and generation in effect for a page. -/
def keyGen (s : State) (page : Nat) : Nat × Nat :=
  let d := s.region (regionOf page)
  if d.walk then
    match walkPtr s (regionOf page) (pageSlice page) with
    | some p => if slice (page * 4096) 16 14 < p then (d.key, d.gen) else (d.srcKey, d.srcGen)
    | none => (d.srcKey, d.srcGen)
  else (d.key, d.gen)

/-- R150: the state of a key slot: 0 EMPTY, 1 ACTIVE, 2 RETIRING. -/
def keyState (s : State) (k : Nat) : Nat := s.get (F.CRY_KEY_STATUS.STATE k)

/-! ### Stitch messages -/

/-- R235: a message from the fields that are given; the others are 0. Its TAG and SRC are set where it is originated. -/
def mkMsg (op dst : Nat) (flags : Nat := 0) (han : Nat := 0) (code : Nat := 0) (addr : Nat := 0) (mask : BitVec 64 := 0)
    (arg : Nat := 0) (status : Nat := 0) (seg : Nat := 0) (beats : List Beat := []) : StMsg :=
  { opcode := BitVec.ofNat 8 op, flags := BitVec.ofNat 8 flags, tag := 0, src := 0, dst := BitVec.ofNat 6 dst
    han := BitVec.ofNat 6 han, code := BitVec.ofNat 8 code, addr := BitVec.ofNat 64 addr, mask
    arg := BitVec.ofNat 32 arg, status := BitVec.ofNat 8 status, seg := BitVec.ofNat 8 seg, beats }

/-- R235: HAN of a request: the hinted agent, else the one it acts for. The field has no value that says none: the lowest number that
is none of this member's own says it (DESIGN CHOICE, log entry 31). -/
def msgHan (s : State) (hint agent : Option Nat) : Nat :=
  let own (h : Nat) : Bool := s.flag (F.CLU_HAN.VALID h) && s.get (F.CLU_HAN.PATH h) == s.path
  (hint.orElse (fun _ => agent)).getD (((List.range 64).find? (fun h => !own h)).getD 0)

/-- R250: the egress port toward a destination: 0 to 3, 6 self, 7 unreachable. -/
def egress (s : State) (dst : Nat) (crossedDown : Bool) : Nat :=
  if crossedDown then s.get (F.CLU_ROUTE.PORT_DOWN dst) else s.get (F.CLU_ROUTE.PORT_UP dst)

/-- R248: this member originates a message and opens its transaction; it takes a tag and leaves when its port can send it.
Answers whether the destination is reachable. -/
def originate (m : StMsg) (what : StWhat) (s : State) : Bool × State :=
  let p := egress s m.dst.toNat false
  if 3 < p then (false, s)
  else
    let m := { m with src := BitVec.ofNat 6 s.path }
    (true, { s with stOpen := s.stOpen ++ [{ port := p, what, msg := m, since := s.now }] })

/-- R420: DCn_CFG.ENABLE has been 1 since the channel's domain last reset. -/
def wasEnabled (c : Nat) (s : State) : State := { s with spw := s.spw.upd c (fun x => { x with enabled := true }) }

/-- R343: DEVICE_ID. -/
def deviceId (s : State) : Nat := s.fuseShadow.toNat % 2 ^ 48

end Sys2Proof.Machine
end

