-- ==== Sys2Proof/Machine/Rs.lean ====
section
/-!
DEFINITION. The RS(80,70) code of R277: encoder, and bounded-distance decoder with erasures (R279, R281). Polynomials
are coefficient lists, constant term first; symbol `ck` is the coefficient of x^(79 - k).
-/

namespace Sys2Proof.Machine

/-- R277: multiplication in the code's field, polynomial 0x11D. -/
def rsMul (a b : Nat) : Nat := gfMul 0x11D a b

/-- Powers of α = 0x02. -/
def rsPow (n : Nat) : Nat := gfPow 0x11D 2 (n % 255)

/-- Inverse of a non-zero field element. -/
def rsInv (a : Nat) : Nat := gfPow 0x11D a 254

/-- Sum of polynomials. -/
def polyAdd : List Nat → List Nat → List Nat
  | [], q => q
  | p, [] => p
  | a :: p, b :: q => (a ^^^ b) :: polyAdd p q

/-- A polynomial times a constant. -/
def polyScale (k : Nat) (p : List Nat) : List Nat := p.map (rsMul k)

/-- Product of polynomials. -/
def polyMul : List Nat → List Nat → List Nat
  | [], _ => []
  | a :: p, q => polyAdd (polyScale a q) (0 :: polyMul p q)

/-- Value of a polynomial at `x`. -/
def polyEval (p : List Nat) (x : Nat) : Nat := p.foldr (fun a acc => a ^^^ rsMul x acc) 0

/-- A polynomial without its leading zeros. -/
def polyTrim (p : List Nat) : List Nat := (p.reverse.dropWhile (· == 0)).reverse

/-- Quotient and remainder of polynomials whose last coefficient is not 0, the dividend's degree falling each step. -/
def polyDivAux (d : List Nat) : Nat → List Nat → List Nat → List Nat × List Nat
  | 0, q, r => (q, r)
  | fuel + 1, q, r =>
    if r.length < d.length then (q, r)
    else
      let k := rsMul (r.getLastD 0) (rsInv (d.getLastD 1))
      let t := List.replicate (r.length - d.length) 0
      polyDivAux d fuel (polyAdd q (t ++ [k])) (polyTrim (polyAdd r (t ++ polyScale k d)))

/-- Quotient and remainder. -/
def polyDiv (a d : List Nat) : List Nat × List Nat := polyDivAux d (a.length + 1) [] (polyTrim a)

/-- R277: the generator polynomial, of degree 10. -/
def rsGen : List Nat := (List.range 10).foldl (fun g i => polyMul g [rsPow i, 1]) [1]

/-- R277: the ten check symbols c70 to c79 of the 70 data symbols c0 to c69. -/
def rsCheck (data : List Nat) : List Nat :=
  (padTo 10 (polyDiv (List.replicate 10 0 ++ data.reverse) rsGen).2).reverse

/-- R276, R277: the codeword's 80 symbols of 70 data symbols. -/
def rsEncode (data : List Nat) : List Nat := data ++ rsCheck data

/-- The ten syndromes of 80 symbols. -/
def rsSyndromes (c : List Nat) : List Nat := (List.range 10).map (fun i => polyEval c.reverse (rsPow i))

/-- Extended Euclid until the remainder's degree falls below `(10 + e) / 2`: (locator, evaluator). -/
def rsEuclid (e : Nat) : Nat → List Nat → List Nat → List Nat → List Nat → List Nat × List Nat
  | 0, _, r, _, l => (l, r)
  | fuel + 1, r0, r1, l0, l1 =>
    if 2 * (r1.length - 1) < 10 + e || r1.isEmpty then (l1, r1)
    else
      let (q, r) := polyDiv r0 r1
      rsEuclid e fuel r1 (polyTrim r) l1 (polyTrim (polyAdd l0 (polyMul q l1)))

/-- Formal derivative: the odd coefficients, one place down. -/
def polyDeriv : List Nat → List Nat
  | [] => []
  | [_] => []
  | _ :: b :: r => b :: 0 :: polyDeriv r

/-- Outcome of a codeword's decode. -/
inductive RsResult where
  | clean
  | corrected (word : List Nat) (positions : List Nat)
  | uncorrectable
deriving DecidableEq, Repr

/-- R277, R279: decodes 80 symbols, the positions `erased` taken as erasures. It corrects e erasures and t further
errors where e + 2t ≤ 10, and answers the corrected word with the positions whose symbol changed. -/
def rsDecode (c : List Nat) (erased : List Nat) : RsResult :=
  let syn := rsSyndromes c
  if syn.all (· == 0) then .clean
  else
    let gam := erased.foldl (fun g k => polyMul g [1, rsPow (79 - k)]) [1]
    let t := polyTrim ((polyMul syn gam).take 10)
    let (l, w) := rsEuclid erased.length 12 (List.replicate 10 0 ++ [1]) t [] [1]
    let psi := polyTrim (polyMul l gam)
    let inv k := rsPow (255 - (79 - k))
    let errs := (List.range 80).filter (fun k => polyEval psi (inv k) == 0)
    if errs.length + 1 != psi.length then .uncorrectable
    else
      let dpsi := polyDeriv psi
      let fix k s :=
        if errs.contains k then
          s ^^^ rsMul (rsPow (79 - k)) (rsMul (polyEval w (inv k)) (rsInv (polyEval dpsi (inv k))))
        else s
      let word := List.zipWith fix (List.range 80) c
      let moved := (List.range 80).filter (fun k => word.getD k 0 != c.getD k 0)
      let others := moved.filter (fun k => !erased.contains k)
      if (rsSyndromes word).all (· == 0) && erased.length + 2 * others.length ≤ 10 then .corrected word moved
      else .uncorrectable

end Sys2Proof.Machine
end

