-- ==== Sys2Proof/Machine/Storage.lean ====
section
/-!
DEFINITION. Stored memory: the channel address mapping (R274), codewords and their decode with counting and marking
(R276 to R282), the keystream and tags of data units (R155 to R161), the poison marker (R160), security alarms and
zeroization (R173, R174, R177).
-/

namespace Sys2Proof.Machine

/-- The bytes of a line. -/
def lineBytes (l : BitVec 512) : List Nat := toBytes 64 l.toNat

/-- The line that 64 bytes spell. -/
def lineOf (b : List Nat) : BitVec 512 := BitVec.ofNat 512 (ofBytes b)

/-! ### Channel address mapping -/

/-- R274: the place of a frame: subchannel, rank, bank group, bank, half-row and row. -/
structure Place where
  sc : Nat
  rank : Nat
  bg : Nat
  ba : Nat
  half : Nat
  row : Nat
deriving DecidableEq, Repr

/-- R274: placing frame `f` of a channel with `r` rank bits, of x4 or x8 devices. -/
def placeOf (x8 : Bool) (r f : Nat) : Place :=
  let row0 := f / 2 ^ (7 + r)
  if x8 then
    let row := row0 * 2 + slice f 3 1
    { sc := f % 2, rank := slice f 7 r, half := slice f 6 1, row
      bg := slice f 1 2 ^^^ slice row 1 2, ba := slice f 4 2 ^^^ slice row 4 2 }
  else
    { sc := f % 2, rank := slice f 7 r, half := slice f 6 1, row := row0
      bg := slice f 1 3 ^^^ slice row0 0 3, ba := slice f 4 2 ^^^ slice row0 3 2 }

/-- R274: the place of a line number X[..:6] of channel `c`. -/
def placeOfLine (s : State) (c line : Nat) : Place :=
  placeOf (s.flag (F.DC_CFG.X8 c)) (s.get (F.DC_CFG.RANK_BITS c)) (line / 64)

/-- R274: the column of a line number. -/
def columnOf (line : Nat) : Nat := 16 * (64 * slice (line / 64) 6 1 + line % 64)

/-- The key of line `line` of channel `c` in the DRAM table. -/
def dramKey (c line : Nat) : Nat := c * 2 ^ 34 + line

/-! ### Codewords -/

/-- R276: the codeword of 64 line bytes and 6 side-field bytes. -/
def codewordOf (line tag : List Nat) : BitVec 640 :=
  BitVec.ofNat 640 (ofBytes (rsEncode (padTo 64 line ++ padTo 6 tag)))

/-- The 80 symbols of a codeword. -/
def symbols (w : BitVec 640) : List Nat := toBytes 80 w.toNat

/-- No memory error. -/
def noErr : MemErr := { pattern := 0, stored := false }

/-- R281: the marked device of a rank and subchannel, if any. -/
def markOf (s : State) (c rank sc : Nat) : Option Nat :=
  if s.flag (F.DC_CFG.X8 c) then none
  else if sc = 0 then
    if s.flag (F.DC_MARK.SC0_VALID c rank) then some (s.get (F.DC_MARK.SC0_DEV c rank)) else none
  else if s.flag (F.DC_MARK.SC1_VALID c rank) then some (s.get (F.DC_MARK.SC1_DEV c rank)) else none

/-- R281: DETAIL of a marking record: rank, subchannel and device. -/
def markDetail (rank sc dev : Nat) : Nat := rank + 8 * sc + 16 * dev

/-- R282: a channel's marks are to be saved. -/
def marksChanged (c : Nat) (s : State) : State := { s with chans := s.chans.upd c (fun ch => { ch with saveMarks := true }) }

/-- R281, R282: a device meets the marking criteria. -/
def meetMark (c rank sc dev : Nat) (s : State) : State :=
  if s.flag (F.DC_CFG.X8 c) then s
  else
    match markOf s c rank sc with
    | some d => if d = dev then s else s.log 0x52 c 0 (markDetail rank sc dev)
    | none =>
      let s :=
        if sc = 0 then (s.put (F.DC_MARK.SC0_VALID c rank) 1).put (F.DC_MARK.SC0_DEV c rank) dev
        else (s.put (F.DC_MARK.SC1_VALID c rank) 1).put (F.DC_MARK.SC1_DEV c rank) dev
      (marksChanged c s).log 0x85 c 0 (markDetail rank sc dev)

/-- The count of a key in an association list. -/
def countOf (l : List (Nat × Nat)) (k : Nat) : Nat := (cellFind k l).getD 0

/-- R281: corrected symbols of one read counted by device, and the marking criteria. -/
def countSymbols (c rank sc : Nat) (positions : List Nat) (s : State) : State :=
  forAll (List.range 10) (fun dev s =>
    let n := (positions.filter (fun k => k / 8 == dev)).length
    if n = 0 then s
    else
      let key := (rank * 2 + sc) * 16 + dev
      let total := countOf (s.chans.get c).counts key + n
      let s := { s with chans := s.chans.upd c (fun ch => { ch with counts := cellInsert key total ch.counts }) }
      if s.flag (F.DC_ECC_CFG.AUTO_MARK c) && (decide (s.get (F.DC_ECC_CFG.MARK_THRESH c) ≤ total) || decide (3 ≤ n)) then
        meetMark c rank sc dev s
      else s) s

/-- Outcome of reading one stored codeword. -/
structure ReadOut where
  /-- The 70 data symbols, or none where uncorrectable. -/
  data : Option (List Nat)
  /-- The corrected codeword, where a symbol outside a marked device was corrected. -/
  fixed : Option (BitVec 640)
deriving DecidableEq, Repr

/-- R279, R481: an uncorrectable read of line `line` of channel `c`, counted and recorded. -/
def dramUe (c line : Nat) (known : Option Nat) (s : State) : State :=
  let p := placeOfLine s c line
  (s.bump (F.DC_ECC_STATUS.UE c)).record { code := 0x50, cls := 3, source := 7, inst := c, count := 1, seq := 0, tb := s.now
                                           addr := line * 64, detail := p.rank + 8 * p.sc, lastUs := 0, known }

/-- R281: the marked device of the rank and subchannel that line `line` of channel `c` lies in, if any. -/
def lineMark (s : State) (c line : Nat) : Option Nat :=
  let p := placeOfLine s c line
  markOf s c p.rank p.sc

/-- R279, R281: the decode of word `w`, read from line `line` of channel `c` under the mark `mark`; `known` is the CPA of the stored
line where the access knows it (R481). -/
def dramDecode (c line : Nat) (w : BitVec 640) (mark known : Option Nat) (s : State) : ReadOut × State :=
  let p := placeOfLine s c line
  let erased := match mark with | some d => (List.range 8).map (· + 8 * d) | none => []
  match rsDecode (symbols w) erased with
  | .clean => ({ data := some ((symbols w).take 70), fixed := none }, s)
  | .corrected word pos =>
    let outside := pos.filter (fun k => !erased.contains k)
    let s := (if outside.isEmpty then s else s.bump (F.DC_ECC_STATUS.CE c)).count 0x706 c
    ({ data := some (word.take 70)
       fixed := if outside.isEmpty then none else some (BitVec.ofNat 640 (ofBytes word)) },
      countSymbols c p.rank p.sc outside s)
  | .uncorrectable => ({ data := none, fixed := none }, dramUe c line known s)

/-- R279: what line `line` of channel `c` reads as with error `e`, which stays where it is one of the cells. -/
def dramSense (c line : Nat) (e : MemErr) (s : State) : BitVec 640 × State :=
  let w := s.dram.get (dramKey c line) ^^^ e.pattern
  (w, if e.stored then { s with dram := s.dram.set (dramKey c line) w } else s)

/-- R279, R281: a read of line `line` of channel `c` with error `e`, decoded under the mark in force. -/
def dramRead (c line : Nat) (e : MemErr) (known : Option Nat) (s : State) : ReadOut × State :=
  let (w, s) := dramSense c line e s
  dramDecode c line w (lineMark s c line) known s

/-- R280: a corrective write-back is scheduled. -/
def scheduleFix (c line : Nat) (o : ReadOut) (s : State) : State :=
  match o.fixed with
  | some w => { s with chans := s.chans.upd c (fun ch => { ch with writebacks := ch.writebacks ++ [(line, w)] }) }
  | none => s

/-- R280: a write of a line supersedes a corrective write-back of it that waits. -/
def cancelFix (c line : Nat) (s : State) : State :=
  let n := ((s.chans.get c).writebacks.filter (fun x => x.1 == line)).length
  if n = 0 then s
  else
    { s with chans := s.chans.upd c (fun ch => { ch with
        writebacks := ch.writebacks.filter (fun x => x.1 != line) }) }.bump (F.DC_ECC_STATUS.WB_CANCEL c) n

/-- R278: the DQ lane of its subchannel and the beat of the BL16 burst that bit `n` of symbol `k` travels on. -/
def symbolBit (k n : Nat) : Nat × Nat := (4 * (k / 8) + n % 4, 2 * (k % 8) + n / 4)

/-- A codeword is written to line `line` of channel `c`. -/
def dramWrite (c line : Nat) (w : BitVec 640) (s : State) : State :=
  let s := cancelFix c line s
  { s with dram := s.dram.set (dramKey c line) w }

/-! ### Keystream and tags -/

/-- The counter state a unit is kept under (R155). -/
structure CtrState where
  key : Nat
  gen : Nat
  page : Nat
  tier : Nat
  idx : Nat
  major : Nat
  minor : Nat
deriving DecidableEq, Repr

/-- R155: the AES input block of a unit for BLK `blk`. -/
def aesInput (c : CtrState) (blk : Nat) : Nat :=
  blk % 8 + c.idx % 64 * 2 ^ 3 + c.tier % 4 * 2 ^ 9 + c.minor % 128 * 2 ^ 11 + c.page % 2 ^ 39 * 2 ^ 18
    + c.gen % 128 * 2 ^ 57 + c.major % 2 ^ 64 * 2 ^ 64

/-- The 32 bytes of a 256-bit key. -/
def keyBytes (k : BitVec 256) : List Nat := toBytes 32 k.toNat

/-- AES-256 under a key of a 128-bit value serialised little-endian (R155). -/
def aesValue (k : BitVec 256) (v : Nat) : List Nat := aes256 (keyBytes k) (toBytes 16 v)

/-- R152, R153: the hash key of a key. -/
def hashKey (k : BitVec 256) : List Nat := aesValue k 0

/-- R158: the 16-byte length block. -/
def lengthBlock : List Nat := [0, 0, 0, 0, 0, 0, 0, 0, 0, 0, 0, 0, 0, 0, 2, 0]

/-- R158: the 6-byte tag of 64 bytes under a key, with the mask of the given input value. -/
def tagOf (k : BitVec 256) (bytes : List Nat) (maskInput : Nat) : List Nat :=
  (xorBytes (ghash (hashKey k) (chunks 16 4 bytes ++ [lengthBlock])) (aesValue k maskInput)).take 6

/-- R156: a unit's data under its keystream; encryption and decryption are the same. -/
def cryptUnit (k : BitVec 256) (c : CtrState) (bytes : List Nat) : List Nat :=
  xorBytes bytes (((List.range 4).map (fun n => aesValue k (aesInput c n))).flatten)

/-- R156 to R160: the codeword of a unit; none is a poison marker. -/
def sealUnit (k : BitVec 256) (c : CtrState) (data : Option (BitVec 512)) : BitVec 640 :=
  let ct := cryptUnit k c (lineBytes (data.getD 0))
  codewordOf ct (tagOf k ct (aesInput c (if data.isSome then 4 else 5)))

/-- R161: what a unit's check answers. -/
inductive Opened where
  | good (data : BitVec 512)
  | marker
  | badTag
deriving DecidableEq, Repr

/-- R161: a read unit's 70 data symbols checked under both masks and decrypted. -/
def openUnit (k : BitVec 256) (c : CtrState) (sym : List Nat) : Opened :=
  let ct := sym.take 64
  let tag := (sym.drop 64).take 6
  if tag = tagOf k ct (aesInput c 4) then .good (lineOf (cryptUnit k c ct))
  else if tag = tagOf k ct (aesInput c 5) then .marker
  else .badTag

/-- The working key of a slot; the all-zero key where the slot holds none (such a slot's units are never opened). -/
def workKey (s : State) (k : Nat) : BitVec 256 := ((s.keys.get k).wk).getD 0

/-- R150, R177: a slot whose key was lost. -/
def zeroized (s : State) (k : Nat) : Bool := s.flag (F.CRY_KEY_STATUS.ZEROIZED k) || (s.keys.get k).wk.isNone

/-- R156 to R160: a unit is encrypted, tagged and stored; none is a poison marker. Under a zeroized key nothing is
stored (R177: writes are discarded). -/
def storeUnit (chan line : Nat) (c : CtrState) (data : Option (BitVec 512)) (s : State) : State :=
  if zeroized s c.key then s else dramWrite chan line (sealUnit (workKey s c.key) c data) s

/-! ### Alarms and zeroization -/

/-- R72, CRY_KEYk_STATUS.REGIONS: ALLOCATED or FREEING regions whose KEY_ID or SRC_KEY_ID is `k`. -/
def regionsUnder (s : State) (k : Nat) : List Nat :=
  (s.regions.cells.filter (fun c => c.2.state != 0 && (c.2.key == k || (c.2.walk && c.2.srcKey == k)))).map (·.1)

/-- R177: a zeroized slot whose REGIONS is 0 reaches EMPTY, with KEY_RETIRED. -/
def settleKey (k : Nat) (s : State) : State :=
  if keyState s k = 2 ∧ s.flag (F.CRY_KEY_STATUS.ZEROIZED k) ∧ s.get (F.CRY_KEY_STATUS.REGIONS k) = 0 then
    (s.put (F.CRY_KEY_STATUS.STATE k) 0).log 0x84 k
  else s

/-- The REGIONS counts follow the region table; zeroized slots that none names reach EMPTY (R177). -/
def recountKeys (s : State) : State :=
  forAll (List.range 64) (fun k s =>
    settleKey k (s.put (F.CRY_KEY_STATUS.REGIONS k) (regionsUnder s k).length)) s

/-- R177: one slot loses its key. -/
def zeroizeSlot (k : Nat) (s : State) : State :=
  if keyState s k = 0 then s
  else
    let s := (s.put (F.CRY_KEY_STATUS.STATE k) 2).put (F.CRY_KEY_STATUS.ZEROIZED k) 1
    let s := { s with keys := s.keys.set k {} }.put (F.CRY_KEY_STATUS.IMPORTED k) 0
    let s := forAll (regionsUnder s k) (fun r s =>
      eventLine .generalMedia 0x2D (cpaOf s (r * 2 ^ 30)) (s.log 0x2D k (cpaOf s (r * 2 ^ 30)))) s
    settleKey k s

/-- R177, R380: zeroization of every key, and of the retention store. -/
def zeroize (s : State) : State :=
  forAll (List.range 64) zeroizeSlot { s with keystreams := [], pwr := { s.pwr with retained := none } }

/-- R342: `w` logical fuse bits from bit `lo`, from the shadow. -/
def State.fuseBits (s : State) (lo w : Nat) : Nat := slice s.fuseShadow.toNat lo w

/-- R346: ZEROIZE_FORCE, bit 1 of KEY_POLICY (fuse bits 906 to 921). -/
def zeroizeForced (s : State) : Bool := s.fuseBits 907 1 == 1

/-- R346: ZEROIZE_LIMIT, KEY_POLICY bits 15:8; 0 counts as 1. -/
def zeroizeLimit (s : State) : Nat := max 1 (s.fuseBits 914 8)

/-- R174: whether zeroization is armed, and its limit. -/
def alarmLimit (s : State) : Option Nat :=
  if zeroizeForced s then
    some (if s.get F.CRY_CTRL.ALARM_LIMIT = 0 then zeroizeLimit s else min (s.get F.CRY_CTRL.ALARM_LIMIT) (zeroizeLimit s))
  else if s.flag F.CRY_CTRL.ALARM_ZEROIZE && s.get F.CRY_CTRL.ALARM_LIMIT != 0 then some (s.get F.CRY_CTRL.ALARM_LIMIT)
  else none

/-- R174: zeroizes where the alarm count is at or above the limit in force. -/
def checkAlarmLimit (s : State) : State :=
  match alarmLimit s with
  | some n => if n ≤ s.get F.CRY_ALARM_COUNT.COUNT then zeroize s else s
  | none => s

/-- R173: a security alarm of kind 1 DATA_TAG, 2 META_TAG or 3 MERGE. `unitId` names the stored unit: an alarm that
repeats one of the same unit within the transit has no effect. -/
def alarm (kind sl level page idx key : Nat) (unitId : Nat × Nat × Nat × Nat) (cpa : Nat) (s : State) : State :=
  if s.alarms.contains unitId then s
  else
    let s := { s with alarms := unitId :: s.alarms }
    let s := s.bump F.CRY_ALARM_COUNT.COUNT
    let s := (((s.put F.CRY_ALARM_LAST.KIND kind).put F.CRY_ALARM_LAST.SLICE sl).put F.CRY_ALARM_LAST.LEVEL level).put
      F.CRY_ALARM_LAST.PAGE page
    let s := ((s.put F.CRY_ALARM_LAST.IDX idx).put F.CRY_ALARM_LAST.KEY_ID key).put F.CRY_ALARM_LAST.VALID 1
    let code := if kind = 1 then 0x2A else if kind = 2 then 0x2B else 0x2C
    checkAlarmLimit (eventMapping code cpa (s.log code sl cpa idx))

/-- R173: a DATA_TAG (1) or MERGE (3) alarm of unit `idx` of a page. -/
def alarmData (kind page idx key : Nat) (s : State) : State :=
  alarm kind (pageSlice page) 0 page idx key (0, page, idx, 0) (cpaOf s (page * 4096)) s

/-! ### Reading units -/

/-- R161: a data unit read, checked and decrypted in one step (moves, merges): its data, or none where it reads as
poison. `mergeRead` makes an unverifiable unit a MERGE alarm (R176). -/
def readUnit (chan line : Nat) (c : CtrState) (e : MemErr) (mergeRead : Bool) (s : State) :
    Option (BitVec 512) × State :=
  if zeroized s c.key then (none, s)
  else
    let cpa := cpaOf s (c.page * 4096 + (if c.tier = 1 then c.idx * 64 else 0))
    let (o, s) := dramRead chan line e (some cpa) s
    let s := scheduleFix chan line o s
    match o.data with
    | none => (none, s.poisonAdd (cpa / 64))
    | some sym =>
      match openUnit (workKey s c.key) c sym with
      | .good d => (some d, s)
      | .marker => (none, s)
      | .badTag => (none, alarmData (if mergeRead then 3 else 1) c.page c.idx c.key s)

end Sys2Proof.Machine
end

