-- ==== Sys2Proof/Machine/Mailbox.lean ====
section
/-!
DEFINITION. The paths of commands: replies and outstanding tags (R314, R315, R328), the mailbox channels (R326 to R332),
the sideband ingress FIFO (R338 to R341) and the debug UART (R325).
-/

namespace Sys2Proof.Machine

/-! ### Paths, columns, replies -/

/-- R315: a number for each path on which tags are kept apart. -/
def pathKey : Path → Nat
  | .mbx c => c
  | .sideband => 16
  | .uart => 17
  | .stitch _ _ _ => 18
  | .tunnel m => 32 + m
  | .doe m => 96 + m

/-- R315: the path of a packet on which its tag is kept apart. A command that another member forwarded to the top head was
checked on its own path there. -/
def packetKey (p : Packet) : Nat :=
  match p.path, p.cls with
  | .stitch port tag _, some _ => 256 + port.val * 4096 + tag.toNat
  | path, _ => pathKey path

/-- R315: whether a packet's tag is outstanding on its path. -/
def tagHeld (p : Packet) (s : State) : Bool := s.mgt.tags.contains (packetKey p, p.tag.toNat)

/-- The far end of a channel: 0 unbound, 1 host LD, 2 stitch-from-head, 3 debug UART, 7 fall-back. -/
def chanKind (s : State) (c : Nat) : Nat := s.get (F.MBX_CH_BIND.KIND c)

/-- R330: the LD that a packet comes from, where it comes from one. -/
def packetSlot (s : State) (p : Packet) : Option Nat :=
  match p.path with
  | .mbx c => if c.val = 15 then some p.slot else if chanKind s c = 1 then some (s.get (F.MBX_CH_BIND.SLOT c)) else none
  | .tunnel m => some m
  | .doe m => some m
  | _ => none

/-- R321, R323: the column of the port authority table for a packet. -/
def packetColumn (s : State) (p : Packet) : Nat :=
  match p.cls with
  | some c => c
  | none =>
    match p.path with
    | .mbx c => if chanKind s c = 2 then 17 else if chanKind s c = 3 then 18 else ((packetSlot s p).getD 0) / 4
    | .tunnel m => m / 4
    | .doe m => m / 4
    | .sideband => 16
    | .stitch _ _ _ => 17
    | .uart => 18

/-- R322, R364: whether a packet came inside a secured SPDM session: one that is open on its DOE, or on MCTP. -/
def sessioned (p : Packet) (s : State) : Bool :=
  p.secured && (match p.path with
    | .doe m => !(s.sec.sessions.get m).isEmpty
    | .sideband => !(s.sec.sessions.get 64).isEmpty
    | _ => false)

/-- R322: whether a packet came on a secure path. The path of a command that another member forwarded to the top head was
checked there (DEDUCED, log entry 38). -/
def securePath (p : Packet) (s : State) : Bool :=
  sessioned p s || (match p.path with | .mbx c => decide (c.val ≤ 7) || chanKind s c == 2 | .stitch _ _ _ => true | _ => false)

/-- R319, R259: what identifies the LD that a packet comes from: 0x80 with its HAN, 0x40 for an LD without one, 0 where it comes from none.
Another member's packet brings it along (DESIGN CHOICE, log entry 196). -/
def senderStamp (p : Packet) (s : State) : Nat :=
  match p.path with
  | .stitch _ _ _ => slice p.flags.toNat 8 8
  | _ =>
    if 16 ≤ packetColumn s p then 0
    else match (packetSlot s p).bind (hanOf s) with
      | some h => 0x80 + h
      | none => 0x40

/-- R317: DETAIL from its reason class and index. -/
def detail (reason index : Nat) : Nat := reason * 65536 + index % 65536

/-- The number of bytes of a packet that leaves. -/
def outLength : Out → Nat
  | .reply _ _ _ _ _ _ b => 16 + b.length
  | _ => 16

/-- The LD that a channel's far-end interrupts go to (R330). -/
def farSlot (s : State) (c : Nat) : Option Nat :=
  if c = 15 then (if s.flag F.MBX_CH15_OUT_DEST.VALID then some (s.get F.MBX_CH15_OUT_DEST.SLOT) else none)
  else if chanKind s c = 1 then some (s.get (F.MBX_CH_BIND.SLOT c)) else none

/-- An interrupt to a far end that is an LD, if `en` enables it. -/
def farIrq (c : Nat) (dest : Option Nat) (en : Bool) (s : State) : State :=
  match dest with
  | some m => if en then s.emit (.msix m (s.get (F.MBX_CH_BIND.MSIX c))) else s
  | none => s

/-- R327, R330: a message of the management processor is posted in OUT. -/
def postOut (c : Nat) (o : Out) (s : State) : State :=
  let s := { s with mbx := s.mbx.upd c (fun x => { x with outMsg := some o }) }
  let s := (s.put (F.MBX_CH_STATUS.OUT_FULL c) 1).put (F.MBX_CH_STATUS.OUT_LEN c) (outLength o)
  farIrq c (farSlot s c) (s.flag (F.MBX_CH_IRQ.FAR_POST_EN c)) (s.emit o)

/-- R330: before a post on channel 15 the management processor names the destination. -/
def nameDest (c : Nat) (slot : Option Nat) (s : State) : State :=
  match slot with
  | some m => if c = 15 then (s.put F.MBX_CH15_OUT_DEST.VALID 1).put F.MBX_CH15_OUT_DEST.SLOT m else s
  | none => s

/-- R315: a tag is no longer outstanding. -/
def endTag (tag : Option (Nat × Nat)) (s : State) : State :=
  match tag with
  | some k => { s with mgt := { s.mgt with tags := s.mgt.tags.filter (· != k) } }
  | none => s

/-- R315, R328, R330: a message for a channel is posted, which ends `tag`, or held for OUT with its destination. -/
def sendOut (c : Nat) (slot : Option Nat) (o : Out) (tag : Option (Nat × Nat)) (s : State) : State :=
  if s.flag (F.MBX_CH_STATUS.OUT_FULL c) || !(s.mbx.get c).held.isEmpty then
    { s with mbx := s.mbx.upd c (fun x => { x with held := x.held ++ [{ dest := slot, out := o, tag }] }) }
  else postOut c o (nameDest c slot (endTag tag s))

/-- R313: the 16 bytes of a header. -/
def headerBytes (opcode tag flags length param : Nat) : List Nat :=
  toBytes 2 opcode ++ toBytes 2 tag ++ toBytes 2 flags ++ toBytes 2 length ++ toBytes 8 param

/-- R314: the bytes of a packet that leaves. -/
def outBytes : Out → List Nat
  | .reply _ op tag status det result b =>
    headerBytes op tag 1 b.length (status % 256 + det % 2 ^ 24 * 2 ^ 8 + result % 2 ^ 32 * 2 ^ 32) ++ b.map (·.toNat)
  | .completion _ op tag status det => headerBytes op tag 3 0 (status % 256 + det % 2 ^ 24 * 2 ^ 8)
  | .notice _ code => headerBytes 0 0xFFFF 2 0 code
  | _ => []

/-- R235: a packet's bytes as the beats of a CMD or CMD_RSP. -/
def packetBeats (b : List Nat) : List Beat :=
  (chunks 64 64 b).map (fun c => { data := lineOf (padTo 64 c), poison := false, scode := 0 })

/-- R236, R259: CMD_RSP answers a CMD that arrived on a port under a tag, from member `src`. -/
def sendCmdRsp (port tag src : Nat) (o : Out) (s : State) : State :=
  let b := outBytes o
  let m := mkMsg 0x23 src (arg := b.length) (beats := packetBeats b)
  let m := { m with tag := BitVec.ofNat 12 tag, src := BitVec.ofNat 6 s.path }
  { s with stSend := s.stSend ++ [(port, m)] }

/-- R314, R315: a packet of the device leaves on a path; once it is sent, `tag` is no longer outstanding. -/
def sendOn (path : Path) (slot : Option Nat) (o : Out) (tag : Option (Nat × Nat)) (s : State) : State :=
  match path with
  | .mbx c => sendOut c slot o tag s
  | .stitch port mtag src => sendCmdRsp port mtag.toNat src.toNat o (endTag tag s)
  | _ => (endTag tag s).emit o

/-- R329: a reply or completion event that a reset of its far end discards is logged (R428 gives no code for it: log entry 159). -/
def discardReply (k : Nat × Nat) (s : State) : State :=
  { s with mgt := { s.mgt with discarded := s.mgt.discarded ++ [k] } }

/-- R314, R315: the reply of a packet; once it is sent, its tag is no longer outstanding unless the status is ACCEPTED. A reply whose far
end or tag a reset has ended is discarded (R329). -/
def reply (p : Packet) (status det result : Nat) (payload : List Byte) (s : State) : State :=
  let k := (packetKey p, p.tag.toNat)
  if p.muted || !s.mgt.tags.contains k then discardReply k s
  else
    sendOn p.path (some p.slot) (.reply p.path p.opcode.toNat p.tag.toNat status det result payload)
      (if status = 1 then none else some k) s

/-- R314: the completion event of a Long command, which ends. -/
def completeLong (c : LongCmd) (status det : Nat) (s : State) : State :=
  let k := (c.key, c.tag)
  let s := { s with mgt := { s.mgt with longs := eraseFirst (fun x => x == c) s.mgt.longs } }
  if c.discard then discardReply k s
  else sendOn c.path (some c.slot) (.completion c.path c.opcode c.tag status det) (some k) s

/-- R314, R259: the completion event of a Long command that another member carries out. -/
def completeAway (p : Packet) (status det : Nat) (s : State) : State :=
  let k := (packetKey p, p.tag.toNat)
  if p.muted || !s.mgt.tags.contains k then discardReply k s
  else sendOn p.path (some p.slot) (.completion p.path p.opcode.toNat p.tag.toNat status det) (some k) s

/-- The Long commands of an opcode on an object. -/
def longsOn (s : State) (opcode object : Nat) : List LongCmd :=
  s.mgt.longs.filter (fun c => c.opcode == opcode && c.object == object)

/-- Every Long command of an opcode on an object ends with a status. -/
def completeLongs (opcode object status det : Nat) (s : State) : State :=
  forAll (longsOn s opcode object) (fun c s => completeLong c status det s) s

/-- R329: a notice on every bound mailbox channel (and, for R433, on the sideband). -/
def noticeAll (code : Nat) (sideband : Bool) (s : State) : State :=
  let s := forAll ((List.range 15).filter (fun c => chanKind s c != 0)) (fun c s =>
    sendOut c none (.notice (.mbx (Fin.ofNat 16 c)) code) none s) s
  if sideband then s.emit (.notice .sideband code) else s

/-! ### Mailbox channels -/

/-- Whether a mailbox message is of an LD that may use the channel as its far end (R326, R330). -/
def isFarEnd (s : State) (c slot : Nat) : Bool :=
  if c = 15 then (s.claim.map (·.1)) == some slot
  else if chanKind s c = 1 then s.get (F.MBX_CH_BIND.SLOT c) == slot
  else chanKind s c != 0

/-- R330: channel 15's claim registers follow the claim. -/
def showClaim (s : State) : State :=
  let busy := s.claim.isSome || s.flag (F.MBX_CH_STATUS.IN_FULL 15)
  ((s.put F.MBX_CH15_CLAIM.BUSY (bit busy)).put F.MBX_CH15_CLAIM.OWNER ((s.claim.map (·.1)).getD 0))

/-- R326: bytes written into a buffer of 4 KiB at an offset. -/
def overwrite (o : Nat) (new buf : List Byte) : List Byte :=
  (((buf ++ List.replicate o 0).take o) ++ new ++ buf.drop (o + new.length)).take 4096

/-- R327: the message that stands in a channel's IN. -/
def inBytes (s : State) (c : Nat) : List Byte :=
  let n := s.get (F.MBX_CH_STATUS.IN_LEN c)
  ((s.mbx.get c).inMsg ++ List.replicate n 0).take n

/-- R327, R330, R381: IN_POST: the far end (an LD, or the processor by mistake) writes `bytes` at the start of the IN buffer and posts
it. -/
def execInPost (chan : Fin 16) (slot : Fin 64) (mgt : Bool) (len : BitVec 13) (bytes : List Byte) (s : State) :
    Host.Outcome State Fault Refusal :=
  let c := chan.val
  let n := len.toNat
  let s := if mgt then s else wakeRaw 0 s
  if s.flag (F.MBX_CH_STATUS.IN_FULL c) || n < 16 || 4096 < n || mgt || !isFarEnd s c slot then
    .next (s.put (F.MBX_CH_STATUS.IN_ERR c) 1)
  else
    let msg := overwrite 0 (bytes.take n) (s.mbx.get c).inMsg
    let msg := if c = 15 then overwrite 5 [BitVec.ofNat 8 (0x80 + slot.val)] msg else msg
    let s := { s with mbx := s.mbx.upd c (fun x => { x with inMsg := msg, inSlot := slot.val }) }
    .next (wakeFrom 1 (showClaim ((s.put (F.MBX_CH_STATUS.IN_FULL c) 1).put (F.MBX_CH_STATUS.IN_LEN c) n)))

/-- R313: a packet from its bytes; SENDER counts on channel 15 alone. -/
def packetOf (path : Path) (slot : Nat) (b : List Byte) : Packet :=
  let at_ (o n : Nat) : Nat := fieldLE (b.map (·.toNat)) o n
  { path, cls := none, slot := Fin.ofNat 64 slot, secured := false
    opcode := BitVec.ofNat 16 (at_ 0 2), tag := BitVec.ofNat 16 (at_ 2 2)
    flags := BitVec.ofNat 16 (if path = .mbx 15 then at_ 4 2 else at_ 4 1)
    length := BitVec.ofNat 16 (at_ 6 2), param := BitVec.ofNat 64 (at_ 8 8), payload := b.drop 16 }

/-- R315: a packet whose tag is outstanding is answered with BUSY, and that tag stays outstanding. -/
def answerBusy (p : Packet) (s : State) : State :=
  sendOn p.path (some p.slot) (.reply p.path p.opcode.toNat p.tag.toNat 0x0D 0 0 []) none s

/-- R315: a packet's tag becomes outstanding. -/
def holdTag (p : Packet) (s : State) : State :=
  { s with mgt := { s.mgt with tags := s.mgt.tags ++ [(packetKey p, p.tag.toNat)] } }

/-- R315, R337: a packet is accepted for its decision unit. -/
def accept (p : Packet) (s : State) : State :=
  if tagHeld p s then answerBusy p s
  else
    let s := holdTag p s
    { s with mgt := { s.mgt with accepted := s.mgt.accepted ++ [p] } }

/-- R337: a packet has arrived, and waits to be accepted in a slot. -/
def arrive (p : Packet) (s : State) : State := { s with mgt := { s.mgt with arrivals := s.mgt.arrivals ++ [p] } }

/-- The packets that are decided and not yet answered: of the fuse sequencer, FW_WRITE, SET_PL and SLEEP (R348, R360, R375, R378). -/
def unanswered (s : State) : List Packet :=
  (match s.sec.fuse with | some j => j.packet.toList | none => []) ++ (match s.sec.fw with | some x => [x.1] | none => [])
    ++ s.pwr.pl.waiting.toList ++ (match s.pwr.sleep with | some x => [x.packet] | none => [])

/-- R328: whether fewer than 4 replies of a path's channel wait for OUT, those still to come of its accepted packets among them. -/
def replyRoom (path : Path) (s : State) : Bool :=
  match path with
  | .mbx c =>
    decide ((s.mbx.get c).held.length
      + ((s.mgt.accepted ++ unanswered s).filter (fun p => packetKey p == c.val && !p.muted)).length < 4)
  | _ => true

/-- R328: whether the completion event of a Long command may be sent: not while its channel's 4 replies wait. -/
def eventRoom (c : LongCmd) (s : State) : Bool :=
  match c.path with
  | .mbx k => c.discard || decide ((s.mbx.get k).held.length < 4)
  | _ => true

/-- R337: the oldest packet that has arrived on a path, if there is one, is accepted. -/
def takeArrival (key : Nat) (s : State) : State :=
  match s.mgt.arrivals.find? (fun p => packetKey p == key) with
  | none => s
  | some p =>
    if replyRoom p.path s then
      accept p { s with mgt := { s.mgt with arrivals := eraseFirst (fun x => packetKey x == key) s.mgt.arrivals } }
    else s

/-- R327, R331: IN empties. -/
def emptyIn (c : Nat) (s : State) : State :=
  let s := (s.put (F.MBX_CH_STATUS.IN_FULL c) 0).put (F.MBX_CH_STATUS.IN_LEN c) 0
  let s := if c ≤ 7 then { s with mbx := s.mbx.upd c (fun x => { x with inMsg := [] }) } else s
  let s := if c = 15 then { s with claim := none } else s
  showClaim s

/-- R327, R328, R337: the management processor takes an IN message. -/
def takeIn (c : Nat) (s : State) : State :=
  let x := s.mbx.get c
  let path : Path := .mbx (Fin.ofNat 16 c)
  if !s.flag (F.MBX_CH_STATUS.IN_FULL c) || !replyRoom path s then s
  else
    let p := packetOf path x.inSlot (inBytes s c)
    let dest := if c = 15 then some x.inSlot else farSlot s c
    farIrq c dest (s.flag (F.MBX_CH_IRQ.FAR_EMPTY_EN c)) (emptyIn c (accept p s))

/-- R327: IN_TAKEN. -/
def execInTaken (chan : Fin 16) (mgt : Bool) (s : State) : Host.Outcome State Fault Refusal :=
  if !s.flag (F.MBX_CH_STATUS.IN_FULL chan) then .next s
  else if !mgt then .next (s.put (F.MBX_CH_STATUS.IN_ERR chan) 1)
  else .next (takeIn chan s)

/-- R328: the oldest reply held for a channel is posted when OUT is empty. -/
def postHeld (c : Nat) (s : State) : State :=
  let x := s.mbx.get c
  match x.held with
  | [] => s
  | h :: rest =>
    let t := nameDest c h.dest s
    if s.flag (F.MBX_CH_STATUS.OUT_FULL c) || (c == 15 && !t.flag F.MBX_CH15_OUT_DEST.VALID) then s
    else postOut c h.out (endTag h.tag { t with mbx := t.mbx.set c { x with held := rest } })

/-- R327, R328, R330: OUT_POST by the management processor, of the oldest reply it holds; by the far end it is an error,
and on channel 15 it needs a destination. -/
def execOutPost (chan : Fin 16) (mgt : Bool) (s : State) : Host.Outcome State Fault Refusal :=
  if s.flag (F.MBX_CH_STATUS.OUT_FULL chan) || !mgt then .next (s.put (F.MBX_CH_STATUS.OUT_ERR chan) 1)
  else .next (postHeld chan s)

/-- R327, R331: OUT empties. -/
def emptyOut (c : Nat) (s : State) : State :=
  let s := (s.put (F.MBX_CH_STATUS.OUT_FULL c) 0).put (F.MBX_CH_STATUS.OUT_LEN c) 0
  { s with mbx := s.mbx.upd c (fun x => { x with outMsg := none }) }

/-- R327, R330, R381: OUT_TAKEN by the far end, whose write is a CXL.io access. -/
def execOutTaken (chan : Fin 16) (slot : Fin 64) (mgt : Bool) (s : State) : Host.Outcome State Fault Refusal :=
  let s := if mgt then s else wakeRaw 0 s
  let far := if chan.val = 15 then farSlot s 15 == some slot.val else isFarEnd s chan slot
  if !s.flag (F.MBX_CH_STATUS.OUT_FULL chan) then .next s
  else if mgt || !far then .next (s.put (F.MBX_CH_STATUS.OUT_ERR chan) 1)
  else .next (emptyOut chan s)

/-- R330: CH15_CLAIM. -/
def execCh15Claim (slot : Fin 64) (s : State) : Host.Outcome State Fault Refusal :=
  if s.claim.isSome || s.flag (F.MBX_CH_STATUS.IN_FULL 15) then .next s
  else .next (showClaim { s with claim := some (slot.val, s.now) })

/-- R330: CH15_CLAIM_REVOKE. -/
def execCh15ClaimRevoke (s : State) : Host.Outcome State Fault Refusal :=
  match s.claim with
  | some (_, t) =>
    if !s.flag (F.MBX_CH_STATUS.IN_FULL 15) && decide (100000 ≤ s.since t) then
      .next (showClaim { s with claim := none, mbx := s.mbx.upd 15 (fun x => { x with inMsg := [] }) })
    else .next s
  | none => .next s

/-- R331: MBX_BIND_WRITE. -/
def execMbxBindWrite (chan : Fin 16) (value : BitVec 32) (s : State) : Host.Outcome State Fault Refusal :=
  let c := chan.val
  let v := value.toNat
  if (s.flag F.MBX_CTRL.SECURE_LOCK && decide (c ≤ 7)) || s.flag (F.MBX_CH_STATUS.IN_FULL c)
      || s.flag (F.MBX_CH_STATUS.OUT_FULL c) then .next s
  else
    let s := (s.put (F.MBX_CH_BIND.MSIX c) (slice v 16 8)).put (F.MBX_CH_BIND.SLOT c) (slice v 8 6)
    .next (if c = 15 ∨ 4 ≤ slice v 0 3 then s else s.put (F.MBX_CH_BIND.KIND c) (slice v 0 3))

/-- R329: the commands taken from a channel, or those of one LD on it, run on; their replies and completion events will be discarded,
as those that wait for OUT are now. A packet not yet taken is gone. -/
def dropReplies (c : Nat) (who : Option Nat) (s : State) : State :=
  let long (l : LongCmd) : Bool := pathKey l.path == c && who.all (fun m => l.slot == m)
  let packet (p : Packet) : Bool := packetKey p == c && who.all (fun m => p.slot.val == m)
  let held (h : HeldOut) : Bool := who.isNone || h.dest == who
  let mute (p : Packet) : Packet := if packet p then { p with muted := true } else p
  let waiting := (s.mbx.get c).held.filter held
  let taken := (s.mgt.accepted ++ unanswered s ++ s.stOpen.filterMap (fun o => match o.what with | .command p _ => some p | _ => none)).filter
    packet
  let gone := (s.mgt.longs.filter long).map (fun l => (l.key, l.tag)) ++ taken.map (fun p => (packetKey p, p.tag.toNat))
    ++ waiting.filterMap (·.tag)
  { s with
    mbx := s.mbx.upd c (fun x => { x with held := x.held.filter (fun h => !held h) })
    sec := { s.sec with
      fuse := s.sec.fuse.map (fun j => { j with packet := j.packet.map mute })
      fw := s.sec.fw.map (fun x => (mute x.1, x.2)) }
    pwr := { s.pwr with
      pl := { s.pwr.pl with waiting := s.pwr.pl.waiting.map mute }
      sleep := s.pwr.sleep.map (fun x => { x with packet := mute x.packet }) }
    stOpen := s.stOpen.map (fun o => match o.what with | .command p b => { o with what := .command (mute p) b } | _ => o)
    mgt := { s.mgt with
      arrivals := s.mgt.arrivals.filter (fun p => !packet p)
      accepted := s.mgt.accepted.map mute
      discarded := s.mgt.discarded ++ waiting.filterMap (·.tag)
      longs := s.mgt.longs.map (fun l => if long l then { l with discard := true } else l)
      tags := s.mgt.tags.filter (fun t => !gone.contains t && (who.isSome || t.1 != c)) } }

/-- R329: the far end of a channel was reset. -/
def farEndReset (c : Nat) (s : State) : State :=
  let s := dropReplies c none (emptyOut c (emptyIn c s))
  { s with mbx := s.mbx.upd c (fun x => { x with inMsg := [] }) }.put (F.MBX_CH_STATUS.OUT_ABORT c) 1

/-- R329: FAR_END_RESET. -/
def execFarEndReset (chan : Fin 16) (s : State) : Host.Outcome State Fault Refusal := .next (farEndReset chan s)

/-- R329, R330: an LD enters RECLAIMING: the channels it is the far end of are reset, and what channel 15 holds of it or for it goes. -/
def farEndLd (m : Nat) (s : State) : State :=
  let s := forAll ((List.range 15).filter (fun c => chanKind s c == 1 && s.get (F.MBX_CH_BIND.SLOT c) == m)) farEndReset s
  let posted := s.flag (F.MBX_CH_STATUS.IN_FULL 15) && (s.mbx.get 15).inSlot == m
  let for_ := s.flag (F.MBX_CH_STATUS.OUT_FULL 15) && farSlot s 15 == some m
  let claimed := (s.claim.map (·.1)) == some m
  let s := dropReplies 15 (some m) s
  let s := if posted || claimed then { emptyIn 15 s with mbx := s.mbx.upd 15 (fun x => { x with inMsg := [] }) } else s
  let s := if for_ then emptyOut 15 s else s
  if posted || for_ || claimed then s.put (F.MBX_CH_STATUS.OUT_ABORT 15) 1 else s

/-- R329: the management reset domain resets: IN mailboxes, tags and held replies. -/
def mailboxMgtReset (s : State) : State :=
  let s := forAll (List.range 16) (fun c s =>
    let s := emptyIn c s
    let s := { s with mbx := s.mbx.upd c (fun x => { x with inMsg := [], held := [] }) }
    farIrq c (farSlot s c) (s.flag (F.MBX_CH_IRQ.FAR_EMPTY_EN c)) (s.put (F.MBX_CH_STATUS.IN_ABORT c) 1)) s
  { s with mgt := {} }

/-! ### The sideband FIFO -/

/-- The committed words, the flags and the counters shown in MBX_SB_STATUS. -/
def showSb (s : State) : State :=
  let b := s.sb
  (((s.put F.MBX_SB_STATUS.WORDS (b.wr - b.rd)).put F.MBX_SB_STATUS.EMPTY (bit (b.wr == b.rd))).put
    F.MBX_SB_STATUS.MID (bit b.item.isSome)).put F.MBX_SB_STATUS.MARK_VALID (bit b.mark.isSome)

/-- R338: a START begins an item; an item still open ends there, as at a repeated START. -/
def sbStart (s : State) : State := showSb { s with sb := { s.sb with item := some [], discarding := false, nack := false } }

/-- R341: an item is discarded whole, and counted; for want of space, its remaining bytes are NACKed on SMBus. -/
def sbDropItem (full : Bool) (s : State) : State :=
  { s with sb := { s.sb with item := none, discarding := true, nack := full && !Config.sidebandI3c } }.bump F.MBX_SB_COUNT.DROPPED

/-- R338, R340, R341: SB_BYTE: a byte of the item; the first byte of a word takes a free word, which may overtake the
mark. -/
def execSbByte (byte : Byte) (s : State) : Host.Outcome State Fault Refusal :=
  match s.sb.item with
  | none => .next (if s.sb.nack then s.emit .sbNack else s)
  | some l =>
    let pos := s.sb.wr + l.length / 8
    if l.length % 8 = 0 ∧ 512 ≤ pos - s.sb.rd then
      .next (showSb ((sbDropItem true s).put F.MBX_SB_STATUS.OVERFLOW 1))
    else
      let s := { s with sb := { s.sb with item := some (l ++ [byte]) } }
      if l.length % 8 = 0 ∧ s.sb.mark = some (pos - 512) ∧ 512 ≤ pos then
        .next (showSb ({ s with sb := { s.sb with mark := none } }.put F.MBX_SB_STATUS.MARK_LOST 1))
      else .next (showSb s)

/-- R338: the words of an item of `n` bytes, from word `i` on. -/
def sbWords (l : List Byte) (n i : Nat) : Nat → List SbWord
  | 0 => []
  | fuel + 1 =>
    let b := (l.drop (8 * i)).take 8
    { word := BitVec.ofNat 64 (ofBytes (b.map (·.toNat))), sop := i == 0, eop := decide (n ≤ 8 * (i + 1)), valid := b.length }
      :: sbWords l n (i + 1) fuel

/-- The words written into the ring from position `p`. -/
def ringPut (t : Tab (Option SbWord) none) (p : Nat) : List SbWord → Tab (Option SbWord) none
  | [] => t
  | w :: r => ringPut (t.set (p % 512) (some w)) (p + 1) r

/-- R338: the item's words are committed together. -/
def sbCommit (s : State) : State :=
  match s.sb.item with
  | none => showSb { s with sb := { s.sb with discarding := false, nack := false } }
  | some [] => showSb { s with sb := { s.sb with item := none } }
  | some l =>
    let w := sbWords l l.length 0 ((l.length + 7) / 8)
    let s := { s with sb := { s.sb with ring := ringPut s.sb.ring s.sb.wr w, wr := s.sb.wr + w.length, item := none } }
    showSb (s.bump F.MBX_SB_COUNT.PACKETS)

/-- R338: SB_ITEM_START. -/
def execSbItemStart (s : State) : Host.Outcome State Fault Refusal := .next (wakeFrom 2 (sbStart (sbCommit s)))

/-- R338: SB_ITEM_END. -/
def execSbItemEnd (s : State) : Host.Outcome State Fault Refusal := .next (sbCommit s)

/-- R341: SB_BUS_FAULT. -/
def execSbBusFault (s : State) : Host.Outcome State Fault Refusal :=
  if s.sb.item.isSome then .next (showSb ((sbDropItem false s).put F.MBX_SB_STATUS.TORN 1)) else .next s

/-- META of a word in MBX_SB_META and WORD in MBX_SB_DATA. -/
def showWord (w : SbWord) (ce ue : Bool) (s : State) : State :=
  (((((s.put F.MBX_SB_DATA.WORD w.word.toNat).put F.MBX_SB_META.SOP (bit w.sop)).put F.MBX_SB_META.EOP (bit w.eop)).put
    F.MBX_SB_META.VALID_BYTES w.valid).put F.MBX_SB_META.CE (bit ce)).put F.MBX_SB_META.UE (bit ue)

/-- R324: the packet error code of SMBus and I3C: the CRC-8 of x^8 + x^2 + x + 1 (PRESUMED, log entry 197). -/
def crc8 (l : List Nat) : Nat :=
  l.foldl (fun c b => (List.range 8).foldl (fun c _ => if 128 ≤ c then (2 * c % 256) ^^^ 7 else 2 * c) (c ^^^ b)) 0

/-- R324, R338: the MCTP packet of an item whose PEC is right: over SMBus after the command code 0x0F, a byte count and the sender's
address (PRESUMED, log entry 197). -/
def mctpOf (b : List Nat) : Option (List Nat) :=
  let n := b.length - 1
  if b.length < 2 ∨ crc8 (Config.sidebandAddress.toNat :: b.take n) ≠ b.getD n 0 then none
  else if Config.sidebandI3c then some (b.take n)
  else if b.getD 0 0 = 0x0F ∧ b.getD 1 0 + 2 = n ∧ 3 ≤ n then some ((b.take n).drop 3)
  else none

/-- R324: the command packet of a reassembled MCTP message: a vendor-defined PCI message of the function's Vendor ID, most significant
byte first. A message of another type is no command packet: it has rows of its own. -/
def vendorPacket (m : List Nat) : Option Packet :=
  if m.getD 0 0 = 0x7E ∧ ofBytesBE ((m.drop 1).take 2) = Config.vendorId % 2 ^ 16 ∧ 3 ≤ m.length then
    some (packetOf .sideband 0 ((m.drop 3).map (BitVec.ofNat 8)))
  else none

/-- R324: an MCTP packet of at most 64 bytes joins the message under reassembly: the first starts one, the next in sequence of the same
source and tag joins it, and the last makes it whole. A message of more than 4,128 bytes, or a packet out of its place, drops what there
is (PRESUMED, log entry 197). -/
def joinMctp (b : List Nat) (r : SbRead) : SbRead :=
  let f := b.getD 3 0
  let key := b.getD 2 0 * 16 + f % 16
  let body := b.drop 4
  let seq := slice f 4 2
  let got : Option MctpPart :=
    if b.length < 5 ∨ 68 < b.length ∨ b.getD 0 0 % 16 ≠ 1 then none
    else if slice f 7 1 = 1 then some { key, seq := (seq + 1) % 4, bytes := body }
    else match r.msg with
      | some m => if m.key = key ∧ m.seq = seq then some { m with seq := (seq + 1) % 4, bytes := m.bytes ++ body } else none
      | none => none
  match got with
  | none => { r with msg := none }
  | some m =>
    if 4128 < m.bytes.length then { r with msg := none }
    else if slice f 6 1 = 0 then { r with msg := some m }
    else { r with msg := none, done := r.done ++ (vendorPacket m.bytes).toList }

/-- R324, R339: the firmware takes a popped word: at the end of its item the packet is checked, and one with an uncorrectable word is
dropped. -/
def takeWord (w : SbWord) (ue : Bool) (r : SbRead) : SbRead :=
  let part := (if w.sop then [] else r.part) ++ (toBytes 8 w.word.toNat).take w.valid
  let bad := ue || (r.bad && !w.sop)
  if !w.eop then { r with part, bad }
  else
    let r := { r with part := [], bad := false }
    match mctpOf part with
    | some b => if bad then { r with msg := none } else joinMctp b r
    | none => r

/-- R339: the oldest word of the FIFO is popped and taken. -/
def sbPop (corrected : Bool) (bad : Option (BitVec 64)) (s : State) : State :=
  if s.sb.wr = s.sb.rd then s.put F.MBX_SB_STATUS.UNDERRUN 1
  else
    match s.sb.ring.get (s.sb.rd % 512) with
    | none => s
    | some w =>
      let w' := match bad with | some v => { w with word := v } | none => w
      let s := showWord w' (corrected && bad.isNone) bad.isSome s
      let s := if bad.isSome then s.bump F.MBX_SB_ECC.UE else if corrected then s.bump F.MBX_SB_ECC.CE else s
      showSb { s with sb := { s.sb with rd := s.sb.rd + 1, inPacket := !w.eop, fw := takeWord w' bad.isSome s.sb.fw } }

/-- R339: SB_DATA_READ: the oldest word is popped. `corrected` says that SECDED corrected it, and `bad` gives the word as
stored where it could not. -/
def execSbDataRead (corrected : Bool) (bad : Option (BitVec 64)) (s : State) : Host.Outcome State Fault Refusal :=
  .next (sbPop corrected bad s)

/-- R340: the next word to be popped is marked, with what the firmware holds. -/
def sbMark (s : State) : State := showSb { s with sb := { s.sb with mark := some s.sb.rd, saved := s.sb.fw } }

/-- R340: SB_MARK. -/
def execSbMark (s : State) : Host.Outcome State Fault Refusal := .next (sbMark s)

/-- R340: the position after the end of the packet that holds position `p`. -/
def packetEnd (s : State) : Nat → Nat → Nat
  | 0, p => p
  | fuel + 1, p =>
    if s.sb.wr ≤ p then p
    else
      match s.sb.ring.get (p % 512) with
      | some w => if w.eop then p + 1 else packetEnd s fuel (p + 1)
      | none => p

/-- R32, R340: an overrun sideband unit leaves no effect on what the firmware holds. -/
def sbUndo (s : State) : State := { s with sb := { s.sb with fw := s.sb.saved, rerun := true } }

/-- R340: the next pop comes from the mark; with no mark the packet being read is lost whole, with its partial reassembly. -/
def sbRewind (s : State) : State :=
  match s.sb.mark with
  | some m => showSb { s with sb := { s.sb with rd := m, inPacket := false, fw := s.sb.saved, rerun := false } }
  | none =>
    let rd := if s.sb.inPacket then packetEnd s 512 s.sb.rd else s.sb.rd
    let s := (s.put F.MBX_SB_STATUS.MARK_LOST 1).bump F.MBX_SB_COUNT.DROPPED
    showSb { s with sb := { s.sb with rd, inPacket := false, fw := { done := s.sb.fw.done }, rerun := false } }

/-- R340: SB_REWIND. -/
def execSbRewind (s : State) : Host.Outcome State Fault Refusal := .next (sbRewind s)

/-- R338, R340: words are popped up to the end of an item. -/
def sbPopItem : Nat → State → State
  | 0, s => s
  | n + 1, s =>
    let t := sbPop false none s
    if s.sb.wr = s.sb.rd || !t.sb.inPacket then t else sbPopItem n t

/-- R335, R340: a sideband unit: it marks, or rewinds where it ran before and overran, and reads one item. -/
def sidebandUnit (s : State) : State := sbPopItem 512 (if s.sb.rerun then sbRewind s else sbMark s)

/-- R337: the oldest packet out of the FIFO is accepted. -/
def takeSideband (s : State) : State :=
  match s.sb.fw.done with
  | [] => takeArrival 16 s
  | p :: rest =>
    accept p { s with sb := { s.sb with
      fw := { s.sb.fw with done := rest }, saved := { s.sb.saved with done := eraseFirst (fun x => x == p) s.sb.saved.done } } }

/-- R341: SB_FLUSH. -/
def execSbFlush (s : State) : Host.Outcome State Fault Refusal :=
  let torn := s.sb.item.isSome
  let s := if torn then (sbDropItem false s).put F.MBX_SB_STATUS.TORN 1 else s
  .next (showSb { s with sb := { s.sb with
    rd := s.sb.wr, mark := none, inPacket := false, fw := { s.sb.fw with part := [], bad := false }, rerun := false } })

/-! ### The debug UART -/

/-- R325, R337: UART_FRAME: sync bytes, packet and CRC-32; a bad frame is discarded. -/
def execUartFrame (bytes : List Byte) (s : State) : Host.Outcome State Fault Refusal :=
  let b := bytes.map (·.toNat)
  let n := b.length
  if b.take 2 == [0xA5, 0x5A] && decide (22 ≤ n) && fieldLE b (n - 4) 4 == crc32 ((b.drop 2).take (n - 6)) then
    .next (arrive (packetOf .uart 0 ((bytes.drop 2).take (n - 6))) s)
  else .next s

end Sys2Proof.Machine
end

