-- ==== Sys2Proof/Machine/Aqz.lean ====
section
/-!
DEFINITION. The AQZ compressed segment format: the decoder with every check of R122 in its order, and the encoder of
R131, which fully determines the segment for any input and level. Bytes are naturals below 256 in stored order (R114).
-/

namespace Sys2Proof.Machine

/-- Outcome of a decode: the bytes produced, or the fault code of R122. -/
abbrev AqzResult := Except Nat (List Nat)

/-- R119: copies `len` bytes from distance `d`, byte-serially, onto the output held newest first. -/
def aqzCopy (d : Nat) : Nat → List Nat → List Nat
  | 0, out => out
  | n + 1, out => aqzCopy d n (out.getD (d - 1) 0 :: out)

/-- R120: `len` zero bytes onto the output held newest first. -/
def aqzZeros : Nat → List Nat → List Nat
  | 0, out => out
  | n + 1, out => aqzZeros n (0 :: out)

/-- A token of R117 with its output length: literal bytes, a copy at a distance, or zeros. -/
inductive AqzTok where
  | lit (bytes : List Nat)
  | copy (len dist : Nat)
  | zero (len : Nat)
deriving DecidableEq, Repr

/-- R117, R122 (0x3, 0x4): the token of control byte `c` and the body bytes after it, with what is left of the body. -/
def aqzToken (c : Nat) (rest : List Nat) : Except Nat (AqzTok × List Nat) :=
  if c < 0x80 then
    if rest.length < c + 1 then .error 0x4 else .ok (.lit (rest.take (c + 1)), rest.drop (c + 1))
  else if c < 0xC0 then
    match rest with
    | b1 :: r => .ok (.copy (slice c 2 4 + 3) (slice c 0 2 * 256 + b1 + 1), r)
    | _ => .error 0x4
  else if c < 0xD0 then
    match rest with
    | b1 :: b2 :: r => .ok (.copy (slice c 2 2 * 256 + b2 + 19) (slice c 0 2 * 256 + b1 + 1), r)
    | _ => .error 0x4
  else if 0xE0 ≤ c && c ≤ 0xE3 then
    match rest with
    | b1 :: r => .ok (.zero (slice c 0 2 * 256 + b1 + 1), r)
    | _ => .error 0x4
  else .error 0x3

/-- Output length of a token. -/
def AqzTok.len : AqzTok → Nat
  | .lit b => b.length
  | .copy l _ => l
  | .zero l => l

/-- R118 to R120: a token's output onto the bytes produced so far, newest first. -/
def AqzTok.emit : AqzTok → List Nat → List Nat
  | .lit b, out => b.reverse ++ out
  | .copy l d, out => aqzCopy d l out
  | .zero l, out => aqzZeros l out

/-- R122: the token stream. `want` is `some W` in a partial decode, `none` in a full decode; `out` holds the `p` bytes
produced so far, newest first; `pad` is the padding. The fuel is the number of body bytes. -/
def aqzBody (want : Option Nat) (pad : List Nat) : Nat → List Nat → Nat → List Nat → AqzResult
  | 0, _, _, _ => .error 0x7
  | _, [], _, _ => .error 0x7
  | fuel + 1, c :: rest, p, out =>
    if c = 0xFC then
      if rest.isEmpty && p == 1024 then
        if pad.all (· == 0) then .ok out.reverse else .error 0x9
      else .error 0x8
    else
      match aqzToken c rest with
      | .error e => .error e
      | .ok (t, rest') =>
        if 1024 < p + t.len then .error 0x5
        else if (match t with | .copy _ d => decide (p < d) | _ => false) then .error 0x6
        else
          let out' := t.emit out
          let p' := p + t.len
          match want with
          | some w => if w ≤ p' then .ok (out'.reverse.take w) else aqzBody want pad fuel rest' p' out'
          | none => aqzBody want pad fuel rest' p' out'

/-- R115: the header word of a stored segment. -/
def aqzHeader (s : List Nat) : Nat :=
  s.getD 0 0 + s.getD 1 0 * 0x100 + s.getD 2 0 * 0x10000 + s.getD 3 0 * 0x1000000

/-- R115: SECTORS of a stored segment's header. -/
def aqzSectors (s : List Nat) : Nat := slice (aqzHeader s) 0 4

/-- R122: a decode of the stored bytes `s`. `code` is the storage code that came with the segment, if one did; `want`
is W in a partial decode and `none` in a full one. A partial decode answers the first W bytes. -/
def aqzDecode (s : List Nat) (code : Option Nat) (want : Option Nat) : AqzResult :=
  let h := aqzHeader s
  let n := slice h 0 4
  let blen := slice h 8 10
  if slice h 4 4 ≠ 1 ∨ slice h 18 14 ≠ 0 then .error 0x1
  else if n < 1 ∨ 14 < n ∨ blen < 1 ∨ n ≠ (4 + blen + 63) / 64 then .error 0x2
  else if (match code with | some c => c != n | none => false) then .error 0xA
  else aqzBody want ((s.drop (4 + blen)).take (64 * n - (4 + blen))) (blen + 1) ((s.drop 4).take blen) 0 []

/-- R131: the hash of the position whose next bytes are given; none within three bytes of the end. -/
def aqzHash : List Nat → Option Nat
  | a :: b :: c :: _ => some ((a + 256 * b + 65536 * c) * 0x9E3779B1 % 2 ^ 32 / 2 ^ 22)
  | _ => none

/-- Length of the common prefix of two byte lists. -/
def commonPrefix : List Nat → List Nat → Nat
  | a :: as, b :: bs => if a = b then commonPrefix as bs + 1 else 0
  | _, _ => 0

/-- R131 step 2: probes earlier positions newest first. `hist` holds each earlier position's hash and bytes from there
on, the newest at distance `dist`. Answers the longest length and its distance (the first probed of equal lengths). -/
def aqzProbe (h : Nat) (here : List Nat) : List (Nat × List Nat) → Nat → Nat → Nat × Nat → Nat × Nat
  | [], _, _, best => best
  | _, _, 0, best => best
  | (h', bytes) :: r, dist, probes + 1, best =>
    if h' = h then
      let len := commonPrefix bytes here
      aqzProbe h here r (dist + 1) probes (if best.1 < len then (len, dist) else best)
    else aqzProbe h here r (dist + 1) (probes + 1) best

/-- R131 step 2: the match at a position, as (length, distance); length 0 for none. -/
def aqzSearch (depth : Nat) (hist : List (Nat × List Nat)) (here : List Nat) : Nat × Nat :=
  match aqzHash here with
  | none => (0, 0)
  | some h =>
    let best := aqzProbe h here hist 1 depth (0, 0)
    if 3 ≤ best.1 then best else (0, 0)

/-- R131: enters `n` positions from `here` on. -/
def aqzEnter : Nat → List Nat → List (Nat × List Nat) → List (Nat × List Nat)
  | 0, _, hist => hist
  | _, [], hist => hist
  | n + 1, b :: r, hist =>
    aqzEnter n r (match aqzHash (b :: r) with | some h => (h, b :: r) :: hist | none => hist)

/-- A pending literal run (newest first) flushed as a LIT token onto the body (newest first). -/
def aqzFlush (lits body : List Nat) : List Nat :=
  if lits.isEmpty then body else lits ++ (lits.length - 1) :: body

/-- R117: MATCH of 3 to 18 bytes or LONG, onto the body held newest first. -/
def aqzEmitMatch (len dist : Nat) (body : List Nat) : List Nat :=
  let d := dist - 1
  if len ≤ 18 then d % 256 :: (0x80 + (len - 3) * 4 + d / 256) :: body
  else (len - 19) % 256 :: d % 256 :: (0xC0 + (len - 19) / 256 * 4 + d / 256) :: body

/-- R131: the encoder's loop over positions. `here` is the plaintext from the position on. -/
def aqzLoop (level depth : Nat) : Nat → List Nat → List (Nat × List Nat) → List Nat → List Nat → List Nat
  | 0, _, _, lits, body => 0xFC :: aqzFlush lits body
  | _, [], _, lits, body => 0xFC :: aqzFlush lits body
  | fuel + 1, b :: r, hist, lits, body =>
    let here := b :: r
    let z := (here.takeWhile (· == 0)).length
    let addLit (k : List Nat → List Nat → List Nat) : List Nat :=
      if lits.length + 1 = 128 then k [] (aqzFlush (b :: lits) body) else k (b :: lits) body
    if 4 ≤ z then
      aqzLoop level depth fuel (here.drop z) (aqzEnter z here hist) []
        ((z - 1) % 256 :: (0xE0 + (z - 1) / 256) :: aqzFlush lits body)
    else
      let m := aqzSearch depth hist here
      let hist1 := aqzEnter 1 here hist
      if m.1 = 0 then addLit (fun l bd => aqzLoop level depth fuel r hist1 l bd)
      else if 4 ≤ level && decide (m.1 < (aqzSearch depth hist1 r).1) then
        addLit (fun l bd => aqzLoop level depth fuel r hist1 l bd)
      else
        aqzLoop level depth fuel (here.drop m.1) (aqzEnter m.1 here hist) []
          (aqzEmitMatch m.1 m.2 (aqzFlush lits body))

/-- R132: probes per position of a level. -/
def aqzDepth (level : Nat) : Nat := if level = 0 then 1 else 2 * 2 ^ level

/-- R115, R116, R126: the stored segment of 1024 plaintext bytes at a level, or none where the body would exceed 892
bytes (a no-gain). -/
def aqzEncode (input : List Nat) (level : Nat) : Option (List Nat) :=
  let body := (aqzLoop level (aqzDepth level) 1025 input [] [] []).reverse
  if 892 < body.length then none
  else
    let n := (4 + body.length + 63) / 64
    let h := n + 0x10 + body.length * 0x100
    some ([h % 256, h / 256 % 256, h / 65536 % 256, h / 16777216] ++ body
      ++ List.replicate (64 * n - (4 + body.length)) 0)

end Sys2Proof.Machine
end

