-- ==== Sys2Proof/Machine/Near.lean ====
section
/-!
DEFINITION. The near cache of the home slices (R103, R104): its sets, the victim of a fill, fills and updates.
-/

namespace Sys2Proof.Machine

/-- The element with the greatest measure, the first of equals. -/
def argMax (f : Nat → Nat) : List Nat → Option Nat
  | [] => none
  | a :: r => match argMax f r with
    | some b => if f a < f b then some b else some a
    | none => some a

/-- R103: the set of a line: 4096 sets by (A[50:16] << 6) | A[11:6] (PRESUMED, log entry 20). -/
def nearSet (a : Nat) : Nat := (slice a 16 35 * 64 + lineIdx a) % 4096

/-- The key of a way. -/
def nearKey (a way : Nat) : Nat := sliceOf a * 2 ^ 16 + nearSet a * 16 + way

/-- The way that holds a line. -/
def nearFind (s : State) (a : Nat) : Option Nat :=
  (List.range 16).find? (fun w =>
    (s.near.get (nearKey a w)).valid && (s.near.get (nearKey a w)).addr == lineAddr a)

/-- R104: lines of an owner held at a slice. -/
def nearOwned (s : State) (sl owner : Nat) : Nat :=
  (s.near.cells.filter (fun c => c.1 / 2 ^ 16 == sl && c.2.valid && c.2.owner == owner)).length

/-- The way of a set with the oldest use among those that satisfy `p`. -/
def nearLru (s : State) (a : Nat) (p : NearEnt → Bool) : Option Nat :=
  argMax (fun w => s.useCtr + 1 - (s.near.get (nearKey a w)).used)
    ((List.range 16).filter (fun w => p (s.near.get (nearKey a w))))

/-- R104: the victim of a fill for an owner; an invalid way needs none (DESIGN CHOICE, log entry 170). -/
def nearVictim (s : State) (a owner : Nat) : Nat :=
  let sl := sliceOf a
  let above (o : Nat) : Bool := decide (s.quotas.get o < nearOwned s sl o)
  match (List.range 16).find? (fun w => !(s.near.get (nearKey a w)).valid) with
  | some w => w
  | none =>
    let first := if nearOwned s sl owner < s.quotas.get owner then nearLru s a (fun e => above e.owner) else none
    match first with
    | some w => w
    | none =>
      match nearLru s a (fun e => e.owner == owner) with
      | some w => w
      | none => (nearLru s a (fun _ => true)).getD 0

/-- R103, R104: a line fills the near cache for an owner, under its region's key ID. -/
def nearFill (a : Nat) (d : BitVec 512) (owner : Nat) (s : State) : State :=
  let w := (nearFind s a).getD (nearVictim s a owner)
  let (u, s) := s.stamp
  let e : NearEnt := { valid := true, addr := lineAddr a, data := d, owner, key := (keyGen s (pageOf a)).1, used := u }
  { s with near := s.near.set (nearKey a w) e }

/-- A line leaves the near cache. -/
def nearDrop (a : Nat) (s : State) : State :=
  match nearFind s a with
  | some w => { s with near := s.near.set (nearKey a w) {} }
  | none => s

/-- R103: a write accepted at the slice updates a present line; none (a marker) removes it. -/
def nearWrite (a : Nat) (d : Option (BitVec 512)) (s : State) : State :=
  match nearFind s a, d with
  | some w, some v => { s with near := s.near.upd (nearKey a w) (fun e => { e with data := v }) }
  | some _, none => nearDrop a s
  | none, _ => s

/-- R104: the near-cache owner of a request: its host agent, or the common partition. -/
def ownerOf (r : Req) : Nat := r.agent.getD 64

end Sys2Proof.Machine
end

