-- ==== Sys2Proof/Machine/Lanes.lean ====
section
/-!
DEFINITION. Where units and segments are worked on: the crypto engine a read takes (R16, R169, R187) and the decoder lanes with
the queues of the centre stops (R129, R143, R145).
-/

namespace Sys2Proof.Machine

/-! ### Crypto engines of the read path -/

/-- R187: the centre stop of an engine. -/
def engineStop (n : Nat) : Nat := [5, 6, 9, 10].getD (n / 2) 5

/-- R13, R16: the hop that a word at stop `a` takes toward stop `b`: along the row to the target column, then along the column.
Direction 0 leads to the next column, 1 to the one before, 2 to the next row, 3 to the one before. -/
def spineHop (a b : Nat) : Option Hop :=
  let go (d : Nat) : Option Hop := some { stop := Fin.ofNat 16 a, dir := Fin.ofNat 4 d }
  if a % 4 < b % 4 then go 0 else if b % 4 < a % 4 then go 1
  else if a / 4 < b / 4 then go 2 else if b / 4 < a / 4 then go 3 else none

/-- R13: the stop a hop leads to. -/
def hopEnd (h : Hop) : Nat :=
  match h.dir.val with
  | 0 => h.stop.val + 1
  | 1 => h.stop.val - 1
  | 2 => h.stop.val + 4
  | _ => h.stop.val - 4

/-- R16: the hops that a word crosses from stop `a` to stop `b`, at most `n`; no route has more than 6. -/
def spineRoute : Nat → Nat → Nat → List Hop
  | 0, _, _ => []
  | n + 1, a, b =>
    match spineHop a b with
    | some h => h :: spineRoute n (hopEnd h) b
    | none => []

/-- R16: hops between two stops of the spine. -/
def hopsBetween (a b : Nat) : Nat := (spineRoute 6 a b).length

/-- R187: whether a crypto engine is ONLINE. -/
def cryOnline (s : State) (n : Nat) : Bool := s.get (F.CRY_ENG_STATUS.STATE n) == 0

/-- R169: free keystream entries of an engine. -/
def freeEntries (s : State) (n : Nat) : Nat := 1024 - (s.keystreams.filter (fun k => k.1 == n)).length

/-- R169: the centre stop nearest a slice, the lower of equals. -/
def nearestStop (sl : Nat) : Nat := (argMax (fun st => 16 - hopsBetween sl st) [5, 6, 9, 10]).getD 5

/-- R169: the engine a home slice picks for `n` units: of the two at the nearest centre stop, else of the others, the one with the
most free entries. Among engines with equally many the lowest number is taken (DESIGN CHOICE, log entry 19). -/
def pickEngine (s : State) (sl n : Nat) : Option Nat :=
  let ok := (List.range 8).filter (fun e => cryOnline s e && decide (n ≤ freeEntries s e))
  match ok.filter (fun e => engineStop e == nearestStop sl) with
  | [] => argMax (freeEntries s) ok
  | near => argMax (freeEntries s) near

/-- R145: the stop of the crypto engine that verifies the sectors of a page read in one step. -/
def pageStop (s : State) (page : Nat) : Nat := ((pickEngine s (pageSlice page) 0).map engineStop).getD 5

/-! ### Decoder lanes and the queues of the centre stops -/

/-- R147: STATE of a compression engine. -/
def cmpState (s : State) (n : Nat) : Nat := s.get (F.CMP_ENG_STATUS.STATE n)

/-- R129: the centre stop of a decoder. -/
def decoderStop (n : Nat) : Nat := [5, 6, 9, 10].getD ((n - 8) / 6) 5

/-- R143: whether a job is a full decode: every one but that of a line read. -/
def isFull (j : DecJob) : Bool := match j.owner with | .read _ => false | _ => true

/-- Lanes of a decoder in use, and those of them on full decodes. -/
def lanesUsed (s : State) (n : Nat) : List (Nat × DecJob) := s.cmp.decoders.filter (fun d => d.1 / 4 == n)

/-- R145: the lane of a decoder that may take a job. -/
def laneFor (s : State) (n : Nat) (j : DecJob) : Option Nat :=
  let used := lanesUsed s n
  if cmpState s n ≠ 0 then none
  else if isFull j && decide (s.get F.CMP_CTRL.FULL_LANES ≤ (used.filter (fun d => isFull d.2)).length) then none
  else (List.range 4).map (fun l => n * 4 + l) |>.find? (fun k => !used.any (fun d => d.1 == k) && j.failedLane != some k)

/-- The decoders of a stop. -/
def stopDecoders (stop : Nat) : List Nat := (List.range 24).map (· + 8) |>.filter (fun n => decoderStop n == stop)

/-- R145: free lanes of a stop. -/
def freeLanes (s : State) (stop : Nat) : Nat :=
  sumOf ((stopDecoders stop).map (fun n => if cmpState s n = 0 then 4 - (lanesUsed s n).length else 0))

/-- R145: whether a stop's queue has room: it holds 48 partial and 16 full jobs. -/
def stopRoom (s : State) (full : Bool) (stop : Nat) : Bool :=
  decide ((s.cmp.waitDec.filter (fun j => j.stop == some stop && isFull j == full)).length < (if full then 16 else 48))

/-- R145: whether a stop has a decoder in service. -/
def stopServes (s : State) (stop : Nat) : Bool := (stopDecoders stop).any (fun n => cmpState s n == 0)

/-- R145: the stop a job is placed at: that with the most free lanes, ties to the stop of the crypto engine that verified the
sectors and then to the lowest. -/
def placeStop (s : State) (j : DecJob) : Option Nat :=
  let order := j.home :: [5, 6, 9, 10].filter (· != j.home)
  argMax (freeLanes s) (order.filter (fun st => stopRoom s (isFull j) st && stopServes s st))

/-- R145: jobs that the crypto engines hold are placed as the stops' queues have room; a job at a stop whose decoders have all left
service is placed again. -/
def placeDecodes (s : State) : State :=
  let set (j : DecJob) (st : Option Nat) (s : State) : State :=
    { s with cmp := { s.cmp with waitDec := s.cmp.waitDec.map (fun x => if x == j then { j with stop := st } else x) } }
  let s := forAll s.cmp.waitDec (fun j s => if j.stop.any (fun st => !stopServes s st) then set j none s else s) s
  forAll (s.cmp.waitDec.filter (fun j => j.stop.isNone)) (fun j s => set j (placeStop s j) s) s

/-- R143, R145: a job for the decoders. -/
def addDecode (j : DecJob) (s : State) : State :=
  placeDecodes { s with cmp := { s.cmp with waitDec := s.cmp.waitDec ++ [j] } }

/-- R145: whether a job of a kind is held at its crypto engine, every queue of the kind being full. -/
def decodeHeld (s : State) (full : Bool) : Bool := s.cmp.waitDec.any (fun j => j.stop.isNone && isFull j == full)

/-- R145: the lane of its stop that may take a job: the lowest decoder and lane (DESIGN CHOICE, log entry 23). -/
def stopLane (s : State) (j : DecJob) : Option Nat :=
  match j.stop with
  | some st => (stopDecoders st).findSome? (fun n => laneFor s n j)
  | none => none

end Sys2Proof.Machine
end

