-- ==== Sys2Proof/Machine/Bands.lean ====
section
/-!
DEFINITION. The metadata band of a home slice (R76): how large it is, the frames it occupies (R78, R100), and where in it a counter
block (R162), a catalogue line (R79), a tree node (R166) and a backing directory line (R196) lie. Within the band the structures
follow each other in the order of R76's table, each from a whole frame on (PRESUMED, log entry 149).
-/

namespace Sys2Proof.Machine

/-- The partner channel. -/
def partner (c : Nat) : Nat := c ^^^ 1

/-- R78: an unusable channel. -/
def unusable (s : State) (c : Nat) : Bool :=
  s.get (F.DC_CFG.FRAMES c) == 0 || s.flag (F.DC_CFG.CFG_ERR c) || !s.flag (F.DC_CFG.ZEROED c)

/-- R76: frames of a slice's integrity tree for `p` presented regions. -/
def treeFrames (p : Nat) : Nat := (320 * p + 62) / 63

/-- R76: frames of a slice's band for `p` presented and `sh` shared regions, with the frame table of a channel of `n`
frames. -/
def bandSize (p sh n : Nat) : Nat := 64 * p + 256 * p + treeFrames p + 2048 * sh + (n + 1023) / 1024 + 128

/-- R76: the band of slice `c`. -/
def bandOf (s : State) (c : Nat) : Nat :=
  bandSize s.presented (s.get F.TIER_CAP_CFG.SHARED_REGIONS) (s.get (F.DC_CFG.FRAMES c))

/-- R76, R78, R100: the channel and frame of frame `k` of a slice's band: the highest frames of its own channel; while METAMOVED is
1, the frames of the partner below its own band where it lay there from the configuration on, else those that the copy took there. -/
def bandFrame (s : State) (sl k : Nat) : Nat × Nat :=
  if !s.flag (F.TIER_POOL_STATUS.METAMOVED sl) then
    (sl, s.get (F.DC_CFG.FRAMES sl) - s.tier.bandFrames.getD sl 0 + k)
  else
    let p := partner sl
    match cellFind sl s.tier.extraBand with
    | some n => (p, s.get (F.DC_CFG.FRAMES p) - s.tier.bandFrames.getD p 0 - n + k)
    | none =>
      (p, (((s.frames.cells.filter (fun x => x.1 / 2 ^ 28 == p && x.2.use == 3)).map (fun x => x.1 % 2 ^ 28))[k]?).getD 0)

/-- The channel and line of line `i` of the structure that begins at frame `base` of a slice's band. -/
def bandLine (s : State) (sl base i : Nat) : Nat × Nat :=
  let f := bandFrame s sl (base + i / 64)
  (f.1, f.2 * 64 + i % 64)

/-- R166: nodes of level `l` of a slice's tree. -/
def treeNodes (p l : Nat) : Nat := (20480 * p + 64 ^ l - 1) / 64 ^ l

/-- R166: nodes of the levels below `l`. -/
def nodesBelow (p l : Nat) : Nat := sumOf ((List.range (l - 1)).map (fun k => treeNodes p (k + 1)))

/-- R79, R162, R166: the channel and line where a metadata line lies: catalogue line (kind 1), counter block (kind 0), or node of
level `kind - 1`. -/
def metaPlace (s : State) (sl kind index : Nat) : Nat × Nat :=
  let p := s.presented
  if kind = 1 then bandLine s sl 0 index
  else if kind = 0 then bandLine s sl (64 * p) index
  else bandLine s sl (320 * p) (nodesBelow p (kind - 1) + index)

/-- R196: the channel and line where line `line` of a slice's backing directory lies. -/
def dirPlace (s : State) (sl line : Nat) : Nat × Nat :=
  bandLine s sl (320 * s.presented + treeFrames s.presented) line

/-- R76, R78, R100: the slice whose band frame `f` of channel `c` belongs to, and the frame's number in the band. -/
def bandAt (s : State) (c f : Nat) : Option (Nat × Nat) :=
  ([c, partner c].filterMap (fun sl =>
    let n := bandOf s sl
    let b := bandFrame s sl 0
    if s.tier.bandFrames.getD sl 0 = 0 ∧ !s.flag (F.TIER_POOL_STATUS.METAMOVED sl) then none
    else if s.flag (F.TIER_POOL_STATUS.METAMOVED sl) && (cellFind sl s.tier.extraBand).isNone then
      if sl = c then none else ((List.range n).find? (fun k => bandFrame s sl k == (c, f))).map (fun k => (sl, k))
    else if b.1 = c ∧ b.2 ≤ f ∧ f < b.2 + n then some (sl, f - b.2) else none)).head?

/-- What a line of a band holds. -/
inductive BandLine where
  | metadata (sl kind index : Nat)
  | directory (sl line : Nat)
  | table
deriving DecidableEq, Repr

/-- R76: the line of a band that line `line` of channel `c` is: the inverse of `metaPlace` and `dirPlace`. The copies of the frame and
region tables are the band's last lines. -/
def bandLineAt (s : State) (c line : Nat) : Option BandLine :=
  let p := s.presented
  (bandAt s c (line / 64)).map (fun x =>
    let i := x.2 * 64 + line % 64
    let tree := i - 320 * p * 64
    let dirs := tree - treeFrames p * 64
    if x.2 < 64 * p then .metadata x.1 1 i
    else if x.2 < 320 * p then .metadata x.1 0 (i - 64 * p * 64)
    else if x.2 < 320 * p + treeFrames p then
      match [1, 2, 3, 4, 5].find? (fun l => decide (tree < nodesBelow p (l + 1))) with
      | some l => .metadata x.1 (l + 1) (tree - nodesBelow p l)
      | none => .table
    else if dirs < 2048 * s.get F.TIER_CAP_CFG.SHARED_REGIONS * 64 then .directory x.1 dirs
    else .table)

end Sys2Proof.Machine
end

