-- ==== Sys2Proof/Machine/Charges.lean ====
section
/-!
DEFINITION. The regulator's buckets and virtual times (R301, R302, R304, R305): what an admission, or the accesses of an internal
master, takes from them.
-/

namespace Sys2Proof.Machine

/-- R304: `a` before `b` by signed difference modulo 2^32. -/
def vtLess (a b : Nat) : Bool := decide (2 ^ 31 ≤ (a + 2 ^ 32 - b % 2 ^ 32) % 2 ^ 32)

/-- R304: the step of a weight. -/
def vtStep (w : Nat) : Nat := 65536 / w

/-- R304: a charge in the guaranteed pass. -/
def chargeG (m n : Nat) (s : State) : State :=
  { s with masters := s.masters.upd m (fun x => { x with gb := x.gb - n, runG := x.runG + n }) }

/-- R304: a charge in the shared pass (`pool`) or the slack pass. -/
def chargeS (m n : Nat) (pool : Bool) (s : State) : State :=
  let w := s.get (F.QOS_MASTER.W m)
  { s with
    masters := s.masters.upd m (fun x => { x with vt := (x.vt + n * vtStep w) % 2 ^ 32, runS := x.runS + n })
    sharedPool := if pool then s.sharedPool - n else s.sharedPool }

/-! ### Masters that wait -/

/-- Masters with a request or an access waiting for admission. -/
def waitingMasters (s : State) : List Nat :=
  ((s.reqs.filter (fun r => r.stage == .admission)).map (·.master)
    ++ (s.masters.cells.filter (fun c => c.2.owed != 0)).map (·.1)).eraseDups

/-- The least virtual time of some masters. -/
def leastVt (s : State) : List Nat → Option Nat
  | [] => none
  | m :: r =>
    let v := (s.masters.get m).vt
    match leastVt s r with
    | some x => if vtLess x v then some x else some v
    | none => some v

/-- R305: a master that gains a waiting request after having none takes up the virtual time of those that wait. -/
def joinWait (m : Nat) (s : State) : State :=
  if (waitingMasters s).contains m then s
  else
    match leastVt s (waitingMasters s) with
    | some v =>
      { s with masters := s.masters.upd m (fun x => { x with vt := if vtLess x.vt v then v else x.vt }) }
    | none => s

/-- R301, R306: `n` DRAM accesses of master `m` that a unit, a move or the home makes: each is a request of its own, which waits for its
admission. The row that makes them does not wait for it; the next one of the master does (DESIGN CHOICE, log entry 18). -/
def chargeInternal (m n : Nat) (s : State) : State :=
  if n = 0 then s
  else
    let s := joinWait m s
    { s with masters := s.masters.upd m (fun x => { x with owed := x.owed + n }) }

/-- R306: whether the accesses that a master has made are all admitted. -/
def accessesIn (s : State) (m : Nat) : Bool := (s.masters.get m).owed == 0

/-- R72, R300: a region's descriptor is written, in all 16 copies of the region table. -/
def State.writeRegion (s : State) (r : Nat) (f : Region → Region) : State := chargeInternal 67 16 (s.setRegion r f)

end Sys2Proof.Machine
end

