-- ==== Sys2Proof/Machine/Metadata.lean ====
section
/-!
DEFINITION. Metadata lines of the home slices: counter blocks (R162), catalogue lines (R79, R80), the integrity tree
(R166, R167), its fetches, updates and node rekeys (R168), the caches that hold them (R84, R165) and the quarantine
(R172). Kind 0 is a counter block, 1 a catalogue line, 2 to 6 a tree node of level 1 to 5. A line that has never been
written is held initialised (R154): zeros, with a tag that is valid under its parent.
-/

namespace Sys2Proof.Machine

/-! ### Counter layout -/

/-- R162: MAJOR of a counter block, tree node or root. -/
def ctrMajor (v : BitVec 512) : Nat := v.toNat % 2 ^ 64

/-- R162: minor `i`. -/
def ctrMinor (v : BitVec 512) (i : Nat) : Nat := slice v.toNat (64 + 7 * i) 7

/-- R162: the block with minor `i` set. -/
def setMinor (v : BitVec 512) (i m : Nat) : BitVec 512 := BitVec.ofNat 512 (setSlice v.toNat (64 + 7 * i) 7 m)

/-- R164: MAJOR + 1 with every minor 0. -/
def nextMajor (v : BitVec 512) : BitVec 512 := BitVec.ofNat 512 ((ctrMajor v + 1) % 2 ^ 64)

/-! ### Places in the tree -/

/-- R166, R167: level of a metadata kind: 0 for leaves. -/
def metaLevel (kind : Nat) : Nat := kind - 1

/-- R166: index of a line at its level: a catalogue line is leaf 16,384 P + index. -/
def metaIndex (s : State) (kind index : Nat) : Nat := if kind = 1 then 16384 * s.presented + index else index

/-- R167: the parent's index at its level. -/
def parentIndex (s : State) (kind index : Nat) : Nat := metaIndex s kind index / 64

/-- R167: the slot a line takes in its parent. -/
def parentSlot (s : State) (kind index : Nat) : Nat := metaIndex s kind index % 64

/-- R167: the kind of the parent: 7 stands for the on-chip root. -/
def parentKind (kind : Nat) : Nat := if kind ≤ 1 then 2 else kind + 1

/-- The key of a line in the table of stored metadata. -/
def metaKey (sl kind index : Nat) : Nat := (sl * 8 + kind) * 2 ^ 40 + index

/-! ### Values -/

/-- The cached copy of a line. -/
def metaCached (s : State) (sl kind index : Nat) : Option MetaLine :=
  s.metaCache.find? (fun m => m.slice == sl && m.kind == kind && m.index == index)

/-- R102, R154: what an initialised line holds: zeros, or four LOST entries for a catalogue line of a region that a crypto
reset alone left ALLOCATED, and of a slice whose band was lost with its channel. -/
def metaInitial (s : State) (sl kind index : Nat) : BitVec 512 :=
  if kind = 1 && ((s.region (regionOf (pageAt sl (4 * index)))).initLost || s.tier.bandLost.contains sl) then
    BitVec.ofNat 512 (4 + 4 * 2 ^ 128 + 4 * 2 ^ 256 + 4 * 2 ^ 384)
  else 0

/-- The value a line holds: its cached copy, else its stored one, else what initialisation wrote. -/
def metaValue (s : State) (sl kind index : Nat) : BitVec 512 :=
  if kind = 7 then s.roots.get sl
  else
    match metaCached s sl kind index with
    | some m => m.val
    | none => ((s.metaSto.get (metaKey sl kind index)).map (·.val)).getD (metaInitial s sl kind index)

/-- R159: the tag of a metadata line under its parent's counters. -/
def metaTag (s : State) (sl kind index : Nat) (val parent : BitVec 512) : Nat :=
  let slot := parentSlot s kind index
  let input := 4 + slot * 2 ^ 3 + ctrMinor parent slot * 2 ^ 11 + metaLevel kind * 2 ^ 18 + sl * 2 ^ 21
    + metaIndex s kind index % 2 ^ 32 * 2 ^ 25 + ctrMajor parent * 2 ^ 64
  ofBytes (tagOf s.kint (lineBytes val) input)

/-- R168: the node rekey of a line's parent that is running. -/
def rekeyOver (s : State) (sl kind index : Nat) : Option NodeRekey :=
  let pk := parentKind kind
  let pi := if pk = 7 then 0 else parentIndex s kind index
  s.nodeRekeys.find? (fun r => r.slice == sl && r.kind == pk && r.index == pi)

/-- R168: the parent's counters under which a stored line is checked: those before a node rekey that is still running and has not
written the line, else the present ones. -/
def parentState (s : State) (sl kind index : Nat) : BitVec 512 :=
  let pk := parentKind kind
  let now := metaValue s sl pk (if pk = 7 then 0 else parentIndex s kind index)
  match rekeyOver s sl kind index with
  | some r => if r.written.contains (parentSlot s kind index) then now else r.old
  | none => now

/-- R168: a line whose parent is being rekeyed. -/
def underRekey (s : State) (sl kind index : Nat) : Bool := (rekeyOver s sl kind index).isSome

/-- R172: a line in quarantine. -/
def quarantined (s : State) (sl kind index : Nat) : Bool := s.quarantine.contains (sl, kind, index)

/-- R172: a line fails its tag: a META_TAG alarm, and the slice's quarantine of 64 lines if it has room; a tree node is recorded
with region 0 (DESIGN CHOICE, log entry 172). -/
def metaFail (sl kind index : Nat) (s : State) : State :=
  let idx := metaIndex s kind index
  let page := if kind ≤ 1 then pageAt sl (if kind = 0 then index else 4 * index) else 0
  let s := alarm 2 sl (metaLevel kind) (idx % 2 ^ 32) (parentSlot s kind index) 0 (1, sl, kind, index)
    (cpaOf s (page * 4096)) s
  if (s.quarantine.filter (fun q => q.1 == sl)).length < 64 ∧ !quarantined s sl kind index then
    { s with quarantine := (sl, kind, index) :: s.quarantine }.wrapAdd F.CRY_ALARM_COUNT.QUARANTINED
  else s

/-! ### The caches -/

/-- R84, R165: the set of a line: 1024 catalogue sets by index, 512 counter and tree sets (by index and kind: DESIGN
CHOICE, log entry 14). -/
def metaSet (kind index : Nat) : Nat := if kind = 1 then index % 1024 else 1024 + (index + 37 * kind) % 512

/-- R81: the 128-bit entry `k` of a catalogue line. -/
def catSlice (v : BitVec 512) (k : Nat) : Nat := slice v.toNat (128 * k) 128

/-- R84, R165: whether a cached line is pinned: a catalogue line with MOVING set, a counter block of a page with a
buffered line or a move, a tree node being rekeyed. -/
def metaPinned (s : State) (m : MetaLine) : Bool :=
  if m.kind = 1 then (List.range 4).any (fun k => slice (catSlice m.val k) 4 1 == 1)
  else if m.kind = 0 then
    s.wb.any (fun w => pageOf w.addr == pageAt m.slice m.index) || s.moves.any (fun v => v.page == pageAt m.slice m.index)
  else s.nodeRekeys.any (fun r => r.slice == m.slice && r.kind == m.kind && r.index == m.index)

/-- The lines of a set that are not on their way out. -/
def metaWays (s : State) (sl kind index : Nat) : List MetaLine :=
  s.metaCache.filter (fun m => m.slice == sl && (m.kind == 1) == (kind == 1) && metaSet m.kind m.index == metaSet kind index
    && !m.evicting)

/-- The least recently used line of a list. -/
def oldest : List MetaLine → Option MetaLine
  | [] => none
  | m :: r => match oldest r with
    | some n => if n.used < m.used then some n else some m
    | none => some m

/-- Replaces the cached copy of the same line. -/
def metaPut (m : MetaLine) (s : State) : State :=
  { s with metaCache := m :: s.metaCache.filter (fun x => !(x.slice == m.slice && x.kind == m.kind && x.index == m.index)) }

/-- A line leaves the cache. -/
def metaDrop (sl kind index : Nat) (s : State) : State :=
  { s with metaCache := s.metaCache.filter (fun x => !(x.slice == sl && x.kind == kind && x.index == index)) }

/-- R165: whether a set has a way for a fill: a free one, or one that is not pinned. -/
def metaRoom (s : State) (sl kind index : Nat) : Bool :=
  decide ((metaWays s sl kind index).length < 16) || (metaWays s sl kind index).any (fun m => !metaPinned s m)

/-- R165: whether a line is held and not on its way out. -/
def metaHeld (s : State) (sl kind index : Nat) : Bool := (metaCached s sl kind index).any (fun m => !m.evicting)

/-- R165, R168: whether a line can be had now: no node rekey is at work on it, and it is held, or cannot be trusted anyway, or there is
a way for it and, unless it is only on its way out, for each of its missing ancestors. -/
def pathRoom : Nat → State → Nat → Nat → Nat → Bool
  | 0, _, _, _, _ => true
  | fuel + 1, s, sl, kind, index =>
    if kind = 7 then true
    else if underRekey s sl kind index then false
    else if metaHeld s sl kind index || quarantined s sl kind index then true
    else metaRoom s sl kind index
      && ((metaCached s sl kind index).isSome
        || pathRoom fuel s sl (parentKind kind) (if parentKind kind = 7 then 0 else parentIndex s kind index))

/-- R84, R165: makes room in a set: the least recently used unpinned line is dropped, or, where it is dirty, starts its
eviction (R168). -/
def metaMakeRoom (sl kind index : Nat) (s : State) : State :=
  if (metaWays s sl kind index).length < 16 then s
  else
    match oldest ((metaWays s sl kind index).filter (fun m => !metaPinned s m)) with
    | some m => if m.dirty then metaPut { m with evicting := true } s else metaDrop m.slice m.kind m.index s
    | none => s

/-- R168: a line enters the cache, trusted. -/
def metaEnter (sl kind index : Nat) (val : BitVec 512) (dirty : Bool) (s : State) : State :=
  let (u, s) := s.stamp
  metaPut { slice := sl, kind, index, val, dirty, used := u } (metaMakeRoom sl kind index s)

/-- R84, R165: a cached line is made recent; one on its way out takes a way of its set again. -/
def metaTouch (sl kind index : Nat) (s : State) : State :=
  match metaCached s sl kind index with
  | some m =>
    let s := if m.evicting then metaMakeRoom sl kind index s else s
    let (u, s) := s.stamp
    metaPut { m with used := u, evicting := false } s
  | none => s

/-! ### Lines in the band -/

/-- R159, R276: the codeword of a metadata line as it was last written: its value, and its tag under its parent. -/
def metaWord (s : State) (sl kind index : Nat) : BitVec 640 :=
  match s.metaSto.get (metaKey sl kind index) with
  | some st => codewordOf (lineBytes st.val) (toBytes 6 st.tag)
  | none =>
    let v := metaInitial s sl kind index
    codewordOf (lineBytes v) (toBytes 6 (metaTag s sl kind index v (parentState s sl kind index)))

/-- R279, R280: a band line is read at its place; `word` is the codeword last written there, from which the cells differ by what the
DRAM table holds of the line. -/
def bandRead (at_ : Nat × Nat) (word : BitVec 640) (s : State) : ReadOut × State :=
  let (o, s) := dramDecode at_.1 at_.2 (word ^^^ s.dram.get (dramKey at_.1 at_.2)) (lineMark s at_.1 at_.2) none s
  (o, scheduleFix at_.1 at_.2 { o with fixed := o.fixed.map (· ^^^ word) } s)

/-- R280: a band line is written: its cells hold the codeword written. -/
def bandStore (at_ : Nat × Nat) (s : State) : State := dramWrite at_.1 at_.2 0 s

/-- R280: a metadata line is written to its place in the band. -/
def metaStore (sl kind index : Nat) (m : MetaSto) (s : State) : State :=
  { bandStore (metaPlace s sl kind index) s with metaSto := s.metaSto.set (metaKey sl kind index) (some m) }

/-- R168: what the stored copy of a line reads as: its value and whether its tag is valid under its parent; none where it is
RS-uncorrectable. An initialised line is valid (R154). -/
def metaRead (sl kind index : Nat) (s : State) : Option (BitVec 512 × Bool) × State :=
  let at_ := metaPlace s sl kind index
  let parent := parentState s sl kind index
  if s.dram.get (dramKey at_.1 at_.2) = 0 then
    match s.metaSto.get (metaKey sl kind index) with
    | none => (some (metaInitial s sl kind index, true), s)
    | some st => (some (st.val, metaTag s sl kind index st.val parent == st.tag), s)
  else
    let (o, t) := bandRead at_ (metaWord s sl kind index) s
    (o.data.map (fun d => (lineOf (d.take 64), metaTag s sl kind index (lineOf (d.take 64)) parent == ofBytes (d.drop 64))), t)

/-- R82: four LOST entries. -/
def lostLine : BitVec 512 := BitVec.ofNat 512 (4 + 4 * 2 ^ 128 + 4 * 2 ^ 256 + 4 * 2 ^ 384)

/-- R168, R301: brings a line into the cache, its missing ancestors first, each checked against its trusted parent. `fuel`
bounds the levels. Answers whether the line is trusted; a quarantined line or ancestor is not fetched again (R172). An
RS-uncorrectable catalogue line makes its four entries LOST (R82). -/
def metaFetch : Nat → Nat → Nat → Nat → State → Bool × State
  | 0, _, _, _, s => (true, s)
  | fuel + 1, sl, kind, index, s =>
    if kind = 7 then (true, s)
    else if (metaCached s sl kind index).isSome then (true, metaTouch sl kind index s)
    else if quarantined s sl kind index then (false, s)
    else
      let s := chargeInternal 67 1 (s.count (if kind = 1 then 0x305 else 0x306) sl)
      let (ok, s) := metaFetch fuel sl (parentKind kind) (if parentKind kind = 7 then 0 else parentIndex s kind index) s
      if !ok then (false, s)
      else
        match metaRead sl kind index s with
        | (some (v, true), s) => (true, metaEnter sl kind index v (underRekey s sl kind index) s)
        | (some (_, false), s) => (false, metaFail sl kind index s)
        | (none, s) => if kind = 1 then (true, metaEnter sl kind index lostLine true s) else (false, s)

/-- Levels from a leaf to the root. -/
def treeFuel : Nat := 8

/-- A cached line takes a new value; one on its way out stays so. -/
def metaWrite (sl kind index : Nat) (val : BitVec 512) (s : State) : State :=
  if kind = 7 then { s with roots := s.roots.set sl val }
  else
    match metaCached s sl kind index with
    | some m =>
      let (u, s) := s.stamp
      metaPut { m with val, dirty := true, used := u } s
    | none => metaEnter sl kind index val true s

/-- R168: the children of a node rekey that are not cached are checked under its old state and written back under the
new one, unless they have been written under it since; cached children are dirty already. -/
def rekeyChild (r : NodeRekey) (slot : Nat) (s : State) : State :=
  let child := r.index * 64 + slot
  let kinds := if r.kind = 2 then
      (if child < 16384 * s.presented then [(0, child)]
       else [(1, child - 16384 * s.presented)])
    else if r.kind = 7 then (if slot = 0 then [(6, 0)] else [])
    else [(r.kind - 1, child)]
  forAll (if r.written.contains slot then [] else kinds) (fun k s =>
    match metaCached s r.slice k.1 k.2, s.metaSto.get (metaKey r.slice k.1 k.2) with
    | none, some _ =>
      match metaRead r.slice k.1 k.2 (chargeInternal 67 2 s) with
      | (some (v, true), s) =>
        metaStore r.slice k.1 k.2 { val := v, tag := metaTag s r.slice k.1 k.2 v (metaValue s r.slice r.kind r.index) } s
      | (some (_, false), s) => metaFail r.slice k.1 k.2 s
      | (none, s) => s
    | _, _ => s) s

/-- R168: the parent whose minor is 127 takes MAJOR + 1 and starts a node rekey; its cached children become dirty. -/
def startNodeRekey (sl kind index : Nat) (s : State) : State :=
  let old := metaValue s sl kind index
  let s := metaWrite sl kind index (nextMajor old) s
  let mark (m : MetaLine) : MetaLine :=
    if m.slice == sl && parentKind m.kind == kind && (kind == 7 || parentIndex s m.kind m.index == index) then
      { m with dirty := true } else m
  let s := { s with metaCache := s.metaCache.map mark }
  { s with nodeRekeys := s.nodeRekeys ++ [{ slice := sl, kind, index, old }] }

/-- R168: a dirty line is evicted: its parent's minor for its slot is raised (or the parent rekeyed), and the line is
written with its tag under the result. -/
def metaWriteBack (sl kind index : Nat) (s : State) : State :=
  match metaCached s sl kind index with
  | none => s
  | some m =>
    let s := chargeInternal 67 1 s
    let pk := parentKind kind
    let pi := if pk = 7 then 0 else parentIndex s kind index
    let slot := parentSlot s kind index
    let (ok, s) := metaFetch treeFuel sl pk pi s
    if !ok then metaDrop sl kind index s
    else
      let pv := metaValue s sl pk pi
      let s := if ctrMinor pv slot = 127 then startNodeRekey sl pk pi s
        else metaWrite sl pk pi (setMinor pv slot (ctrMinor pv slot + 1)) s
      let t := metaTag s sl kind index m.val (metaValue s sl pk pi)
      let mine (r : NodeRekey) : Bool := r.slice == sl && r.kind == pk && r.index == pi
      metaDrop sl kind index
        { metaStore sl kind index { val := m.val, tag := t } s with
          nodeRekeys := s.nodeRekeys.map (fun r => if mine r then { r with written := slot :: r.written } else r) }

/-! ### Catalogue entries and counter blocks of a page -/

/-- R79: catalogue line index A[50:18] of a page. -/
def catLine (page : Nat) : Nat := localPage page / 4

/-- R80: a page's catalogue entry, as its 128 bits. -/
def catBits (s : State) (page : Nat) : Nat :=
  catSlice (metaValue s (pageSlice page) 1 (catLine page)) (localPage page % 4)

/-- R80: the entry's KIND: 0 ZERO, 1 T0, 2 T1, 3 T2, 4 LOST. -/
def pageKind (s : State) (page : Nat) : Nat := slice (catBits s page) 0 3
/-- R80: PIN. -/
def pagePin (s : State) (page : Nat) : Bool := slice (catBits s page) 3 1 == 1
/-- R80: MOVING. -/
def pageMoving (s : State) (page : Nat) : Bool := slice (catBits s page) 4 1 == 1
/-- R80: HEAT. -/
def pageHeat (s : State) (page : Nat) : Nat := slice (catBits s page) 8 8
/-- R80: EPOCH. -/
def pageEpoch (s : State) (page : Nat) : Nat := slice (catBits s page) 16 24
/-- R80: HOLDOFF. -/
def pageHoldoff (s : State) (page : Nat) : Nat := slice (catBits s page) 40 4
/-- R81: CHAN of a T0 or T1 page. -/
def pageChan (s : State) (page : Nat) : Nat := slice (catBits s page) 64 4
/-- R81: FRAME of a T0 page. -/
def pageFrame (s : State) (page : Nat) : Nat := slice (catBits s page) 68 27
/-- R81: GRANULE of a T1 page. -/
def pageGranule (s : State) (page : Nat) : Nat := slice (catBits s page) 68 31
/-- R81: SECk of a T1 page. -/
def pageSec (s : State) (page k : Nat) : Nat := slice (catBits s page) (100 + 4 * k) 4
/-- R81: MEMBER of a T2 page. -/
def pageMember (s : State) (page : Nat) : Nat := slice (catBits s page) 64 6
/-- R81: SPILL_SLOT of a T2 page. -/
def pageSpillSlot (s : State) (page : Nat) : Nat := slice (catBits s page) 70 32

/-- R80: the entry's bits `lo + w - 1` down to `lo` set. -/
def setCat (page lo w v : Nat) (s : State) : State :=
  let sl := pageSlice page
  let line := metaValue s sl 1 (catLine page)
  metaWrite sl 1 (catLine page)
    (BitVec.ofNat 512 (setSlice line.toNat (128 * (localPage page % 4) + lo) w v)) s

/-- R80, R81: KIND and LOCATION replaced in one step. -/
def setLocation (page kind loc : Nat) (s : State) : State := setCat page 64 64 loc (setCat page 0 3 kind s)

/-- R81: LOCATION of a T0 page. -/
def locT0 (chan frame : Nat) : Nat := chan + frame * 2 ^ 4

/-- R81: LOCATION of a T1 page. -/
def locT1 (chan granule : Nat) (secs : List Nat) : Nat :=
  chan + granule * 2 ^ 4 + secs.getD 0 0 * 2 ^ 36 + secs.getD 1 0 * 2 ^ 40 + secs.getD 2 0 * 2 ^ 44 + secs.getD 3 0 * 2 ^ 48

/-- R81: LOCATION of a T2 page. -/
def locT2 (member spillSlot : Nat) : Nat := member + spillSlot * 2 ^ 6

/-- A page's counter block. -/
def pageCounters (s : State) (page : Nat) : BitVec 512 := metaValue s (pageSlice page) 0 (localPage page)

/-- A page's counter block replaced. -/
def setCounters (page : Nat) (v : BitVec 512) (s : State) : State := metaWrite (pageSlice page) 0 (localPage page) v s

/-- R165: whether a page's catalogue line and counter block are in the caches, and no node rekey holds them back (R168). -/
def metaReady (s : State) (page : Nat) : Bool :=
  let sl := pageSlice page
  let held (kind index : Nat) : Bool := metaHeld s sl kind index && !underRekey s sl kind index
  held 1 (catLine page) && held 0 (localPage page)

/-- R84, R165: a hit makes a page's catalogue line and counter block recent. -/
def touchPage (page : Nat) (s : State) : State :=
  metaTouch (pageSlice page) 0 (localPage page) (metaTouch (pageSlice page) 1 (catLine page) s)

/-- R165, R168: whether a page's catalogue line and counter block can be had now. -/
def pageRoom (s : State) (page : Nat) : Bool :=
  let sl := pageSlice page
  pathRoom treeFuel s sl 1 (catLine page) && pathRoom treeFuel s sl 0 (localPage page)

/-- R168: brings a page's catalogue line and counter block in at once (internal masters; DESIGN CHOICE, log entry 15);
answers whether both are trusted. -/
def pageFetch (page : Nat) (s : State) : Bool × State :=
  let sl := pageSlice page
  let (a, s) := metaFetch treeFuel sl 1 (catLine page) s
  let (b, s) := metaFetch treeFuel sl 0 (localPage page) s
  (a && b, s)

/-- R172: whether a page depends on a quarantined line: its leaves or an ancestor of them. -/
def pathQuarantined : Nat → State → Nat → Nat → Nat → Bool
  | 0, _, _, _, _ => false
  | fuel + 1, s, sl, kind, index =>
    if kind = 7 then false
    else if (metaCached s sl kind index).isSome then false
    else quarantined s sl kind index || pathQuarantined fuel s sl (parentKind kind) (parentIndex s kind index)

/-- R172: whether a page's metadata cannot be verified. -/
def pageQuarantined (s : State) (page : Nat) : Bool :=
  pathQuarantined treeFuel s (pageSlice page) 1 (catLine page) || pathQuarantined treeFuel s (pageSlice page) 0 (localPage page)

/-! ### Heat -/

/-- R86: the effective heat of a page. -/
def effHeat (s : State) (page : Nat) : Nat :=
  let d := (s.get F.TIER_EPOCH.EPOCH + 2 ^ 24 - pageEpoch s page) % 2 ^ 24
  if 8 ≤ d then 0 else pageHeat s page / 2 ^ d

/-- R86: an entry brought up to date, with `add` accesses counted. -/
def heatUpdate (page add : Nat) (s : State) : State :=
  let h := min 255 (effHeat s page + add)
  setCat page 16 24 (s.get F.TIER_EPOCH.EPOCH) (setCat page 8 8 h s)

/-! ### Units of a page -/

/-- R83: sectors a storage code takes. -/
def secCount (code : Nat) : Nat := if code = 15 then 16 else code

/-- R83: the first sector of segment `k` of a run. -/
def secStart (secs : List Nat) (k : Nat) : Nat := ((secs.take k).map secCount).foldl (· + ·) 0

/-- R83: granules of a run. -/
def runLength (secs : List Nat) : Nat := (secStart secs 4 + 3) / 4

/-- R81: the storage codes of a T1 page. -/
def pageSecs (s : State) (page : Nat) : List Nat := (List.range 4).map (pageSec s page)

/-- R155, R162: the counter state of unit `idx` of a page in a tier, as its counter block stands. -/
def ctrStateOf (s : State) (page tier idx : Nat) : CtrState :=
  let (k, g) := keyGen s page
  let v := pageCounters s page
  { key := k, gen := g, page, tier, idx, major := ctrMajor v, minor := if tier = 1 then ctrMinor v idx else 0 }

/-- R155: the counter state of unit `idx` under explicit key, generation and MAJOR, every minor 0. -/
def ctrStateNew (page tier idx key gen major : Nat) : CtrState :=
  { key, gen, page, tier, idx, major, minor := 0 }

end Sys2Proof.Machine
end

