-- ==== Sys2Proof/Machine/Tier.lean ====
section
/-!
DEFINITION. The tier engine: free frames and granule runs (R97, R98), the levels of R94, page moves from start to commit
or abort (R87 to R92, R141, R142, R164, R178, R182), and the release of storage.
-/

namespace Sys2Proof.Machine

/-! ### Free frames and the levels of R94 -/

/-- Free frames of a channel. -/
def freeFrames (s : State) (c : Nat) : Nat := s.get (F.TIER_POOL_STATUS.FREE_FRAMES c)

/-- R98 to R100, R287: channels open to allocation: enabled, and neither evacuating nor evacuated, nor on their way back. -/
def openChans (s : State) : List Nat :=
  (List.range 16).filter (fun c =>
    s.get (F.TIER_POOL_STATUS.EVAC c) == 0 && s.flag (F.DC_CFG.ENABLE c) && s.tier.poolFrames.getD c 0 != 0)

/-- R94: F, the free frames of the device, those of a channel under evacuation among them. -/
def totalFree (s : State) : Nat := ((List.range 16).map (freeFrames s)).foldl (· + ·) 0

/-- R94: D, the data pool in frames: of the channels in service or under evacuation (DEDUCED, log entry 141). -/
def poolTotal (s : State) : Nat :=
  (((List.range 16).filter (fun c => decide (s.get (F.TIER_POOL_STATUS.EVAC c) ≤ 1))).map (fun c =>
    s.tier.poolFrames.getD c 0)).foldl (· + ·) 0

/-- R94: the level: 0 Normal, 1 Low, 2 Critical, 3 Stalled; the deepest whose condition holds. -/
def levelOf (s : State) : Nat :=
  let f := totalFree s
  if f = 0 then 3
  else if f ≤ s.get F.TIER_POLICY.PROMO_RESERVE * 16 then 2
  else if f * 256 < poolTotal s * s.get F.TIER_POLICY.FREE_LOW then 1
  else 0

/-- R90: the T0 budget in force. -/
def t0Budget (s : State) : Nat :=
  if s.get F.TIER_T0_BUDGET.FRAMES = 0 then poolTotal s / 2 else s.get F.TIER_T0_BUDGET.FRAMES

/-- R90: demotion becomes active above the budget and stays so down to 31/32 of it. -/
def updateActive (s : State) : State :=
  let n := s.get F.TIER_T0_BUDGET.T0_NOW
  if t0Budget s < n then { s with tier := { s.tier with demoteActive := true } }
  else if n * 32 ≤ t0Budget s * 31 then { s with tier := { s.tier with demoteActive := false } }
  else s

/-- R90, R94: whether demotion is active. -/
def demotionActive (s : State) : Bool := s.tier.demoteActive || decide (1 ≤ s.tier.level)

/-- R94, R95: the entry event of level `n`, to every LD as well. -/
def raiseLevel (n : Nat) (s : State) : State :=
  let code := if n = 1 then 0x80 else if n = 2 then 0x81 else 0x82
  eventAll code 0 (s.log code)

/-- R94: the level follows the free frames; each deeper level entered raises its event once, the shallower first. -/
def updateLevel (s : State) : State :=
  if s.tier.held then s
  else
    let new := levelOf s
    let old := s.tier.level
    let s := { s with tier := { s.tier with
      level := new
      stallTransit := if new = 3 ∧ old ≠ 3 then s.transit else s.tier.stallTransit } }
    forAll ([1, 2, 3].filter (fun n => decide (old < n) && decide (n ≤ new))) raiseLevel s

/-- The levels and the demotion condition follow a change of the pool. -/
def poolChanged (s : State) : State := updateLevel (updateActive s)

/-! ### Frames -/

/-- The key of a frame in the frame table. -/
def frameKey (c f : Nat) : Nat := c * 2 ^ 28 + f

/-- R260: frames of each channel set apart for spills. -/
def spillFrames (s : State) : Nat := if s.inClutch then s.get F.CLU_SPILL_CFG.FRAMES else 0

/-- R76, R97, R260: the frame-table entry of a frame. The bands that lie highest in the channel and the spill area have USE 3
without a cell of their own. -/
def frameAt (s : State) (c f : Nat) : Frame :=
  let base := s.tier.spillBase.getD c 0
  if s.tier.dataTop.getD c 0 ≤ f ∨ (base ≤ f ∧ f < base + spillFrames s) then { use := 3 } else s.frames.get (frameKey c f)

/-- The first frame at or after `f` (wrapping at `n`) that is free. -/
def firstFree (s : State) (c n : Nat) : Nat → Nat → Option Nat
  | 0, _ => none
  | fuel + 1, f => if (frameAt s c f).use = 0 then some f else firstFree s c n fuel ((f + 1) % n)

/-- A free frame of a channel. Which one is taken is open (Config.frameStart). -/
def anyFree (s : State) (c : Nat) : Option Nat :=
  let n := s.tier.dataTop.getD c 0
  firstFree s c n (s.frames.cells.length + spillFrames s + 1) (Config.frameStart s.freeCtr % n)

/-- R98: the channels in round-robin order, starting after the one that last received a new frame. -/
def rrOrder (s : State) : List Nat := (List.range 16).map (fun k => (s.tier.rr + k) % 16)

/-- R98: a new frame is taken, by round robin over open channels whose free frames exceed the reserve (or any, where
the request may use it; at Critical only such requests take frames, R94). -/
def takeFrame (reserve : Bool) (use : Nat) (s : State) : Option (Nat × Nat) × State :=
  let floor := if reserve then 0 else s.get F.TIER_POLICY.PROMO_RESERVE
  match (rrOrder s).find? (fun c =>
      (openChans s).contains c && decide (floor < freeFrames s c) && (reserve || decide (s.tier.level < 2))) with
  | none => (none, s)
  | some c =>
    match anyFree s c with
    | none => (none, s)
    | some f =>
      let s := s.drawn
      let s := { s with frames := s.frames.set (frameKey c f) { use, gmap := 0 } }
      let s := { s with tier := { s.tier with rr := (c + 1) % 16 } }
      let s := s.put (F.TIER_POOL_STATUS.FREE_FRAMES c) (freeFrames s c - 1)
      let s := if use = 1 then s.wrapAdd F.TIER_T0_BUDGET.T0_NOW else s.wrapAdd (F.TIER_POOL_STATUS.GRAN_FRAMES c)
      (some (c, f), poolChanged s)

/-- A T0 frame returns to the free pool. -/
def freeFrame (c f : Nat) (s : State) : State :=
  let s := { s with frames := s.frames.set (frameKey c f) {} }
  poolChanged ((s.put (F.TIER_POOL_STATUS.FREE_FRAMES c) (freeFrames s c + 1)).put F.TIER_T0_BUDGET.T0_NOW
    (s.get F.TIER_T0_BUDGET.T0_NOW - 1))

/-- R97: the bits of `n` granules from granule `g` of a frame. -/
def granuleMask (g n : Nat) : BitVec 16 := BitVec.ofNat 16 ((2 ^ n - 1) * 2 ^ g)

/-- R97: the lowest gap of `n` free granules of a map, from `g` on. -/
def gapAt (m : BitVec 16) (n : Nat) : Nat → Nat → Option Nat
  | 0, _ => none
  | fuel + 1, g =>
    if 16 < g + n then none else if m &&& granuleMask g n = 0 then some g else gapAt m n fuel (g + 1)

/-- R97: the lowest-numbered fitting gap of a channel, by frame and then by granule. -/
def findGap (s : State) (c n : Nat) : Option (Nat × Nat) :=
  (s.frames.cells.filter (fun x => x.1 / 2 ^ 28 == c && x.2.use == 2)).findSome? (fun x =>
    (gapAt x.2.gmap n 16 0).map (fun g => (x.1 % 2 ^ 28, g)))

/-- Granules of a frame become occupied. -/
def occupy (c f g n : Nat) (s : State) : State :=
  { s with frames := s.frames.upd (frameKey c f) (fun x => { x with gmap := x.gmap ||| granuleMask g n }) }

/-- R97: a run of `n` granules is placed: the preferred channel's gaps, the other open channels' gaps in round-robin
order, and only then a new granule frame (R98). Answers its channel and first granule number. -/
def placeRun (pref n : Nat) (reserve : Bool) (s : State) : Option (Nat × Nat) × State :=
  let order := (pref :: (rrOrder s).filter (· != pref)).filter (fun c => (openChans s).contains c)
  match order.findSome? (fun c => (findGap s c n).map (fun x => (c, x))) with
  | some (c, f, g) => (some (c, f * 16 + g), occupy c f g n s)
  | none =>
    match takeFrame reserve 2 s with
    | (some (c, f), s) => (some (c, f * 16), occupy c f 0 n s)
    | (none, s) => (none, s)

/-- R97: a run is released; a granule frame left empty returns to the pool. -/
def freeRun (c g n : Nat) (s : State) : State :=
  let k := frameKey c (g / 16)
  let m := (s.frames.get k).gmap &&& ~~~ granuleMask (g % 16) n
  if n = 0 then s
  else if m = 0 then
    let s := { s with frames := s.frames.set k {} }
    poolChanged ((s.put (F.TIER_POOL_STATUS.FREE_FRAMES c) (freeFrames s c + 1)).put (F.TIER_POOL_STATUS.GRAN_FRAMES c)
      (s.get (F.TIER_POOL_STATUS.GRAN_FRAMES c) - 1))
  else { s with frames := s.frames.upd k (fun x => { x with gmap := m }) }

/-- R261, R262: SPILL_FREE of a slot at a holding member. -/
def sendSpillFree (member slot : Nat) (s : State) : State :=
  (originate (mkMsg 0x06 member (arg := slot)) .spillFree s).2

/-- A stored form of a page: T0 frame, T1 run with its codes, T2 slot, or nothing. -/
inductive Loc where
  | none
  | frame (c f : Nat)
  | run (c g : Nat) (secs : List Nat)
  | slot (member n : Nat)
deriving DecidableEq, Repr

/-- R81: where a page is stored. -/
def pageLoc (s : State) (page : Nat) : Loc :=
  match pageKind s page with
  | 1 => .frame (pageChan s page) (pageFrame s page)
  | 2 => .run (pageChan s page) (pageGranule s page) (pageSecs s page)
  | 3 => .slot (pageMember s page) (pageSpillSlot s page)
  | _ => .none

/-- R87 step 4: storage returns to the free pool. -/
def releaseLoc (l : Loc) (s : State) : State :=
  match l with
  | .none => s
  | .frame c f => freeFrame c f s
  | .run c g secs => freeRun c g (runLength secs) s
  | .slot m n =>
    sendSpillFree m n (s.put F.CLU_SPILL_STATUS.OUT (s.get F.CLU_SPILL_STATUS.OUT - 1))

/-- R83, R274: line number of sector `i` of a run of a channel. -/
def sectorLine (granule i : Nat) : Nat := granule * 4 + i

/-- Line number of line `j` of a frame. -/
def frameLine (f j : Nat) : Nat := f * 64 + j

/-! ### Reading a page's storage -/

/-- R163: the counter state under which line `j` of a T0 page lies in DRAM: one below the increment that a buffered line
has reserved and not yet used. -/
def storedState (s : State) (page j : Nat) : CtrState :=
  let c := ctrStateOf s page 1 j
  match s.wb.find? (fun w => w.addr == page * 4096 + 64 * j) with
  | some w => match w.minor with
    | some m => { c with minor := m - 1 }
    | none => c
  | none => c

/-- R87 step 2: the lines of a T0 frame, each checked; none reads as poison. -/
def readFrame (page c f : Nat) : Nat → State → List (Option (BitVec 512)) × State
  | 0, s => ([], s)
  | n + 1, s =>
    let (l, s) := readFrame page c f n s
    let (d, s) := readUnit c (frameLine f n) (storedState s page n) noErr false s
    (l ++ [d], s)

/-- R87 step 2: `n` sectors of a run from sector `i`. -/
def readSectors (page c g i : Nat) : Nat → State → List (Option (BitVec 512)) × State
  | 0, s => ([], s)
  | n + 1, s =>
    let (l, s) := readSectors page c g i n s
    let (d, s) := readUnit c (sectorLine g (i + n)) (ctrStateOf s page 2 (i + n)) noErr false s
    (l ++ [d], s)

/-- The bytes of sectors; a poisoned one reads as zeros here. -/
def sectorBytes (l : List (Option (BitVec 512))) : List Nat := (l.map (fun d => lineBytes (d.getD 0))).flatten

/-- R23: the leading sectors of a read's segment that have come. -/
def sectorsCome (r : Req) : Nat := (r.units.takeWhile (·.got)).length

/-- R23: the bytes of a segment up to the end of the line that is read. -/
def readWant (r : Req) : Nat := 64 * (lineIdx r.addr % 16) + 64

/-- R23: the bytes of a read's segment as far as they have come. -/
def readBytes (r : Req) : List Nat := sectorBytes (r.units.map (·.value))

/-- Positions of the poisoned sectors. -/
def badSectors (l : List (Option (BitVec 512))) : List Nat :=
  (List.range l.length).filter (fun i => l[i]? == some none)

/-- R161: body bytes a decode has consumed when its output reaches `want`. -/
def aqzNeed (want : Nat) : Nat → List Nat → Nat → Nat → Option Nat
  | 0, _, _, _ => none
  | _, [], _, _ => none
  | fuel + 1, c :: rest, p, used =>
    match aqzToken c rest with
    | .error _ => none
    | .ok (t, rest') =>
      if want ≤ p + t.len then
        match t with
        | .lit _ => some (used + 1 + (want - p))
        | _ => some (used + (rest.length + 1 - rest'.length))
      else aqzNeed want fuel rest' (p + t.len) (used + (rest.length + 1 - rest'.length))

/-- R161: whether the bytes that yield the first `want` output bytes of a stored segment lie before sector `bad`. -/
def lineBefore (seg : List Nat) (want bad : Nat) : Bool :=
  match aqzNeed want 1024 (seg.drop 4) 0 4 with
  | some n => decide (n ≤ 64 * bad)
  | none => false

/-- R23: whether the sectors that the line of a read needs have come. -/
def lineCame (r : Req) : Bool := r.units.all (·.got) || lineBefore (readBytes r) (readWant r) (sectorsCome r)

/-- A segment's plaintext as ready work: 1024 bytes and the poisoned lines. -/
def plainWork (l : List (Option (BitVec 512))) : SegWork := .ready (sectorBytes l) 15 (badSectors l)

/-- A segment of which nothing can be read: sixteen lines of poison (R89, R123). -/
def lostSegment : SegWork := .ready (List.replicate 1024 0) 15 (List.range 16)

/-- R161: the leading lines of a stored segment whose bytes lie before sector `bad`. -/
def linesBefore (seg : List Nat) (bad : Nat) : Nat :=
  ((List.range 16).takeWhile (fun k => lineBefore seg (64 * k + 64) bad)).length

/-- R89, R91, R122, R161: the work that makes plaintext of the sectors of a segment. One with poisoned sectors is decoded as far as
the lines before the first of them. -/
def plainOf (code : Nat) (l : List (Option (BitVec 512))) : SegWork :=
  if code = 0 then .ready (List.replicate 1024 0) 15 []
  else if code = 15 then plainWork l
  else
    match badSectors l with
    | [] => .stored (sectorBytes l) code none
    | bad :: _ =>
      match linesBefore (sectorBytes l) bad with
      | 0 => lostSegment
      | n => .stored (sectorBytes l) code (some (64 * n))

/-- R89, R123: what a decode leaves of a segment: plaintext whose later lines are poison where it stopped before them, and poison
throughout where the segment was refused. -/
def decodedWork : Except Nat (List Nat) → SegWork
  | .ok out => .ready (out ++ List.replicate (1024 - out.length) 0) 15 ((List.range 16).drop (out.length / 64))
  | .error _ => lostSegment

/-- Whether every byte is 0. -/
def allZero (b : List Nat) : Bool := b.all (· == 0)

/-- R91 step 2: the work on segment `k` of a T1 page that is to become plaintext. -/
def loadSegment (page c g : Nat) (secs : List Nat) (k : Nat) (s : State) : SegWork × State :=
  let code := secs.getD k 0
  let (l, s) := readSectors page c g (secStart secs k) (secCount code) s
  (plainOf code l, s)

/-- The work on the four segments of a T1 page. -/
def loadSegments (page c g : Nat) (secs : List Nat) : Nat → State → List SegWork × State
  | 0, s => ([], s)
  | n + 1, s =>
    let (l, s) := loadSegments page c g secs n s
    let (w, s) := loadSegment page c g secs n s
    (l ++ [w], s)

/-! ### Moves -/

/-- Moves in flight at a slice. -/
def sliceMoves (s : State) (sl : Nat) : List Move := s.moves.filter (fun m => pageSlice m.page == sl)

/-- R91: whether a move is one of the slice's 4 promotions: promotions, fills and returns from T2. -/
def isPromotion (k : MoveKind) : Bool := k == .promote || k == .fill || k == .unspill

/-- Promotions in flight at a slice. -/
def slicePromotions (s : State) (sl : Nat) : Nat := ((sliceMoves s sl).filter (fun m => isPromotion m.kind)).length

/-- The move of a page, if one is in flight. -/
def moveOf (s : State) (page : Nat) : Option Move := s.moves.find? (fun m => m.page == page)

/-- The move of a page replaced. -/
def setMove (m : Move) (s : State) : State :=
  { s with moves := s.moves.map (fun x => if x.page == m.page then m else x) }

/-- The buffered lines of a page leave the DRAM queues and wait in the buffer: a move writes them, or they follow its
commit. -/
def unqueuePage (page : Nat) (s : State) : State :=
  let cut (q : SubChan) : SubChan :=
    { q with writes := q.writes.filter (fun d => pageOf d.addr != page)
             inflight := q.inflight.filter (fun d => !(d.write && pageOf d.addr == page)) }
  { s with
    wb := s.wb.map (fun w => if pageOf w.addr == page then { w with queued := false, issued := false } else w)
    chans := s.chans.mapCells (fun _ ch => { ch with sc0 := cut ch.sc0, sc1 := cut ch.sc1 }) }

/-- R87 step 1: a move starts: MOVING set, write count 0. It keeps the policy it starts with. -/
def startMove (m : Move) (s : State) : State :=
  let m := { m with
    start := s.transit, minGain := s.get F.TIER_POLICY.MIN_GAIN, level := s.get F.CMP_RECOMP_CFG.LEVEL
    minSave := s.get F.CMP_RECOMP_CFG.MIN_SAVE, limit := s.get F.CMP_RECOMP_CFG.MAX_TRANSITS }
  setCat m.page 4 1 1 (unqueuePage m.page { s with moves := s.moves ++ [m] })

/-- R85: a mover that finds a move of the page in flight waits for its end. -/
def waitMove (page : Nat) (k : MoveKind) (s : State) : State :=
  if s.tier.waiting.contains (page, k) then s else { s with tier := { s.tier with waiting := s.tier.waiting ++ [(page, k)] } }

/-- Jobs whose owner is a segment of a page. -/
def ownsPage (page : Nat) (o : JobOwner) : Bool := match o with | .move p _ => p == page | _ => false

/-- The jobs of a page leave the queues and engines. -/
def dropJobs (page : Nat) (s : State) : State :=
  { s with cmp := { s.cmp with
    demoteQ := s.cmp.demoteQ.filter (fun j => !ownsPage page j.owner)
    recompQ := s.cmp.recompQ.filter (fun j => !ownsPage page j.owner)
    encoders := s.cmp.encoders.filter (fun j => !ownsPage page j.2.owner)
    waitDec := s.cmp.waitDec.filter (fun j => !ownsPage page j.owner)
    decoders := s.cmp.decoders.filter (fun j => !ownsPage page j.2.owner) } }

/-- The new storage a move has taken. -/
def moveStorage (m : Move) : Loc :=
  if !m.taken then .none
  else if m.peer then .slot m.newChan m.newAt
  else
    match m.kind with
    | .promote | .fill | .rekey | .unspill => .frame m.newChan m.newAt
    | .spill => .slot m.newChan m.newAt
    | .demote | .recompress => .run m.newChan m.newAt m.secs
    | .evac | .walk _ => if m.secs.isEmpty then .frame m.newChan m.newAt else .run m.newChan m.newAt m.secs

/-- R88: a move ends without effect: its new storage is released (SPILL_FREE for a spill), MOVING cleared. -/
def abortMove (m : Move) (s : State) : State :=
  let s := { s with moves := s.moves.filter (fun x => x.page != m.page) }
  let s := if m.kind = .demote then s.count 0x403 (pageSlice m.page) else s
  let s := dropJobs m.page s
  let s := if m.peer then (if m.taken then sendSpillFree m.newChan m.newAt s else s) else releaseLoc (moveStorage m) s
  setCat m.page 4 1 0 s

/-- R88, R90: an abort that sets HOLDOFF to 15. -/
def abortHeld (m : Move) (s : State) : State := setCat m.page 40 4 15 (abortMove m s)

/-- R164: a page whose MAJOR cannot rise; a region rekey of its region is asked for (R179). -/
def majorFull (s : State) (page : Nat) : Bool := ctrMajor (pageCounters s page) == 2 ^ 64 - 1

/-- R164, R179: a region rekey that starts by itself waits for a walk context, unless one runs or waits. -/
def askRekey (page : Nat) (s : State) : State :=
  let r := regionOf page
  let d := s.region r
  if s.walks.any (fun w => w.2.region == r && !w.2.keyMove) || s.walkQueue.any (fun w => w.region == r && w.toKey.isNone)
      || d.gen == 127 then s
  else { s with walkQueue := s.walkQueue ++ [{ region := r, toKey := none }] }

/-- R164, R179: a move is held back where its next counter state would raise MAJOR past 2^64 - 1: every move but the step of a
region rekey, which sets MAJOR to 0. -/
def moveHeld (s : State) (page : Nat) (k : MoveKind) : Bool :=
  majorFull s page && match k with
    | .walk c => !s.walks.any (fun w => w.1 == c && !w.2.keyMove)
    | _ => true

/-- R91, R262: an open SPILL_GET for segment `k` of a T2 page in a move. -/
def askSegment (page k : Nat) (s : State) : State :=
  (originate (mkMsg 0x05 (pageMember s page) (arg := pageSpillSlot s page) (seg := k)) (.spillMove page k) s).2

/-- R143, R145: the decoder job of segment `k` of a page that moves, where its work waits for one. -/
def queueDecode (page k : Nat) (w : SegWork) (s : State) : State :=
  match w with
  | .stored b c want =>
    addDecode { owner := .move page k, bytes := b, code := some c, want, home := pageStop s page } s
  | _ => s

/-- The decoder jobs of a move's stored segments. -/
def queueDecodes (m : Move) (s : State) : State :=
  forAll (List.range 4) (fun k s => match m.segs[k]? with | some w => queueDecode m.page k w s | none => s) s

/-- R85, R91, R92: a T1 or T2 page is promoted, if the slice has a promotion and a frame for it; it waits for the end of another move
of the page. -/
def startPromotion (page : Nat) (s : State) : State :=
  let sl := pageSlice page
  if (moveOf s page).isSome then (if (moveOf s page).any (fun m => isPromotion m.kind) then s else waitMove page .promote s)
  else if 8 ≤ (sliceMoves s sl).length ∨ 4 ≤ slicePromotions s sl then s
  else if majorFull s page then waitMove page .promote (askRekey page s)
  else if pageKind s page == 2 && decodeHeld s true then waitMove page .promote s
  else
    match takeFrame true 1 s with
    | (none, s) => s
    | (some (c, f), s) =>
      match pageLoc s page with
      | .run rc g secs =>
        let (segs, s) := loadSegments page rc g secs 4 s
        let m : Move := { page, kind := .promote, segs, newChan := c, newAt := f, taken := true, secs }
        queueDecodes m (startMove m s)
      | _ =>
        let m : Move := { page, kind := .unspill, newChan := c, newAt := f, taken := true, waitPeer := true
                          segs := List.replicate 4 (.stored [] 0 none) }
        forAll (List.range 4) (askSegment page) (startMove m s)

/-- R91, R94: a ZERO page is filled on its first write, below the Critical level. -/
def startFill (page : Nat) (s : State) : State :=
  let sl := pageSlice page
  if (moveOf s page).isSome || decide (8 ≤ (sliceMoves s sl).length) || decide (4 ≤ slicePromotions s sl)
      || decide (2 ≤ s.tier.level) then s
  else if majorFull s page then askRekey page s
  else
    match takeFrame false 1 s with
    | (none, s) => s
    | (some (c, f), s) =>
      startMove { page, kind := .fill, newChan := c, newAt := f, taken := true
                  segs := List.replicate 4 (.ready (List.replicate 1024 0) 15 []) } s

/-- Four segments of plaintext from 64 lines. -/
def segsOfLines (l : List (Option (BitVec 512))) : List SegWork :=
  (List.range 4).map (fun k => plainWork ((l.drop (16 * k)).take 16))

/-- R178: a page rekey copies a T0 page into a new frame under its next counter state. -/
def startPageRekey (page : Nat) (s : State) : State :=
  let sl := pageSlice page
  if (moveOf s page).isSome || decide (8 ≤ (sliceMoves s sl).length) then s
  else if majorFull s page then askRekey page s
  else
    match takeFrame true 1 s with
    | (none, s) => s
    | (some (c, f), s) =>
      let (l, s) := readFrame page (pageChan s page) (pageFrame s page) 64 s
      startMove { page, kind := .rekey, segs := segsOfLines l, newChan := c, newAt := f, taken := true } s

/-- R91, R178: whether a buffered line of a page asks for a move, and the start of it: a fill of a ZERO page, a
promotion of a T1 or T2 page, a page rekey where the line's minor is used up. -/
def tryWriteMove (page : Nat) (s : State) : State :=
  match pageKind s page with
  | 0 => startFill page s
  | 2 => startPromotion page s
  | 3 => startPromotion page s
  | 1 => if s.wb.any (fun w => pageOf w.addr == page && w.minor.isNone && !w.issued) then startPageRekey page s else s
  | _ => s

/-- R90: a demotion's segments: a zero one, a poisoned one kept raw, else one for an encoder. -/
def demoteSeg (l : List (Option (BitVec 512))) : SegWork :=
  if !(badSectors l).isEmpty then .ready (sectorBytes l) 15 (badSectors l)
  else if allZero (sectorBytes l) then .ready [] 0 []
  else .plain (sectorBytes l) 15 []

/-- R134, R141: the encoder jobs of a move's plaintext segments. -/
def queueEncodes (m : Move) (s : State) : State :=
  forAll (List.range 4) (fun k s =>
    match m.segs[k]? with
    | some (.plain b _ _) =>
      if m.kind = .demote then
        { s with cmp := { s.cmp with
          demoteQ := s.cmp.demoteQ ++ [{ owner := .move m.page k, input := b, level := 0 }] } }
      else
        { s with cmp := { s.cmp with
          recompQ := s.cmp.recompQ ++ [{ owner := .move m.page k, input := b, level := m.level }] } }
    | _ => s) s

/-- Encoders ONLINE or DRAINING-free: R147, R149. -/
def encodersOnline (s : State) : List Nat := (List.range 8).filter (fun n => s.get (F.CMP_ENG_STATUS.STATE n) == 0)

/-- R149: no encoder is ONLINE, or TIER_DISABLE is 1. -/
def encNone (s : State) : Bool := (encodersOnline s).isEmpty || s.flag F.CMP_CTRL.TIER_DISABLE

/-- R90: a cold T0 page starts a level-0 demotion. -/
def startDemotion (page : Nat) (s : State) : State :=
  let (l, s) := readFrame page (pageChan s page) (pageFrame s page) 64 s
  let m : Move := { page, kind := .demote, segs := (List.range 4).map (fun k => demoteSeg ((l.drop (16 * k)).take 16)) }
  queueEncodes m (startMove m s)

/-- The stored form of a segment kept whole: sectors and the poisoned ones. -/
def keepSegment (page c g : Nat) (secs : List Nat) (k : Nat) (s : State) : SegWork × State :=
  let code := secs.getD k 0
  let (l, s) := readSectors page c g (secStart secs k) (secCount code) s
  (.ready (sectorBytes l) code (badSectors l), s)

/-- The stored forms of the four segments. -/
def keepSegments (page c g : Nat) (secs : List Nat) : Nat → State → List SegWork × State
  | 0, s => ([], s)
  | n + 1, s =>
    let (l, s) := keepSegments page c g secs n s
    let (w, s) := keepSegment page c g secs n s
    (l ++ [w], s)

/-- R85, R94, R100, R182: a page moves as it is stored: a T0 page to a new frame, a T1 page to a run of equal size. An evacuation may
use the reserve. -/
def startPlainMove (page : Nat) (kind : MoveKind) (s : State) : State :=
  let sl := pageSlice page
  if (moveOf s page).isSome then waitMove page kind s
  else if 8 ≤ (sliceMoves s sl).length then s
  else if moveHeld s page kind then askRekey page s
  else
    match pageLoc s page with
    | .frame c f =>
      match takeFrame (kind == .evac) 1 s with
      | (none, s) => s
      | (some (nc, nf), s) =>
        let (l, s) := readFrame page c f 64 s
        startMove { page, kind, segs := segsOfLines l, newChan := nc, newAt := nf, taken := true } s
    | .run c g secs =>
      if runLength secs = 0 then
        startMove { page, kind, segs := List.replicate 4 (.ready [] 0 []), taken := true, secs } s
      else
        match placeRun (if kind == .evac then 16 else c) (runLength secs) (kind == .evac) s with
        | (none, s) => s
        | (some (nc, ng), s) =>
          let (w, s) := keepSegments page c g secs 4 s
          startMove { page, kind, segs := w, newChan := nc, newAt := ng, taken := true, secs } s
    | _ => s

/-! ### Commit -/

/-- R27, R91: the buffered line of an address. -/
def wbLine (s : State) (a : Nat) : Option WbLine := s.wb.find? (fun w => w.addr == lineAddr a)

/-- R175: the bytes of `new` under a byte mask over `old`. -/
def mergeBytes (mask : BitVec 64) (old new : BitVec 512) : BitVec 512 :=
  lineOf ((List.range 64).map (fun i =>
    if mask.getLsbD i then slice new.toNat (8 * i) 8 else slice old.toNat (8 * i) 8))

/-- R175, R176: what a buffered line writes over its source line: a whole line its data, a partial one merged; over an
unverifiable source a poison marker. -/
def buffered (w : WbLine) (src : Option (BitVec 512)) : Option (BitVec 512) :=
  if w.poison then none
  else if w.mask = BitVec.allOnes 64 then some w.data
  else src.map (fun o => mergeBytes w.mask o w.data)

/-- A buffered line leaves the buffer and the DRAM queues. -/
def wbDrop (a : Nat) (s : State) : State :=
  let cut (q : SubChan) : SubChan :=
    { q with writes := q.writes.filter (fun d => d.addr != a)
             inflight := q.inflight.filter (fun d => !(d.write && d.addr == a)) }
  { s with
    wb := s.wb.filter (fun w => w.addr != a)
    chans := s.chans.mapCells (fun _ ch => { ch with sc0 := cut ch.sc0, sc1 := cut ch.sc1 }) }

/-- R164, R179: the key, generation and counter block a move installs. -/
def nextState (s : State) (m : Move) : Nat × Nat × BitVec 512 :=
  let (k, g) := keyGen s m.page
  let v := pageCounters s m.page
  match m.kind with
  | .walk c =>
    let d := s.region (regionOf m.page)
    match s.walks.find? (fun w => w.1 == c) with
    | some (_, w) => if w.keyMove then (d.key, d.gen, nextMajor v) else (d.key, d.gen, 0)
    | none => (d.key, d.gen, nextMajor v)
  | _ => (k, g, nextMajor v)

/-- R87, R91: writes line `j` of a T0 target under the new counter state: the buffered line where the move writes it,
else the source. -/
def commitLine (m : Move) (key gen major : Nat) (lines : List (Option (BitVec 512))) (j : Nat) (s : State) : State :=
  let a := m.page * 4096 + 64 * j
  let src := lines.getD j none
  let takes := isPromotion m.kind || m.kind == .rekey
  match (if takes then wbLine s a else none) with
  | some w =>
    let d := buffered w src
    let s := if d.isNone then s.poisonAdd (cpaOf s a / 64) else s
    let s := match w.hint, d with
      | some h, some v => nearFill a v h s
      | _, _ => s
    wbDrop a (storeUnit m.newChan (frameLine m.newAt j) (ctrStateNew m.page 1 j key gen major) d s)
  | none =>
    let s := if src.isNone then s.poisonAdd (cpaOf s a / 64) else s
    storeUnit m.newChan (frameLine m.newAt j) (ctrStateNew m.page 1 j key gen major) src s

/-- The ready bytes of a segment, its code and its poisoned sectors. -/
def readySeg : SegWork → Option (List Nat × Nat × List Nat)
  | .ready b c bad => some (b, c, bad)
  | _ => none

/-- The 64 lines of four ready plaintext segments. -/
def readyLines (segs : List SegWork) : List (Option (BitVec 512)) :=
  (segs.map (fun w => match w with
    | .ready b _ bad => (List.range 16).map (fun k =>
        if bad.contains k then none else some (lineOf ((b.drop (64 * k)).take 64)))
    | _ => List.replicate 16 none)).flatten

/-- R90, R141: the sectors of four ready stored segments; none is a poison marker. -/
def readySectors (segs : List SegWork) : List (Option (BitVec 512)) :=
  (segs.map (fun w => match w with
    | .ready b c bad => (List.range (secCount c)).map (fun k =>
        if bad.contains k then none else some (lineOf ((b.drop (64 * k)).take 64)))
    | _ => [])).flatten

/-- The sectors of a run stored from granule `g` under the new counter state. -/
def commitSectors (page c g key gen major : Nat) (i : Nat) : List (Option (BitVec 512)) → State → State
  | [], s => s
  | d :: r, s =>
    commitSectors page c g key gen major (i + 1) r
      (storeUnit c (sectorLine g i) (ctrStateNew page 2 i key gen major) d s)

/-- R140: a committed demotion's page joins its slice's recompression queue of 64, in which it stands once. -/
def queueRecompress (page : Nat) (s : State) : State :=
  if !s.flag F.CMP_RECOMP_CFG.ENABLE || s.cmp.pages.contains (pageSlice page, page) then s
  else if 64 ≤ (s.cmp.pages.filter (fun p => p.1 == pageSlice page)).length then
    s.bump F.CMP_RECOMP_STATUS.QUEUE_DROPS
  else { s with cmp := { s.cmp with pages := s.cmp.pages ++ [(pageSlice page, page)] } }

/-- R163, R164: buffered lines left in the buffer at a commit take a fresh increment under the new state. -/
def refreshMinor (page : Nat) (w : WbLine) (s : State) : State :=
  let j := lineIdx w.addr
  let v := pageCounters s page
  let m := ctrMinor v j + 1
  let s := setCounters page (setMinor v j m) s
  { s with wb := s.wb.map (fun x => if x.addr == w.addr then { x with minor := some m, queued := false } else x) }

/-- R445: a committed promotion, demotion or spill is counted. -/
def countMove (m : Move) (s : State) : State :=
  if isPromotion m.kind then s.count 0x401 (pageSlice m.page)
  else if m.kind = .demote then s.count 0x402 (pageSlice m.page)
  else if m.kind = .spill then s.count 0x404 (pageSlice m.page)
  else s

/-- R87 steps 3 and 4: LOCATION, KIND and counters replaced in one clock, MOVING cleared, old storage released; the
buffered lines that stay take fresh increments. -/
def finishMove (m : Move) (kind loc : Nat) (ctr : BitVec 512) (s : State) : State :=
  let old := pageLoc s m.page
  let s := { s with moves := s.moves.filter (fun x => x.page != m.page) }
  let s := countMove m s
  let s := setCounters m.page ctr (setCat m.page 4 1 0 (setLocation m.page kind loc s))
  let s := releaseLoc old s
  if kind = 1 then forAll (s.wb.filter (fun w => pageOf w.addr == m.page)) (refreshMinor m.page) s else s

/-- R182: a walk's pointer for a slice rises by one in the clock of the commit. -/
def advanceWalk (ctx sl : Nat) (s : State) : State :=
  { s with walks := s.walks.map (fun w =>
      if w.1 == ctx then (w.1, { w.2 with ptr := w.2.ptr.set sl (w.2.ptr.getD sl 0 + 1) }) else w) }

/-- A commit into a frame (promotions, fills, rekeys, T0 evacuations and walk steps). -/
def commitFrame (m : Move) (s : State) : State :=
  let (key, gen, ctr) := nextState s m
  let lines := readyLines m.segs
  let s := forAll (List.range 64) (commitLine m key gen (ctrMajor ctr) lines) s
  finishMove m 1 (locT0 m.newChan m.newAt) ctr s

/-- A commit into a run already placed, or none for a page with no stored sector, which becomes ZERO where `zero`. -/
def commitRun (m : Move) (c g : Nat) (secs : List Nat) (s : State) : State :=
  let (key, gen, ctr) := nextState s m
  let s := commitSectors m.page c g key gen (ctrMajor ctr) 0 (readySectors m.segs) s
  if runLength secs = 0 && m.kind == .demote then finishMove m 0 0 ctr s
  else finishMove m 2 (locT1 c g secs) ctr s

/-- R83: the storage codes of ready segments. -/
def readyCodes (segs : List SegWork) : List Nat := segs.map (fun w => match w with | .ready _ c _ => c | _ => 0)

/-- Whether every segment is ready. -/
def allReady (m : Move) : Bool := m.segs.all (fun w => (readySeg w).isSome) && m.segs.length == 4

/-! ### Spills -/

/-- A segment of a move takes a new form. -/
def setSeg (page k : Nat) (w : SegWork) (s : State) : State :=
  { s with moves := s.moves.map (fun m => if m.page == page then { m with segs := m.segs.set k w } else m) }

/-- R237: the beats of a segment in sector form: stored sectors, then their tags, 6 bytes each. -/
def sectorBeats (code : Nat) (sectors : List (List Nat)) (tags : List (List Nat)) : List Beat :=
  if code = 0 then [{ data := 0, poison := false, scode := 0 }]
  else
    let beat (b : List Nat) : Beat := { data := lineOf (padTo 64 b), poison := false, scode := BitVec.ofNat 4 code }
    sectors.map beat ++ (chunks 64 2 tags.flatten).map beat

/-- R261 steps 2 to 4: SPILL_PUT of segment `k` of a page whose sectors are ready, to a slot of a member. Under a zeroized key there
is nothing to encrypt with: the beats are poison (R177). -/
def putSegment (page member slot k : Nat) (m : Move) (s : State) : State :=
  let (key, gen, ctr) := nextState s m
  match m.segs[k]? with
  | some (.ready b code bad) =>
    let first := secStart (readyCodes m.segs) k
    let units := (List.range (secCount code)).map (fun i =>
      let c := ctrStateNew page 3 (first + i) key gen (ctrMajor ctr)
      let d : Option (BitVec 512) := if bad.contains i then none else some (lineOf ((b.drop (64 * i)).take 64))
      let w := symbols (sealUnit (workKey s key) c d)
      (w.take 64, (w.drop 64).take 6))
    let beats := if zeroized s key then
        (sectorBeats code (units.map (fun _ => [])) (units.map (fun _ => List.replicate 6 0))).map (fun x => { x with poison := true })
      else sectorBeats code (units.map (·.1)) (units.map (·.2))
    (originate (mkMsg 0x04 member (flags := 2) (arg := slot) (seg := k) (beats := beats)) (.spillPut page k) s).2
  | _ => s

/-- R123, R261: a segment of a page that is spilled: one in AQZ format goes through a decoder first. -/
def spillSegment (page c g : Nat) (secs : List Nat) (k : Nat) (s : State) : SegWork × State :=
  match keepSegment page c g secs k s with
  | (.ready b code [], s) => (if 1 ≤ code ∧ code ≤ 14 then .stored b code none else .ready b code [], s)
  | x => x

/-- The segments of a page that is spilled. -/
def spillSegments (page c g : Nat) (secs : List Nat) : Nat → State → List SegWork × State
  | 0, s => ([], s)
  | n + 1, s =>
    let (l, s) := spillSegments page c g secs n s
    let (w, s) := spillSegment page c g secs n s
    (l ++ [w], s)

/-- R261 step 3: the transfer of a spill begins once its four segments are ready. -/
def putSpill (page : Nat) (s : State) : State :=
  match moveOf s page with
  | some m => if m.kind = .spill && allReady m then putSegment page m.newChan 0xFFFFFFFF 0 m s else s
  | none => s

/-- R85, R261: a spill of a T1 page starts; it waits for the end of another move of the page. -/
def startSpill (page member : Nat) (s : State) : State :=
  if (moveOf s page).isSome || decodeHeld s true then waitMove page .spill s
  else
    match pageLoc s page with
    | .run c g secs =>
      let (segs, s) := spillSegments page c g secs 4 s
      let m : Move := { page, kind := .spill, segs, newChan := member, peer := true, waitPeer := true, secs }
      putSpill page (queueDecodes m (startMove m s))
    | _ => s

/-- R88, R90: the commit of a demotion: aborted by a write or a pin, by the granule test, or for want of a place. -/
def commitDemotion (m : Move) (s : State) : State :=
  let secs := readyCodes m.segs
  if 0 < m.writes ∨ pagePin s m.page then abortHeld m s
  else if 16 < runLength secs + m.minGain then
    abortHeld m (s.bump F.CMP_NOGAIN.DEMOTE_ABORT)
  else if runLength secs = 0 then queueRecompress m.page (commitRun m 0 0 secs s)
  else
    match placeRun (pageChan s m.page) (runLength secs) true s with
    | (none, s) => abortHeld m s
    | (some (c, g), s) => queueRecompress m.page (commitRun m c g secs s)

/-- R94, R141, R142: the commit of a recompression: aborted where it saves fewer than MIN_SAVE granules. One that finds no gap and may
take no frame waits. -/
def commitRecompression (m : Move) (s : State) : State :=
  let secs := readyCodes m.segs
  let old := runLength (pageSecs s m.page)
  if 0 < m.writes then abortMove m (s.bump F.CMP_RECOMP_STATUS.ABORT_WRITE)
  else if old < runLength secs + m.minSave then
    abortMove m (s.bump F.CMP_RECOMP_STATUS.ABORT_NOSAVE)
  else if runLength secs = 0 then (commitRun m 0 0 secs s).bump F.CMP_RECOMP_STATUS.COMMITS
  else
    match placeRun (pageChan s m.page) (runLength secs) false s with
    | (none, s) => s
    | (some (c, g), s) => (commitRun m c g secs s).bump F.CMP_RECOMP_STATUS.COMMITS

/-- R87: the move of a page reaches its commit. A move whose copy is not complete goes on. -/
def commitMove (m : Move) (s : State) : State :=
  if !allReady m then s
  else
    match m.kind with
    | .demote => commitDemotion m s
    | .recompress => commitRecompression m s
    | .promote | .fill | .rekey | .unspill => commitFrame m s
    | .evac =>
      if 0 < m.writes then abortMove m s
      else if m.secs.isEmpty then commitFrame m s else commitRun m m.newChan m.newAt m.secs s
    | .walk c =>
      let s := if m.peer then
          let (_, _, ctr) := nextState s m
          (finishMove m 3 (locT2 m.newChan m.newAt) ctr s).wrapAdd F.CLU_SPILL_STATUS.OUT
        else if m.secs.isEmpty then commitFrame m s else commitRun m m.newChan m.newAt m.secs s
      advanceWalk c (pageSlice m.page) s
    | .spill =>
      if 0 < m.writes then abortMove m s
      else if m.waitPeer then s
      else
        let (_, _, ctr) := nextState s m
        (finishMove m 3 (locT2 m.newChan m.newAt) ctr s).wrapAdd F.CLU_SPILL_STATUS.OUT

/-! ### ZERO and LOST -/

/-- The lines of a page leave the near cache. -/
def dropNear (page : Nat) (s : State) : State := { s with near := s.near.keep (fun _ e => pageOf e.addr != page) }

/-- R93: a page that becomes ZERO is pinned no more (DESIGN CHOICE, log entry 142: the spec does not say whether PIN outlives it). -/
def unpin (page : Nat) (s : State) : State :=
  { s with tier := { s.tier with pinned := s.tier.pinned.filter (· != page) } }

/-- R75, R82: what is in flight of a page is discarded: its move aborted, its buffered and cached lines dropped. -/
def discardPage (page : Nat) (s : State) : State :=
  let s := match moveOf s page with | some m => abortMove m s | none => s
  dropNear page (forAll (s.wb.filter (fun w => pageOf w.addr == page)) (fun w s => wbDrop w.addr s) s)

/-- R75, R107: a page turned to ZERO, and its storage released. -/
def zeroPage (page : Nat) (s : State) : State :=
  let s := discardPage page s
  let loc := pageLoc s page
  let s := { s with err := { s.err with poison := s.err.poison.filter (fun l => l / 64 != cpaOf s (page * 4096) / 4096) } }
  unpin page (releaseLoc loc (setCat page 0 8 0 (setLocation page 0 0 s)))

/-- R82: a page becomes LOST; its storage is not returned. -/
def losePage (page : Nat) (s : State) : State :=
  setLocation page 4 0 (discardPage page s)

end Sys2Proof.Machine
end

