-- ==== Sys2Proof/Machine/Queues.lean ====
section
/-!
DEFINITION. Shared operations on requests and the queues they pass: the open requests, the regulator's buckets and
virtual times (R300 to R305), the DRAM controllers' read and write queues (R285), the write buffer's way into them
(R27), and keystream entries (R169).
-/

namespace Sys2Proof.Machine

/-! ### Requests -/

/-- The request of a number. -/
def reqAt (s : State) (id : Nat) : Option Req := s.reqs.find? (fun r => r.id == id)

/-- A request replaced. -/
def setReq (r : Req) (s : State) : State := { s with reqs := s.reqs.map (fun x => if x.id == r.id then r else x) }

/-- A request leaves, with its keystream entries and decoder jobs. -/
def dropReq (id : Nat) (s : State) : State :=
  { s with
    reqs := s.reqs.filter (fun x => x.id != id)
    keystreams := s.keystreams.filter (fun k => k.2.req != id)
    cmp := { s.cmp with
      waitDec := s.cmp.waitDec.filter (fun j => j.owner != .read id)
      decoders := s.cmp.decoders.filter (fun d => d.2.owner != .read id) } }

/-- A request enters with a fresh number. -/
def addReq (r : Req) (s : State) : State :=
  { s with reqs := s.reqs ++ [{ r with id := s.nextId, since := s.now }], nextId := s.nextId + 1 }

/-- R192: whether an intent writes. -/
def isWrite : Intent → Bool
  | .wb _ => true
  | .wrNC => true
  | _ => false

/-- Whether an intent delivers data. -/
def wantsData : Intent → Bool
  | .readS => true
  | .readA => true
  | .readNC => true
  | .unknown d => d
  | _ => false

/-- A request's page. -/
def Req.page (r : Req) : Nat := pageOf r.addr

/-- A request's line of a DRAM queue's address field. -/
def Req.line (r : Req) : Nat := lineAddr r.addr

/-! ### DRAM queues -/

/-- A subchannel of a channel. -/
def subOf (s : State) (c sc : Nat) : SubChan := if sc = 0 then (s.chans.get c).sc0 else (s.chans.get c).sc1

/-- A subchannel changed. -/
def setSub (c sc : Nat) (f : SubChan → SubChan) (s : State) : State :=
  { s with chans := s.chans.upd c (fun ch => if sc = 0 then { ch with sc0 := f ch.sc0 } else { ch with sc1 := f ch.sc1 }) }

/-- The queue of a subchannel that takes reads or writes. -/
def queueOf (s : State) (c sc : Nat) (write : Bool) : List DramReq :=
  if write then (subOf s c sc).writes else (subOf s c sc).reads

/-- R303: the subchannel whose queue judges a request: that of its stored units for a read; for a write, that of the
page's present storage, none for a page without storage (log entry 17). -/
def targetOf (s : State) (r : Req) : Option (Nat × Nat) :=
  match r.units with
  | u :: _ => some (u.chan, (placeOfLine s u.chan u.line).sc)
  | [] =>
    match pageLoc s r.page with
    | .frame c f => some (c, (placeOfLine s c (frameLine f 0)).sc)
    | .run c g _ => some (c, (placeOfLine s c (sectorLine g 0)).sc)
    | _ => none

/-- R303: fill of the queue a request targets, 64 while the channel is disabled (R287). -/
def fillOf (s : State) (r : Req) : Nat :=
  match targetOf s r with
  | some (c, sc) => if (s.chans.get c).live then (queueOf s c sc r.write).length else 64
  | none => 0

/-- R303: entries of the target queue that the request's master holds. -/
def occupancy (s : State) (r : Req) : Nat :=
  match targetOf s r with
  | some (c, sc) => ((queueOf s c sc r.write).filter (fun d => d.master == r.master)).length
  | none => 0

/-! ### The write buffer and the write queues -/

/-- R37, R286: whether a request still has to read a stored line. -/
def readPending (s : State) (c line : Nat) : Bool :=
  s.reqs.any (fun r => r.units.any (fun u => u.chan == c && u.line == line && !u.got))

/-- R87, R91, R164: whether a page's buffered lines stay in the buffer until its move commits or aborts, whose copy is of the old
storage. -/
def holdsLines (s : State) (page : Nat) : Bool := (moveOf s page).isSome

/-- R26, R27: a buffered line of a T0 page goes to its write queue once its bytes are whole, its increment is reserved,
no move holds it and no earlier read of its stored line is open. -/
def pushWrite (w : WbLine) (s : State) : State :=
  let page := pageOf w.addr
  if w.queued || w.minor.isNone || !(w.poison || w.mask == BitVec.allOnes 64) || holdsLines s page then s
  else
    match pageLoc s page with
    | .frame c f =>
      let line := frameLine f (lineIdx w.addr)
      let sc := (placeOfLine s c line).sc
      if !(s.chans.get c).live || readPending s c line || decide (64 ≤ (queueOf s c sc true).length) then s
      else
        let d : DramReq := { req := 0, addr := w.addr, master := w.master, write := true, lines := [line], since := s.now }
        let s := setSub c sc (fun q => { q with writes := q.writes ++ [d] }) (cancelFix c line s)
        { s with wb := s.wb.map (fun x => if x.addr == w.addr then { x with queued := true } else x) }
    | _ => s

/-- Every buffered line that may go to its write queue does. -/
def pushWrites (s : State) : State := forAll s.wb pushWrite s

/-! ### Keystream entries -/

/-- R169: a read takes its keystream entries and waits for admission, or waits for free entries. -/
def takeKeystream (r : Req) (s : State) : State :=
  match pickEngine s (sliceOf r.addr) r.units.length with
  | none => setReq { r with stage := .keystream } s
  | some e =>
    let ks := (List.range r.units.length).map (fun i =>
      (e, ({ req := r.id, unit := i, key := (r.units.map (·.key)).getD i 0, ready := false } : Keystream)))
    let s := joinWait r.master s
    setReq { r with stage := .admission, engine := e } { s with keystreams := s.keystreams ++ ks }

end Sys2Proof.Machine
end

