-- ==== Sys2Proof/Machine/MoverOps.lean ====
section
/-!
DEFINITION. The data mover's operations at work (R105 to R110, R128, R138, R139): addresses of a ring's owner, lines read
and written through the home slices, and what an operation does as its lines and segments arrive.
-/

namespace Sys2Proof.Machine

/-- R104: whether a host agent is ALIVE. -/
def hanAlive (s : State) (h : Nat) : Bool :=
  match slotOfHan s h with
  | some m => agentState s m == 1
  | none => s.flag (F.CLU_HAN.VALID h) && !s.flag (F.CLU_HAN.DEAD h) && s.inClutch

/-! ### Lines -/

/-- R105: the CPA of an address of a ring, none where its owner maps none. -/
def ringAddr (s : State) (ring a : Nat) : Option Nat :=
  if s.flag (F.TIER_DMR_CTRL.OWNER_MGT ring) then (if a / 2 ^ 30 < s.presented then some (cpaOf s a) else none)
  else (extentAt (s.lds.get (s.get (F.TIER_DMR_CTRL.OWNER ring))) a).map (fun e => e.base + (a - e.dpa))

/-- The host agent a ring acts for. -/
def ringAgent (s : State) (ring : Nat) : Option Nat :=
  if s.flag (F.TIER_DMR_CTRL.OWNER_MGT ring) then none else hanOf s (s.get (F.TIER_DMR_CTRL.OWNER ring))

/-- R108, R209, R248: an internal master's access enters its home slice, here or at another member. In a leased region it
is a request of the agent its owner acts for. -/
def issueLine (src : Src) (agent : Option Nat) (write : Bool) (cpa : Nat) (d : Option (BitVec 512)) (mask : BitVec 64)
    (hint : Option Nat) (s : State) : Bool × State :=
  let r : Req := { id := 0, src, intent := if write then .wrNC else .readNC, addr := lineAddr cpa, master := 65, agent
                   input := 8, write, data := d.getD 0, mask, poison := d.isNone && write, hint }
  if homePath s cpa = s.path then
    let a := lineAddr (homeAddr s cpa)
    let leased := (s.region (regionOf (pageOf a))).cls == 2
    (true, addReq { r with addr := a, agent := if leased then agent else none } s)
  else
    let op := if !write then 0x01 else if mask = BitVec.allOnes 64 then 0x02 else 0x03
    let m := mkMsg op (homePath s cpa) (flags := bit hint.isSome) (han := msgHan s hint agent)
      (code := if write then 10 else 3) (addr := lineAddr cpa) (mask := mask)
      (beats := if write then [{ data := d.getD 0, poison := d.isNone, scode := 0 }] else [])
    let id := s.nextId
    let (ok, s) := originate m (if write then .write id else .read id) (addReq { r with stage := .away } s)
    if ok then (true, s) else (false, dropReq id s)

/-! ### Operations -/

/-- The operation of a ring's slot. -/
def opAt (s : State) (ring slot : Nat) : Option MoverOp := (s.rings.get ring).ops.find? (fun o => o.slot == slot)

/-- An operation replaced. -/
def setOp (ring : Nat) (o : MoverOp) (s : State) : State :=
  { s with rings := s.rings.upd ring (fun t => { t with ops := t.ops.map (fun x => if x.slot == o.slot then o else x) }) }

/-- R104, R106: the write hint of an operation. -/
def opHint (s : State) (o : MoverOp) : Option Nat :=
  if slice o.desc.flags 2 1 == 1 && hanAlive s (o.desc.hintHan % 64) then some (o.desc.hintHan % 64) else none

/-- R108: line `i` of an operation's destination is written (none: poison). -/
def writeLine (ring slot i : Nat) (d : Option (BitVec 512)) (s : State) : State :=
  match opAt s ring slot with
  | none => s
  | some o =>
    match ringAddr s ring (o.desc.dst + 64 * i) with
    | none => s
    | some cpa =>
      let (ok, s) := issueLine (.mover ring slot i true) (ringAgent s ring) true cpa d (BitVec.allOnes 64) (opHint s o) s
      if ok then setOp ring { o with pendingLines := o.pendingLines + 1, writing := o.writing + 1 } s else s

/-- R108: line `i` of an operation's source is read; a home that cannot be reached gives poison. -/
def readLine (ring slot i : Nat) (s : State) : State :=
  match opAt s ring slot with
  | none => s
  | some o =>
    match ringAddr s ring (o.desc.src + 64 * i) with
    | none => setOp ring { o with srcLines := o.srcLines ++ [(i, none)], poisoned := true } s
    | some cpa =>
      let (ok, s) := issueLine (.mover ring slot i false) (ringAgent s ring) false cpa none (BitVec.allOnes 64) none s
      if ok then setOp ring { o with pendingLines := o.pendingLines + 1 } s
      else
        let s := setOp ring { o with srcLines := o.srcLines ++ [(i, none)], poisoned := true } s
        if o.desc.opcode = 1 then writeLine ring slot i none s else s

/-- An operation's end: its status and RESULT_LEN; encoder jobs not started are dropped (R138). -/
def endOp (ring slot status len : Nat) (s : State) : State :=
  match opAt s ring slot with
  | none => s
  | some o =>
    let mine (j : JobOwner) : Bool := match j with | .mover r k _ => r == ring && k == slot | _ => false
    setOp ring { o with status := some status, resultLen := len }
      { s with cmp := { s.cmp with moverQ := s.cmp.moverQ.filter (fun j => !mine j.owner) } }

/-- The 16 source lines of a COMPRESS's segment, where all have arrived. -/
def segLines (o : MoverOp) (k : Nat) : Option (List (Option (BitVec 512))) :=
  let l := (List.range 16).map (fun i => cellFind (16 * k + i) o.srcLines)
  if l.all (fun x => x.isSome) then some (l.map (fun x => x.getD none)) else none

/-- R138, R139: segments of a COMPRESS are written in order as far as they have been encoded, each once the lines of those before it
are written. -/
def compressStep (ring slot : Nat) : Nat → State → State
  | 0, s => s
  | fuel + 1, s =>
    match opAt s ring slot with
    | none => s
    | some o =>
      let m := o.nextSeg
      if o.status.isSome then s
      else if o.desc.length ≤ 1024 * m then endOp ring slot 0 o.outOff s
      else
        match segLines o m with
        | none => s
        | some l =>
          if l.any (fun d => d.isNone) then
            if 0 < o.writing then s else
            let s := if o.outOff + 64 ≤ o.desc.auxLen then writeLine ring slot (o.outOff / 64) none s else s
            endOp ring slot 0x20 o.outOff s
          else
            match cellFind m o.segOut with
            | none => s
            | some none => endOp ring slot 0x21 o.outOff (s.bump F.CMP_NOGAIN.DM_NOGAIN)
            | some (some b) =>
              if 0 < o.writing then s
              else if o.outOff + b.length ≤ o.desc.auxLen then
                let s := forAll (List.range (b.length / 64)) (fun i s =>
                  writeLine ring slot (o.outOff / 64 + i) (some (lineOf ((b.drop (64 * i)).take 64))) s) s
                let s := match opAt s ring slot with
                  | some o' => setOp ring { o' with outOff := o.outOff + b.length, nextSeg := m + 1 } s
                  | none => s
                compressStep ring slot fuel s
              else endOp ring slot 0x21 o.outOff (s.bump F.CMP_NOGAIN.DM_AUXFULL)

/-- R145: the stop at which the sectors of a DECOMPRESS's segment were verified, as far as this member does that. -/
def sourceStop (s : State) (ring : Nat) (o : MoverOp) : Nat :=
  match ringAddr s ring (o.desc.src + o.inOff) with
  | some cpa => if homePath s cpa = s.path then pageStop s (pageOf (homeAddr s cpa)) else 5
  | none => 5

/-- The sectors of a DECOMPRESS's segment in the source, from its first. -/
def segSectors (o : MoverOp) (n : Nat) : Option (List (Option (BitVec 512))) :=
  let l := (List.range n).map (fun i => cellFind (o.inOff / 64 + i) o.srcLines)
  if l.all (fun x => x.isSome) then some (l.map (fun x => x.getD none)) else none

/-- R139: a poisoned source sector makes its segment's output poison and ends the DECOMPRESS. -/
def decompressPoison (ring slot : Nat) (o : MoverOp) (s : State) : State :=
  endOp ring slot 0x20 o.inOff (forAll (List.range 16) (fun i s => writeLine ring slot (16 * o.nextSeg + i) none s) s)

/-- R128: a DECOMPRESS goes on: its next segment's sectors are asked for, checked, decoded and written; `again` goes on from there. -/
def decompressOne (ring slot : Nat) (o : MoverOp) (again : State → State) (s : State) : State :=
  let m := o.nextSeg
  let base := o.inOff / 64
  if o.status.isSome || o.decoding then s
  else if o.desc.length ≤ 1024 * m then endOp ring slot 0 o.inOff s
  else
    match cellFind m o.segOut with
    | some none => endOp ring slot 0x0B o.inOff s
    | some (some out) =>
      let n := match cellFind base o.srcLines with
        | some (some d) => max 1 (aqzSectors (lineBytes d))
        | _ => 1
      let s := forAll (List.range 16) (fun i s =>
        writeLine ring slot (16 * m + i) (some (lineOf ((out.drop (64 * i)).take 64))) s) s
      let s := match opAt s ring slot with
        | some o' => setOp ring { o' with inOff := o.inOff + 64 * n, nextSeg := m + 1, outOff := max o.outOff (base + n) } s
        | none => s
      again s
    | none =>
      if o.outOff ≤ base then
        if o.desc.auxLen < o.inOff + 64 then endOp ring slot 0x0B o.inOff s
        else again (readLine ring slot base (setOp ring { o with outOff := base + 1 } s))
      else
        match cellFind base o.srcLines with
        | none => s
        | some none => decompressPoison ring slot o s
        | some (some d) =>
          let k := aqzSectors (lineBytes d)
          let n := max 1 k
          if o.desc.auxLen < o.inOff + 64 * n then endOp ring slot 0x0B o.inOff s
          else if o.outOff < base + n then
            again (forAll (List.range (base + n - o.outOff)) (fun i s =>
              readLine ring slot (o.outOff + i) s) (setOp ring { o with outOff := base + n } s))
          else
            match segSectors o n with
            | none => s
            | some l =>
              if l.any (fun x => x.isNone) then decompressPoison ring slot o s
              else if decodeHeld s true then s
              else
                let j : DecJob := { owner := .mover ring slot m, bytes := (l.map (fun x => lineBytes (x.getD 0))).flatten
                                    code := none, want := none, home := sourceStop s ring o }
                setOp ring { o with decoding := true } (addDecode j s)

/-- R128: a DECOMPRESS goes on for as long as it finds what it needs. -/
def decompressStep (ring slot : Nat) : Nat → State → State
  | 0, s => s
  | fuel + 1, s =>
    match opAt s ring slot with
    | none => s
    | some o => decompressOne ring slot o (decompressStep ring slot fuel) s

/-- An operation goes on after one of its lines or segments. -/
def advanceOp (ring slot : Nat) (s : State) : State :=
  match opAt s ring slot with
  | none => s
  | some o =>
    if !o.started || o.status.isSome then s
    else if o.desc.opcode = 4 then compressStep ring slot (o.desc.length / 1024 + 2) s
    else if o.desc.opcode = 5 then decompressStep ring slot (8 * (o.desc.length / 1024 + 2)) s
    else if o.pendingLines = 0 then endOp ring slot (if o.poisoned then 0x20 else 0) 0 s
    else s

/-- R107, R108, R110: a line of an operation is done: read data arrives (none: poison), or a write was accepted. -/
def moverLine (ring slot line : Nat) (write : Bool) (d : Option (BitVec 512)) (s : State) : State :=
  match opAt s ring slot with
  | none => s
  | some o =>
    let o := { o with pendingLines := o.pendingLines - 1 }
    if write then advanceOp ring slot (setOp ring { o with writing := o.writing - 1 } s)
    else if o.desc.opcode = 1 then
      advanceOp ring slot (writeLine ring slot line d (setOp ring { o with poisoned := o.poisoned || d.isNone } s))
    else
      let o := { o with srcLines := cellInsert line d o.srcLines }
      let s := setOp ring o s
      let s := if o.desc.opcode = 4 && o.status.isNone then
          match segLines o (line / 16) with
          | some l =>
            if l.all (fun x => x.isSome) then
              { s with cmp := { s.cmp with moverQ := s.cmp.moverQ ++ [
                  { owner := .mover ring slot (line / 16), input := (l.map (fun x => lineBytes (x.getD 0))).flatten
                    level := o.desc.level }] } }
            else s
          | none => s
        else s
      advanceOp ring slot s

/-- R128, R138: a segment of an operation comes from its engine; none is a no-gain or a malformed segment. -/
def moverSegment (ring slot seg : Nat) (out : Option (List Nat)) (s : State) : State :=
  match opAt s ring slot with
  | none => s
  | some o => advanceOp ring slot (setOp ring { o with segOut := o.segOut ++ [(seg, out)], decoding := false } s)

/-! ### Descriptors -/

/-- R105: descriptors in a ring. -/
def ringSize (s : State) (ring : Nat) : Nat := 2 ^ s.get (F.TIER_DMR_CTRL.SIZE_LOG2 ring)

/-- R109: the slot whose descriptor is taken up next. -/
def nextSlot (s : State) (ring : Nat) : Nat :=
  (s.get (F.TIER_DMR_HEAD.HEAD ring) + (s.rings.get ring).ops.length) % ringSize s ring

/-- R109: a descriptor arrived from the ring. -/
def descArrived (ring slot : Nat) (d : Option (BitVec 512)) (s : State) : State :=
  let t := s.rings.get ring
  if !s.flag (F.TIER_DMR_CTRL.ENABLE ring) || t.got.any (fun g => g.1 == slot) || t.ops.any (fun o => o.slot == slot) then s
  else { s with rings := s.rings.set ring { t with got := t.got ++ [(slot, d)] } }

/-- R109: an enabled ring asks for its descriptors from its fetch position up to TAIL. A descriptor whose address the owner
does not map reads as poison. -/
def fetchRing (ring : Nat) : Nat → State → State
  | 0, s => s
  | fuel + 1, s =>
    let t := s.rings.get ring
    if !s.flag (F.TIER_DMR_CTRL.ENABLE ring) || s.inFatal || s.stops 2 || t.fetch == s.get (F.TIER_DMR_TAIL.TAIL ring) % ringSize s ring then s
    else
      let slot := t.fetch
      let s := { s with rings := s.rings.set ring { t with fetch := (t.fetch + 1) % ringSize s ring } }
      let s := match ringAddr s ring (s.get (F.TIER_DMR_BASE.BASE ring) * 4096 + 64 * slot) with
        | none => descArrived ring slot none s
        | some cpa =>
          let (ok, s) := issueLine (.fetch ring slot) (ringAgent s ring) false cpa none (BitVec.allOnes 64) none s
          if ok then s else descArrived ring slot none s
      fetchRing ring fuel s

/-- R106: a descriptor from its 64 bytes. -/
def descOf (d : BitVec 512) : Desc :=
  let x := d.toNat
  { opcode := slice x 0 8, flags := slice x 8 8, level := slice x 16 8, hintHan := slice x 24 8, length := slice x 32 32
    src := slice x 64 64, dst := slice x 128 64, pattern := slice x 192 64, auxLen := slice x 256 32 }

end Sys2Proof.Machine
end

