-- ==== Sys2Proof/Machine/Home.lean ====
section
/-!
DEFINITION. The home slices: replies (R204, R480, R65), the near cache (R103, R104), the almanac and the backing
directory (R193 to R199), transactions, snoops and their answers (R201 to R207), reads and writes of a page (R22 to R28,
R82, R91, R92, R163, R175), and leased regions (R208 to R210).
-/

namespace Sys2Proof.Machine

/-! ### Replies -/

/-- R265: a FENCED member. -/
def fenced (s : State) : Bool := s.get F.CLU_STATUS.STATE == 4

/-- R65: DevLoad of a response: 0 Light, 1 Optimal, 2 Moderate, 3 Severe. -/
def devLoad (s : State) (r : Req) : Nat :=
  if s.reqs.any (fun x => x.master == r.master && x.throttled) then 3 else r.fill

/-- R65: the band of a queue fill. -/
def loadBand (s : State) (fill : Nat) : Nat :=
  if fill < s.get F.QOS_CTRL.LOW_WM then 0 else if fill < s.get F.QOS_CTRL.HIGH_WM then 1 else 2

/-- R480, R67: responses to a host LD leave while its agent is ALIVE, or RECLAIMING with its link up; else they are
discarded. -/
def hostReceives (s : State) (slot : Nat) : Bool :=
  agentState s slot != 2 && (s.links.get (linkOfSlot slot)).up

/-- R235: the data beat of a line; none is poison. -/
def lineBeat (d : Option (BitVec 512)) : Beat := { data := d.getD 0, poison := d.isNone, scode := 0 }

/-- R236: a CMP answers the message that a peer sent on a port under a tag. -/
def sendCmp (port tag member status grant arg : Nat) (beats : List Beat) (s : State) (flags : Nat := 0) : State :=
  let m := mkMsg 0x21 member (flags := flags) (code := grant) (status := status) (arg := arg) (beats := beats)
  let m := { m with tag := BitVec.ofNat 12 tag, src := BitVec.ofNat 6 s.path }
  { s with stSend := s.stSend ++ [(port, m)] }

/-- R236: the CMP of a peer's read has a beat: of a read that asks for no data, a free value. A write's has none. -/
def answerPeer (port tag member : Nat) (r : Req) (d : Option (BitVec 512)) (grant : Nat) (s : State) : State :=
  if r.write then sendCmp port tag member 0 grant 0 [] s
  else if wantsData r.intent then sendCmp port tag member 0 grant 0 [lineBeat d] s
  else sendCmp port tag member 0 grant 0 [lineBeat (some (Config.emptyBeat s.freeCtr))] { s with freeCtr := s.freeCtr + 1 }

/-- R257: the completion of a request that another member served passes to the agent: it grants the line, or ends the agent's hold
of it. -/
def passGrant (r : Req) (grant : Nat) (s : State) : State :=
  match r.agent with
  | none => s
  | some h =>
    let rest := s.passed.filter (fun x => !(x.1 == h && x.2 == r.line))
    let ends : Bool := match r.intent with | .evict => true | .wb k => k == 0 | _ => false
    if 0 < grant then
      { s with
        passed := (h, r.line) :: rest
        snoops := s.snoops.map (fun n => if n.home.isSome && n.han == h && n.addr == r.line then { n with prior := false } else n) }
    else if ends then { s with passed := rest } else s

/-- R67, R204, R480: the reply of a request: data where it asked for some (none is poison, which grants nothing), and its
completion. A link drop since the request came discards it. -/
def replyTo (r : Req) (d : Option (BitVec 512)) (grant : Nat) (s : State) : State :=
  match r.src with
  | .host slot tag _ =>
    let grant := if wantsData r.intent && d.isNone then 0 else grant
    let s := if r.stage == .away then passGrant r grant s else s
    if hostReceives s slot && !r.muted then
      let s := if wantsData r.intent then
          (s.emit (.memData slot tag d (devLoad s r))).count 0x105 slot (s.since r.born) else s
      s.emit (.cmp slot tag grant (devLoad s r))
    else s
  | .peer port tag member => answerPeer port tag member r d (if wantsData r.intent && d.isNone then 0 else grant) s
  | .mover ring slot line write => moverLine ring slot line write d s
  | .fetch ring slot => descArrived ring slot d s
  | .internal => s

/-- The local slot a request is logged against, its port, or 0. -/
def reqInstance (r : Req) : Nat :=
  match r.src with
  | .host slot _ _ => slot
  | .peer port _ _ => port
  | .mover ring _ _ _ => ring
  | .fetch ring _ => ring
  | .internal => 0

/-! ### Reads of a page -/

/-- What a read of a line meets (R22, R24, R27, R82, R91, R177). -/
inductive ReadPlan where
  | wait
  | line (d : Option (BitVec 512))
  | units (u : List UnitRead) (seg code : Nat)
  | peer (seg : Nat)
deriving DecidableEq, Repr

/-- A stored unit with the counter state it lies under at this moment. -/
def unitRead (c line : Nat) (x : CtrState) : UnitRead :=
  { chan := c, line, idx := x.idx, key := x.key, gen := x.gen, tier := x.tier, major := x.major, minor := x.minor }

/-- R22 step 3, R23: the plan of a read of address `a`. -/
def planRead (s : State) (a : Nat) : ReadPlan :=
  let page := pageOf a
  let j := lineIdx a
  if zeroized s (keyGen s page).1 then .line none
  else
    match wbLine s a with
    | some w => if w.poison then .line none else if w.mask = BitVec.allOnes 64 then .line (some w.data) else .wait
    | none =>
      match nearFind s a with
      | some k => .line (some (s.near.get (nearKey a k)).data)
      | none =>
        match pageLoc s page with
        | .none => if pageKind s page = 4 then .line none else .line (some 0)
        | .frame c f => .units [unitRead c (frameLine f j) (storedState s page j)] 0 15
        | .run c g secs =>
          let k := j / 16
          let code := secs.getD k 0
          let first := secStart secs k
          if code = 0 then .line (some 0)
          else if code = 15 then
            .units [unitRead c (sectorLine g (first + j % 16)) (ctrStateOf s page 2 (first + j % 16))] k 15
          else
            .units ((List.range code).map (fun i =>
              unitRead c (sectorLine g (first + i)) (ctrStateOf s page 2 (first + i)))) k code
        | .slot _ _ => .peer (j / 16)

/-- R301: tokens of a read by its plan. -/
def readCharge : ReadPlan → Nat
  | .units u _ _ => u.length
  | .peer _ => 1
  | _ => 0

/-- R172, R185: whether the line's data may come from the near cache at all is judged in `planRead`; a read that fails
its metadata receives poison. -/
def metaLost (s : State) (a : Nat) : Bool := pageQuarantined s (pageOf a)

/-- R86: a host's access heats the page. -/
def isHost (r : Req) : Bool := match r.src with | .host _ _ _ => true | _ => false

/-- R92: a host read promotes a hot T1 page while T0 is below 31/32 of its budget. -/
def readPromote (page : Nat) (s : State) : State :=
  let n := s.get F.TIER_POLICY.READ_PROMOTE
  if n != 0 && (pageKind s page == 2 || pageKind s page == 3) && decide (n ≤ effHeat s page)
      && decide (s.get F.TIER_T0_BUDGET.T0_NOW * 32 < t0Budget s * 31) then startPromotion page s
  else s

/-- R103: whether a read miss fills the near cache: the page is hot, or the region is shared or leased and no agent held the line when
the read's transaction opened. A leased region has no presence. -/
def fillsNear (s : State) (r : Req) : Bool :=
  let d := s.region (regionOf r.page)
  decide (s.get F.TIER_POLICY.NC_FILL_HEAT ≤ effHeat s r.page) || d.cls == 2 || (d.cls == 1 && r.absent)

/-! ### Writes -/

/-- R163: reserves one increment of minor[j] of a T0 page; none at 127 (R178) and in other tiers. -/
def reserveMinor (page j : Nat) (s : State) : Option Nat × State :=
  if pageKind s page != 1 then (none, s)
  else
    let v := pageCounters s page
    let m := ctrMinor v j
    if m = 127 then (none, s) else (some (m + 1), setCounters page (setMinor v j (m + 1)) s)

/-- R88: a write accepted while a move of its page is in flight is counted in the move; a recompression aborts at once
(R142). -/
def countWrite (page : Nat) (s : State) : State :=
  match moveOf s page with
  | some m =>
    if m.kind = .recompress then abortMove m (s.bump F.CMP_RECOMP_STATUS.ABORT_WRITE)
    else setMove { m with writes := m.writes + 1 } s
  | none => s

/-- R104: a hinted write makes its line a fill for the hinted agent: at once where the whole line is known, in the buffer or in the
near cache, else when its merge completes. -/
def hintFill (a : Nat) (hint : Option Nat) (s : State) : State :=
  match hint, wbLine s a with
  | some h, some w =>
    if w.poison then s
    else if w.mask = BitVec.allOnes 64 then nearFill a w.data h s
    else
      match nearFind s a with
      | some k => nearFill a (s.near.get (nearKey a k)).data h s
      | none => { s with wb := s.wb.map (fun x => if x.addr == a then { x with hint := some h } else x) }
  | _, _ => s

/-- R26 step 5, R27, R28, R82, R163, R175: a write is accepted into the write buffer. `reserved` uses one of the 16
lines kept for owners' writebacks (R202). -/
def placeWrite (r : Req) (reserved : Bool) (s : State) : State :=
  let page := r.page
  let a := r.line
  let full := decide (r.mask = BitVec.allOnes 64)
  if metaLost s a then s
  else if pageKind s page = 4 then s.log 0x12 (reqInstance r) (cpaOf s a)
  else if zeroized s (keyGen s page).1 then s
  else
    let s := if isHost r then heatUpdate page 1 s else s
    let s := countWrite page s
    let s := if full && !r.poison then s.poisonDrop (cpaOf s a / 64) else s
    let s := if r.poison then s.poisonAdd (cpaOf s a / 64) else s
    let s := match nearFind s a with
      | some k => nearWrite a (if r.poison then none
          else some (mergeBytes r.mask (s.near.get (nearKey a k)).data r.data)) s
      | none => s
    let s := match wbLine s a with
      | some w =>
        let w' := if full then { w with data := r.data, mask := r.mask, poison := r.poison }
          else { w with data := mergeBytes r.mask w.data r.data, mask := w.mask ||| r.mask, poison := w.poison || r.poison }
        { s with wb := s.wb.map (fun x => if x.addr == a then w' else x) }
      | none =>
        let (m, s) := reserveMinor page (lineIdx a) s
        { s with wb := s.wb ++ [{ addr := a, data := r.data, mask := r.mask, poison := r.poison, reserved, minor := m
                                  master := r.master }] }
    pushWrites (tryWriteMove page (hintFill a r.hint s))

/-- R27, R202: ordinary lines of a slice's buffer in use. -/
def wbUsed (s : State) (sl : Nat) (reserved : Bool) : Nat :=
  (s.wb.filter (fun w => sliceOf w.addr == sl && w.reserved == reserved)).length

/-- R202: reserved lines in use or taken by a snoop to an owner. -/
def reservedUsed (s : State) (sl : Nat) : Nat :=
  wbUsed s sl true + (s.snoops.filter (fun n => n.wbReserved && !n.wrote && sliceOf n.addr == sl)).length

/-- R27: whether the buffer has room for a new line. -/
def wbRoom (s : State) (sl : Nat) : Bool := decide (wbUsed s sl false < 240)

/-! ### The almanac -/

/-- R193: set of a line. -/
def almSet (a : Nat) : Nat := slice a 16 8 * 64 + lineIdx a
/-- R193: tag of a line. -/
def almTag (a : Nat) : Nat := slice a 24 27
/-- The key of a way of a slice's almanac. -/
def almKey (sl set way : Nat) : Nat := sl * 2 ^ 18 + set * 16 + way

/-- R193: the key of the valid entry of a line. -/
def almFind (s : State) (a : Nat) : Option Nat :=
  ((List.range 16).map (almKey (sliceOf a) (almSet a))).find? (fun k =>
    (s.almanac.get k).valid && (s.almanac.get k).tag == almTag a)

/-- Bit `h` of a presence vector. -/
def presBit (h : Nat) : BitVec 64 := BitVec.ofNat 64 (2 ^ h)

/-- The agents of a presence vector, in rising order. -/
def agentsOf (p : BitVec 64) : List Nat := (List.range 64).filter (fun h => p.getLsbD h)

/-- The E holder of an entry. -/
def ownerIn (e : AlmEnt) : Option Nat := if e.state = 2 then (agentsOf e.presence).head? else none

/-- R204: an entry takes a state and a presence vector; a change sets DIRTY. -/
def almPut (k st : Nat) (p : BitVec 64) (s : State) : State :=
  { s with almanac := s.almanac.upd k (fun e =>
      { e with state := st, presence := p, dirty := e.dirty || e.state != st || e.presence != p }) }

/-- The entry is made recent. -/
def almTouch (k : Nat) (s : State) : State :=
  let (u, s) := s.stamp
  { s with almanac := s.almanac.upd k (fun e => { e with used := u }) }

/-! ### The backing directory -/

/-- R197: the 64 bits of an entry. -/
def dirEncode (st : Nat) (p : BitVec 64) : BitVec 64 :=
  if st = 2 then BitVec.ofNat 64 (2 ^ 63 + (agentsOf p).headD 0)
  else if p.getLsbD 63 then BitVec.ofNat 64 (3 * 2 ^ 62 + p.toNat % 2 ^ 62)
  else p

/-- R197: the state and presence an entry spells. -/
def dirDecode (v : BitVec 64) : Nat × BitVec 64 :=
  let x := v.toNat
  if slice x 62 2 = 2 then (2, presBit (x % 64))
  else if slice x 62 2 = 3 then (1, BitVec.ofNat 64 (x % 2 ^ 62 + 3 * 2 ^ 62))
  else if x = 0 then (0, 0)
  else (1, v)

/-- R196: the index of a line's entry in its region's slot. -/
def dirIndex (a : Nat) : Nat := slice a 16 14 * 64 + lineIdx a
/-- The key of entry `i` of slot `d` of a slice. -/
def dirKey (sl d i : Nat) : Nat := (sl * 2048 + d) * 2 ^ 20 + i
/-- The key of a line's entry. -/
def dirKeyOf (s : State) (a : Nat) : Nat := dirKey (sliceOf a) (s.region (regionOf (pageOf a))).dirSlot (dirIndex a)

/-- R198: STAMP of a backing line: what its last write stored, else what its slot was cleared with (R196). -/
def stampOf (s : State) (line : Nat) : Nat :=
  match s.stamps.get line with
  | 0 => s.slotStamps.get (line / 2 ^ 17 % 2048)
  | n + 1 => n

/-- R196: the channel and line where the backing line of key `line` lies. -/
def backingPlace (s : State) (line : Nat) : Nat × Nat := dirPlace s (line / 2 ^ 28) (line % 2 ^ 28)

/-- R198: a backing line is written: its STAMP becomes GEN. -/
def dirStamp (line : Nat) (s : State) : State :=
  { bandStore (backingPlace s line) s with stamps := s.stamps.set line (s.get F.HA_RECLAIM.GEN + 1) }

/-- R198: writes the entry of a line, and its backing line's STAMP. -/
def dirWrite (a st : Nat) (p : BitVec 64) (s : State) : State :=
  let k := dirKeyOf s a
  dirStamp (k / 8) { s with dir := s.dir.set k (dirEncode st p) }

/-- R196, R198, R276: the codeword of a backing line as it lies in its band (`dirPlace`): eight entries, and STAMP with two zero
bytes in the side field. -/
def backingWord (s : State) (line : Nat) : BitVec 640 :=
  codewordOf ((s.dir.getList (8 * line) 8).map (fun e => toBytes 8 e.toNat)).flatten (toBytes 4 (stampOf s line) ++ [0, 0])

/-- R212: dead agents whose record still filters backing lines with an older stamp. -/
def deadFilter (s : State) (stamp : Nat) : List Nat :=
  (List.range 64).filter (fun h =>
    slice (s.get F.HA_DEAD_PEND.PEND) h 1 == 1 && decide (stamp < s.get (F.HA_DEAD_GEN.GEN h)))

/-- R301: an internal master's write of a line is charged where it is placed. -/
def chargedWrite (r : Req) (reserved : Bool) (s : State) : State :=
  placeWrite r reserved (if (wbLine s r.line).isSome then s else chargeInternal r.master 1 s)

/-- R165, R168: an internal master's write of a line; it waits for metadata that cannot be had now. -/
def internalWrite (r : Req) (reserved : Bool) (s : State) : State :=
  if !pageRoom s r.page then addReq { r with stage := .metaWait } s
  else
    let (ok, s) := pageFetch r.page s
    if ok then chargedWrite r reserved s else s

/-- R213: a poison marker is written to a line as a write, for an internal master. -/
def writeMarker (a master : Nat) (s : State) : State :=
  internalWrite { id := 0, src := .internal, intent := .wrNC, addr := lineAddr a, master, agent := none, input := 9
                  write := true, mask := BitVec.allOnes 64, poison := true } false s

/-- R213: a line that a dead agent held in E is lost. -/
def loseLine (a han : Nat) (s : State) : State :=
  let s := writeMarker a 66 s
  (s.log 0x32 (sliceOf a) (cpaOf s a) han).bump F.HA_LOST_COUNT.LINES

/-- R199, R213: a state and presence with dead agents taken out; the flag says that a holder in E was lost. -/
def filterEntry (dead : List Nat) (st : Nat) (p : BitVec 64) : Nat × BitVec 64 × Bool :=
  if st = 2 then
    if dead.any (fun h => p.getLsbD h) then (0, 0, true) else (st, p, false)
  else if st = 1 then
    let q := dead.foldl (fun q h => q &&& ~~~ presBit h) p
    (if q = 0 then 0 else 1, q, false)
  else (st, p, false)

/-- The address of entry `i` of a shared region's slot on a slice. -/
def dirAddr (region sl i : Nat) : Nat := pageAt sl (region * 2 ^ 14 + i / 64) * 4096 + i % 64 * 64

/-- R199: a backing line is read and filtered for dead agents; a line that needs it is written back. -/
def filterBacking (region sl line : Nat) (s : State) : State :=
  let d := (s.region region).dirSlot
  let dead := deadFilter s (stampOf s (dirKey sl d (8 * line) / 8))
  if dead.isEmpty then s
  else
    forAll (List.range 8) (fun j s =>
      let i := 8 * line + j
      let v := s.dir.get (dirKey sl d i)
      let (st, p) := dirDecode v
      let (st', p', lost) := filterEntry dead st p
      if st' = st ∧ p' = p then s
      else
        let a := dirAddr region sl i
        let s := dirWrite a st' p' s
        if lost && (almFind s a).isNone then loseLine a ((agentsOf p).headD 0) s else s) s

/-- R195: agents to which a broadcast recall of a region goes: ALIVE or DOWN with the region in their extent table. Of another
member's agents this member knows no extents, and asks each that is not dead (DEDUCED, log entry 150). -/
def recallAgents (s : State) (region : Nat) : BitVec 64 :=
  let own := slots.foldl (fun p m =>
    match hanOf s m with
    | some h => if (agentState s m = 1 ∨ agentState s m = 2) ∧ ldMaps s m (cpaOf s (region * 2 ^ 30)) then p ||| presBit h else p
    | none => p) 0
  if s.inClutch then
    (List.range 64).foldl (fun p h =>
      if s.flag (F.CLU_HAN.VALID h) && !s.flag (F.CLU_HAN.DEAD h) && s.get (F.CLU_HAN.PATH h) != s.path then p ||| presBit h else p) own
  else own

/-- R195, R199: a broadcast recall of a line enters as a request of the scrubbers' input, for the agents its `mask` names. -/
def raiseRecall (a : Nat) (s : State) : State :=
  addReq { id := 0, src := .internal, intent := .recall, addr := lineAddr a, master := 67, agent := none, input := 9, write := false
           mask := recallAgents s (regionOf (pageOf a)) } s

/-- R195, R199: a line whose backing entry is lost: it becomes an I entry. A line that the almanac holds is written from there later;
of another the agents are asked by the broadcast. -/
def recallLine (a : Nat) (s : State) : State :=
  let s := dirWrite a 0 0 s
  match almFind s a with
  | some k => { s with almanac := s.almanac.upd k (fun e => { e with dirty := true }) }
  | none => if s.reqs.any (fun x => x.intent == .recall && x.line == lineAddr a) then s else raiseRecall a s

/-- R199: a backing line is RS-uncorrectable: its 8 lines are recovered by the broadcast. -/
def loseBacking (region sl line : Nat) (s : State) : State :=
  let s := (s.log 0x31 sl (cpaOf s (dirAddr region sl (8 * line))) 0).bump F.HA_LOST_COUNT.DIR_UE
  forAll (List.range 8) (fun j s => recallLine (dirAddr region sl (8 * line + j)) s) s

/-- R276, R279: a backing line holds what its decode read of `cells`: entries and STAMP. -/
def setBacking (line : Nat) (data : List Nat) (cells : BitVec 640) (s : State) : State :=
  let s := forAll (List.range 8) (fun j s =>
    { s with dir := s.dir.set (8 * line + j) (BitVec.ofNat 64 (ofBytes ((data.drop (8 * j)).take 8))) }) s
  let s := { s with stamps := s.stamps.set line (ofBytes ((data.drop 64).take 4) + 1) }
  let at_ := backingPlace s line
  { s with dram := s.dram.set (dramKey at_.1 at_.2) (cells ^^^ backingWord s line) }

/-- R199, R279, R280: a backing line is read: decoded, and filtered for dead agents; one that cannot be corrected loses its lines. Answers
whether it could be read, and whether the RS code corrected it. -/
def readBacking (region sl line : Nat) (s : State) : Bool × Bool × State :=
  let k := dirKey sl (s.region region).dirSlot (8 * line) / 8
  let at_ := backingPlace s k
  if s.dram.get (dramKey at_.1 at_.2) = 0 then (true, false, filterBacking region sl line s)
  else
    let cells := backingWord s k ^^^ s.dram.get (dramKey at_.1 at_.2)
    let (o, s) := dramDecode at_.1 at_.2 cells (lineMark s at_.1 at_.2) none s
    match o.data with
    | none => (false, false, loseBacking region sl line s)
    | some d =>
      let s := if d = (symbols (backingWord s k)).take 70 then s else setBacking k d cells s
      let s := scheduleFix at_.1 at_.2 { o with fixed := o.fixed.map (· ^^^ backingWord s k) } s
      (true, true, filterBacking region sl line s)

/-- R301: a backing line that its read has changed is written back. -/
def chargeBacking (before s : State) : State := if s.dir = before.dir then s else chargeInternal 67 1 s

/-- R199, R301: what the fetch of a backing line does before its entry is used. -/
def fetchBacking (region sl line : Nat) (s : State) : State :=
  let s := chargeInternal 67 1 s
  chargeBacking s (readBacking region sl line s).2.2

/-- The presented address of the line of an almanac entry. -/
def almAddr (s : State) (k : Nat) : Nat :=
  let set := k / 16 % 2 ^ 14
  pageAt (k / 2 ^ 18) (set / 64 + (s.almanac.get k).tag * 2 ^ 8) * 4096 + set % 64 * 64

/-- A way of the almanac becomes free. -/
def almFree (k : Nat) (s : State) : State :=
  let sl := k / 2 ^ 18
  let s := if (s.almanac.get k).valid then s.put (F.HA_SLICE_STATUS.ENTRIES sl) (s.get (F.HA_SLICE_STATUS.ENTRIES sl) - 1) else s
  { s with almanac := s.almanac.set k {} }

/-- R194, R199: an entry leaves the almanac; a DIRTY one is written to the backing directory first, in its backing line as the dead
agents' filter leaves it. -/
def almEvict (k : Nat) (s : State) : State :=
  let e := s.almanac.get k
  let a := almAddr s k
  let s := if e.valid && e.dirty then
      dirWrite a e.state e.presence
        (fetchBacking (regionOf (pageOf a)) (k / 2 ^ 18) (dirIndex a / 8) s)
    else s
  almFree k s

/-- R75, R196: no way of the almanac holds a line of a region any more. -/
def dropAlmanac (region : Nat) (s : State) : State :=
  forAll (s.almanac.cells.filter (fun c => c.2.valid && regionOf (pageOf (almAddr s c.1)) == region)) (fun c s => almFree c.1 s) s

/-- The ways of a line's set. -/
def almWays (a : Nat) : List Nat := (List.range 16).map (almKey (sliceOf a) (almSet a))

/-- R194, R207: the way a new entry of a line may take: a free one that no request keeps, else the least recently used with PINS 0. -/
def almVictim (s : State) (a : Nat) : Option Nat :=
  match (almWays a).find? (fun k => !(s.almanac.get k).valid && (s.almanac.get k).kept == 0) with
  | some k => some k
  | none =>
    argMax (fun k => s.useCtr + 1 - (s.almanac.get k).used)
      ((almWays a).filter (fun k => (s.almanac.get k).valid && (s.almanac.get k).pins == 0))

/-- R207: whether a request waits for a way of a line's set. -/
def setWaits (s : State) (a : Nat) : Bool :=
  s.reqs.any (fun x => x.stage == .pinWait && sliceOf x.addr == sliceOf a && almSet x.addr == almSet a)

/-- R194, R207: the way that a miss may take at once: none while others wait for a way of the set. -/
def freeWay (s : State) (a : Nat) : Option Nat := if setWaits s a then none else almVictim s a

/-- R194, R207: a request keeps a way for the entry it fetches. -/
def keepWay (r : Req) (k : Nat) (s : State) : State :=
  let s := almEvict k s
  { s with almanac := s.almanac.set k { kept := r.id + 1 } }

/-- The way a request keeps. -/
def keptWay (s : State) (r : Req) : Option Nat := (almWays r.addr).find? (fun k => (s.almanac.get k).kept == r.id + 1)

/-- A request keeps no way any more. -/
def dropWay (r : Req) (s : State) : State :=
  match keptWay s r with
  | some k => { s with almanac := s.almanac.set k {} }
  | none => s

/-- R201: PINS of an entry changes with a tracker. -/
def almPin (k : Nat) (up : Bool) (s : State) : State :=
  { s with almanac := s.almanac.upd k (fun e => { e with pins := if up then e.pins + 1 else e.pins - 1 }) }

/-- R207: the way whose PINS has fallen to 0 goes to the oldest waiter of its set that keeps none and whose line has no entry. -/
def giveWay (k : Nat) (s : State) : State :=
  match s.reqs.find? (fun x => x.stage == .pinWait && (keptWay s x).isNone && (almFind s x.addr).isNone
      && almKey (sliceOf x.addr) (almSet x.addr) 0 == k / 16 * 16) with
  | some w => keepWay w k s
  | none => s

/-- R201, R207: a pin of an entry ends. -/
def almUnpin (k : Nat) (s : State) : State :=
  let s := almPin k false s
  if (s.almanac.get k).pins = 0 then giveWay k s else s

/-- Trackers in use at a slice. -/
def trackers (s : State) (sl : Nat) : Nat := s.get (F.HA_SLICE_STATUS.TRACKERS sl)

/-! ### Finishing a request -/

/-- R201: the tracker of a finished request is released, and the pin of its entry, which a request has once its entry is there. -/
def freeTracker (r : Req) (s : State) : State :=
  if !r.tracker then s
  else
    let sl := sliceOf r.addr
    let s := if r.intent == .recall then s else s.put (F.HA_SLICE_STATUS.TRACKERS sl) (trackers s sl - 1)
    if r.stage == .backing || r.stage == .pinWait then dropWay r s
    else
      match almFind s r.addr with
      | some k => almUnpin k s
      | none => s

/-- The request is answered and leaves; its line's next transaction opens in `settle`. One whose segment's later sectors are still
read stays for them, answered (R23). -/
def finish (r : Req) (d : Option (BitVec 512)) (s : State) : State :=
  let s := freeTracker r (replyTo r d r.grant s)
  if r.stage == .decode && r.units.any (fun u => !u.got) then
    setReq { r with stage := .done, src := .internal, agent := none, tracker := false, opened := false, throttled := false } s
  else dropReq r.id s

/-- R22, R161, R103: the data of a read has come. A read that missed the near cache and the write buffer and is whole may fill the
near cache. -/
def finishRead (r : Req) (d : Option (BitVec 512)) (fromStorage : Bool) (s : State) : State :=
  let s := match d with
    | some v => if fromStorage && fillsNear s r && (wbLine s r.addr).isNone then nearFill r.addr v (ownerOf r) s else s
    | none => s
  finish r d s

/-- R22 steps 3 to 5: a read whose metadata is at hand. -/
def serveRead (r : Req) (s : State) : State :=
  let s := if isHost r && !r.heat then heatUpdate r.page 1 s else s
  let r := { r with heat := true }
  let plan := planRead s r.addr
  let s := match nearFind s r.addr with
    | some k => let (u, s) := s.stamp
                { s with near := s.near.upd (nearKey r.addr k) (fun e => { e with used := u }) }.count 0x303 (sliceOf r.addr)
    | none => s.count 0x304 (sliceOf r.addr)
  match plan with
  | .wait => setReq { r with stage := .storage } s
  | .line d => finishRead r d (nearFind s r.addr).isNone (if isHost r then readPromote r.page s else s)
  | .units u seg code =>
    let s := takeKeystream { r with units := u, seg, code, charge := readCharge plan } s
    if isHost r then readPromote r.page s else s
  | .peer seg =>
    let (ok, s) := originate (mkMsg 0x05 (pageMember s r.page) (arg := pageSpillSlot s r.page) (seg := seg))
      (.spillRead r.id seg) s
    if ok then
      let s := setReq { r with stage := .peer, seg } s
      if isHost r then readPromote r.page s else s
    else finish r none s

/-- R301: tokens of a write. -/
def writeCharge (s : State) (r : Req) : Nat :=
  if (wbLine s r.addr).isSome then 0
  else if r.mask = BitVec.allOnes 64 || pageKind s r.page != 1 then 1 else 2

/-- R26 step 5: an admitted write enters the buffer and is completed, or waits for room. -/
def acceptWrite (r : Req) (s : State) : State :=
  if (wbLine s r.addr).isSome || wbRoom s (sliceOf r.addr) then finish r none (placeWrite r false s)
  else setReq { r with stage := .bufferFull } s

/-- R213, R257: whether a request is a poison marker or the data of a remote agent's answer to a snoop, and no agent's access. -/
def homeWrites (r : Req) : Bool := r.src == .internal && decide (4 ≤ r.input)

/-- R26 steps 3 and 4: a write whose metadata is at hand waits for admission; one that replaces a buffered line, or is
discarded, needs none. The home's own are placed at once. -/
def serveWrite (r : Req) (s : State) : State :=
  let n := writeCharge s r
  if homeWrites r then finish r none (chargedWrite r false s)
  else if n = 0 || pageKind s r.page = 4 || zeroized s (keyGen s r.page).1 then finish r none (placeWrite r false s)
  else
    let s := joinWait r.master s
    setReq { r with stage := .admission, charge := n, write := true } s

/-- R22 step 3, R168, R172: a request goes on where its page's metadata is at hand, waits for it, or fails with it. -/
def serveData (r : Req) (s : State) : State :=
  if metaLost s r.addr then
    finish r none s
  else if !metaReady s r.page then setReq { r with stage := .metaWait } s
  else
    let s := touchPage r.page s
    if isWrite r.intent then serveWrite r s else serveRead r s

/-! ### Snoops -/

/-- R204: whether an intent asks for a grant of the line. -/
def asksGrant : Intent → Bool
  | .readS => true
  | .readA => true
  | .invA => true
  | .downS => true
  | _ => false

/-- R257: whether a request of an agent for a line of another home is open that may be granted. -/
def grantOpen (s : State) (han line : Nat) : Bool :=
  s.reqs.any (fun r => r.stage == .away && r.agent == some han && r.line == line && asksGrant r.intent)

/-- R257: a PRIOR snoop for another home waits while the agent's granting completion has not come (DEDUCED, log entry 163). -/
def awaitsGrant (s : State) (n : Snoop) : Bool := n.prior && n.home.isSome && grantOpen s n.han n.addr

/-- R68: whether a snoop of the same agent that was issued before waits to be sent again. -/
def heldBefore (s : State) (n : Snoop) : Bool :=
  s.snoops.any (fun x => x.han == n.han && !x.remote && !x.sent && match x.issued, n.issued with
    | some a, some b => decide (a < b)
    | some _, none => true
    | _, _ => false)

/-- R54: whether a snoop can leave now: its writeback line is reserved, the agent's link is up with a credit, and no
older snoop of that agent is held. -/
def trySnoop (n : Snoop) (s : State) : State :=
  if n.sent then s
  else
    let sl := sliceOf n.addr
    if n.toOwner && !n.wbReserved && decide (16 ≤ reservedUsed s sl) then s
    else
      let n1 := { n with wbReserved := n.wbReserved || n.toOwner }
      let upd (n' : Snoop) (s : State) : State :=
        { s with snoops := s.snoops.map (fun x => if x.req == n.req && x.han == n.han then n' else x) }
      let cpa := if n.home.isSome then n.addr else cpaOf s n.addr
      if awaitsGrant s n || heldBefore s n then s
      else if n.remote then
        let op := if n.inv then 0x41 else 0x42
        (originate (mkMsg op (s.get (F.CLU_HAN.PATH n.han)) (han := n.han) (code := bit n.prior) (addr := cpa))
          (.snoop n.req n.han) (upd { n1 with sent := true } s)).2
      else
        match slotOfHan s n.han with
        | none => upd n1 s
        | some m =>
          let l := linkOfSlot m
          if agentState s m == 2 || agentState s m == 3 then upd { n1 with held := true } s
          else if (s.links.get l).credits = 0 then upd n1 s
          else
            let s := { s with links := s.links.upd l (fun x => { x with credits := x.credits - 1 }) }
            let n2 := { n1 with sent := true, held := false, issued := some (n.issued.getD s.useCtr) }
            ((upd n2 { s with useCtr := s.useCtr + 1 }).emit (.bisnp m n.inv cpa)).count 0x103 m

/-- R54, R68: every snoop that waits is tried again, oldest first; those issued before go first, as they were issued (`trySnoop`
holds the others back), so they are tried once more. -/
def retrySnoops (s : State) : State :=
  let waiting (s : State) : List Snoop := s.snoops.filter (fun n => !n.sent)
  let again := (waiting s).filter (fun n => n.issued.isSome)
  let s := forAll again (fun _ s => forAll ((waiting s).filter (fun n => n.issued.isSome)) trySnoop s) s
  forAll (waiting s) trySnoop s

/-- R204: the agents a transaction snoops, and whether with BISnpInv. -/
def snoopPlan (e : AlmEnt) (i : Intent) (r : Option Nat) : List Nat × Bool :=
  let others := agentsOf e.presence |>.filter (fun h => some h != r)
  let owned := e.state == 2
  match i with
  | .readS => (if owned then others else [], false)
  | .readNC => (if owned then others else [], false)
  | .downS => (if owned then others else [], false)
  | .readA => (others, true)
  | .invA => (others, true)
  | .wrNC => (agentsOf e.presence, true)
  | .recall => ([], true)
  | _ => ([], true)

/-- R192: the intent a transaction has when it opens: a write is the E holder's WB or a WR_NC. -/
def openIntent (e : AlmEnt) (r : Req) : Intent :=
  match r.intent with
  | .wb k => if ownerIn e == r.agent && r.agent.isSome then .wb k else .wrNC
  | i => i

/-- R195: whether a recall of the line still asks an agent: it waits for its tracker, or for the agent's answer. -/
def recalling (s : State) (h line : Nat) : Bool :=
  s.reqs.any (fun x => x.intent == .recall && x.line == line && x.mask.getLsbD h &&
    (!x.opened || s.snoops.any (fun n => n.req == x.id && n.han == h)))

/-- R195, R202: whether a write's agent is the line's owner: its holder in E, or an agent that a broadcast recall still
asks. -/
def ownsLine (s : State) (e : AlmEnt) (r : Req) : Bool :=
  r.agent.any (fun h => ownerIn e == some h || recalling s h r.line)

/-- R199, R202: whether the holder in E that a line's backing entry names is the writer. -/
def ownsBacking (s : State) (r : Req) : Bool :=
  let k := dirKeyOf s r.addr
  let (st, p) := dirDecode (s.dir.get k)
  r.agent.any (fun h => st == 2 && p.getLsbD h && !(deadFilter s (stampOf s (k / 8))).contains h)

/-- R204: the entry after a transaction's snoops are answered, and the grant: 0 none, 1 S, 2 E. -/
def applyTable (e : AlmEnt) (i : Intent) (r : Option Nat) : Nat × BitVec 64 × Nat :=
  let b := match r with | some h => presBit h | none => 0
  match i with
  | .readS => if ownerIn e == r && r.isSome then (1, b, 1) else (if r.isSome then 1 else e.state, e.presence ||| b, 1)
  | .downS => if ownerIn e == r && r.isSome then (1, b, 1) else (if r.isSome then 1 else e.state, e.presence ||| b, 1)
  | .readA => (2, b, 2)
  | .invA => (2, b, 2)
  | .evict =>
    if e.state = 1 then
      let p := e.presence &&& ~~~ b
      (if p = 0 then 0 else 1, p, 0)
    else if ownerIn e == r && r.isSome then (0, 0, 0)
    else (e.state, e.presence, 0)
  | .wb k => (if k = 0 then 0 else if k = 1 then 1 else 2, if k = 0 then 0 else b, 0)
  | .wrNC => (0, 0, 0)
  | .recall => (0, 0, 0)
  | _ => (e.state, e.presence, 0)

/-- R204: the row of a transaction is applied, once every snoop is answered; data and writes then go on. -/
def applyTx (r : Req) (k : Nat) (s : State) : State :=
  let (st, p, g) := applyTable (s.almanac.get k) r.intent r.agent
  let s := almPut k st p s
  let r := { r with grant := g }
  match r.intent with
  | .unknown _ => finish r none s
  | i => if wantsData i || isWrite i then serveData r (setReq r s) else finish r none s

/-- R195, R212: the agents that an opening recall still asks: one that has died since it was raised is as good as answered BIRspI. -/
def recallTargets (s : State) (mask : BitVec 64) : List Nat :=
  (agentsOf mask).filter (fun h => slice (s.get F.HA_RECLAIM_SET.SET) h 1 == 0 &&
    match slotOfHan s h with
    | some m => agentState s m == 1 || agentState s m == 2
    | none => s.flag (F.CLU_HAN.VALID h) && !s.flag (F.CLU_HAN.DEAD h))

/-- R206, R257: whether the home has issued an agent's completion for the line: the directory has the agent, or forgot who it has
(R195), and no request of the agent for the line is still to be answered. -/
def grantIssued (s : State) (e : AlmEnt) (i : Intent) (h line : Nat) : Bool :=
  (e.presence.getLsbD h || i == .recall) && !s.reqs.any (fun x => x.agent == some h && x.line == line && asksGrant x.intent)

/-- R212, R213: an entry that a transaction meets with agents under reclamation in it: a snoop to them is as good as answered BIRspI,
and a line that one of them held in E is lost. -/
def filterOpen (k : Nat) (s : State) : State :=
  let dead := (List.range 64).filter (fun h => slice (s.get F.HA_RECLAIM_SET.SET) h 1 == 1)
  let e := s.almanac.get k
  let (st, p, lost) := filterEntry dead e.state e.presence
  almPut k st p (if lost then loseLine (almAddr s k) ((agentsOf e.presence).headD 0) s else s)

/-- R201, R204: a transaction opens on its line: its snoops are sent, and its row applied if there are none. A recall asks the agents
it was raised for (R195). -/
def openTx (r : Req) (k : Nat) (s : State) : State :=
  let s := filterOpen k s
  let e := s.almanac.get k
  let i := openIntent e r
  let (targets, inv) := if i == .recall then (recallTargets s r.mask, true) else snoopPlan e i r.agent
  let r := { r with intent := i, opened := true, stage := .snoop, snoops := targets.length, absent := e.presence == 0 }
  let s := setReq r (almTouch k s)
  if targets.isEmpty then applyTx r k s
  else
    let new := targets.map (fun h =>
      ({ req := r.id, han := h, inv, addr := r.line, toOwner := e.state == 2 || i == .recall
         remote := s.inClutch && s.get (F.CLU_HAN.PATH h) != s.path && s.flag (F.CLU_HAN.VALID h)
         prior := grantIssued s e i h r.line } : Snoop))
    retrySnoops { s with snoops := s.snoops ++ new }

/-- R201: an earlier request of the line still waits for its entry. -/
def entryAwaited (s : State) (r : Req) : Bool :=
  (s.reqs.takeWhile (fun x => x.id != r.id)).any (fun x => (x.stage == .backing || x.stage == .pinWait) && x.line == r.line)

/-- R195: a broadcast recall of the line is still to open. Until it ends, the line is held by whoever it asks, and no other request of
the line opens. -/
def recallDue (s : State) (line : Nat) : Bool := s.reqs.any (fun x => x.intent == .recall && !x.opened && x.line == line)

/-- R195, R201: whether a request's turn on its line has come, once no transaction of the line is open. -/
def lineTurn (s : State) (r : Req) : Bool := r.intent == .recall || (!recallDue s r.line && !entryAwaited s r)

/-- R201: the first waiter of a line queue whose line has no open transaction. -/
def nextWaiter (s : State) : Option Req :=
  s.reqs.find? (fun r => r.stage == .lineQueue && lineTurn s r && !s.reqs.any (fun x => x.opened && x.line == r.line))

/-- R201: waiters of line queues open as the transactions before them end, at most `fuel` of them. -/
def settleLines : Nat → State → State
  | 0, s => s
  | fuel + 1, s =>
    match nextWaiter s with
    | none => s
    | some r =>
      match almFind s r.addr with
      | some k => settleLines fuel (openTx r k s)
      | none => s

/-! ### Private regions -/

/-- R190: what a private region grants: whatever is asked for. -/
def privateGrant : Intent → Nat
  | .readA => 2
  | .invA => 2
  | .readS => 1
  | .downS => 1
  | _ => 0

/-- Whether a request is in service at its slice. -/
def inService (r : Req) : Bool :=
  [Stage.order, .metaWait, .storage, .bufferFull, .keystream, .admission, .dram, .decode, .peer].contains r.stage

/-- R37: whether an earlier request of the line is in service, and one of the two writes. Requests stand in the order in which
their slice accepted them. -/
def heldBack (s : State) (r : Req) : Bool :=
  (s.reqs.takeWhile (fun x => x.id != r.id)).any (fun x => inService x && x.line == r.line && (isWrite x.intent || isWrite r.intent))

/-- R37, R190, R209: a request served as in a private region, in the order of its line. -/
def servePrivate (r : Req) (s : State) : State :=
  let r := { r with grant := privateGrant r.intent }
  match r.intent with
  | .unknown _ => finish r none s
  | i =>
    if wantsData i || isWrite i then (if heldBack s r then setReq { r with stage := .order } s else serveData r s)
    else finish r none s

/-- R37: requests that waited behind an earlier one of their line go on. -/
def resumeOrder (s : State) : State :=
  forAll (s.reqs.filter (fun r => r.stage == .order)) (fun r s => if heldBack s r then s else servePrivate r s) s

/-- R169: reads that waited for keystream entries take them as they come free. -/
def resumeKeystreams (s : State) : State :=
  forAll (s.reqs.filter (fun r => r.stage == .keystream)) takeKeystream s

/-- Line queues, reads without keystream entries and writes that wait for the write queues go on after a request ended. -/
def settle (s : State) : State := pushWrites (resumeKeystreams (resumeOrder (settleLines (s.reqs.length + 1) s)))

/-- R201: a request whose entry is pinned opens its transaction or joins the line queue. -/
def joinLine (r : Req) (k : Nat) (s : State) : State :=
  let before (x : Req) : Bool := x.opened || (x.stage == .lineQueue && r.intent != .recall)
  if !lineTurn s r || s.reqs.any (fun x => x.id != r.id && before x && x.line == r.line) then
    setReq { r with stage := .lineQueue } s
  else openTx r k s

/-- R205: an agent's answer to a snoop: `keep` leaves its bit in S. -/
def answerSnoop (req han : Nat) (keep : Bool) (s : State) : State :=
  match s.snoops.find? (fun n => n.req == req && n.han == han) with
  | none => s
  | some n =>
    let s := { s with snoops := s.snoops.filter (fun x => !(x.req == req && x.han == han)) }
    let s := match almFind s n.addr with
      | none => s
      | some k =>
        let e := s.almanac.get k
        if e.presence.getLsbD han then
          if keep then almPut k 1 e.presence s
          else
            let p := e.presence &&& ~~~ presBit han
            almPut k (if p = 0 then 0 else 1) p s
        else s
    match almFind s n.addr, reqAt s req with
    | some k, some r =>
      let r := { r with snoops := r.snoops - 1 }
      let s := retrySnoops (setReq r s)
      if r.snoops = 0 then applyTx r k s else s
    | _, _ => retrySnoops s

/-! ### Shared regions -/

/-- R194: the entry of a line is installed in a way, from its backing entry, pinned by the request. -/
def installEntry (r : Req) (k : Nat) (s : State) : State :=
  let (st, p) := dirDecode (s.dir.get (dirKeyOf s r.addr))
  let (u, s) := s.stamp
  let e : AlmEnt := { valid := true, tag := almTag r.addr, state := st, presence := p, dirty := false, pins := 1, used := u }
  let s := { s with almanac := s.almanac.set k e }
  s.bump (F.HA_SLICE_STATUS.ENTRIES (sliceOf r.addr))

/-- R194, R201, R207: a shared-region request that holds a tracker looks its entry up: a hit joins the line, a miss
takes a way and reads the backing line, and with every way pinned it waits. -/
def lookup (r : Req) (s : State) : State :=
  match almFind s r.addr with
  | some k => joinLine r k (almPin k true (setReq r (s.count 0x301 (sliceOf r.addr))))
  | none =>
    let s := s.count 0x302 (sliceOf r.addr)
    match freeWay s r.addr with
    | some k => setReq { r with stage := .backing } (keepWay r k s)
    | none =>
      ((setReq { r with stage := .pinWait, since := s.now } s).bump F.HA_PIN_STALL.COUNT).count 0x307 (sliceOf r.addr)

/-- R201: a shared-region request takes a tracker. A broadcast recall takes none of the 256 (DESIGN CHOICE, log entry 184). -/
def takeTracker (r : Req) (s : State) : State :=
  let sl := sliceOf r.addr
  lookup { r with tracker := true } (if r.intent == .recall then s else s.put (F.HA_SLICE_STATUS.TRACKERS sl) (trackers s sl + 1))

/-! ### Leased regions -/

/-- R209, R210: a request that a lease denies. -/
def denyLease (code : Nat) (r : Req) (s : State) : State :=
  finish r none (s.logAs 3 3 code (sliceOf r.addr) (cpaOf s r.addr) (r.agent.getD 0))

/-- R209, R258: the lease-break event goes to the holder's LD; where another member serves it, that member delivers it (the message
that asks it to is not stated, log entry 185). -/
def leaseBreakEvent (region holder : Nat) (s : State) : State :=
  let s := s.log 0x90 0 (cpaOf s (region * 2 ^ 30)) holder
  match slotOfHan s holder with
  | some m => eventTo m { kind := .deviceWide, code := 0x90, dpa := 0, detail := cpaOf s (region * 2 ^ 30) } s
  | none =>
    if s.flag (F.CLU_HAN.VALID holder) && s.get (F.CLU_HAN.PATH holder) != s.path then
      s.emit (.memberEvent (s.get (F.CLU_HAN.PATH holder)) holder 0x90 (cpaOf s (region * 2 ^ 30)))
    else s

/-- R209: a request to a leased region. -/
def serveLeased (r : Req) (s : State) : State :=
  let n := regionOf r.page
  let d := s.region n
  if d.lease = 3 then denyLease 0x33 r s
  else if d.lease = 0 then setReq { r with stage := .lease } s
  else if r.agent == some d.holder then servePrivate r s
  else
    let s := setReq { r with stage := .lease } s
    if d.lease = 1 then
      let s := s.writeRegion n (fun d => { d with
        lease := 2, breaker := r.agent.getD 0, breakTb := s.now, breakMs := s.get F.HA_CTRL.LEASE_MS })
      leaseBreakEvent n d.holder s
    else s

/-- R209: a management ring's operation that meets a lease stops with REFUSED. -/
def refuseOp (ring slot : Nat) (s : State) : State :=
  match opAt s ring slot with
  | some o => if o.status.isNone then endOp ring slot 0x0B o.resultLen s else s
  | none => s

/-- R209: a request of another member's management ring that meets a lease is answered REFUSED, and stops that ring's operation. -/
def refusePeer (r : Req) (s : State) : State :=
  match r.src with
  | .peer port tag member => dropReq r.id (sendCmp port tag member 0x0B 0 0 (if r.write then [] else [lineBeat none]) s)
  | _ => finish r none s

/-- R190: an accepted request is dispatched by its region's class; a management ring, which has no agent, as log entry 175 says
(DESIGN CHOICE). -/
def dispatchReq (r : Req) (s : State) : State :=
  let d := s.region (regionOf r.page)
  if fenced s && isHost r && r.write then finish r none (s.log 0x12 (reqInstance r) (cpaOf s r.addr))
  else if s.inFatal || fenced s || (match r.intent with | .unknown _ => true | _ => false) then finish r none s
  else if d.state != 1 then finish r none s
  else if d.cls = 1 then takeTracker r s
  else if d.cls = 2 then
    match r.src with
    | .internal => if r.agent.isNone && d.lease != 3 then servePrivate r s else serveLeased r s
    | .mover ring slot _ _ =>
      if r.agent.isSome || d.lease == 3 then serveLeased r s
      else if d.lease = 0 then servePrivate r s
      else finish r none (refuseOp ring slot s)
    | .fetch _ _ => if r.agent.isNone && d.lease != 3 then servePrivate r s else serveLeased r s
    | .peer _ _ _ =>
      if r.agent.isSome || d.lease == 3 then serveLeased r s
      else if d.lease = 0 then servePrivate r s
      else refusePeer r s
    | _ => serveLeased r s
  else servePrivate r s

/-- R210: waiting requests of a region are dispatched again after its lease changed. -/
def resumeLease (region : Nat) (s : State) : State :=
  forAll (s.reqs.filter (fun r => r.stage == .lease && regionOf r.page == region)) (fun r s =>
    match reqAt s r.id with
    | some r => serveLeased r s
    | none => s) s

/-! ### Requests that wait for storage, data or buffer room -/

/-- R27, R175: reads that waited for a buffered line, and writes that waited for room, go on. -/
def resumeSlice (sl : Nat) (s : State) : State :=
  let s := forAll (s.reqs.filter (fun r => r.stage == .bufferFull && sliceOf r.addr == sl)) (fun r s =>
    if wbRoom s sl then acceptWrite r s else s) s
  forAll (s.reqs.filter (fun r => r.stage == .storage && sliceOf r.addr == sl)) (fun r s =>
    match reqAt s r.id with
    | some r => serveRead r s
    | none => s) s

end Sys2Proof.Machine
end

