-- ==== Sys2Proof/Machine/Requests.lean ====
section
/-!
DEFINITION. The commands of the host's CXL.mem interface and of the home slices: requests as they arrive (R47, R48,
R64, R192, R248), arbitration (R203), the fetches of directory and metadata lines (R168, R194, R199), merges and the
write buffer's drain (R27, R175), moves reaching their commit (R87), snoop answers (R205, R206) and credits (R54).
-/

namespace Sys2Proof.Machine

/-! ### From a host address to a presented address -/

/-- R48: the DPA a committed HDM decoder gives a host address (the interleave arithmetic of the standard, PRESUMED, log
entry 21). -/
def hdmDpa (d : Hdm) (hpa : Nat) : Option Nat :=
  if d.committed && decide (d.base ≤ hpa) && decide (hpa < d.base + d.size) then
    let off := hpa - d.base
    some (d.dpa + off / (d.gran * d.ways) * d.gran + off % d.gran)
  else none

/-- R47, R48: the CPA of a host address of an LD, none where it is unbacked. -/
def mapHpa (s : State) (slot hpa : Nat) : Option Nat :=
  let l := s.lds.get slot
  match l.hdm.findSome? (fun d => hdmDpa d hpa) with
  | none => none
  | some dpa => (extentAt l dpa).map (fun e => e.base + (dpa - e.dpa))

/-- R47, R53, R247: whether a CPA that an LD maps is backed: its home is a member of the roster, it lies within that member's
presented regions, as its HELLO says, and a shared or leased region needs the LD's host agent number. -/
def backed (s : State) (slot cpa : Nat) : Bool :=
  let home := homePath s cpa
  let own := home == s.path
  let known := match s.clu.hellos.find? (fun h => h.path == home) with
    | some h => decide (regionOf (pageOf (homeAddr s cpa)) < h.presented)
    | none => true
  if !own then slice (s.get F.CLU_ROSTER.MAP) home 1 == 1 && known && (!mapsShared s slot cpa || (hanOf s slot).isSome)
  else
    let r := regionOf (pageOf (homeAddr s cpa))
    decide (r < s.presented) && ((s.region r).cls == 0 || (hanOf s slot).isSome)

/-- R64: the stream tag of a request. -/
def streamOf (s : State) (slot tag : Nat) : Nat := tag / 2 ^ (16 - s.get (F.AQ_STREAM_CTRL.STREAM_BITS slot))

/-- R300: the master of a host's requests. -/
def hostMaster (s : State) (slot : Nat) : Nat := (hanOf s slot).getD 70

/-- R235: CODE of an intent. -/
def intentCode : Intent → Nat
  | .readS => 1
  | .readA => 2
  | .readNC => 3
  | .invA => 4
  | .downS => 5
  | .evict => 6
  | .wb k => 7 + k
  | .wrNC => 10
  | _ => 3

/-- R235, R248: the intent that a request of an LD to another member carries: an LD without a host agent number maps only private
regions, where every read and write is a plain one. -/
def sentIntent (r : Req) : Intent :=
  if r.agent.isSome then r.intent else if isWrite r.intent then .wrNC else .readNC

/-- R235: the intent a CODE names. -/
def codeIntent (c : Nat) : Intent :=
  if c = 1 then .readS else if c = 2 then .readA else if c = 4 then .invA else if c = 5 then .downS
  else if c = 6 then .evict else if c = 7 then .wb 0 else if c = 8 then .wb 1 else if c = 9 then .wb 2
  else if c = 10 then .wrNC else .readNC

/-- A host's request with nothing known of its home yet. -/
def hostReq (s : State) (slot tag : Nat) (i : Intent) (d : BitVec 512) (mask : BitVec 64) (poison : Bool) : Req :=
  { id := 0, src := .host slot tag (streamOf s slot tag), intent := i, addr := 0, master := hostMaster s slot
    agent := hanOf s slot, input := slot / 16, write := isWrite i, data := d, mask, poison, born := s.now }

/-- R104: the hint of a write of a non-caching LD. -/
def ldHint (s : State) (slot : Nat) : Option Nat :=
  let h := s.get (F.TIER_NC_HINT.HAN slot)
  if (hanOf s slot).isNone && s.flag (F.TIER_NC_HINT.VALID slot) && hanAlive s h then some h else none

/-- R41, R65: lane group of a host link by its port's bifurcation, in lanes; 0 where the link does not exist. -/
def laneGroup (s : State) (l : Nat) : Nat :=
  let b := (s.ports.get (l / 4)).bifurc
  if b = 0 then (if l % 4 = 0 then 16 else 0)
  else if b = 1 then (if l % 2 = 0 then 8 else 0)
  else if b = 2 then 4 else 0

/-- R65: whether the link's ingress entries of a request's kind are all in use. A host then has no credit to send. -/
def ingressFull (s : State) (slot : Nat) (write : Bool) : Bool :=
  let l := linkOfSlot slot
  let here (r : Req) : Bool := match r.src with
    | .host m _ _ => linkOfSlot m == l && (r.stage == .arrived || r.stage == .bufferFull) && r.write == write
    | _ => false
  decide (32 * laneGroup s l ≤ (s.reqs.filter here).length + (s.ingress.filter (fun x => here x.2.2)).length)

/-- R192: HOST_PROTOCOL, with the HAN in DETAIL. -/
def logProtocol (slot : Nat) (s : State) : State :=
  s.log 0x11 slot 0 (s.get (F.HP_HAN_MAP.HAN slot))

/-- R257: the snoop for another home that an agent's writeback of a whole line meets, once the agent has it: its answer carries the
data. -/
def writtenBackTo (r : Req) (line : Nat) (s : State) : Option Snoop :=
  match r.intent with
  | .wb _ =>
    if r.mask = BitVec.allOnes 64 then
      s.snoops.find? (fun n => n.sent && n.home.isSome && some n.han == r.agent && n.addr == line)
    else none
  | _ => none

/-- R257: the writeback is kept for the answer. -/
def keepForHome (n : Snoop) (r : Req) (s : State) : State :=
  { s with snoops := s.snoops.map (fun x => if x.req == n.req then { x with data := some (r.data, r.poison) } else x) }

/-- R47, R70, R248, R265, R433: a host request is received at its port: answered at once where it is unbacked or not
served, sent to its home member, or queued for its home slice. What was received before a drop is carried out (R67). -/
def route (slot hpa : Nat) (r : Req) (s : State) : State :=
  if let .unknown _ := r.intent then replyTo r none 0 (logProtocol slot s)
  else if s.inFatal then replyTo r none 0 s
  else if fenced s || !(agentState s slot == 1 || (r.muted && agentState s slot == 2)) then replyTo r none 0 (s.log 0x12 slot)
  else
    match mapHpa s slot hpa with
    | none => replyTo r none 0 (s.log 0x12 slot)
    | some cpa =>
      if !backed s slot cpa then replyTo r none 0 (s.log 0x12 slot (lineAddr cpa))
      else if homePath s cpa = s.path then
        addReq { r with addr := lineAddr (homeAddr s cpa), hint := if r.write then ldHint s slot else none } s
      else if r.agent.isNone && !r.write && !wantsData r.intent then replyTo r none 0 s
      else
        match writtenBackTo r (lineAddr cpa) s with
        | some n => replyTo r none 0 (keepForHome n r s)
        | none =>
          let hint := if r.write then ldHint s slot else none
          let op := if !r.write then 0x01 else if r.mask = BitVec.allOnes 64 then 0x02 else 0x03
          let m := mkMsg op (homePath s cpa) (flags := bit hint.isSome) (han := msgHan s hint r.agent)
            (code := intentCode (sentIntent r)) (addr := lineAddr cpa) (mask := r.mask)
            (beats := if r.write then [{ data := r.data, poison := r.poison, scode := 0 }] else [])
          let id := s.nextId
          let (ok, s) := originate m (if r.write then .write id else .read id)
            (addReq { r with addr := lineAddr cpa, stage := .away } s)
          if ok then s else dropReq id (replyTo r none 0 (s.log 0x12 slot (lineAddr cpa)))

/-- R378: whether the host ports have stopped: a request then waits in ingress, and is a wake. -/
def portsStopped (s : State) : Bool := s.asleep || (match s.pwr.sleep with | some x => decide (2 ≤ x.block) | none => false)

/-- R22, R26, R376, R381: a host request is received at its port. A host whose link is not up, or that has no credit, cannot
send it. -/
def receive (slot hpa : Nat) (r : Req) (s : State) : State :=
  if !(s.links.get (linkOfSlot slot)).up || agentState s slot = 2 || ingressFull s slot r.write then s
  else
    let s := if isWrite r.intent then s.count 0x102 slot else if wantsData r.intent then s.count 0x101 slot else s
    if portsStopped s then wakeRaw 0 { s with ingress := s.ingress ++ [(slot, hpa, r)] } else route slot hpa r (wakeRaw 0 s)

/-- R192: intent of a read by its MetaValue; MemRdData reads as S. -/
def readIntent (mv : Meta) (data : Bool) : Intent :=
  if data then .readS else match mv with | .s => .readS | .a => .readA | _ => .readNC

/-- R192, R248: intent of a write: the writeback of a caching LD, whose MetaValue says what the agent keeps. -/
def writeIntent (s : State) (slot : Nat) (mv : Meta) : Intent :=
  if (hanOf s slot).isNone then .wrNC
  else .wb (match mv with | .i => 0 | .s => 1 | _ => 2)

/-- R22: MEM_RD. -/
def execMemRd (slot : Fin 64) (tag : BitVec 16) (hpa : BitVec 64) (mv : Meta) (data : Bool) (s : State) :
    Host.Outcome State Fault Refusal :=
  .next (receive slot hpa.toNat (hostReq s slot tag.toNat (readIntent mv data) 0 0 false) s)

/-- R26: MEM_WR. -/
def execMemWr (slot : Fin 64) (tag : BitVec 16) (hpa : BitVec 64) (mv : Meta) (line : Line) (poison : Bool) (s : State) :
    Host.Outcome State Fault Refusal :=
  .next (receive slot hpa.toNat
    (hostReq s slot tag.toNat (writeIntent s slot mv) line (BitVec.allOnes 64) poison) s)

/-- R28: MEM_WR_PTL. -/
def execMemWrPtl (slot : Fin 64) (tag : BitVec 16) (hpa : BitVec 64) (mv : Meta) (line : Line) (mask : BitVec 64)
    (poison : Bool) (s : State) : Host.Outcome State Fault Refusal :=
  .next (receive slot hpa.toNat (hostReq s slot tag.toNat (writeIntent s slot mv) line mask poison) s)

/-- R192: MEM_INV (MemInv, MemInvNT); MetaField No-Op as MetaValue I (DESIGN CHOICE, log entry 174). -/
def execMemInv (slot : Fin 64) (tag : BitVec 16) (hpa : BitVec 64) (mv : Meta) (s : State) :
    Host.Outcome State Fault Refusal :=
  let i : Intent := match mv with | .a => .invA | .s => .downS | _ => .evict
  .next (receive slot hpa.toNat (hostReq s slot tag.toNat i 0 0 false) s)

/-- R192: MEM_CLN_EVCT. -/
def execMemClnEvct (slot : Fin 64) (tag : BitVec 16) (hpa : BitVec 64) (s : State) : Host.Outcome State Fault Refusal :=
  .next (receive slot hpa.toNat (hostReq s slot tag.toNat .evict 0 0 false) s)

/-- R192: MEM_SPEC_RD is ignored. -/
def execMemSpecRd (_slot : Fin 64) (_tag : BitVec 16) (_hpa : BitVec 64) (s : State) : Host.Outcome State Fault Refusal :=
  .next s

/-- R192: MEM_FWD is logged and dropped. -/
def execMemFwd (slot : Fin 64) (_tag : BitVec 16) (_hpa : BitVec 64) (s : State) : Host.Outcome State Fault Refusal :=
  .next (logProtocol slot s)

/-- R192, R480: UNKNOWN_MEM_OPCODE is logged, changes no directory state, and is answered with poison or Cmp. -/
def execUnknownMemOpcode (slot : Fin 64) (tag : BitVec 16) (_hpa : BitVec 64) (data : Bool) (s : State) :
    Host.Outcome State Fault Refusal :=
  .next (receive slot 0 (hostReq s slot tag.toNat (.unknown data) 0 0 false) s)

/-! ### The arbiter -/

/-- R37: the source of a request, as a number. -/
def sourceKey : Src → Nat
  | .host slot _ stream => slot * 2 ^ 16 + stream
  | .peer port _ _ => 2 ^ 30 + port
  | .mover ring _ _ _ => 2 ^ 31 + ring
  | .fetch ring _ => 2 ^ 31 + ring
  | .internal => 2 ^ 32

/-- R64: the heads of the source queues of a slice, in order of arrival; a read waits behind an earlier write of its own queue, held
or not (DESIGN CHOICE, log entry 169). -/
def sliceHeads (s : State) (sl : Nat) : List Req :=
  let q := s.reqs.filter (fun r => r.stage == .arrived && sliceOf r.addr == sl)
  q.filter (fun r => (q.find? (fun x => sourceKey x.src == sourceKey r.src)).map (·.id) == some r.id)

/-- R199, R202: whether a request is the writeback of its line's owner, as the almanac says or, where it has no entry of the line, the
backing directory. -/
def ownerWb (s : State) (r : Req) : Bool :=
  isWrite r.intent && (s.region (regionOf r.page)).cls == 1 &&
    match almFind s r.addr with
    | some k => ownsLine s (s.almanac.get k) r
    | none => ownsBacking s r || r.agent.any (fun h => recalling s h r.line)

/-- R202: a snoop to the owner that reserved a writeback line. -/
def ownerSnoop (s : State) (r : Req) : Option Snoop :=
  s.snoops.find? (fun n => some n.han == r.agent && n.addr == r.line && n.wbReserved && !n.wrote && n.home.isNone)

/-- R195: whether a recall of the line waits for its tracker. -/
def recallWaits (s : State) (r : Req) : Bool :=
  s.reqs.any (fun x => x.intent == .recall && x.stage == .arrived && x.id != r.id && x.line == r.line)

/-- R27, R165, R201, R202: whether the arbiter may accept a request now. Nothing passes a recall of its line that waits. -/
def acceptable (s : State) (r : Req) : Bool :=
  let sl := sliceOf r.addr
  if ownerWb s r then
    pageRoom s r.page &&
      ((ownerSnoop s r).isSome || (wbLine s r.addr).isSome || wbRoom s sl || decide (reservedUsed s sl < 16))
  else
    (!isWrite r.intent || wbRoom s sl) &&
      ((s.region (regionOf r.page)).cls != 1 || r.intent == .recall || (decide (trackers s sl < 256) && !recallWaits s r))

/-- R203: ROT. -/
def rotation (s : State) : Nat := s.transit % 11

/-- R203: place of an input in the rotation. -/
def inputPlace (s : State) (i : Nat) : Nat := (i + 11 - rotation s) % 11

/-- The first element of least measure. -/
def argMin (f : Req → Nat) : List Req → Option Req
  | [] => none
  | a :: r => match argMin f r with
    | some b => if f b < f a then some b else some a
    | none => some a

/-- R203: the request the arbiter takes. -/
def arbiterPick (s : State) (sl : Nat) : Option Req :=
  let c := (sliceHeads s sl).filter (acceptable s)
  match c.find? (ownerWb s) with
  | some r => some r
  | none => argMin (fun r => inputPlace s r.input) c

/-- R194, R202, R204: a writeback from the line's owner is applied at the clock it reaches the arbiter, to the line's almanac entry. On
a miss the entry is installed; with every way of the set pinned it does not wait, and goes to the backing entry (DESIGN CHOICE, log
entry 186). -/
def applyOwnerWb (r : Req) (s : State) : State :=
  let keep := match r.intent with | .wb n => n | _ => 0
  let b := match r.agent with | some h => presBit h | none => 0
  let p := if keep = 0 then 0 else b
  let s := match almFind s r.addr with
    | some k => almTouch k (almPut k keep p s)
    | none =>
      let s := fetchBacking (regionOf r.page) (sliceOf r.addr) (dirIndex r.addr / 8) s
      match freeWay s r.addr with
      | some k =>
        let (u, s) := (almEvict k s).stamp
        let e : AlmEnt := { valid := true, tag := almTag r.addr, state := keep, presence := p, dirty := true, pins := 0, used := u }
        { s with almanac := s.almanac.set k e }.bump (F.HA_SLICE_STATUS.ENTRIES (sliceOf r.addr))
      | none => dirWrite r.addr keep p (chargeInternal 67 1 s)
  let s := (pageFetch r.page s).2
  let reservedSnoop := ownerSnoop s r
  let reserved := reservedSnoop.isSome || ((wbLine s r.addr).isNone && !wbRoom s (sliceOf r.addr))
  let s := match reservedSnoop with
    | some n => { s with snoops := s.snoops.map (fun x => if x.req == n.req && x.han == n.han then { x with wrote := true } else x) }
    | none => s
  let s := if (wbLine s r.addr).isSome then s else chargeG r.master 1 s
  finish r none (placeWrite r reserved s)

/-- R154, R203: what a slice's arbiter takes now: nothing asleep, nor before the metadata is initialised. -/
def arbiterTakes (s : State) (sl : Nat) : Option Req := if s.asleep || !s.tier.metaReady then none else arbiterPick s sl

/-- R37, R107: an accepted write of a line is noted for the ZERO operations that are under way: the line no longer holds what such an
operation wrote, or it does again. -/
def noteWrite (r : Req) (s : State) : State :=
  if !isWrite r.intent then s
  else
    let note (ring : Nat) (o : MoverOp) : MoverOp :=
      if o.desc.opcode = 3 ∧ o.started ∧ !o.done then
        let others := o.overwritten.filter (fun a => a != r.line)
        { o with overwritten := match r.src with
            | .mover k slot _ _ => if k = ring ∧ slot = o.slot then others else r.line :: others
            | _ => r.line :: others }
      else o
    forAll (s.rings.cells.map (·.1)) (fun k s => { s with rings := s.rings.upd k (fun t => { t with ops := t.ops.map (note k) }) }) s

/-- R203: a slice's arbiter accepts a request. -/
def acceptNext (sl : Nat) (s : State) : State :=
  match arbiterTakes s sl with
  | none => s
  | some r =>
    let s := noteWrite r s
    if ownerWb s r then settle (applyOwnerWb r s)
    else settle (dispatchReq r { s with reqs := s.reqs.filter (fun x => x.id != r.id) ++ [r] })

/-- R195: word 0 of an entry is uncorrectable: the line is recovered by the broadcast. -/
def losePresence (k : Nat) (s : State) : State :=
  if !(s.almanac.get k).valid then s
  else
    let a := almAddr s k
    let s := (s.logAs 2 3 0x30 (k / 2 ^ 18) (cpaOf s a) 0).bump F.HA_LOST_COUNT.DIR_UE
    raiseRecall a (almPut k 0 0 s)

/-- R195: word 1 of an entry is uncorrectable: the line is not known, and the error is fatal. -/
def loseTag (sl : Nat) (s : State) : State := s.logAs 5 3 0x30 sl 0 0

/-- R195: what the access to an entry finds. -/
def checkEntry (found : SramCheck) (k : Nat) (s : State) : State :=
  match found with
  | .sound => s
  | .corrected => s.bump (F.HA_SLICE_STATUS.CE (k / 2 ^ 18))
  | .word0 => losePresence k s
  | .word1 => loseTag (k / 2 ^ 18) s
  | .backing _ => s

/-- R194, R202: the backing line that a request reads at once when it misses: an owner's writeback its own, another that of the DIRTY
entry it evicts, by region, slice and line. -/
def missReads (s : State) (r : Req) : Option (Nat × Nat × Nat) :=
  if ownerWb s r then some (regionOf r.page, sliceOf r.addr, dirIndex r.addr / 8)
  else
    match freeWay s r.addr with
    | some k =>
      let e := s.almanac.get k
      let a := almAddr s k
      if e.valid && e.dirty then some (regionOf (pageOf a), sliceOf a, dirIndex a / 8) else none
    | none => none

/-- R279: `f` runs while the read of a band line meets an error, which passes unless it is one of the cells or the line was written. -/
def struck (at_ : Nat × Nat) (err : MemErr) (f : State → State) (s : State) : State :=
  let k := dramKey at_.1 at_.2
  let before := s.dram.get k
  let t := f { s with dram := s.dram.set k (before ^^^ err.pattern) }
  if !err.stored && t.dram.get k == before ^^^ err.pattern then { t with dram := t.dram.set k before } else t

/-- R196: the place of backing line `line` of a region on a slice. -/
def regionBacking (s : State) (region sl line : Nat) : Nat × Nat :=
  backingPlace s (dirKey sl (s.region region).dirSlot (8 * line) / 8)

/-- R194, R195, R199: the slice accepts a request of a shared region; `found` is what the lookup finds in the almanac's entry, or the
error that the backing line has which a miss reads at once. -/
def acceptShared (sl : Nat) (found : SramCheck) (r : Req) (s : State) : State :=
  match almFind s r.addr, missReads s r, found with
  | some k, _, _ => acceptNext sl (checkEntry found k s)
  | none, some (region, b, line), .backing err => struck (regionBacking s region b line) err (acceptNext sl) s
  | _, _, _ => acceptNext sl s

/-- R195, R199, R203: ARBITER_ACCEPT; `entry` is what the lookup of the request's line finds. -/
def execArbiterAccept (slice : Fin 16) (entry : SramCheck) (s : State) : Host.Outcome State Fault Refusal :=
  match (arbiterTakes s slice).filter (fun r => (s.region (regionOf r.page)).cls == 1) with
  | some r => .next (acceptShared slice entry r s)
  | none => .next (acceptNext slice s)

/-- R207: PIN_WAIT_GRANT: the first way of the set whose PINS fell to 0, which the oldest waiter keeps since then, is its own. -/
def execPinWaitGrant (slice : Fin 16) (set : BitVec 14) (s : State) : Host.Outcome State Fault Refusal :=
  match s.reqs.find? (fun r => r.stage == .pinWait && sliceOf r.addr == slice.val && almSet r.addr == set.toNat) with
  | none => .next s
  | some r =>
    let s' := s.put F.HA_PIN_STALL.MAX_NS (min (2 ^ 32 - 1) (max (s.get F.HA_PIN_STALL.MAX_NS) (s.since r.since)))
    match almFind s r.addr, keptWay s r, almVictim s r.addr with
    | some k, _, _ => .next (settle (joinLine r k (almPin k true (dropWay r s'))))
    | none, some _, _ => .next (setReq { r with stage := .backing } s')
    | none, none, some k => .next (setReq { r with stage := .backing } (keepWay r k s'))
    | none, none, none => .next s

/-! ### The backing directory -/

/-- R194, R199, R201: BACKING_FETCH_COMPLETE for the oldest fetch of the slice, whose read meets `err`. After a line that cannot be
corrected the request waits on its line, in its place, for the recall. -/
def execBackingFetchComplete (slice : Fin 16) (err : MemErr) (s : State) : Host.Outcome State Fault Refusal :=
  match s.reqs.find? (fun r => r.stage == .backing && sliceOf r.addr == slice.val && accessesIn s 67) with
  | none => .next s
  | some r =>
    let region := regionOf r.page
    let line := dirIndex r.addr / 8
    let s := struck (regionBacking s region slice line) err (fetchBacking region slice line) s
    match almFind s r.addr, keptWay s r with
    | some k, _ => .next (settle (joinLine r k (almPin k true (dropWay r s))))
    | none, some k => .next (settle (joinLine r k (installEntry r k s)))
    | none, none => .next (setReq { r with stage := .pinWait, since := s.now } s)

/-! ### Metadata -/

/-- The line of a kind on the path of a page: its counter block or catalogue line, or their ancestor. -/
def pathLine (s : State) (page kind : Nat) : Nat :=
  if kind = 0 then localPage page
  else if kind = 1 then catLine page
  else
    let leaf := if (metaCached s (pageSlice page) 1 (catLine page)).isNone then metaIndex s 1 (catLine page) else localPage page
    leaf / 64 ^ (kind - 1)

/-- R165, R207: a request whose fill finds every way of a set pinned enters the set's wait queue, and is counted once. -/
def stallFetch (r : Req) (s : State) : State :=
  if r.metaOk || pageRoom s r.page then s
  else (setReq { r with metaOk := true, since := s.now } s).bump F.HA_PIN_STALL.COUNT

/-- R165, R168, R172, R82: METADATA_FETCH_COMPLETE for the oldest request of the slice that waits for metadata and for whose lines
there are ways. -/
def execMetadataFetchComplete (slice : Fin 16) (found : MetaFetch) (s : State) : Host.Outcome State Fault Refusal :=
  if !accessesIn s 67 then .next s else
  let waits := s.reqs.filter (fun r => r.stage == .metaWait && sliceOf r.addr == slice.val)
  let s := forAll waits stallFetch s
  match (s.reqs.filter (fun r => r.stage == .metaWait && sliceOf r.addr == slice.val)).find? (fun r => pageRoom s r.page) with
  | none => .next s
  | some r =>
      let page := r.page
      let s := if r.metaOk then
          s.put F.HA_PIN_STALL.MAX_NS (min (2 ^ 32 - 1) (max (s.get F.HA_PIN_STALL.MAX_NS) (s.since r.since)))
        else s
      let at_ := metaPlace s slice found.kind (pathLine s page found.kind)
      let s := struck at_ found.err (fun s => (pageFetch page s).2) s
      if metaReady s page then .next (settle (serveData r s)) else .next (settle (finish r none s))

/-- R168: METADATA_EVICT_UPDATE: the oldest line that waits for its eviction is written back. -/
def execMetadataEvictUpdate (slice : Fin 16) (s : State) : Host.Outcome State Fault Refusal :=
  if !accessesIn s 67 then .next s else
  let ready (m : MetaLine) : Bool :=
    parentKind m.kind == 7 || pathRoom treeFuel s slice (parentKind m.kind) (parentIndex s m.kind m.index)
  match oldest (s.metaCache.filter (fun m => m.slice == slice.val && m.evicting && ready m)) with
  | some m => .next (metaWriteBack slice m.kind m.index s)
  | none => .next s

/-- R168: NODE_REKEY_COMPLETE. -/
def execNodeRekeyComplete (slice : Fin 16) (s : State) : Host.Outcome State Fault Refusal :=
  match s.nodeRekeys.find? (fun r => r.slice == slice.val && accessesIn s 67) with
  | none => .next s
  | some r =>
    let s := forAll (List.range 64) (rekeyChild r) s
    .next { s with nodeRekeys := eraseFirst (fun x => x == r) s.nodeRekeys }

/-! ### Merges and the write buffer -/

/-- R175: a buffered line whose merge can run: its page has storage in T0 and no move will write it. -/
def mergeable (s : State) (sl : Nat) (w : WbLine) : Bool :=
  sliceOf w.addr == sl && !w.poison && w.mask != BitVec.allOnes 64 && pageKind s (pageOf w.addr) == 1
    && !holdsLines s (pageOf w.addr)

/-- R175, R176: MERGE_READ_COMPLETE for the oldest pending merge of the slice. -/
def execMergeReadComplete (slice : Fin 16) (err : MemErr) (s : State) : Host.Outcome State Fault Refusal :=
  match s.wb.find? (mergeable s slice) with
  | none => .next s
  | some w =>
    let page := pageOf w.addr
    let j := lineIdx w.addr
    let (d, s) := readUnit (pageChan s page) (frameLine (pageFrame s page) j) (storedState s page j) err true s
    let w' := match d with
      | some o => { w with data := mergeBytes w.mask o w.data, mask := BitVec.allOnes 64 }
      | none => { w with mask := BitVec.allOnes 64, poison := true }
    let s := if d.isNone then nearDrop w.addr (s.poisonAdd (cpaOf s w.addr / 64)) else s
    let s := { s with wb := s.wb.map (fun x => if x.addr == w.addr then w' else x) }
    .next (settle (resumeSlice slice (hintFill w.addr w.hint s)))

/-- R27, R156, R163: WRITE_BUFFER_DRAIN: the oldest issued write of the slice completes and its line leaves the buffer. -/
def execWriteBufferDrain (slice : Fin 16) (s : State) : Host.Outcome State Fault Refusal :=
  match s.wb.find? (fun w => sliceOf w.addr == slice.val && w.issued) with
  | none => .next s
  | some w =>
    let page := pageOf w.addr
    let j := lineIdx w.addr
    let c := { ctrStateOf s page 1 j with minor := w.minor.getD 0 }
    let s := storeUnit (pageChan s page) (frameLine (pageFrame s page) j) c (if w.poison then none else some w.data) s
    let s := match pickEngine s slice 0 with
      | some e => s.bump (F.CRY_ENG_STATUS.UNITS e)
      | none => s
    .next (settle (resumeSlice slice (retrySnoops (wbDrop w.addr s))))

/-- R91, R95: the moves that a slice's buffered lines ask for. -/
def retryMoves (sl : Nat) (s : State) : State :=
  forAll ((s.wb.filter (fun w => sliceOf w.addr == sl)).map (fun w => pageOf w.addr)).eraseDups tryWriteMove s

/-- R95: STORAGE_WAIT_RESUME. -/
def execStorageWaitResume (slice : Fin 16) (s : State) : Host.Outcome State Fault Refusal :=
  .next (pushWrites (retryMoves slice s))

/-- R94: CAPACITY_STALL_REPEAT. -/
def execCapacityStallRepeat (s : State) : Host.Outcome State Fault Refusal :=
  if s.tier.level = 3 ∧ s.tier.stallTransit < s.transit ∧ (s.transit - s.tier.stallTransit) % 1000 = 0 then
    .next (raiseLevel 3 s)
  else .next s

/-! ### Snoop answers and credits -/

/-- R205: how an answer is taken: whether the agent keeps its bit, and whether it is a protocol error. -/
def takeAnswer (inv : Bool) : BiAnswer → Bool × Bool
  | .i => (false, false)
  | .s => (!inv, inv)
  | _ => (!inv, true)

/-- R257: a snoop served for another home ends with SNP_RSP, which carries what the agent has written back since. -/
def answerHome (n : Snoop) (keep : Bool) (s : State) : State :=
  match n.home with
  | none => s
  | some (port, tag, member) =>
    let m := mkMsg 0x22 member (code := bit keep) (han := n.han) (addr := n.addr)
      (beats := (n.data.map (fun d => ({ data := d.1, poison := d.2, scode := 0 } : Beat))).toList)
    let m := { m with tag := BitVec.ofNat 12 tag, src := BitVec.ofNat 6 s.path }
    { s with
      stSend := s.stSend ++ [(port, m)]
      passed := if keep then s.passed else s.passed.filter (fun x => !(x.1 == n.han && x.2 == n.addr))
      snoops := eraseFirst (fun x => x == n) s.snoops }

/-- R54: the address by which a snoop is known at its host: the line's CPA. -/
def snoopCpa (s : State) (n : Snoop) : Nat := if n.home.isSome then n.addr else cpaOf s n.addr

/-- R205: BIRSP from the agent of a local slot for a line (its CPA). -/
def execBirsp (slot : Fin 64) (addr : BitVec 64) (answer : BiAnswer) (s : State) : Host.Outcome State Fault Refusal :=
  match s.snoops.find? (fun n => n.sent && !n.remote && slotOfHan s n.han == some slot.val
      && snoopCpa s n == lineAddr addr.toNat) with
  | none => .next (logProtocol slot s)
  | some n =>
    let (keep, bad) := takeAnswer n.inv answer
    let s := if bad then logProtocol slot s else s
    if n.home.isSome then .next (answerHome n keep s) else .next (settle (answerSnoop n.req n.han keep s))

/-- R206: BICONFLICT: the home's completion, where one was issued, has left already; the acknowledgement follows it. -/
def execBiconflict (slot : Fin 64) (addr : BitVec 64) (s : State) : Host.Outcome State Fault Refusal :=
  if s.snoops.any (fun n => n.sent && !n.remote && slotOfHan s n.han == some slot.val
      && snoopCpa s n == lineAddr addr.toNat) then
    .next (s.emit (.conflictAck slot (lineAddr addr.toNat)))
  else .next (logProtocol slot s)

/-- R54: BI_CREDIT_RETURN. -/
def execBiCreditReturn (link : Fin 16) (n : BitVec 6) (s : State) : Host.Outcome State Fault Refusal :=
  .next (retrySnoops { s with links := s.links.upd link (fun l => { l with credits := min 32 (l.credits + n.toNat) }) })

end Sys2Proof.Machine
end

