-- ==== Sys2Proof/Machine/Regulator.lean ====
section
/-!
DEFINITION. The bandwidth regulator (R300 to R311): certified capacity, the refill of the first clock of a transit,
near-cache quotas, admission, the shortfall check, and writes to QOS_CTRL.
-/

namespace Sys2Proof.Machine

/-! ### Slots of the channels (R283) -/

/-- R272, R283: data rate in MT/s: the lower of the DIMMs' rated speed and SPEED. -/
def dataRate (s : State) (c : Nat) : Nat :=
  [4800, 5600, 6400, 8000, 8800].getD (min (s.get (F.DC_CFG.SPEED c)) (s.chans.get c).rated) 4800

/-- R274: ranks of a channel. -/
def ranksOf (s : State) (c : Nat) : Nat := 2 ^ s.get (F.DC_CFG.RANK_BITS c)

/-- R283: whether any rank of a channel refreshes at 2x. -/
def any2x (s : State) (c : Nat) : Bool := (List.range (ranksOf s c)).any (fun k => s.flag (F.DC_REF_STATUS.RATE2X c k))

/-- R283: REF_RES. -/
def refRes (s : State) (c : Nat) : Nat :=
  let trefi := if any2x s c then 1950 else 3900
  let n := 1000 * s.get (F.DC_TIMING1.TRFC_NS c) * dataRate s c
  2 * ((n + trefi * 16000 - 1) / (trefi * 16000))

/-- R283, R291, R294, R311: the controller publishes its slot counts; an evacuated channel delivers none. -/
def publishSlots (c : Nat) (s : State) : State :=
  let slots := 2 * (dataRate s c / 16)
  let mnt := s.get (F.DC_SCRUB.LINES c) + 4
  let d := slots - refRes s c - mnt
  let d := if !s.flag (F.DC_CFG.ENABLE c) || s.get (F.TIER_POOL_STATUS.EVAC c) == 2 then 0 else if (s.chans.get c).overTemp then d / 2 else d
  (((s.put (F.DC_SLOTS.SLOTS c) slots).put (F.DC_SLOTS.REF_RES c) (refRes s c)).put (F.DC_SLOTS.MNT_RES c) mnt).put
    (F.DC_SLOTS.DELIVERABLE c) d

/-! ### Capacity and refill -/

/-- The masters. -/
def allMasters : List Nat := List.range 72

/-- R29, R309: fabric clocks per transit, the smaller of two levels' in the transit reserved for a change. -/
def clocksPerTransit (s : State) : Nat := s.reservedK.getD (plFreq (s.get F.PWR_PL_STATUS.CURRENT))

/-- R308: C_DRAM. -/
def cDram (s : State) : Nat :=
  sumOf ((List.range 16).map (fun c => s.get (F.DC_SLOTS.DELIVERABLE c))) * (256 - s.get F.QOS_CTRL.TURN) / 256

/-- R308: C_CRYPTO. -/
def cCrypto (s : State) : Nat := ((List.range 8).filter (cryOnline s)).length * 8 * clocksPerTransit s / 6

/-- R310: the sum of guarantees. -/
def sumG (s : State) : Nat := sumOf (allMasters.map (fun m => s.get (F.QOS_MASTER.G m)))

/-- R308: the certified capacity of the transit that begins. -/
def certify (s : State) : State :=
  let a := cDram s
  let b := cCrypto s
  ((s.put F.QOS_CAP.C_DRAM a).put F.QOS_CAP.C_CRYPTO b).put F.QOS_CAP.C_CERT (min a b)

/-- R310: an accepted configuration takes effect. -/
def applyQos (s : State) : State :=
  let s := forAll s.qosPending (fun e s =>
    (((s.put (F.QOS_MASTER.G e.master) e.g).put (F.QOS_MASTER.W e.master) e.w).put (F.QOS_MASTER.QMAX e.master) e.qmax).put
      (F.QOS_MASTER.NCMIN e.master) e.ncmin) s
  let s := { s with qosPending := [] }
  s.put F.QOS_CAP.SUM_G (sumG s)

/-- R311: SCALE and the guarantees in force. -/
def scaleG (s : State) : State :=
  let sum := sumG s
  let cert := s.get F.QOS_CAP.C_CERT
  let scale := if cert < sum then cert * 65536 / sum else 65536
  let s := (s.put F.QOS_SCALE.SCALE scale).put F.QOS_SCALE.SHORTFALL (bit (decide (scale < 65536)))
  forAll allMasters (fun m s => s.put (F.QOS_MASTER.GEFF m) (s.get (F.QOS_MASTER.G m) * scale / 65536)) s

/-- R302: buckets and pool. -/
def refillBuckets (s : State) : State :=
  let s := { s with masters := allMasters.foldl (fun t m =>
    t.upd m (fun x => { x with gb := (s.get (F.QOS_MASTER.GEFF m) : Int) + min x.gb 0 })) s.masters }
  let sum := sumOf (allMasters.map (fun m => s.get (F.QOS_MASTER.GEFF m)))
  { s with sharedPool := (s.get F.QOS_CAP.C_CERT : Int) - sum + min s.sharedPool 0 }

/-- R312: QOS_MSTAT covers the 1000 transits before; a window that ends while the fabric clock stands is not shown. -/
def publishMstat (s : State) : State :=
  if s.transit % 1000 != 0 then s
  else if s.asleep then { s with masters := s.masters.mapCells (fun _ x => { x with runG := 0, runS := 0 }) }
  else
    forAll allMasters (fun m s =>
      let x := s.masters.get m
      let s := (s.put (F.QOS_MSTAT.DELIV_G m) x.runG).put (F.QOS_MSTAT.DELIV_S m) x.runS
      { s with masters := s.masters.set m { x with runG := 0, runS := 0 } }) s

/-- R307: owners of the near cache whose LD is ALIVE, and COMMON (owner 64, master 70). Of another member's agents this one knows which
are valid and which are dead (DEDUCED, log entry 195). -/
def quotaOwners (s : State) : List Nat :=
  let own := (slots.filter (fun m => agentState s m == 1)).filterMap (hanOf s)
  let far := (List.range 64).filter (fun h => s.inClutch && s.flag (F.CLU_HAN.VALID h) && !s.flag (F.CLU_HAN.DEAD h)
    && s.get (F.CLU_HAN.PATH h) != s.path)
  (own ++ far).eraseDups ++ [64]

/-- R307: the master of an owner. -/
def ownerMaster (o : Nat) : Nat := if o = 64 then 70 else o

/-- R307: the quotas. -/
def setQuotas (s : State) : State :=
  let os := quotaOwners s
  let mins := sumOf (os.map (fun o => s.get (F.QOS_MASTER.NCMIN (ownerMaster o))))
  let ws := sumOf (os.map (fun o => s.get (F.QOS_MASTER.W (ownerMaster o))))
  let q (o : Nat) : Nat := 64 * s.get (F.QOS_MASTER.NCMIN (ownerMaster o))
    + (65536 - 64 * mins) * s.get (F.QOS_MASTER.W (ownerMaster o)) / ws
  { s with quotas := os.foldl (fun t o => t.set o (q o)) {} }

/-- R302, R307, R308, R310, R311: job 0x01, in the first fabric clock of a transit. -/
def refill (s : State) : State :=
  setQuotas (publishMstat (refillBuckets (scaleG (certify (applyQos (forAll (List.range 16) publishSlots s))))))

/-! ### Admission -/

/-- R304: masters in rotation from the transit number modulo 72. -/
def masterRotation (s : State) : List Nat := allMasters.map (fun k => (s.transit + k) % 72)

/-- Requests of a master waiting for admission, in arrival order. -/
def waitingOf (s : State) (m : Nat) : List Req := s.reqs.filter (fun r => r.stage == .admission && r.master == m)

/-- R303, R304: whether queue fill and QMAX let in a request in the shared or slack pass. -/
def sharedOk (s : State) (r : Req) : Bool :=
  decide (fillOf s r < s.get F.QOS_CTRL.HIGH_WM) && decide (occupancy s r < s.get (F.QOS_MASTER.QMAX r.master))

/-- R304, R306: what the regulator may admit: a request, or an access of an internal master's unit. -/
inductive Waiter where
  | req (r : Req)
  | access (master : Nat)
deriving DecidableEq, Repr

/-- R306: an access that waits of a master. -/
def accessOf (s : State) (m : Nat) : Option Waiter := if (s.masters.get m).owed = 0 then none else some (.access m)

/-- The master of what waits. -/
def Waiter.master : Waiter → Nat
  | .req r => r.master
  | .access m => m

/-- R301: the tokens of what waits. -/
def Waiter.charge : Waiter → Nat
  | .req r => r.charge
  | .access _ => 1

/-- R304: the request the guaranteed pass takes next. -/
def guaranteedPick (s : State) : Option Waiter :=
  (masterRotation s).findSome? (fun m =>
    if 1 ≤ (s.masters.get m).gb then
      (((waitingOf s m).find? (fun r => decide (fillOf s r < 64))).map .req).or (accessOf s m)
    else none)

/-- R304: the first of `ms` with the least virtual time. -/
def leastMaster (s : State) : List (Nat × Waiter) → Option (Nat × Waiter)
  | [] => none
  | x :: t => match leastMaster s t with
    | some y => if vtLess (s.masters.get y.1).vt (s.masters.get x.1).vt then some y else some x
    | none => some x

/-- R304: the request the shared pass takes next, or the slack pass where the pool is spent. -/
def sharedPick (s : State) : Option Waiter :=
  let c := (masterRotation s).filterMap (fun m =>
    if s.get (F.QOS_MASTER.W m) = 0 then none
    else ((((waitingOf s m).find? (fun r => sharedOk s r &&
      (decide (1 ≤ s.sharedPool) || decide (fillOf s r < s.get F.QOS_CTRL.LOW_WM)))).map .req).or (accessOf s m)).map (fun r => (m, r)))
  (leastMaster s c).map (·.2)

/-- R22 steps 4 and 5, R26 steps 4 and 5: an admitted read enters its read queue, an admitted write the write buffer. -/
def admitReq (r : Req) (s : State) : State :=
  let r := { r with fill := loadBand s (fillOf s r), throttled := false }
  if r.write then acceptWrite r s
  else
    match targetOf s r with
    | some (c, sc) =>
      let d : DramReq := { req := r.id, addr := r.addr, master := r.master, write := false, lines := r.units.map (·.line)
                           since := s.now }
      setReq { r with stage := .dram } (setSub c sc (fun q => { q with reads := q.reads ++ [d] }) s)
    | none => s

/-- R304, R306: what waits is admitted. -/
def admitWaiter (w : Waiter) (s : State) : State :=
  match w with
  | .req r => admitReq r s
  | .access m => { s with masters := s.masters.upd m (fun x => { x with owed := x.owed - 1 }) }

/-- R304: one admission of a clock, none where no pass admits a request. -/
def admitOne (s : State) : Option State :=
  if !s.flag F.QOS_CTRL.ENABLE then
    match s.reqs.find? (fun r => r.stage == .admission && decide (fillOf s r < 64)) with
    | some r => some (admitReq r s)
    | none => ((masterRotation s).findSome? (accessOf s)).map (fun w => admitWaiter w s)
  else
    match guaranteedPick s with
    | some w => some (admitWaiter w ((chargeG w.master w.charge s).count 0x801 w.master w.charge))
    | none =>
      (sharedPick s).map (fun w =>
        let shared := decide (1 ≤ s.sharedPool)
        admitWaiter w ((chargeS w.master w.charge shared s).count (if shared then 0x802 else 0x803) w.master w.charge))

/-- R304: at most 16 admissions in a fabric clock. -/
def admitLoop : Nat → State → State
  | 0, s => s
  | n + 1, s => match admitOne s with
    | some s' => admitLoop n s'
    | none => s

/-- R306: requests that still wait because their master lacks tokens are throttled: those that queue space would let in, but for which
there are neither guaranteed tokens nor, where the master has a weight, shared or slack ones. -/
def markThrottled (s : State) : State :=
  { s with reqs := s.reqs.map (fun r =>
      if r.stage == .admission then
        { r with throttled := s.flag F.QOS_CTRL.ENABLE && decide ((s.masters.get r.master).gb < 1)
            && decide (fillOf s r < 64) && (s.get (F.QOS_MASTER.W r.master) == 0
              || (sharedOk s r && decide (s.sharedPool < 1) && decide (s.get F.QOS_CTRL.LOW_WM ≤ fillOf s r))) }
      else r) }

/-- R304: ADMISSION, one fabric clock of the regulator. -/
def execAdmission (s : State) : Host.Outcome State Fault Refusal :=
  if s.asleep then .next s else .next (settle (markThrottled (admitLoop 16 s)))

/-- R311: REGULATOR_SHORTFALL_CHECK, job 0x0D. -/
def execRegulatorShortfallCheck (s : State) : Host.Outcome State Fault Refusal :=
  if !unitWaits s 0x0D 0 then .next s else
  let s := jobDone 0x0D 0 s
  if s.get F.QOS_SCALE.SCALE < 65536 then
    .next (((s.log 0x83).bump F.QOS_SHORTFALL.TRANSITS).put F.QOS_SHORTFALL.LAST s.transit)
  else .next s

/-- R303: QOS_CTRL_WRITE. -/
def execQosCtrlWrite (value : BitVec 32) (s : State) : Host.Outcome State Fault Refusal :=
  let v := value.toNat
  let hi := slice v 8 8
  let lo := slice v 0 8
  let turn := slice v 16 8
  let ok := decide (2 ≤ hi) && decide (hi ≤ 63) && decide (1 ≤ lo) && decide (lo < hi)
  let s := s.put F.QOS_CTRL.ENABLE (slice v 31 1)
  let s := if slice v 30 1 = 1 then s.put F.QOS_CTRL.BAD_WM 0 else s
  let s := if turn ≤ 128 then s.put F.QOS_CTRL.TURN turn else s
  .next (if ok then (s.put F.QOS_CTRL.HIGH_WM hi).put F.QOS_CTRL.LOW_WM lo else s.put F.QOS_CTRL.BAD_WM 1)

end Sys2Proof.Machine
end

