-- ==== Sys2Proof/Machine/Dram.lean ====
section
/-!
DEFINITION. The DRAM controllers: command scheduling (R284 to R287), refresh (R288 to R292), reads as they return and
their way through the crypto engines (R161, R169, R279, R280), patrol scrub and initialisation (R295, R296), marking
(R281).
-/

namespace Sys2Proof.Machine

/-! ### Scheduling -/

/-- The open row of a bank of a subchannel. -/
def openRowOf (s : State) (c : Nat) (p : Place) : Option OpenRow :=
  (s.chans.get c).rows.find? (fun r => r.sc == p.sc && r.rank == p.rank && r.bg == p.bg && r.ba == p.ba)

/-- The place a queue entry needs next. -/
def entryPlace (s : State) (c : Nat) (d : DramReq) : Place := placeOfLine s c (d.lines.headD 0)

/-- Whether a queue entry's next access hits an open row. -/
def rowHit (s : State) (c : Nat) (d : DramReq) : Bool :=
  match openRowOf s c (entryPlace s c d) with
  | some r => r.row == (entryPlace s c d).row
  | none => false

/-- R290, R292: the postponement limit of a rank. -/
def owedLimit (s : State) (c k : Nat) : Nat := if s.flag (F.DC_REF_STATUS.RATE2X c k) then 8 else 4

/-- R290, R292: whether a rank takes no new ACT. -/
def noAct (s : State) (c k : Nat) : Bool :=
  s.flag (F.DC_REF_STATUS.BLOCKED c k) || decide (owedLimit s c k ≤ s.get (F.DC_REF_STATUS.OWED c k))

/-- A rank's scheduler state. -/
def rankAt (s : State) (c k : Nat) : RankSt := (s.chans.get c).ranks.getD k {}

/-- R292: whether a rank's last REFab is still under way. -/
def refreshing (s : State) (c k : Nat) : Bool := match (rankAt s c k).lastRef with
  | some t => decide (s.since t < s.get (F.DC_TIMING1.TRFC_NS c))
  | none => false

/-- R290, R292, R293: whether a rank serves nothing now: its refreshes are due, one is under way, or it refreshes itself. -/
def rankHeld (s : State) (c k : Nat) : Bool := noAct s c k || refreshing s c k || (rankAt s c k).selfRefresh

/-- A rank's scheduler state changed. -/
def setRank (c k : Nat) (f : RankSt → RankSt) (s : State) : State :=
  { s with chans := s.chans.upd c (fun ch => { ch with ranks := ch.ranks.set k (f (ch.ranks.getD k {})) }) }

/-- R286: whether an earlier read of the same line waits before a write. -/
def readBefore (q : SubChan) (d : DramReq) : Bool :=
  d.write && q.reads.any (fun r => r.lines.any (fun l => d.lines.contains l) && decide (r.since ≤ d.since))

/-- R285: the queue entries from which the next command is chosen. -/
def candidates (s : State) (c sc : Nat) (blocked : List Nat) : List DramReq :=
  let q := subOf s c sc
  let set := if q.draining then q.writes else if q.reads.isEmpty then q.writes else q.reads
  let idx := (List.range set.length).filter (fun i => !blocked.contains i)
  (idx.filterMap (fun i => set[i]?)).filter (fun d =>
    !readBefore q d && !rankHeld s c (entryPlace s c d).rank)

/-- R285: the entry whose next command issues: an entry older than AGE_NS before all younger ones, then a row hit, then
the oldest. -/
def choose (s : State) (c : Nat) (l : List DramReq) : Option DramReq :=
  match l with
  | [] => none
  | d :: _ =>
    if s.get (F.DC_CFG.AGE_NS c) < s.since d.since then some d
    else match l.find? (rowHit s c) with
      | some h => some h
      | none => some d

/-- R285: the drain begins at 48 waiting writes and ends at 16. -/
def updateDrain (c sc : Nat) (s : State) : State :=
  setSub c sc (fun q =>
    if 48 ≤ q.writes.length then { q with draining := true }
    else if q.writes.length ≤ 16 then { q with draining := false } else q) s

/-- A command leaves for a subchannel. -/
def sendDram (c sc : Nat) (cmd : DramCmd) (s : State) : State := s.emit (.dram c sc cmd)

/-- R448: a burst is counted in a slot of its channel. -/
def burst (c bucket : Nat) (s : State) : State :=
  { s with chans := s.chans.upd c (fun ch => { ch with bursts := ch.bursts ++ [bucket] }) }

/-- R285: a column access of an entry: its next line is on its way. -/
def columnAccess (c sc : Nat) (d : DramReq) (p : Place) (s : State) : State :=
  let line := d.lines.headD 0
  let unit := match reqAt s d.req with
    | some r => (findIdx? (fun u => u.line == line && !u.got) r.units 0).getD 0
    | none => 0
  let fly : Inflight := { req := d.req, unit, line, write := d.write, addr := d.addr, mark := lineMark s c line }
  let rest := { d with lines := d.lines.tail }
  let s := setSub c sc (fun q =>
    let step (l : List DramReq) : List DramReq :=
      if rest.lines.isEmpty then eraseFirst (fun x => x == d) l else l.map (fun x => if x == d then rest else x)
    { q with
      reads := if d.write then q.reads else step q.reads
      writes := if d.write then step q.writes else q.writes
      inflight := q.inflight ++ [fly] }) s
  let s := if d.write then
      { s with wb := s.wb.map (fun w => if w.addr == d.addr then { w with issued := true } else w) } else s
  let s := { s with chans := s.chans.upd c (fun ch => { ch with
    used := ch.used + 1
    rows := ch.rows.map (fun r =>
      if r.sc == p.sc && r.rank == p.rank && r.bg == p.bg && r.ba == p.ba then { r with last := s.now } else r) }) }
  let s := setRank c p.rank (fun k => { k with idleSince := s.now }) s
  let s := burst c (if d.write then 1 else 0) ((s.count (if d.write then 0x702 else 0x701) c).count 0x704 c)
  sendDram c sc (if d.write then .wr p.rank p.bg p.ba (columnOf line) else .rd p.rank p.bg p.ba (columnOf line)) s

/-- A row opens, or the row of a bank closes. -/
def openRow (c : Nat) (p : Place) (s : State) : State :=
  let r : OpenRow := { sc := p.sc, rank := p.rank, bg := p.bg, ba := p.ba, row := p.row, last := s.now }
  { s with chans := s.chans.upd c (fun ch => { ch with rows := ch.rows ++ [r] }) }

/-- The open row of a bank closes. -/
def closeRow (c : Nat) (r : OpenRow) (s : State) : State :=
  sendDram c r.sc (.pre r.rank r.bg r.ba)
    { s with chans := s.chans.upd c (fun ch => { ch with rows := eraseFirst (fun x => x == r) ch.rows }) }

/-- R280, R290: a corrective write-back of a subchannel whose rank takes commands. -/
def waitingFix (s : State) (c sc : Nat) : Option (Nat × BitVec 640) :=
  (s.chans.get c).writebacks.find? (fun w =>
    (placeOfLine s c w.1).sc == sc && !rankHeld s c (placeOfLine s c w.1).rank)

/-- R284: maintenance slots of the transit that are taken. -/
def takeMaint (c n : Nat) (s : State) : State :=
  { s with chans := s.chans.upd c (fun ch => { ch with maint := ch.maint + n }) }

/-- R280: a corrective write-back is issued. -/
def issueFix (c : Nat) (w : Nat × BitVec 640) (s : State) : State :=
  let s := { s with
    dram := s.dram.set (dramKey c w.1) w.2
    chans := s.chans.upd c (fun ch => { ch with writebacks := eraseFirst (fun x => x.1 == w.1) ch.writebacks }) }
  burst c 2 (takeMaint c 1 (s.bump (F.DC_ECC_STATUS.WB c)))

/-- R284: a write-back that goes before the requests: while the transit's maintenance count is below MNT_RES. -/
def reservedFix (s : State) (c sc : Nat) : Option (Nat × BitVec 640) :=
  if (s.chans.get c).maint < s.get (F.DC_SLOTS.MNT_RES c) then waitingFix s c sc else none

/-- R290, R292: an open row of a subchannel whose rank has to be refreshed before it serves again. -/
def dueRow (s : State) (c sc : Nat) : Option OpenRow := (s.chans.get c).rows.find? (fun r => r.sc == sc && noAct s c r.rank)

/-- R291: whether a request may have a slot of the transit: while a module is over temperature, DELIVERABLE holds the halved number. -/
def slotLeft (s : State) (c : Nat) : Bool :=
  !(s.chans.get c).overTemp || decide ((s.chans.get c).used < s.get (F.DC_SLOTS.DELIVERABLE c))

/-- R284 to R287, R290: DRAM_COMMAND_ISSUE. `blocked` names, by place in the queue the rules draw from, the entries whose next
command the DDR5 timing does not allow in this DRAM clock. -/
def execDramCommandIssue (chan : Fin 16) (sc : Fin 2) (blocked : List Nat) (s : State) : Host.Outcome State Fault Refusal :=
  let c := chan.val
  if !(s.chans.get c).live || s.asleep then .next s
  else
    match dueRow s c sc, reservedFix s c sc with
    | some r, _ => .next (closeRow c r s)
    | none, some w => .next (issueFix c w s)
    | none, none =>
      let s := updateDrain c sc s
      match choose s c (candidates s c sc blocked) with
      | none =>
        match waitingFix s c sc with
        | some w => .next (issueFix c w s)
        | none => .next s
      | some d =>
        let p := entryPlace s c d
        if (rankAt s c p.rank).powerDown then
          .next (sendDram c sc (.pdx p.rank) (setRank c p.rank (fun k => { k with powerDown := false }) s))
        else
          match openRowOf s c p with
          | some r =>
            if r.row ≠ p.row then .next (closeRow c r s)
            else if slotLeft s c then .next (pushWrites (updateDrain c sc (columnAccess c sc d p s)))
            else .next s
          | none => .next (sendDram c sc (.act p.rank p.bg p.ba p.row) ((openRow c p s).count 0x703 c))

/-- R285: whether a queued request hits an open row. -/
def queuedHit (s : State) (c : Nat) (r : OpenRow) : Bool :=
  let q := subOf s c r.sc
  (q.reads ++ q.writes).any (fun d =>
    let p := entryPlace s c d
    p.rank == r.rank && p.bg == r.bg && p.ba == r.ba && p.row == r.row)

/-- R285: ROW_CLOSE_TIMEOUT: the oldest open row of the subchannel with no queued hit and 60 ns without access closes. -/
def execRowCloseTimeout (chan : Fin 16) (sc : Fin 2) (s : State) : Host.Outcome State Fault Refusal :=
  match (s.chans.get chan).rows.find? (fun r => r.sc == sc.val && !queuedHit s chan r && decide (60 ≤ s.since r.last)) with
  | some r => .next (closeRow chan r s)
  | none => .next s

/-- Whether a queued request needs a rank. -/
def rankQueued (s : State) (c k : Nat) : Bool :=
  [0, 1].any (fun sc =>
    let q := subOf s c sc
    (q.reads ++ q.writes).any (fun d => (entryPlace s c d).rank == k))

/-- Whether a rank has an open row. -/
def rankOpen (s : State) (c k : Nat) : Bool := (s.chans.get c).rows.any (fun r => r.rank == k)

/-- R285: POWER_DOWN_ENTRY. -/
def execPowerDownEntry (chan : Fin 16) (rank : Fin 8) (s : State) : Host.Outcome State Fault Refusal :=
  let c := chan.val
  let k := rank.val
  let r := rankAt s c k
  if rankQueued s c k || rankOpen s c k || r.powerDown || r.selfRefresh || s.get (F.DC_REF_STATUS.OWED c k) != 0
      || decide (s.since r.idleSince < 100) then .next s
  else .next (sendDram c 1 (.pde k) (sendDram c 0 (.pde k) (setRank c k (fun r => { r with powerDown := true }) s)))

/-! ### Refresh -/

/-- R290, R292: one REFab of a rank. -/
def issueRefab (c k : Nat) (s : State) : State :=
  let r := rankAt s c k
  let s := if r.powerDown then sendDram c 1 (.pdx k) (sendDram c 0 (.pdx k) s) else s
  let s := s.put (F.DC_REF_STATUS.OWED c k) (s.get (F.DC_REF_STATUS.OWED c k) - 1)
  let left := r.converted - 1
  let s := if s.flag (F.DC_REF_STATUS.BLOCKED c k) && left == 0 then s.put (F.DC_REF_STATUS.BLOCKED c k) 0 else s
  let s := setRank c k (fun r => { r with converted := left, lastRef := some s.now, powerDown := false, idleSince := s.now }) s
  sendDram c 1 (.refab k) (sendDram c 0 (.refab k) (s.count 0x705 c))

/-- R290, R292: REFAB_ISSUE. -/
def execRefabIssue (chan : Fin 16) (rank : Fin 8) (s : State) : Host.Outcome State Fault Refusal :=
  let c := chan.val
  let k := rank.val
  let owed := s.get (F.DC_REF_STATUS.OWED c k)
  if 1 ≤ owed ∧ !rankOpen s c k ∧ !refreshing s c k ∧ !(rankAt s c k).selfRefresh ∧ (noAct s c k ∨ !rankQueued s c k) then
    .next (issueRefab c k s)
  else .next s

/-- R288: tREFI_eff of a rank. -/
def trefiOf (s : State) (c k : Nat) : Nat := if s.flag (F.DC_REF_STATUS.RATE2X c k) then 1950 else 3900

/-- R289: a rank's accrual of `elapsed` ns; OWED is held at 8 and the excess stays in ACC. -/
def accrue (c k elapsed : Nat) (s : State) : State :=
  let t := trefiOf s c k
  let acc := s.get (F.DC_REF_STATUS.ACC c k) + elapsed
  let owed := s.get (F.DC_REF_STATUS.OWED c k)
  let n := min (acc / t) (8 - owed)
  (s.put (F.DC_REF_STATUS.OWED c k) (owed + n)).put (F.DC_REF_STATUS.ACC c k) (min 0xFFFF (acc - n * t))

/-- R289: REFRESH_PLANNING, job 0x04 of a channel. -/
def execRefreshPlanning (chan : Fin 16) (s : State) : Host.Outcome State Fault Refusal :=
  let c := chan.val
  if !unitWaits s 0x04 c then .next s else
  let elapsed := s.since (s.chans.get c).planTb
  let s := forAll (List.range (ranksOf s c)) (fun k s => accrue c k elapsed s) s
  .next (jobDone 0x04 c { s with chans := s.chans.upd c (fun ch => { ch with planTb := s.now }) })

/-- R292: a rank changes rate; its debt is re-expressed. -/
def setRate (c k : Nat) (fast : Bool) (s : State) : State :=
  let owed := s.get (F.DC_REF_STATUS.OWED c k)
  if s.flag (F.DC_REF_STATUS.RATE2X c k) == fast then s
  else if fast then
    let n := min (2 * owed) 8
    let s := (s.put (F.DC_REF_STATUS.RATE2X c k) 1).put (F.DC_REF_STATUS.OWED c k) n
    let s := if n = 0 then s else s.put (F.DC_REF_STATUS.BLOCKED c k) 1
    setRank c k (fun r => { r with converted := n }) s
  else
    let n := (owed + 1) / 2
    let left := min (rankAt s c k).converted n
    let s := (s.put (F.DC_REF_STATUS.RATE2X c k) 0).put (F.DC_REF_STATUS.OWED c k) n
    if s.flag (F.DC_REF_STATUS.BLOCKED c k) then
      setRank c k (fun r => { r with converted := left }) (if left = 0 then s.put (F.DC_REF_STATUS.BLOCKED c k) 0 else s)
    else s

/-- R291: ranks of a DIMM. -/
def dimmRanks (s : State) (c d : Nat) : List Nat :=
  let per := ranksOf s c / max 1 (s.get (F.DC_CFG.DPC c))
  (List.range per).map (fun i => d * per + i)

/-- R291: one DIMM's reading: its sensor in tenths of a degree (none: unreadable), and its ranks' MR4 bands (0 the 1x
band, 1 the 2x band, 2 a band that needs more). Answers whether it is over temperature. -/
def readDimm (c d : Nat) (sensor : Option Int) (bands : List (Fin 3)) (s : State) : Bool × State :=
  let ranks := dimmRanks s c d
  let hotBand := ranks.any (fun k => (bands.getD k 0).val == 2)
  let hotNow := hotBand || (match sensor with | some t => decide (950 < t) | none => false)
  let temp := match sensor with | some t => ofSigned 8 (t / 10) | none => 0x80
  let s := if sensor.isNone then s.log 0x53 c else s
  let s := if hotNow then s.log 0x87 c else s
  let s := forAll ranks (fun k s =>
    let band := (bands.getD k 0).val
    let s := s.put (F.DC_REF_STATUS.TEMP c k) temp
    match sensor with
    | none => setRate c k true s
    | some t =>
      if 850 < t ∨ 1 ≤ band then setRate c k true s
      else if t ≤ 820 then setRate c k false s
      else s) s
  (hotNow, s)

/-- R291, R284: DIMM_TEMPERATURE_READ, job 0x0E of a channel. The mode-register read of a rank takes a maintenance slot of each
subchannel. -/
def execDimmTemperatureRead (chan : Fin 16) (sensors : Vector (Option Int) 2) (bands : Vector (Fin 3) 8) (s : State) :
    Host.Outcome State Fault Refusal :=
  let c := chan.val
  if !unitWaits s 0x0E c then .next s else
  let (hotNow, s) := (List.range (s.get (F.DC_CFG.DPC c))).foldl (fun (x : Bool × State) d =>
    let (o, s) := readDimm c d (sensors.toList.getD d none) bands.toList x.2
    (x.1 || o, s)) (false, s)
  let reads := if s.get (F.DC_CFG.DPC c) = 0 then 0 else 2 * ranksOf s c
  let s := takeMaint c reads (forAll (List.range reads) (fun _ s => burst c 2 s) s)
  .next (jobDone 0x0E c { s with chans := s.chans.upd c (fun ch => { ch with overTemp := hotNow }) })

/-! ### Read data and the crypto engines -/

/-- R161: a unit of a read has its value; none is poison. -/
def unitGot (r : Req) (i : Nat) (v : Option (BitVec 512)) : Req :=
  { r with units := (List.range r.units.length).filterMap (fun j =>
      (r.units[j]?).map (fun u => if j = i then { u with got := true, value := v, sym := [] } else u)) }

/-- R169: the keystream entry of a unit is used. -/
def dropKeystream (id unit : Nat) (s : State) : State :=
  { s with keystreams := s.keystreams.filter (fun k => !(k.2.req == id && k.2.unit == unit)) }

/-- R22, R23, R161: a unit of a read has come. A stored line is delivered. Of a compressed segment, the job goes to a decoder with
the first sector; a sector that the line needs and that is poison ends the read as poison; and a read that is answered already
leaves with its last sector. -/
def unitsDone (r : Req) (s : State) : State :=
  let all := r.units.all (·.got)
  if r.stage == .done then (if all then dropReq r.id s else setReq r s)
  else if r.code = 15 then (if all then finishRead r ((r.units.map (·.value)).headD none) true s else setReq r s)
  else
    let want := readWant r
    let bytes := readBytes r
    let lost := match (badSectors ((r.units.take (sectorsCome r)).map (·.value))).head? with
      | none => false
      | some b => !lineBefore bytes want b
    if lost then finishRead { r with stage := .decode } none true (s.poisonAdd (cpaOf s r.addr / 64))
    else if r.stage == .decode || sectorsCome r = 0 then setReq r s
    else
      let j : DecJob := { owner := .read r.id, bytes, code := some r.code, want := some want, home := engineStop r.engine }
      setReq { r with stage := .decode } (addDecode j s)

/-- The counter state of a unit of a read. -/
def unitState (r : Req) (u : UnitRead) : CtrState :=
  { key := u.key, gen := u.gen, page := r.page, tier := u.tier, idx := u.idx, major := u.major, minor := u.minor }

/-- R279, R280: DRAM_READ_COMPLETE: the oldest read on its way in a subchannel returns. -/
def execDramReadComplete (chan : Fin 16) (sc : Fin 2) (err : MemErr) (s : State) : Host.Outcome State Fault Refusal :=
  match (subOf s chan sc).inflight.find? (fun f => !f.write) with
  | none => .next s
  | some f =>
    let s := setSub chan sc (fun q => { q with inflight := eraseFirst (fun x => x == f) q.inflight }) s
    match reqAt s f.req with
    | none => .next s
    | some r =>
      let cpa := cpaOf s (if r.code = 15 then r.addr else r.page * 4096 + 1024 * r.seg)
      let (w, s) := dramSense chan f.line err s
      let (o, s) := dramDecode chan f.line w f.mark (some cpa) s
      let s := scheduleFix chan f.line o s
      match o.data with
      | none =>
        let s := dropKeystream r.id f.unit (s.poisonAdd (cpa / 64))
        .next (settle (unitsDone (unitGot r f.unit none) s))
      | some sym =>
        let r := { r with units := (List.range r.units.length).filterMap (fun j =>
          (r.units[j]?).map (fun u => if j = f.unit then { u with sym } else u)) }
        .next { setReq r s with cryptoQ := s.cryptoQ ++ [(r.engine, r.id, f.unit)] }

/-- R169: KEYSTREAM_READY. -/
def execKeystreamReady (engine : Fin 8) (s : State) : Host.Outcome State Fault Refusal :=
  match findIdx? (fun (k : Nat × Keystream) => k.1 == engine.val && !k.2.ready) s.keystreams 0 with
  | none => .next s
  | some i =>
    .next { s with keystreams := (List.range s.keystreams.length).filterMap (fun j =>
      (s.keystreams[j]?).map (fun k => if j = i then (k.1, { k.2 with ready := true }) else k)) }

/-- R161: a unit's symbols are checked and decrypted. -/
def checkUnit (r : Req) (u : UnitRead) (s : State) : Option (BitVec 512) × State :=
  if zeroized s u.key then (none, s)
  else
    match openUnit (workKey s u.key) (unitState r u) u.sym with
    | .good d => (some d, s)
    | .marker => (none, s)
    | .badTag =>
      let s := s.count 0x603 r.engine
      (none, alarmData 1 r.page u.idx u.key (s.poisonAdd (cpaOf s (if r.code = 15 then r.addr else r.page * 4096) / 64)))

/-- R145, R161, R177: whether an engine can check a unit now: its keystream is ready or its key lost, and the decoders' queues do not
hold back what it is for. -/
def unitReady (s : State) (q : Nat × Nat × Nat) : Bool :=
  match reqAt s q.2.1 with
  | none => true
  | some r =>
    let lost := (r.units[q.2.2]?).all (fun u => zeroized s u.key)
    let held := r.code != 15 && r.stage != .decode && r.stage != .done && decodeHeld s false
    !held && (lost || s.keystreams.any (fun k => k.1 == q.1 && k.2.req == q.2.1 && k.2.unit == q.2.2 && k.2.ready))

/-- R161, R170: CRYPTO_READ_UNIT: the oldest unit at an engine that it can check. -/
def execCryptoReadUnit (engine : Fin 8) (s : State) : Host.Outcome State Fault Refusal :=
  match s.cryptoQ.find? (fun q => q.1 == engine.val && unitReady s q) with
  | none => .next s
  | some q =>
    let s := { s with cryptoQ := eraseFirst (fun x => x == q) s.cryptoQ }
    match reqAt s q.2.1 with
    | none => .next s
    | some r =>
      match r.units[q.2.2]? with
      | none => .next s
      | some u =>
        let (v, s) := checkUnit r u (((dropKeystream r.id q.2.2 s).bump (F.CRY_ENG_STATUS.UNITS engine)).count 0x601 engine)
        .next (settle (unitsDone (unitGot r q.2.2 v) s))

/-! ### Patrol scrub, initialisation and marks -/

/-- R276: the codeword that a band line was last written with; of any other line the DRAM table holds the cells themselves. -/
def bandContent (s : State) (c line : Nat) : BitVec 640 :=
  match bandLineAt s c line with
  | some (.metadata sl kind index) => metaWord s sl kind index
  | some (.directory sl i) => backingWord s (sl * 2 ^ 28 + i)
  | _ => 0

/-- R295: one line of a patrol quantum: what is stored there, decoded. A word without errors needs no decode. -/
def scrubLine (c : Nat) (e : MemErr) (s : State) : State :=
  let pos := s.get (F.DC_SCRUB.POS c)
  let (w, s) := dramSense c pos e s
  let written := if w = 0 then 0 else bandContent s c pos
  let (o, s) := dramDecode c pos (w ^^^ written) (lineMark s c pos) none s
  let s := burst c 2 (takeMaint c 1 (scheduleFix c pos { o with fixed := o.fixed.map (· ^^^ written) } s))
  let next := pos + 1
  if s.get (F.DC_CFG.FRAMES c) * 64 ≤ next then (s.put (F.DC_SCRUB.POS c) 0).bump (F.DC_SCRUB.PASSES c)
  else s.put (F.DC_SCRUB.POS c) next

/-- R284: whether a rank that a patrol quantum reads from holds it up. -/
def scrubHeld (s : State) (c : Nat) : Bool :=
  let n := max 1 (s.get (F.DC_CFG.FRAMES c) * 64)
  (List.range (s.get (F.DC_SCRUB.LINES c))).any (fun i =>
    rankHeld s c (placeOfLine s c ((s.get (F.DC_SCRUB.POS c) + i) % n)).rank)

/-- R284, R295: PATROL_SCRUB_QUANTUM, job 0x05 of a channel; `errs` are the memory errors its reads meet, in order. A quantum that a
rank holds up does not finish: it stays whole in its queue. -/
def execPatrolScrubQuantum (chan : Fin 16) (errs : List MemErr) (s : State) : Host.Outcome State Fault Refusal :=
  let c := chan.val
  if !unitWaits s 0x05 c || ((s.chans.get c).live && scrubHeld s c) then .next s else
  let s := jobDone 0x05 c s
  if (s.chans.get c).live then
    .next (forAll (List.range (s.get (F.DC_SCRUB.LINES c))) (fun i s => scrubLine c (errs.getD i noErr) s) s)
  else .next s

/-- R281: MARK_WINDOW_END: the counts begin anew with each window of 2^24 transits. -/
def execMarkWindowEnd (s : State) : Host.Outcome State Fault Refusal :=
  if s.transit / 2 ^ 24 ≤ s.markWindow then .next s
  else
    .next { s with
      markWindow := s.transit / 2 ^ 24
      chans := s.chans.mapCells (fun _ ch => { ch with counts := [] }) }

/-- R281: DC_MARK_WRITE: one subchannel's half of the register. It marks a device while AUTO_MARK is 1. -/
def markWrite (c rank sc valid dev : Nat) (s : State) : State :=
  let fv := if sc = 0 then F.DC_MARK.SC0_VALID c rank else F.DC_MARK.SC1_VALID c rank
  let fd := if sc = 0 then F.DC_MARK.SC0_DEV c rank else F.DC_MARK.SC1_DEV c rank
  if s.flag fv then s
  else
    let s := if dev < 10 then s.put fd dev else s
    if valid = 1 ∧ s.flag (F.DC_ECC_CFG.AUTO_MARK c) then (marksChanged c (s.put fv 1)).log 0x85 c 0 (markDetail rank sc (s.get fd)) else s

/-- R281, R282: DC_MARK_WRITE. -/
def execDcMarkWrite (chan : Fin 16) (rank : Fin 8) (value : BitVec 32) (s : State) : Host.Outcome State Fault Refusal :=
  let v := value.toNat
  if s.flag (F.DC_CFG.X8 chan) then .next s
  else .next (markWrite chan rank 1 (slice v 16 1) (slice v 12 4) (markWrite chan rank 0 (slice v 4 1) (slice v 0 4) s))

end Sys2Proof.Machine
end

