-- ==== Sys2Proof/Machine/Training.lean ====
section
/-!
DEFINITION. Configuration (R271, R272) and training (R297 to R299) of the DRAM channels.
-/

namespace Sys2Proof.Machine

/-! ### Configuration -/

/-- R271: whether a locked configuration is one the channel accepts. A channel without DIMMs (DPC 0, FRAMES 0) is
accepted as empty (DEDUCED, log entry 22). -/
def cfgAccepted (s : State) (c : Nat) (same : Bool) (maxFrames : Nat) : Bool :=
  let dpc := s.get (F.DC_CFG.DPC c)
  let sp := s.get (F.DC_CFG.SPEED c)
  let r := s.get (F.DC_CFG.RANK_BITS c)
  let fr := s.get (F.DC_CFG.FRAMES c)
  if dpc = 0 then decide (fr = 0)
  else
    same && decide (fr ≤ maxFrames) && decide (fr ≤ dpc * 2 ^ 26) &&
      (if s.flag (F.DC_CFG.MRDIMM c) then decide (dpc = 1) && decide (3 ≤ sp) && !s.flag (F.DC_CFG.X8 c) && decide (r ≤ 2)
       else if dpc = 1 then decide (sp ≤ 2) else decide (dpc = 2) && decide (sp ≤ 1) && decide (1 ≤ r))

/-- R272: the RWL fields of DCn_CFG. -/
def cfgFields (c v : Nat) (s : State) : State :=
  if s.flag (F.DC_CFG.LOCK c) then s
  else
    let s := (s.put (F.DC_CFG.FRAMES c) (slice v 36 28)).put (F.DC_CFG.RANK_BITS c) (slice v 10 2)
    let s := (s.put (F.DC_CFG.MRDIMM c) (slice v 9 1)).put (F.DC_CFG.X8 c) (slice v 8 1)
    let s := if slice v 12 2 ≤ 2 then s.put (F.DC_CFG.DPC c) (slice v 12 2) else s
    if slice v 0 3 ≤ 4 then s.put (F.DC_CFG.SPEED c) (slice v 0 3) else s

/-- R272: LOCK is set; `same`, `maxFrames` and `rated` are what the modules' identities say. -/
def lockCfg (c : Nat) (same : Bool) (maxFrames rated : Nat) (s : State) : State :=
  if s.flag (F.DC_CFG.LOCK c) then s
  else
    let s := { s.put (F.DC_CFG.LOCK c) 1 with chans := s.chans.upd c (fun ch => { ch with rated }) }
    if cfgAccepted s c same maxFrames then s else (s.put (F.DC_CFG.CFG_ERR c) 1).log 0x51 c

/-- R272, R287: ENABLE is written. A channel whose configuration was refused stays disabled. A write of 0 to an ENABLE that is 0 leaves
ZEROED (DEDUCED, log entry 157). -/
def writeEnable (c v : Nat) (s : State) : State :=
  if v = 1 then
    (if s.flag (F.DC_CFG.ZEROED c) && !s.flag (F.DC_CFG.CFG_ERR c) then wasEnabled c (s.put (F.DC_CFG.ENABLE c) 1) else s)
  else if s.get (F.TIER_POOL_STATUS.EVAC c) = 2 ∧ s.flag (F.DC_CFG.ENABLE c) then
    (s.put (F.DC_CFG.ENABLE c) 0).put (F.DC_CFG.ZEROED c) 0
  else s

/-- R272: DC_CFG_WRITE. `same`, `maxFrames` and `rated` are what the DIMMs' identities say when LOCK is set: whether they are the same
part, the frames they can hold and their rated speed. -/
def execDcCfgWrite (chan : Fin 16) (value : Word) (same : Bool) (maxFrames : BitVec 28) (rated : Fin 5) (s : State) :
    Host.Outcome State Fault Refusal :=
  let c := chan.val
  let v := value.toNat
  let lock := slice v 31 1 = 1
  let s := if lock then s else cfgFields c v s
  let s := if 100 ≤ slice v 16 14 then s.put (F.DC_CFG.AGE_NS c) (slice v 16 14) else s
  let s := if lock then lockCfg c same maxFrames.toNat rated s else s
  .next (writeEnable c (slice v 30 1) s)

/-! ### Steps -/

/-- R297: GO with the step, subchannel and rank that DCn_TRN_CTRL names. A channel that serves takes LIVE_RD alone, and one whose
configuration was refused is not trained (R272; that BAD_REQ tells it is DEDUCED, log entry 189). -/
def goStep (c : Nat) (s : State) : State :=
  let step := s.get (F.DC_TRN_CTRL.STEP c)
  if s.flag (F.DC_TRN_CTRL.BUSY c) then s
  else if step ≠ 8 ∧ (s.flag (F.DC_CFG.ENABLE c) ∨ s.flag (F.DC_CFG.CFG_ERR c)) then s.put (F.DC_TRN_CTRL.BAD_REQ c) 1
  else
    { s.put (F.DC_TRN_CTRL.BUSY c) 1 with chans := s.chans.upd c (fun ch => { ch with
        trn := (step, s.get (F.DC_TRN_CTRL.SC c), s.get (F.DC_TRN_CTRL.RANK c))
        zeroing := ch.zeroing && step == 8 }) }

/-- R297: TRAINING_GO, a write to DCn_TRN_CTRL. -/
def execTrainingGo (chan : Fin 16) (value : BitVec 32) (s : State) : Host.Outcome State Fault Refusal :=
  let c := chan.val
  let v := value.toNat
  let s := if slice v 30 1 = 1 then s.put (F.DC_TRN_CTRL.DONE c) 0 else s
  let s := if slice v 29 1 = 1 then s.put (F.DC_TRN_CTRL.BAD_REQ c) 0 else s
  let s := s.put (F.DC_TRN_CTRL.PATTERN c) (slice v 24 2)
  let s := if slice v 16 8 = 0 then s else s.put (F.DC_TRN_CTRL.SWEEP c) (slice v 16 8)
  let s := if slice v 12 4 ≤ 8 then s.put (F.DC_TRN_CTRL.STEP c) (slice v 12 4) else s
  let s := (s.put (F.DC_TRN_CTRL.SC c) (slice v 11 1)).put (F.DC_TRN_CTRL.RANK c) (slice v 8 3)
  .next (if slice v 0 1 = 0 then s else goStep c s)

/-- R299, R405: the width of an eye; a lane without one has none (R297). -/
def eyeWidth (e : LaneEye) : Nat := if e.left = 0xFF then 0 else e.right.toNat + 1 - e.left.toNat

/-- R299: the guard band of a training step: in delay the logbook's, for a reference voltage 8 steps. -/
def stepGuard (s : State) (c step : Nat) : Nat := if step = 6 ∨ step = 7 then 8 else s.hk.guards.getD c 16

/-- R299: a lane's setting goes to the centre of its eye; the settings that no register holds are those of the command bus, of write
levelling, of receive enable and of the write reference. -/
def centreLane (c key sc l : Nat) (e : LaneEye) (s : State) : State :=
  let mid := (e.left.toNat + e.right.toNat) / 2
  let i := 40 * sc + l
  if e.left = 0xFF then s
  else if key / 16 = 4 then s.put (F.DC_DLY.RD_DLY c i) mid
  else if key / 16 = 5 then s.put (F.DC_DLY.WR_DLY c i) mid
  else if key / 16 = 6 then s.put (F.DC_DLY.RD_VREF c i) mid
  else { s with chans := s.chans.upd c (fun ch => { ch with settings := cellInsert (64 * key + l) mid ch.settings }) }

/-- R299: what the firmware does after a step of a channel that does not serve: lanes are centred, and those narrower than the guard
band noted. -/
def centreStep (c : Nat) (lanes : List LaneEye) (s : State) : State :=
  let (step, sc, rank) := (s.chans.get c).trn
  let key := 16 * step + 8 * sc + rank
  if step = 8 then s
  else
    let s := forAll (List.range 40) (fun l s => match lanes[l]? with
      | some e => centreLane c key sc l e s
      | none => s) s
    let bad := ofBits (lanes.map (fun e => decide (eyeWidth e < stepGuard s c step)))
    { s with chans := s.chans.upd c (fun ch => { ch with
        narrow := ch.narrow.filter (fun x => x.1 != key) ++ (if bad = 0 then [] else [(key, bad)]) }) }

/-- R297: a lane's result: of a lane without an eye LEFT and RIGHT are 0xFF. -/
def recordEye (c i : Nat) (e : LaneEye) (s : State) : State :=
  ((s.put (F.DC_TRN_RESULT.LEFT c i) e.left.toNat).put (F.DC_TRN_RESULT.RIGHT c i) (if e.left = 0xFF then 0xFF else e.right.toNat)).put
    (F.DC_TRN_RESULT.ERRORS c i) e.errors.toNat

/-- R284, R298: a LIVE_RD step reads the line at the patrol position at nominal settings and with the lanes' offsets: maintenance slots
alone, and nothing of the line changes. -/
def liveProbe (c : Nat) (s : State) : State := takeMaint c 2 (burst c 2 (burst c 2 s))

/-- R297, R299: TRAINING_STEP_COMPLETE with the results of the 40 lanes of the subchannel that GO named. -/
def execTrainingStepComplete (chan : Fin 16) (lanes : Vector LaneEye 40) (s : State) : Host.Outcome State Fault Refusal :=
  let c := chan.val
  if !s.flag (F.DC_TRN_CTRL.BUSY c) then .next s
  else
    let (step, sc, _) := (s.chans.get c).trn
    let s := forAll (List.range 40) (fun l s => match lanes.toList[l]? with
      | some e => recordEye c (40 * sc + l) e s
      | none => s) s
    let s := if step = 8 then liveProbe c s else s
    .next (centreStep c lanes.toList ((s.put (F.DC_TRN_CTRL.BUSY c) 0).put (F.DC_TRN_CTRL.DONE c) 1))

/-! ### The reference sequence -/

/-- R299: the steps of a rank and subchannel, in order. -/
def stepOrder : List Nat := [0, 1, 2, 3, 4, 5, 6, 7, 4, 5]

/-- A channel's trainer set. -/
def setTrainer (c : Nat) (t : Option Trainer) (s : State) : State := { s with chans := s.chans.upd c (fun ch => { ch with trainer := t }) }

/-- R299: DCn_TIMING0 and DCn_TIMING1 written. -/
def timingFields (c v w : Nat) (s : State) : State :=
  let t0 := [F.DC_TIMING0.TCL c, F.DC_TIMING0.TCWL c, F.DC_TIMING0.TRCD c, F.DC_TIMING0.TRP c, F.DC_TIMING0.TRTP c,
    F.DC_TIMING0.TWR c, F.DC_TIMING0.TRAS c, F.DC_TIMING0.TWTR_L c]
  let t1 := [F.DC_TIMING1.TRRD_S c, F.DC_TIMING1.TRRD_L c, F.DC_TIMING1.TCCD_L c, F.DC_TIMING1.TCCD_L_WR c, F.DC_TIMING1.TWTR_S c,
    F.DC_TIMING1.TFAW c]
  let s := forAll (t0.zip (List.range 8)) (fun x s => s.put x.1 (slice v (8 * x.2) 8)) s
  let s := forAll (t1.zip (List.range 6)) (fun x s => s.put x.1 (slice w (8 * x.2) 8)) s
  s.put (F.DC_TIMING1.TRFC_NS c) (slice w 48 10)

/-- R299, R425: train_channel begins: configuration and timing from the SPD contents, and LOCK. A channel whose modules could not be read,
or whose configuration is refused, is not trained. -/
def startTraining (c : Nat) (s : State) : State :=
  let b := s.spd.getList (c * 2048) 2048
  let locked := s.flag (F.DC_CFG.LOCK c)
  let s := { s with chans := s.chans.upd c (fun ch => { ch with narrow := [], trainFailed := false, zeroing := false }) }
  if s.flag (F.SPW_SLOT_STATUS.SPD_ERR c) ∨ !s.flag (F.SPW_SLOT_STATUS.SPD_DONE c) then s
  else
    let s := if locked then s
      else timingFields c (Config.spdTiming0 b).toNat (Config.spdTiming1 b).toNat (cfgFields c (Config.spdCfg b).toNat s)
    let s := lockCfg c (Config.spdSame b) (Config.spdFrames b).toNat (Config.spdRated b) s
    if s.flag (F.DC_CFG.CFG_ERR c) || s.get (F.DC_CFG.FRAMES c) == 0 then s else setTrainer c (some {}) s

/-- R299: the step behind a step, if the sequence goes on. -/
def nextStep (s : State) (c : Nat) (t : Trainer) : Option Trainer :=
  if t.at_ + 1 < stepOrder.length then some { t with at_ := t.at_ + 1, issued := false }
  else if t.sc = 0 then some { t with sc := 1, at_ := 0, issued := false }
  else if t.rank + 1 < ranksOf s c then some { t with rank := t.rank + 1, sc := 0, at_ := 0, issued := false }
  else none

/-- R299: the last step is done: zero initialisation, or where a lane is narrower than the guard band the failure, logged with the failing
lanes (a map in ADDR; DETAIL as for a mark: DESIGN CHOICE, log entry 158). A channel on its way back is evacuated again. -/
def endTraining (c : Nat) (s : State) : State :=
  let narrow := (s.chans.get c).narrow
  let s := { setTrainer c none s with chans := (setTrainer c none s).chans.upd c (fun ch => { ch with
    zeroing := narrow.isEmpty, trainFailed := !narrow.isEmpty }) }
  let s := forAll narrow (fun x s => s.log 0x54 c x.2 (x.1 % 8 + 8 * (x.1 / 8 % 2) + 16 * (x.1 / 16))) s
  if !narrow.isEmpty && s.get (F.TIER_POOL_STATUS.EVAC c) == 3 then s.put (F.TIER_POOL_STATUS.EVAC c) 2 else s

/-- R299, R335: a unit of the training task: it starts the step at hand, or polls it and goes on. -/
def trainUnit (c : Nat) (s : State) : State :=
  match (s.chans.get c).trainer with
  | none => s
  | some t =>
    let t := { t with polled := some s.transit }
    if s.flag (F.DC_TRN_CTRL.BUSY c) then setTrainer c (some t) s
    else if t.issued then
      let s := s.put (F.DC_TRN_CTRL.DONE c) 0
      match nextStep s c t with
      | some n => setTrainer c (some n) s
      | none => endTraining c s
    else
      let s := (s.put (F.DC_TRN_CTRL.STEP c) (stepOrder.getD t.at_ 0)).put (F.DC_TRN_CTRL.SC c) t.sc
      goStep c (setTrainer c (some { t with issued := true }) (s.put (F.DC_TRN_CTRL.RANK c) t.rank))

/-- R299: whether a channel's training task has a unit in this slot. -/
def trainDue (s : State) (c : Nat) : Bool := match (s.chans.get c).trainer with
  | some t => t.polled != some s.transit
  | none => false

end Sys2Proof.Machine
end

