-- ==== Sys2Proof/Machine/Engines.lean ====
section
/-!
DEFINITION. The compression engines (R129 to R149): dispatch and completion of encoder and decoder jobs, verification,
window parity, background recompression, and engines leaving and returning to service.
-/

namespace Sys2Proof.Machine

/-! ### Engine state -/

/-- R136, R146: faults of a unit in the last 1,000,000 transits, this one included. -/
def recentFaults (s : State) (l : List (Nat × Nat)) (n : Nat) : Nat :=
  (l.filter (fun f => f.1 == n && decide (s.transit < f.2 + 1000000))).length

/-- CMP_ERR_LAST takes a record (R136, R123, R146). -/
def cmpErr (fault path engine page seg : Nat) (s : State) : State :=
  (((((s.put F.CMP_ERR_LAST.FAULT fault).put F.CMP_ERR_LAST.PATH path).put F.CMP_ERR_LAST.ENGINE engine).put
    F.CMP_ERR_LAST.PAGE page).put F.CMP_ERR_LAST.SEG seg).put F.CMP_ERR_LAST.VALID 1

/-- R123: the CPA of the segment that a job's owner works on: of a data-mover operation, that of its source. -/
def ownerAddr (s : State) : JobOwner → Nat
  | .move p k => cpaOf s (p * 4096 + 1024 * k)
  | .read id => match reqAt s id with | some r => cpaOf s (r.page * 4096 + 1024 * r.seg) | none => 0
  | .mover ring slot seg =>
    match opAt s ring slot with
    | some o => (ringAddr s ring (o.desc.src + if o.desc.opcode = 4 then 1024 * seg else o.inOff)).getD 0
    | none => 0

/-- Page and segment of a job's owner. The segment of a DECOMPRESS, whose source may start anywhere, is A[11:10] of its first sector
(DESIGN CHOICE, log entry 146). -/
def ownerPlace (s : State) (o : JobOwner) : Nat × Nat :=
  let a := homeAddr s (ownerAddr s o)
  (pageOf a, slice a 10 2)

/-- PATH of CMP_ERR_LAST for a decoder job. -/
def ownerPath (s : State) : JobOwner → Nat
  | .read _ => 0
  | .mover _ _ _ => 3
  | .move p _ => match moveOf s p with | some m => if m.kind = .recompress then 2 else 1 | none => 1

/-! ### Encoders -/

/-- The first job of a queue that this encoder may run. -/
def jobFor (n : Nat) (q : List EncJob) : Option EncJob := q.find? (fun j => j.failedOn != some n)

/-- Encoders that run jobs of an owner kind. -/
def runningKind (s : State) (p : JobOwner → Bool) : Nat := (s.cmp.encoders.filter (fun e => p e.2.owner)).length

/-- Whether an owner is a data-mover operation. -/
def isMoverJob : JobOwner → Bool
  | .mover _ _ _ => true
  | _ => false

/-- Whether an owner is a recompression. -/
def isRecompJob (s : State) : JobOwner → Bool
  | .move p _ => match moveOf s p with | some m => m.kind == .recompress | none => false
  | _ => false

/-- R134: the job an idle encoder takes. -/
def pickJob (s : State) (n : Nat) : Option EncJob :=
  match jobFor n s.cmp.demoteQ with
  | some j => some j
  | none =>
    let mover := if runningKind s isMoverJob < s.get F.CMP_CTRL.DM_ENC_MAX then jobFor n s.cmp.moverQ else none
    match mover with
    | some j => some j
    | none =>
      if runningKind s (isRecompJob s) < s.get F.CMP_CTRL.RECOMP_ENC_MAX then jobFor n s.cmp.recompQ else none

/-- R134: ENCODER_DISPATCH. -/
def execEncoderDispatch (engine : Fin 8) (s : State) : Host.Outcome State Fault Refusal :=
  let n := engine.val
  if cmpState s n ≠ 0 ∨ s.cmp.encoders.any (fun e => e.1 == n) then .next s
  else
    match pickJob s n with
    | none => .next s
    | some j =>
      let cut (q : List EncJob) : List EncJob := eraseFirst (fun x => x == j) q
      let c := s.cmp
      let c := if (jobFor n c.demoteQ) == some j then { c with demoteQ := cut c.demoteQ }
        else if isMoverJob j.owner then { c with moverQ := cut c.moverQ } else { c with recompQ := cut c.recompQ }
      .next ({ s with cmp := { c with encoders := c.encoders ++ [(n, j)] } }.put (F.CMP_ENG_STATUS.LEVEL n) j.level)

/-- R90, R137, R141: a move's segment after its encoding; none is a no-gain. CMP_NOGAIN.TIER counts here, whether or not the demotion
commits later, and counts no segment kept raw for its poison (DESIGN CHOICE, log entry 147). -/
def segEncoded (page k : Nat) (out : Option (List Nat)) (s : State) : State :=
  match moveOf s page with
  | none => s
  | some m =>
    match m.segs[k]? with
    | some (.plain b code kept) =>
      if m.kind = .recompress then
        match out with
        | some o => if o.length / 64 < secCount code then setSeg page k (.ready o (o.length / 64) []) s
                    else setSeg page k (.ready kept code []) s
        | none => setSeg page k (.ready kept code []) s
      else
        match out with
        | some o => setSeg page k (.ready o (o.length / 64) []) s
        | none => setSeg page k (.ready b 15 []) (s.bump F.CMP_NOGAIN.TIER)
    | _ => s

/-- An encoder job's result goes to its owner. -/
def deliverEncode (j : EncJob) (out : Option (List Nat)) (s : State) : State :=
  match j.owner with
  | .move p k => segEncoded p k out s
  | .mover ring slot seg => moverSegment ring slot seg out s
  | .read _ => s

/-- R136: jobs to be run again that no other encoder than the one they failed on is online for end as no-gains. -/
def endBarred (s : State) : State :=
  let barred (j : EncJob) : Bool := j.failedOn.any (fun n => (encodersOnline s).all (· == n))
  let ends := s.cmp.demoteQ.filter barred ++ s.cmp.moverQ.filter barred ++ s.cmp.recompQ.filter barred
  let keep (q : List EncJob) : List EncJob := q.filter (fun j => !barred j)
  forAll ends (fun j s => deliverEncode j none s)
    { s with cmp := { s.cmp with demoteQ := keep s.cmp.demoteQ, moverQ := keep s.cmp.moverQ, recompQ := keep s.cmp.recompQ } }

/-- R136: an engine with its fourth fault in the window leaves service. -/
def failEngine (n unit : Nat) (s : State) : State :=
  let s := { s with cmp := { s.cmp with faults := (unit, s.transit) :: s.cmp.faults } }
  if 4 ≤ recentFaults s s.cmp.faults unit ∧ cmpState s n ≠ 4 then endBarred ((s.put (F.CMP_ENG_STATUS.STATE n) 4).log 0x22 n) else s

/-- R135, R136: ENCODE_COMPLETE; `fault` is the fault code with which the shadow decoder refuses the output. -/
def execEncodeComplete (engine : Fin 8) (fault : Option (BitVec 4)) (s : State) : Host.Outcome State Fault Refusal :=
  let n := engine.val
  match s.cmp.encoders.find? (fun e => e.1 == n) with
  | none => .next s
  | some (_, j) =>
    let s := { s with cmp := { s.cmp with encoders := s.cmp.encoders.filter (fun e => e.1 != n) } }
    let s := s.put (F.CMP_ENG_STATUS.LEVEL n) 0
    match fault with
    | none =>
      let out := aqzEncode j.input j.level
      let s := (s.bump (F.CMP_ENG_STATUS.SEGMENTS n)).count 0x501 n
      .next (deliverEncode j out (if out.isNone then s.count 0x502 n else s))
    | some f =>
      let place := ownerPlace s j.owner
      let s := cmpErr f.toNat 4 n place.1 place.2 ((s.log 0x21 n 0 f.toNat).bump (F.CMP_ENG_STATUS.FAULTS n))
      let s := failEngine n n s
      let other := (encodersOnline s).any (fun e => e != n)
      if j.failedOn.isNone && other then
        let j := { j with failedOn := some n }
        if isMoverJob j.owner then .next { s with cmp := { s.cmp with moverQ := j :: s.cmp.moverQ } }
        else if isRecompJob s j.owner then .next { s with cmp := { s.cmp with recompQ := j :: s.cmp.recompQ } }
        else .next { s with cmp := { s.cmp with demoteQ := j :: s.cmp.demoteQ } }
      else .next (deliverEncode j none s)

/-! ### Decoders -/

/-- R145: the DECOMPRESS operations that waited for room for their full decode go on. -/
def resumeHeld (s : State) : State :=
  forAll s.rings.cells (fun c s => forAll c.2.ops (fun o s =>
    if o.desc.opcode = 5 && !o.decoding && !decodeHeld s true then advanceOp c.1 o.slot s else s) s) s

/-- R145: DECODER_DISPATCH: partial jobs before full ones, each in order of arrival, on a lane of their stop. -/
def execDecoderDispatch (s : State) : Host.Outcome State Fault Refusal :=
  let s := placeDecodes s
  let q := s.cmp.waitDec.filter (fun j => !isFull j) ++ s.cmp.waitDec.filter isFull
  match q.find? (fun j => (stopLane s j).isSome) with
  | none => .next s
  | some j =>
    match stopLane s j with
    | none => .next s
    | some k =>
      .next (resumeHeld (placeDecodes { s with cmp := { s.cmp with
        waitDec := eraseFirst (fun x => x == j) s.cmp.waitDec, decoders := s.cmp.decoders ++ [(k, j)] } }))

/-- R123, R128: a decoder job's result goes to its owner; an error is the fault code of a refused segment. -/
def deliverDecode (j : DecJob) (n path : Nat) (r : Except Nat (List Nat)) (s : State) : State :=
  let place := ownerPlace s j.owner
  let s := match r with
    | .error f => cmpErr f path n place.1 place.2 (s.log 0x20 n (ownerAddr s j.owner) f)
    | .ok _ => s
  match j.owner with
  | .read id =>
    match reqAt s id with
    | none => s
    | some q =>
      match r with
      | .ok out => finishRead q (some (lineOf ((out.drop (64 * (lineIdx q.addr % 16))).take 64))) true s
      | .error _ => finishRead q none true (s.poisonAdd (cpaOf s q.addr / 64))
  | .move p k =>
    match moveOf s p with
    | none => s
    | some m =>
      if m.kind = .recompress then
        match r with
        | .ok out =>
          let code := j.code.getD 15
          let s := setSeg p k (.plain out code j.bytes) s
          { s with cmp := { s.cmp with recompQ := s.cmp.recompQ ++ [{ owner := .move p k, input := out, level := m.level }] } }
        | .error _ => abortMove m s
      else if m.kind = .spill then
        putSpill p (setSeg p k (match r with | .ok _ => .ready j.bytes (j.code.getD 15) [] | .error _ => lostSegment) s)
      else setSeg p k (decodedWork r) s
  | .mover ring slot seg => moverSegment ring slot seg (match r with | .ok o => some o | .error _ => none) s

/-- R23: the bytes a decoder job works on, none while the line of its read has not come: a read's job begins with the first sector
and takes the others as they come. -/
def decodeInput (s : State) (j : DecJob) : Option (List Nat) :=
  match j.owner with
  | .read id =>
    match reqAt s id with
    | some q => if q.units.isEmpty then some j.bytes else if lineCame q then some (readBytes q) else none
    | none => some j.bytes
  | _ => some j.bytes

/-- R23, R122, R144: DECODE_COMPLETE of a lane. -/
def execDecodeComplete (engine : Fin 24) (lane : Fin 4) (s : State) : Host.Outcome State Fault Refusal :=
  let n := engine.val + 8
  match s.cmp.decoders.find? (fun d => d.1 == n * 4 + lane.val) with
  | none => .next s
  | some (k, j) =>
    match decodeInput s j with
    | none => .next s
    | some bytes =>
      let s := { s with cmp := { s.cmp with decoders := s.cmp.decoders.filter (fun d => d.1 != k) } }
      let r := aqzDecode bytes j.code j.want
      .next (settle (deliverDecode j n (ownerPath s j.owner) r ((s.bump (F.CMP_ENG_STATUS.SEGMENTS n)).count 0x501 n)))

/-- R146: DECODER_PARITY_ERROR of a lane. -/
def execDecoderParityError (engine : Fin 24) (lane : Fin 4) (s : State) : Host.Outcome State Fault Refusal :=
  let n := engine.val + 8
  let k := n * 4 + lane.val
  match s.cmp.decoders.find? (fun d => d.1 == k) with
  | none => .next s
  | some (_, j) =>
    let s := { s with cmp := { s.cmp with decoders := s.cmp.decoders.filter (fun d => d.1 != k) } }
    let s := failEngine n (100 + k) (s.bump (F.CMP_ENG_STATUS.FAULTS n))
    if j.failedLane.isNone then
      .next { s with cmp := { s.cmp with waitDec := { j with failedLane := some k } :: s.cmp.waitDec } }
    else .next (settle (deliverDecode j n 5 (.error 0xF) s))

/-! ### Recompression -/

/-- R141: the work on a segment of a page under recompression. -/
def recompSegment (page c g : Nat) (secs : List Nat) (k : Nat) (s : State) : SegWork × State :=
  let code := secs.getD k 0
  if code = 0 then (.ready [] 0 [], s)
  else
    let (l, s) := readSectors page c g (secStart secs k) (secCount code) s
    if !(badSectors l).isEmpty then (.ready (sectorBytes l) code (badSectors l), s)
    else if code = 15 then (.plain (sectorBytes l) 15 (sectorBytes l), s)
    else (.stored (sectorBytes l) code none, s)

/-- The work on the first `n` segments. -/
def recompSegments (page c g : Nat) (secs : List Nat) : Nat → State → List SegWork × State
  | 0, s => ([], s)
  | n + 1, s =>
    let (l, s) := recompSegments page c g secs n s
    let (w, s) := recompSegment page c g secs n s
    (l ++ [w], s)

/-- R141: a recompression starts. -/
def startRecompression (page : Nat) (s : State) : State :=
  match pageLoc s page with
  | .run c g secs =>
    let (segs, s) := recompSegments page c g secs 4 s
    let s := startMove { page, kind := .recompress, segs } s
    match moveOf s page with
    | some m => queueEncodes m (queueDecodes m s)
    | none => s
  | _ => s

/-- R141: the next slice from `turn` with a queued page and no recompression in flight. -/
def recompSlice (s : State) : Option Nat :=
  ((List.range 16).map (fun k => (s.cmp.turn + k) % 16)).find? (fun sl =>
    s.cmp.pages.any (fun p => p.1 == sl) && !(sliceMoves s sl).any (fun m => m.kind == .recompress)
      && decide ((sliceMoves s sl).length < 8))

/-- R141, R145, R164, R168: RECOMPRESSOR_DEQUEUE. A page whose metadata cannot be had now, or whose full decodes the crypto engines
would hold, stays queued; so does one whose MAJOR is full, until the rekey of its region has passed it. -/
def execRecompressorDequeue (s : State) : Host.Outcome State Fault Refusal :=
  if encNone s || s.stops 3 || decodeHeld s true || !accessesIn s 64 then .next s
  else
    match recompSlice s with
    | none => .next s
    | some sl =>
      match s.cmp.pages.find? (fun p => p.1 == sl) with
      | none => .next s
      | some p =>
        let s := { s with cmp := { s.cmp with turn := (sl + 1) % 16 } }
        if !pageRoom s p.2 then .next s
        else
          let (ok, s) := pageFetch p.2 s
          let taken := { s with cmp := { s.cmp with pages := eraseFirst (fun x => x == p) s.cmp.pages } }
          if ok && pageKind s p.2 == 2 && !pageMoving s p.2 && decide (effHeat s p.2 ≤ s.get F.TIER_POLICY.COLD) then
            if majorFull s p.2 then .next (askRekey p.2 s)
            else .next (startRecompression p.2 (chargeInternal 64 (secStart (pageSecs s p.2) 4) taken))
          else .next taken

/-- R142: RECOMPRESSION_TIMEOUT. -/
def execRecompressionTimeout (page : BitVec 39) (s : State) : Host.Outcome State Fault Refusal :=
  match moveOf s page.toNat with
  | none => .next s
  | some m =>
    if m.kind = .recompress ∧ m.start + m.limit ≤ s.transit then
      .next (settle (abortMove m (s.bump F.CMP_RECOMP_STATUS.TIMEOUTS)))
    else .next s

/-! ### Service -/

/-- R147: whether an engine runs a job. -/
def cmpBusy (s : State) (n : Nat) : Bool :=
  s.cmp.encoders.any (fun e => e.1 == n) || s.cmp.decoders.any (fun d => d.1 / 4 == n)

/-- R147: engines of the same kind ONLINE or DRAINING beside `n`. -/
def othersInService (s : State) (n : Nat) : Nat :=
  let kind := if n < 8 then List.range 8 else (List.range 24).map (· + 8)
  (kind.filter (fun e => e != n && decide (cmpState s e ≤ 1))).length

/-- R147: a request to take an engine out of service or return it: whether it is granted. A write of 0 to an engine that is DRAINING,
ONLINE or in SELFTEST, and of 1 to one that is not ONLINE, does nothing and leaves the field (DESIGN CHOICE, log entry 148). -/
def cmpOffline (n : Nat) (off : Bool) (s : State) : Bool × State :=
  let refuse := (false, s.put F.CMP_CTRL.BAD_REQ 1)
  if off then
    if cmpState s n ≠ 0 then (true, s)
    else if othersInService s n < (if n < 8 then 1 else 4) then refuse
    else (true, endBarred ((s.put (F.CMP_ENG_STATUS.STATE n) 1).put (F.CMP_ENG_CTRL.OFFLINE n) 1))
  else if cmpState s n = 2 then (true, (s.put (F.CMP_ENG_STATUS.STATE n) 0).put (F.CMP_ENG_CTRL.OFFLINE n) 0)
  else if cmpState s n = 4 then refuse
  else (true, s)

/-- R147: CMP_ENG_OFFLINE_WRITE. -/
def execCmpEngOfflineWrite (engine : Fin 32) (offline : Bool) (s : State) : Host.Outcome State Fault Refusal :=
  .next (cmpOffline engine offline s).2

/-- R148: a self-test starts in OFFLINE or FAILED. -/
def cmpSelftest (n : Nat) (s : State) : State :=
  if cmpState s n = 2 ∨ cmpState s n = 4 then s.put (F.CMP_ENG_STATUS.STATE n) 3 else s

/-- R148: CMP_ENG_SELFTEST_WRITE. -/
def execCmpEngSelftestWrite (engine : Fin 32) (s : State) : Host.Outcome State Fault Refusal :=
  .next (cmpSelftest engine s)

/-- R148: CMP_SELFTEST_COMPLETE. -/
def execCmpSelftestComplete (engine : Fin 32) (pass : Bool) (s : State) : Host.Outcome State Fault Refusal :=
  let n := engine.val
  if cmpState s n = 3 then
    .next ((s.put (F.CMP_ENG_STATUS.STATE n) (if pass then 2 else 4)).put (F.CMP_ENG_STATUS.SELFTEST_RESULT n)
      (if pass then 1 else 2))
  else .next s

/-- R147, R188: ENGINE_DRAINED: a DRAINING engine with nothing left to do is OFFLINE. -/
def execEngineDrained (crypto : Bool) (engine : Fin 32) (s : State) : Host.Outcome State Fault Refusal :=
  let n := engine.val
  if crypto then
    if s.get (F.CRY_ENG_STATUS.STATE n) = 1 ∧ !s.keystreams.any (fun k => k.1 == n) then
      .next (s.put (F.CRY_ENG_STATUS.STATE n) 2)
    else .next s
  else if cmpState s n = 1 ∧ !cmpBusy s n then .next (s.put (F.CMP_ENG_STATUS.STATE n) 2)
  else .next s

/-- R149: TIER_DISABLE_WRITE, a write to CMP_CTRL. -/
def execTierDisableWrite (value : BitVec 32) (s : State) : Host.Outcome State Fault Refusal :=
  let v := value.toNat
  let s := if slice v 16 1 = 1 then s.put F.CMP_CTRL.BAD_REQ 0 else s
  let s := if slice v 12 2 = 0 then s else s.put F.CMP_CTRL.FULL_LANES (slice v 12 2)
  let s := if slice v 8 4 ≤ 8 then s.put F.CMP_CTRL.RECOMP_ENC_MAX (slice v 8 4) else s
  let s := if 1 ≤ slice v 4 4 ∧ slice v 4 4 ≤ 8 then s.put F.CMP_CTRL.DM_ENC_MAX (slice v 4 4) else s
  .next (s.put F.CMP_CTRL.TIER_DISABLE (slice v 0 1))

end Sys2Proof.Machine
end

