-- ==== Sys2Proof/Machine/Keys.lean ====
section
/-!
DEFINITION. Keys, walks and crypto engines (R150 to R154, R173, R174, R179 to R189): key loads, retirement and its
flush, region walks, a reset of the crypto domain, and the crypto engines' service.
-/

namespace Sys2Proof.Machine

/-! ### Key slots -/

/-- R152: the message from which a working key is derived. -/
def wkMessage (s : State) (k loads : Nat) : List Nat :=
  [0x41, 0x51, 0x57, 0x4B] ++ keyBytes s.salt ++ [k] ++ toBytes 4 loads

/-- R152: WK_k of a loaded key. -/
def deriveWk (s : State) (loaded : BitVec 256) (k loads : Nat) : BitVec 256 :=
  BitVec.ofNat 256 (ofBytes (hmacSha256 (keyBytes loaded) (wkMessage s k loads)))

/-- R152: a key is loaded into an EMPTY slot. -/
def loadKey (k : Nat) (loaded : BitVec 256) (imported : Bool) (s : State) : State :=
  let s := s.bump (F.CRY_KEY_STATUS.LOADS k)
  let wk := deriveWk s loaded k (s.get (F.CRY_KEY_STATUS.LOADS k))
  let s := { s with keys := s.keys.set k { wk := some wk } }
  ((s.put (F.CRY_KEY_STATUS.STATE k) 1).put (F.CRY_KEY_STATUS.IMPORTED k) (bit imported)).put (F.CRY_KEY_STATUS.ZEROIZED k) 0

/-- R186: whether anything under key `k` is still in a buffer or in flight. -/
def keyInUse (s : State) (k : Nat) : Bool :=
  s.wb.any (fun w => (keyGen s (pageOf w.addr)).1 == k) || s.moves.any (fun m => (keyGen s m.page).1 == k)

/-- R186: KEY_FLUSH. -/
def execKeyFlush (key : Fin 64) (s : State) : Host.Outcome State Fault Refusal :=
  let k := key.val
  if keyState s k = 2 ∧ !s.flag (F.CRY_KEY_STATUS.ZEROIZED k) ∧ s.get (F.CRY_KEY_STATUS.REGIONS k) = 0 ∧ !keyInUse s k then
    let s := { s with
      keystreams := s.keystreams.filter (fun x => x.2.key != k)
      near := s.near.keep (fun _ e => !(e.valid && e.key == k))
      keys := s.keys.set k {} }
    .next (((s.put (F.CRY_KEY_STATUS.STATE k) 0).put (F.CRY_KEY_STATUS.IMPORTED k) 0).log 0x84 k)
  else .next s

/-! ### Walks -/

/-- R181: a walk's registers show its progress. -/
def showWalk (w : Nat) (x : Walk) (s : State) : State :=
  let s := ((s.put (F.CRY_WALK_STATUS.BUSY w) 1).put (F.CRY_WALK_STATUS.KIND w) (bit x.keyMove)).put
    (F.CRY_WALK_STATUS.SRC_KEY w) x.srcKey
  ((s.put (F.CRY_WALK_STATUS.SRC_GEN w) x.srcGen).put (F.CRY_WALK_STATUS.REGION w) x.region).put
    (F.CRY_WALK_STATUS.DONE w) (sumOf x.ptr)

/-- R181: a context's registers are cleared. -/
def hideWalk (w : Nat) (s : State) : State :=
  forAll [F.CRY_WALK_STATUS.BUSY w, F.CRY_WALK_STATUS.KIND w, F.CRY_WALK_STATUS.SRC_KEY w, F.CRY_WALK_STATUS.SRC_GEN w,
    F.CRY_WALK_STATUS.REGION w, F.CRY_WALK_STATUS.DONE w] (fun f s => s.put f 0) s

/-- The walk of a context. -/
def walkAt (s : State) (w : Nat) : Option Walk := (cellFind w s.walks)

/-- R182: a page with no stored data takes the next counter state, and the walk's pointer passes it. -/
def walkSkip (w page : Nat) (s : State) : State :=
  let m : Move := { page, kind := .walk w }
  let (_, _, ctr) := nextState s m
  advanceWalk w (pageSlice page) (setCounters page ctr s)

/-- R164, R182: the pages of a slice are walked in index order: pages without data at once (at most `fuel` of them here), the
next page with data as a move. The pointer passes a page whose metadata is in quarantine with no counter written (DESIGN CHOICE, log
entry 145: the spec is silent). -/
def walkSlice (w sl : Nat) : Nat → State → State
  | 0, s => s
  | fuel + 1, s =>
    match walkAt s w with
    | none => s
    | some x =>
      let p := x.ptr.getD sl 0
      if 16384 ≤ p then s
      else
        let page := pageAt sl (x.region * 2 ^ 14 + p)
        if (moveOf s page).isSome then s
        else
          if !pageRoom s page then s else
          let (ok, s) := pageFetch page s
          if !ok then walkSlice w sl fuel (advanceWalk w sl s)
          else if moveHeld s page (.walk w) then askRekey page s
          else
            match pageLoc s page with
            | .none => walkSlice w sl fuel (walkSkip w page s)
            | .slot _ _ =>
              if 8 ≤ (sliceMoves s sl).length then s
              else
                let m : Move := { page, kind := .walk w, peer := true, waitPeer := true, newChan := pageMember s page
                                  segs := List.replicate 4 (.stored [] 0 none) }
                forAll (List.range 4) (askSegment page) (startMove m s)
            | _ => startPlainMove page (.walk w) s

/-- R182: every running walk goes on at a slice, and its registers follow. -/
def walksAt (sl : Nat) (s : State) : State :=
  forAll s.walks (fun w s =>
    let s := walkSlice w.1 sl 64 s
    match walkAt s w.1 with
    | some x => showWalk w.1 x s
    | none => s) s

/-- R181: the lowest free walk context. -/
def freeContext (s : State) : Option Nat := (List.range 4).find? (fun w => (walkAt s w).isNone)

/-- R181, R185: the oldest waiting walk of a region that can start starts in a context. -/
def startWalk (w : Nat) (q : WalkReq) (s : State) : State :=
  let d := s.region q.region
  let s := { s with walkQueue := eraseFirst (fun x => x == q) s.walkQueue }
  if d.state != 1 || d.walk || (q.toKey.isNone && d.gen == 127) then s
  else
    let x : Walk := { region := q.region, keyMove := q.toKey.isSome, srcKey := d.key, srcGen := d.gen
                      ptr := List.replicate 16 0 }
    let s := s.writeRegion q.region (fun d => { d with
      walk := true, srcKey := d.key, srcGen := d.gen
      key := q.toKey.getD d.key, gen := if q.toKey.isSome then d.gen else d.gen + 1 })
    let s := recountKeys (showWalk w x { s with walks := s.walks ++ [(w, x)] })
    forAll (List.range 16) walksAt s

/-- R181: WALK_START. -/
def execWalkStart (s : State) : Host.Outcome State Fault Refusal :=
  match freeContext s, s.walkQueue.find? (fun q => !(s.region q.region).walk) with
  | some w, some q => .next (startWalk w q s)
  | _, _ => .next s

/-- R182: a finished walk: the descriptors lose WALK and the context is released. -/
def endWalk (w : Nat) (x : Walk) (s : State) : State :=
  let s := s.writeRegion x.region (fun d => { d with walk := false, srcKey := 0, srcGen := 0 })
  recountKeys (hideWalk w { s with walks := cellErase w s.walks })

/-- R182: every walk whose 16 pointers reached 16,384 ends (a frame-executive action). -/
def endWalks (s : State) : State :=
  forAll s.walks (fun w s => if w.2.ptr.all (fun p => decide (16384 ≤ p)) then endWalk w.1 w.2 s else s) s

/-- R75, R183: freeing a region ends its walk at once, and the walk's moves with it. -/
def dropWalk (region : Nat) (s : State) : State :=
  let s := { s with walkQueue := s.walkQueue.filter (fun q => q.region != region) }
  forAll s.walks (fun w s =>
    if w.2.region == region then endWalk w.1 w.2 (forAll (s.moves.filter (fun m => m.kind == .walk w.1)) abortMove s) else s) s

/-! ### A reset of the crypto domain -/

/-- R153, R154, R368: SALT and Kint are drawn, slots emptied and every GEN set to 0. The reset is noted (R460). Slots that ALLOCATED or FREEING
regions name come out RETIRING and ZEROIZED. The slices' metadata waits for its initialisation. Walks and their queue are dropped,
so that a slot is counted by KEY_ID alone; moves in flight and the frames of the pages that become LOST stay as they are (DESIGN
CHOICE, log entry 153). -/
def cryptoReset (s : State) : State :=
  let (salt, s) := s.trng
  let (kint, s) := s.trng
  let s := { s with
    salt, kint, keys := {}, keystreams := [], alarms := [], metaCache := [], metaSto := {}, roots := {}
    quarantine := [], nodeRekeys := [], cryFaults := [], walks := [], walkQueue := []
    regs := s.regs.filter (fun c => domainOfKey c.1 != Domain.crypto)
    regions := s.regions.mapCells (fun _ r => { r with
      gen := 0, srcGen := 0, srcKey := 0, walk := false, initLost := r.state == 1 })
    tier := { s.tier with metaReady := false, pinned := [] } }
  let s := (s.put F.PWR_RESET_CAUSE.CRYPTO 1).put F.PWR_RESET_CAUSE.LAST 5
  forAll (List.range 64) (fun k s =>
    let n := (regionsUnder s k).length
    if n = 0 then s
    else ((s.put (F.CRY_KEY_STATUS.STATE k) 2).put (F.CRY_KEY_STATUS.ZEROIZED k) 1).put (F.CRY_KEY_STATUS.REGIONS k) n) s

/-- R154: the device-wide event of a crypto reset that leaves regions ALLOCATED; its code is 0x2D (DESIGN CHOICE, log entry
173). -/
def lostRegionsEvent (s : State) : State :=
  let live := s.regions.cells.filter (fun c => c.2.state == 1)
  forAll slots (fun m s =>
    if live.any (fun c => ldMaps s m (cpaOf s (c.1 * 2 ^ 30))) then
      eventTo m { kind := .deviceWide, code := 0x2D, dpa := 0, detail := 0 } s
    else s) s

/-! ### Crypto engines -/

/-- R187: the state of a crypto engine. -/
def cryState (s : State) (n : Nat) : Nat := s.get (F.CRY_ENG_STATUS.STATE n)

/-- R187: the engine in SPARE. -/
def spareEngine (s : State) : Option Nat := (List.range 8).find? (fun n => cryState s n == 5)

/-- R187: the spare comes into service. -/
def useSpare (s : State) : State :=
  match spareEngine s with
  | some n => s.put (F.CRY_ENG_STATUS.STATE n) 0
  | none => s

/-- R187: the units of a request at engine `e` run on engine `t`. -/
def rerunUnits (e t : Nat) (ids : List Nat) (s : State) : State :=
  let here (n id : Nat) : Bool := n == e && ids.contains id
  { s with
    reqs := s.reqs.map (fun r => if r.engine == e && ids.contains r.id then { r with engine := t } else r)
    keystreams := s.keystreams.map (fun k => if here k.1 k.2.req then (t, { k.2 with ready := false }) else k)
    cryptoQ := s.cryptoQ.map (fun q => if here q.1 q.2.1 then (t, q.2) else q) }

/-- R187: the request whose unit an engine works on: of the oldest unit whose data has come, else of the oldest whose keystream is being
computed (DESIGN CHOICE, log entry 182). A write's unit is run at once when its line drains, on an ONLINE engine. -/
def unitAt (s : State) (e : Nat) : Option Nat :=
  match s.cryptoQ.find? (fun q => q.1 == e) with
  | some q => some q.2.1
  | none => (s.keystreams.find? (fun k => k.1 == e && !k.2.ready)).map (fun k => k.2.req)

/-- R187: CRY_FAULT: the engine's unit is run again on another ONLINE engine; the fourth fault in 1,000,000
transits takes the engine out of service. -/
def execCryFault (engine : Fin 8) (s : State) : Host.Outcome State Fault Refusal :=
  let e := engine.val
  let s := (s.log 0x28 e).bump (F.CRY_ENG_STATUS.FAULTS e)
  let s := { s with cryFaults := (e, s.transit) :: s.cryFaults }
  let other (s : State) : Option Nat := argMax (freeEntries s) ((List.range 8).filter (fun n => n != e && cryOnline s n))
  let s := match unitAt s e, other s with
    | some id, some t => rerunUnits e t [id] s
    | _, _ => s
  if 4 ≤ recentFaults s s.cryFaults e ∧ cryState s e ≤ 1 then
    let s := useSpare (s.put (F.CRY_ENG_STATUS.STATE e) 4)
    let s := s.logAs 2 6 0x22 e 0 0
    match other s with
    | some t => .next (rerunUnits e t (s.reqs.map (·.id)) s)
    | none => .next (s.log 0x29)
  else .next s

/-- R188: a request to take a crypto engine out of service or return it: whether it is granted. A request that the engine's state does
not provide for (to go offline when not ONLINE, to return when ONLINE, DRAINING or in SELFTEST) is granted with no effect (DESIGN
CHOICE, log entry 152). -/
def cryOffline (n : Nat) (off : Bool) (s : State) : Bool × State :=
  let refuse := (false, s.put F.CRY_CTRL.BAD_REQ 1)
  if off then
    if cryState s n ≠ 0 then (true, s)
    else if (spareEngine s).isNone then refuse
    else (true, ((useSpare s).put (F.CRY_ENG_STATUS.STATE n) 1).put (F.CRY_ENG_CTRL.OFFLINE n) 1)
  else if cryState s n = 2 ∨ (cryState s n = 4 ∧ s.get (F.CRY_ENG_STATUS.SELFTEST_RESULT n) = 1) then
    let up := ((List.range 8).filter (cryOnline s)).length
    (true, (s.put (F.CRY_ENG_STATUS.STATE n) (if up < 7 then 0 else 5)).put (F.CRY_ENG_CTRL.OFFLINE n) 0)
  else if cryState s n = 4 then refuse
  else (true, s)

/-- R188: CRY_ENG_OFFLINE_WRITE. -/
def execCryEngOfflineWrite (engine : Fin 8) (offline : Bool) (s : State) : Host.Outcome State Fault Refusal :=
  .next (cryOffline engine offline s).2

/-- R189: a self-test starts in OFFLINE or FAILED. -/
def crySelftest (n : Nat) (s : State) : State :=
  if cryState s n = 2 ∨ cryState s n = 4 then s.put (F.CRY_ENG_STATUS.STATE n) 3 else s

/-- R189: CRY_ENG_SELFTEST_WRITE. -/
def execCryEngSelftestWrite (engine : Fin 8) (s : State) : Host.Outcome State Fault Refusal :=
  .next (crySelftest engine s)

/-- R189: CRY_SELFTEST_COMPLETE. -/
def execCrySelftestComplete (engine : Fin 8) (pass : Bool) (s : State) : Host.Outcome State Fault Refusal :=
  let n := engine.val
  if cryState s n = 3 then
    .next ((s.put (F.CRY_ENG_STATUS.STATE n) (if pass then 2 else 4)).put (F.CRY_ENG_STATUS.SELFTEST_RESULT n)
      (if pass then 1 else 2))
  else .next s

/-- R174: CRY_CTRL_WRITE. -/
def execCryCtrlWrite (value : BitVec 32) (s : State) : Host.Outcome State Fault Refusal :=
  let v := value.toNat
  let s := if slice v 8 1 = 1 then s.put F.CRY_CTRL.BAD_REQ 0 else s
  let old := (s.get F.CRY_CTRL.ALARM_LIMIT, s.get F.CRY_CTRL.ALARM_ZEROIZE)
  let s := s.put F.CRY_CTRL.ALARM_LIMIT (slice v 16 8)
  let s := if zeroizeForced s then s else s.put F.CRY_CTRL.ALARM_ZEROIZE (slice v 9 1)
  if old = (s.get F.CRY_CTRL.ALARM_LIMIT, s.get F.CRY_CTRL.ALARM_ZEROIZE) then .next s else .next (checkAlarmLimit s)

end Sys2Proof.Machine
end

