-- ==== Sys2Proof/Machine/Sweep.lean ====
section
/-!
DEFINITION. The tier engine's rows: sizing of the metadata bands (R76, R78), their initialisation (R154), the demotion
sweep with freeing, evacuation and spills (R75, R90, R100, R261, R263, R266), the heat epoch (R86), the commit of moves
(R87), and the evacuation and return of a channel (R99 to R101).
-/

namespace Sys2Proof.Machine

/-! ### Bands and pools -/

/-- R78: frames of the bands that channel `c` holds at configuration. -/
def bandsHeld (s : State) (c : Nat) : Nat :=
  (if unusable s c then 0 else bandOf s c) + (if unusable s (partner c) && !unusable s c then bandOf s (partner c) else 0)

/-- R78: whether the configuration of TIER_CAP_CFG, and the spill area of CLU_SPILL_CFG, is accepted. -/
def capAccepted (s : State) : Bool :=
  let p := s.presented
  let sh := s.get F.TIER_CAP_CFG.SHARED_REGIONS
  let raw := sumOf ((List.range 16).map (fun c => s.get (F.DC_CFG.FRAMES c)))
  let area (c : Nat) : Nat := if unusable s c then 0 else spillFrames s
  (List.range 16).all (fun c => decide (2 * (bandsHeld s c + area c) ≤ s.get (F.DC_CFG.FRAMES c))) && decide (p ≤ 32768)
    && decide (p * 2 ^ 18 ≤ 4 * raw) && decide (sh ≤ p) && decide (sh ≤ 2048)
    && (List.range 16).all (fun c => !(unusable s c && unusable s (partner c)))

/-- Frames of a channel in use. -/
def usedFrames (s : State) (c : Nat) : Nat := (s.frames.cells.filter (fun x => x.1 / 2 ^ 28 == c && x.2.use != 0)).length

/-- R76, R78: the pools as the tier engine leaves reset. -/
def sizePools (s : State) : State :=
  let top (c : Nat) : Nat := if unusable s c then 0 else s.get (F.DC_CFG.FRAMES c) - bandsHeld s c
  let pool (c : Nat) : Nat := top c - spillFrames s
  let s := { s with tier := { s.tier with
    poolFrames := (List.range 16).map pool
    dataTop := (List.range 16).map top
    spillBase := (List.range 16).map pool
    bandFrames := (List.range 16).map (bandOf s)
    extraBand := ((List.range 16).filter (unusable s)).map (fun c => (c, bandOf s c)) } }
  forAll (List.range 16) (fun c s =>
    let s := s.put (F.TIER_POOL_STATUS.FREE_FRAMES c) (pool c - usedFrames s c)
    if unusable s c then (s.put (F.TIER_POOL_STATUS.METAMOVED c) 1).put (F.TIER_POOL_STATUS.EVAC c) 2 else s) s

/-- R154: every line of the metadata bands is written. -/
def clearBands (s : State) : State :=
  { s with dram := s.dram.keep (fun k _ => match bandLineAt s (k / 2 ^ 34) (k % 2 ^ 34) with
      | some (.metadata _ _ _) => false
      | _ => true) }

/-- R78, R154: METADATA_INIT, before any home slice serves: the configuration is checked, every metadata band initialised, and the
slices leave reset. -/
def execMetadataInit (s : State) : Host.Outcome State Fault Refusal :=
  if s.tier.metaReady || s.presented == 0 then .next s
  else if !capAccepted s then .next (s.put F.TIER_CAP_CFG.ERR 1)
  else
    let s := s.put F.TIER_CAP_CFG.ERR 0
    let s := { s with metaCache := [], metaSto := {}, roots := {}, quarantine := [], nodeRekeys := [] }
    let s := clearBands (if s.tier.held then sizePools s else s)
    .next (poolChanged { s with tier := { s.tier with held := false, metaReady := true, bandLost := [] } })

/-! ### Freeing regions -/

/-- R75: a region starts being freed. -/
def startFreeing (r : Nat) (s : State) : State :=
  let s := (dropWalk r s).writeRegion r (fun d => { d with state := 2 })
  { s with tier := { s.tier with freeing := s.tier.freeing ++ [(r, List.replicate 16 0)] } }

/-- R214: a slot whose region reaches FREE drops out of the passes. -/
def dropPassSlot (d : Nat) (s : State) : State :=
  { s with reclaim := { s.reclaim with passes := s.reclaim.passes.map (fun p =>
      { p with parts := p.parts.map (fun o => o.map (fun l => l.filter (fun x => x.1 != d))) }) } }

/-- R75: a region whose entries are all ZERO reaches FREE. Its GEN is kept (DEDUCED, log entry 24). -/
def endFreeing (r : Nat) (s : State) : State :=
  let s := if (s.region r).cls = 1 then dropPassSlot (s.region r).dirSlot (dropAlmanac r s) else s
  let s := s.writeRegion r (fun d => { gen := d.gen })
  recountKeys { s with tier := { s.tier with freeing := s.tier.freeing.filter (fun f => f.1 != r) } }

/-- R75, R107, R172: a page is turned to ZERO. Of a page whose entry cannot be verified, what is in flight is discarded; the storage
that the entry names is not known, and stays taken (DEDUCED, log entry 143). -/
def freePage (page : Nat) (s : State) : State :=
  let (ok, s) := metaFetch treeFuel (pageSlice page) 1 (catLine page) s
  if ok then zeroPage page s else discardPage page s

/-- R75: up to `n` entries of FREEING regions on a slice; answers how many of the 64 are left for ordinary work. -/
def freeingWork (sl : Nat) : Nat → State → Nat × State
  | 0, s => (0, s)
  | n + 1, s =>
    match s.tier.freeing.find? (fun f => decide (f.2.getD sl 0 < 16384)) with
    | none => (n + 1, s)
    | some (r, ptr) =>
      let i := ptr.getD sl 0
      let page := pageAt sl (r * 2 ^ 14 + i)
      if !pageRoom s page then (0, s) else
      let s := freePage page s
      let ptr := ptr.set sl (i + 1)
      let s := { s with tier := { s.tier with freeing := s.tier.freeing.map (fun f => if f.1 == r then (r, ptr) else f) } }
      let s := if ptr.all (fun x => decide (16384 ≤ x)) then endFreeing r s else s
      freeingWork sl n s

/-! ### The sweep -/


/-- R90: whether a demotion of the page starts. -/
def demotable (s : State) (page : Nat) : Bool :=
  pageKind s page == 1 && !pagePin s page && !pageMoving s page && decide (effHeat s page ≤ s.get F.TIER_POLICY.COLD)
    && demotionActive s && !encNone s && decide ((sliceMoves s (pageSlice page)).length < 8)

/-- R94, R261: whether a visit may spill the page: a cold T1 page of a clutch member at Low or a deeper level. -/
def spillable (s : State) (page : Nat) : Bool :=
  s.inClutch && pageKind s page == 2 && s.tier.level != 0
    && decide (effHeat s page ≤ s.get F.TIER_POLICY.COLD)
    && decide ((sliceMoves s (pageSlice page)).length < 8)

/-- R261: the member a page spills to: the last LEVEL was Normal with a free slot; fewest hops, then the lower path. -/
def spillTarget (s : State) (except : Nat) : Option Nat :=
  let c := (List.range 64).filter (fun m =>
    m != s.path && m != except && !s.recalled.contains m && slice (s.get F.CLU_ROSTER.MAP) m 1 == 1
      && (match s.levels.get m with | some l => l.1 == 0 && decide (0 < l.2) | none => false)
      && decide (egress s m false ≤ 3))
  argMax (fun m => 1000 - s.hops.get m) c

/-- R263, R266: a T2 page whose holder failed is LOST; one whose holder is being recalled moves away. -/
def sweepT2 (page : Nat) (s : State) : State :=
  let h := pageMember s page
  if slice (s.get F.CLU_FAILED.MAP) h 1 = 1 ∨ slice (s.get F.CLU_ROSTER.MAP) h 1 = 0 then
    let s := losePage page s
    s.log 0x32 (pageSlice page) (cpaOf s (page * 4096))
  else if s.recalled.contains h then startPromotion page s
  else s

/-- R100: whether a page has storage in a channel that is evacuating. -/
def inEvacuating (s : State) (page : Nat) : Option Nat :=
  let c := match pageLoc s page with | .frame c _ => some c | .run c _ _ => some c | _ => none
  c.filter (fun c => s.get (F.TIER_POOL_STATUS.EVAC c) == 1)

/-- R100 step 4: what a visit says of each evacuating channel: a visit without storage there counts towards a full pass. -/
def countPass (sl : Nat) (found : Option Nat) (s : State) : State :=
  { s with tier := { s.tier with evacPass := s.tier.evacPass.map (fun p =>
      (p.1, p.2.set sl (if found = some p.1 then 0 else p.2.getD sl 0 + 1))) } }

/-- R164, R179, R261: a page that a visit may spill is spilled to a member, if there is one; at the last MAJOR its region is rekeyed
first. -/
def spillPage (page : Nat) (s : State) : State :=
  match spillTarget s 64 with
  | some m => if majorFull s page then askRekey page s else startSpill page m s
  | none => s

/-- R90, R100: one entry of the sweep. -/
def sweepEntry (sl page : Nat) (s : State) : State :=
  let (ok, s) := if pageRoom s page then pageFetch page s else (false, s)
  if !ok then s
  else
    let s := heatUpdate page 0 s
    let ev := inEvacuating s page
    let s := countPass sl ev s
    match ev with
    | some _ => startPlainMove page .evac s
    | none =>
      if pageKind s page = 3 then sweepT2 page s
      else if pageKind s page = 2 ∧ pagePin s page then startPromotion page s
      else if pageHoldoff s page ≠ 0 then setCat page 40 4 (pageHoldoff s page - 1) s
      else if demotable s page then (if majorFull s page then askRekey page s else startDemotion page s)
      else if spillable s page then spillPage page s
      else s

/-- R85: a move that waited for the end of another starts, where its reason still holds. -/
def resumeMove (w : Nat × MoveKind) (s : State) : State :=
  let s := { s with tier := { s.tier with waiting := s.tier.waiting.filter (· != w) } }
  match w.2 with
  | .promote => if pageKind s w.1 = 2 ∨ pageKind s w.1 = 3 then startPromotion w.1 s else s
  | .evac => if (inEvacuating s w.1).isSome then startPlainMove w.1 .evac s else s
  | .spill => if spillable s w.1 then spillPage w.1 s else s
  | _ => s

/-- R85: the moves of a slice that waited for a move that has ended. -/
def resumeMoves (sl : Nat) (s : State) : State :=
  forAll (s.tier.waiting.filter (fun w => pageSlice w.1 == sl && (moveOf s w.1).isNone)) resumeMove s

/-- R90: the next `n` catalogue entries of a slice. -/
def sweepWork (sl : Nat) : Nat → State → State
  | 0, s => s
  | n + 1, s =>
    let i := s.tier.sweep.getD sl 0
    let total := 16384 * s.presented
    let s := if total = 0 then s else sweepEntry sl (pageAt sl (i % total)) s
    sweepWork sl n { s with tier := { s.tier with sweep := s.tier.sweep.set sl (if total ≤ i + 1 then 0 else i + 1) } }

/-- R100 step 4, R263: a channel without storage after a full pass is EVACUATED once this holder's slots are empty. -/
def endEvacuations (s : State) : State :=
  forAll s.tier.evacPass (fun p s =>
    let total := 16384 * s.presented
    let held := s.spills.cells.any (fun x => x.2.isSome)
    if p.2.all (fun n => decide (total ≤ n)) && s.flag (F.TIER_POOL_STATUS.METAMOVED p.1) && !held then
      let s := { s with tier := { s.tier with evacPass := s.tier.evacPass.filter (fun q => q.1 != p.1) } }
      (s.put (F.TIER_POOL_STATUS.EVAC p.1) 2).put (F.TIER_POOL_STATUS.FREE_FRAMES p.1) 0
    else s) s

/-- The transit whose instance a job's head unit has: the transit of its release. -/
def unitTransit (s : State) (job inst : Nat) : Nat :=
  match (s.jobs.get (jobKey job inst)).head? with
  | some u => u.rel
  | none => s.transit

/-- R75, R90, R100: DEMOTION_SWEEP_QUANTUM, job 0x08, on slice (transit mod 16). -/
def execDemotionSweepQuantum (s : State) : Host.Outcome State Fault Refusal :=
  if !unitWaits s 0x08 0 || !accessesIn s 67 then .next s else
  let sl := unitTransit s 0x08 0 % 16
  let s := jobDone 0x08 0 s
  if !s.tier.metaReady || s.stops 3 then .next s
  else
    let (left, s) := freeingWork sl 64 s
    let s := endEvacuations (sweepWork sl left (resumeMoves sl (walksAt sl s)))
    .next (settle s)

/-- R86: HEAT_EPOCH_ADVANCE, job 0x09. -/
def execHeatEpochAdvance (s : State) : Host.Outcome State Fault Refusal :=
  if unitWaits s 0x09 0 then .next (jobDone 0x09 0 (s.wrapAdd F.TIER_EPOCH.EPOCH)) else .next s

/-! ### Evacuation and return of a channel -/

/-- R99: whether channel `c` may be evacuated. -/
def evacAllowed (s : State) (c : Nat) : Bool :=
  let p := partner c
  let others := (List.range 16).filter (fun x => x != c && s.get (F.TIER_POOL_STATUS.EVAC x) == 0)
  let room := sumOf (others.map (fun x => freeFrames s x - s.get F.TIER_POLICY.PROMO_RESERVE))
  s.get (F.TIER_POOL_STATUS.EVAC c) == 0 && s.get (F.TIER_POOL_STATUS.EVAC p) == 0
    && decide (usedFrames s c + s.tier.bandFrames.getD c 0 ≤ room) && decide (s.tier.bandFrames.getD c 0 ≤ freeFrames s p)

/-- R97, R100 step 2: `n` free frames of a channel become band frames, and leave its data pool. -/
def takeBand (c : Nat) : Nat → State → State
  | 0, s => s
  | n + 1, s =>
    match anyFree s c with
    | none => s
    | some f =>
      let s := { s.drawn with frames := s.frames.set (frameKey c f) { use := 3 } }
      let s := { s with tier := { s.tier with poolFrames := s.tier.poolFrames.set c (s.tier.poolFrames.getD c 0 - 1) } }
      takeBand c n (s.put (F.TIER_POOL_STATUS.FREE_FRAMES c) (freeFrames s c - 1))

/-- R76, R97, R101: the frames of a channel that held its partner's band, by their cells or by their place, return to its pool. -/
def returnBand (p : Nat) (s : State) : State :=
  let c := partner p
  let mine (k : Nat) (f : Frame) : Bool := k / 2 ^ 28 == p && f.use == 3
  let byPlace := countOf s.tier.extraBand c
  let back := (s.frames.cells.filter (fun x => mine x.1 x.2)).length + byPlace
  let s := { s with
    frames := s.frames.keep (fun k f => !mine k f)
    tier := { s.tier with
      extraBand := cellErase c s.tier.extraBand
      dataTop := s.tier.dataTop.set p (s.tier.dataTop.getD p 0 + byPlace)
      poolFrames := s.tier.poolFrames.set p (s.tier.poolFrames.getD p 0 + back) } }
  s.put (F.TIER_POOL_STATUS.FREE_FRAMES p) (freeFrames s p + back)

/-- R100 steps 1 and 2: an evacuation starts. -/
def startEvacuation (c : Nat) (s : State) : State :=
  let s := takeBand (partner c) (s.tier.bandFrames.getD c 0) (s.put (F.TIER_POOL_STATUS.EVAC c) 1)
  poolChanged { s with tier := { s.tier with
    bandCopy := s.tier.bandCopy ++ [c]
    evacPass := s.tier.evacPass ++ [(c, List.replicate 16 0)] } }

/-- R101, R296, R299: an evacuated channel starts its return: it is taken out of service and trained anew. -/
def startReturn (c : Nat) (s : State) : State :=
  startTraining c (((s.put (F.DC_CFG.ENABLE c) 0).put (F.DC_CFG.ZEROED c) 0).put (F.TIER_POOL_STATUS.EVAC c) 3)

/-- R100, R101: the cells of a slice's band lines, which lay as in `before`, are copied as they are to where they lie now, and the lines
they take are written. -/
def moveBand (sl : Nat) (before s : State) : State :=
  let mine (t : State) (k : Nat) : Option Nat := match bandAt t (k / 2 ^ 34) (k % 2 ^ 34 / 64) with
    | some (b, f) => if b = sl then some (f * 64 + k % 64) else none
    | none => none
  let moved := s.dram.cells.filterMap (fun x => (mine before x.1).map (fun i => (i, x.2)))
  let taken (c : Nat) := (s.chans.get c).writebacks.filter (fun w => (mine s (dramKey c w.1)).isSome)
  let s := forAll [sl, partner sl] (fun c s => forAll (taken c) (fun w s => cancelFix c w.1 s) s) s
  let s := { s with dram := s.dram.keep (fun k _ => (mine before k).isNone && (mine s k).isNone) }
  forAll moved (fun x s =>
    let at_ := bandLine s sl 0 x.1
    { s with dram := s.dram.set (dramKey at_.1 at_.2) x.2 }) s

/-- R100 step 2, R101: BAND_COPY_COMPLETE of slice `c`'s band. On a return the channel, zero-initialised, is enabled and
open to allocation again. -/
def execBandCopyComplete (chan : Fin 16) (s : State) : Host.Outcome State Fault Refusal :=
  let c := chan.val
  let ev := s.get (F.TIER_POOL_STATUS.EVAC c)
  let charged (s : State) : State := chargeInternal 67 (2 * 64 * s.tier.bandFrames.getD c 0) s
  if !accessesIn s 67 then .next s
  else if ev = 1 then
    let t := { s with tier := { s.tier with bandCopy := s.tier.bandCopy.filter (· != c) } }.put
      (F.TIER_POOL_STATUS.METAMOVED c) 1
    .next (moveBand c s (charged t))
  else if ev = 3 ∧ s.flag (F.DC_CFG.ZEROED c) then
    let before := s
    let s := ((wasEnabled c (s.put (F.DC_CFG.ENABLE c) 1)).put (F.TIER_POOL_STATUS.METAMOVED c) 0).put (F.TIER_POOL_STATUS.EVAC c) 0
    let s := returnBand (partner c) s
    let top := s.get (F.DC_CFG.FRAMES c) - bandOf s c
    let pool := top - spillFrames s
    let s := { s with
      frames := s.frames.keep (fun k _ => k / 2 ^ 28 != c)
      tier := { s.tier with
        bandFrames := s.tier.bandFrames.set c (bandOf s c)
        dataTop := s.tier.dataTop.set c top
        spillBase := s.tier.spillBase.set c pool
        poolFrames := s.tier.poolFrames.set c pool } }
    let s := (s.put (F.TIER_POOL_STATUS.FREE_FRAMES c) pool).put (F.TIER_POOL_STATUS.GRAN_FRAMES c) 0
    .next (poolChanged (moveBand c before (charged s)))
  else .next s

/-! ### Commit of moves -/

/-- R300: the master of a move. -/
def moveMaster (m : Move) : Nat := if isPromotion m.kind || m.kind == .rekey then 71 else 64

/-- R301: units a move writes. -/
def moveUnits (s : State) (m : Move) : Nat :=
  match pageLoc s m.page with
  | .frame _ _ => 64
  | .run _ _ secs => secStart secs 4
  | _ => 0

/-- R87, R39: whether a read ordered before the commit still needs the old storage. -/
def readsOpen (s : State) (page : Nat) : Bool :=
  s.reqs.any (fun r => r.page == page && (r.stage == .peer || r.units.any (fun u => !u.got)))

/-- R87, R88, R164: MOVE_COMMIT of the page's move. Reads ordered before it finish first. -/
def execMoveCommit (page : BitVec 39) (s : State) : Host.Outcome State Fault Refusal :=
  match moveOf s page.toNat with
  | none => .next s
  | some m =>
    if readsOpen s page.toNat || !allReady m || m.waitPeer || !accessesIn s (moveMaster m) then .next s
    else
      let before := pageLoc s m.page
      let s := commitMove m (chargeInternal (moveMaster m) (moveUnits s m) s)
      let s := if pageLoc s m.page = before then s else chargeInternal (moveMaster m) (moveUnits s m) s
      let sl := pageSlice page.toNat
      .next (settle (resumeSlice sl (resumeMoves sl (retryMoves sl (walksAt sl s)))))

end Sys2Proof.Machine
end

