-- ==== Sys2Proof/Machine/Directory.lean ====
section
/-!
DEFINITION. The directory's own work: declaring an agent dead and reclaiming it (R69, R70, R212 to R214), the directory
scrub (R200), the almanac ECC scrub (R195, R440), and the ends of leases (R209 to R211).
-/

namespace Sys2Proof.Machine

/-! ### Leases -/

/-- R210: KEEP: the lease returns to HELD with the same holder, and waiting requests of others are denied. -/
def keepLease (region : Nat) (s : State) : State :=
  let d := s.region region
  let s := s.writeRegion region (fun d => { d with lease := 1, breaker := 0 })
  forAll (s.reqs.filter (fun r => r.stage == .lease && regionOf r.page == region && r.agent != some d.holder))
    (fun r s => denyLease 0x34 r s) s

/-- R210: RELEASE: the breaker becomes the holder and its waiting requests are served; with no break pending the lease
becomes VACANT. -/
def releaseLease (region : Nat) (s : State) : State :=
  let d := s.region region
  if d.lease = 2 then
    resumeLease region (s.writeRegion region (fun d => { d with
      lease := 1, holder := d.breaker, breaker := 0, epoch := (d.epoch + 1) % 2 ^ 32 }))
  else s.writeRegion region (fun d => { d with lease := 0 })

/-- R210: whether a break has timed out. -/
def leaseOver (s : State) (region : Nat) : Bool :=
  let d := s.region region
  d.state == 1 && d.cls == 2 && d.lease == 2 && decide (d.breakMs * 1000000 ≤ s.since d.breakTb)

/-- R210: LEASE_TIMEOUT: the frame executive's check of a break; one that has timed out is treated as KEEP. -/
def execLeaseTimeout (region : BitVec 21) (s : State) : Host.Outcome State Fault Refusal :=
  .next (if leaseOver s region.toNat then settle (keepLease region.toNat s) else s)

/-! ### Death of an agent -/

/-- Bit `h` of a 64-bit register field. -/
def bitOf (v h : Nat) : Bool := slice v h 1 == 1

/-- R212: an agent is declared dead: its record, its start point and its scrub pass. -/
def declareDead (h : Nat) (s : State) : State :=
  let s := s.wrapAdd F.HA_RECLAIM.GEN
  let s := s.put (F.HA_DEAD_GEN.GEN h) (s.get F.HA_RECLAIM.GEN)
  let s := s.put F.HA_DEAD_PEND.PEND (setSlice (s.get F.HA_DEAD_PEND.PEND) h 1 1)
  let s := s.put F.HA_RECLAIM_SET.SET (setSlice (s.get F.HA_RECLAIM_SET.SET) h 1 1)
  let s := ((s.put F.HA_RECLAIM.ACTIVE 1).put F.HA_RECLAIM.HAN h).put F.HA_RECLAIM.QUANTA 0
  { s with reclaim := { s.reclaim with
      agents := s.reclaim.agents.filter (fun a => a.han != h) ++ [{ han := h }]
      passes := s.reclaim.passes.filter (fun p => p.han != h) ++ [{ han := h, from_ := s.transit + 1 }] } }

/-- R66, R59, R452: a local slot enters RECLAIMING: its event log is emptied, its user page closes, and its agent is declared dead (R69, R212). An LD
without a host agent number has nothing to reclaim and goes to DEAD at the next transit. -/
def enterReclaiming (slot : Nat) (s : State) : State :=
  let s := ((s.put (F.HP_AGENT_STATE.STATE slot) 3).put (F.HP_AGENT_STATE.DEAD_SEEN slot) 1).put (F.AQ_PMU_LOC.OPEN slot) 0
  let s := forAll (List.range 32) (fun k s =>
    if s.flag (F.TIER_DMR_CTRL.ENABLE k) && !s.flag (F.TIER_DMR_CTRL.OWNER_MGT k) && s.get (F.TIER_DMR_CTRL.OWNER k) == slot
    then stopRing k s else s) s
  let s := { s with passed := s.passed.filter (fun x => some x.1 != hanOf s slot) }
  let s := farEndLd slot { s with lds := s.lds.upd slot (fun l => { l with log := [], irqHeld := false, userPage := false }) }
  if s.flag (F.HP_HAN_MAP.ASSIGNED slot) then declareDead (s.get (F.HP_HAN_MAP.HAN slot)) s else s

/-- A request ends before its time: its places in the DRAM queues are given up. -/
def cancelReq (r : Req) (s : State) : State :=
  let cut (q : SubChan) : SubChan := { q with reads := q.reads.filter (fun d => d.req != r.id) }
  let s := { s with chans := s.chans.mapCells (fun _ ch => { ch with sc0 := cut ch.sc0, sc1 := cut ch.sc1 }) }
  dropReq r.id (finish r none s)

/-- R212: a snoop to a dead agent is taken as answered BIRspI; a line it held in E is lost first. -/
def dropSnoop (h : Nat) (n : Snoop) (s : State) : State :=
  if n.home.isSome then answerHome n false s
  else
    let s := match almFind s n.addr with
      | some k => if ownerIn (s.almanac.get k) == some h then almPut k 0 0 (loseLine n.addr h s) else s
      | none => s
    answerSnoop n.req h false s

/-- Whether a request is a host's own or a peer's, and not an internal master's. -/
def fromAgent (r : Req) : Bool := match r.src with | .host _ _ _ => true | .peer _ _ _ => true | _ => false

/-- R212: what the first quantum after h's death does, on every slice. -/
def beginReclaim (h : Nat) (s : State) : State :=
  let s := forAll (s.snoops.filter (fun n => n.han == h)) (dropSnoop h) s
  let s := forAll (s.reqs.filter (fun r => r.agent == some h && fromAgent r)) (fun r s =>
    match reqAt s r.id with
    | some r => cancelReq r (s.log 0x12 (reqInstance r) (cpaOf s r.addr))
    | none => s) s
  let s := forAll (s.reqs.filter (fun r => r.agent == some h && r.stage == .lease)) (denyLease 0x34) s
  let leased := s.regions.cells.filter (fun c => c.2.state == 1 && c.2.cls == 2)
  let s := forAll (leased.filter (fun c => c.2.holder == h && (c.2.lease == 1 || c.2.lease == 2))) (fun c s =>
    resumeLease c.1 (s.writeRegion c.1 (fun d => { d with lease := 3 }))) s
  let s := forAll (leased.filter (fun c => c.2.holder != h && c.2.lease == 2 && c.2.breaker == h)) (fun c s =>
    resumeLease c.1 (s.writeRegion c.1 (fun d => { d with lease := 1, breaker := 0 }))) s
  settle s

/-- R213: an almanac entry that a quantum visits. -/
def reclaimEntry (dead : List Nat) (k : Nat) (s : State) : State :=
  let e := s.almanac.get k
  if !e.valid then s
  else
    let (st, p, lost) := filterEntry dead e.state e.presence
    let h := (agentsOf e.presence).headD 0
    almPut k st p (if lost then loseLine (almAddr s k) h s else s)

/-- R66: a local slot's reclamation is complete; only a Memory Space Enable set from now on brings it back. -/
def ldDead (m : Nat) (s : State) : State :=
  { s.put (F.HP_AGENT_STATE.STATE m) 4 with lds := s.lds.upd m (fun l => { l with mse := false }) }

/-- R212: agents that have had their 4096 quanta leave the set; a local one goes to DEAD. -/
def endReclaim (s : State) : State :=
  let exceeding := s.reclaim.agents.filter (fun a => decide (4096 ≤ a.quanta))
  let s := forAll exceeding (fun a s =>
    let s := s.put F.HA_RECLAIM_SET.SET (setSlice (s.get F.HA_RECLAIM_SET.SET) a.han 1 0)
    forAll (slots.filter (fun m => s.flag (F.HP_HAN_MAP.ASSIGNED m) && s.get (F.HP_HAN_MAP.HAN m) == a.han
        && agentState s m == 3)) (fun m s => ldDead m s) s) s
  let s := { s with reclaim := { s.reclaim with agents := s.reclaim.agents.filter (fun a => decide (a.quanta < 4096)) } }
  if s.get F.HA_RECLAIM_SET.SET = 0 then s.put F.HA_RECLAIM.ACTIVE 0 else s

/-- R212: RECLAMATION_QUANTUM (job 0x0F). -/
def execReclamationQuantum (s : State) : Host.Outcome State Fault Refusal :=
  if !unitWaits s 0x0F 0 || !accessesIn s 66 then .next s else
  let s := jobDone 0x0F 0 s
  if s.reclaim.agents.isEmpty then .next s
  else
    let s := forAll (s.reclaim.agents.filter (fun a => !a.begun)) (fun a s => beginReclaim a.han s) s
    let dead := s.reclaim.agents.map (·.han)
    let c := s.reclaim.cursor
    let keys := (s.almanac.cells.map (·.1)).filter (fun k => decide (c ≤ k % 2 ^ 18) && decide (k % 2 ^ 18 < c + 64))
    let s := forAll keys (reclaimEntry dead) s
    let s := s.bump F.HA_RECLAIM.QUANTA
    .next (endReclaim { s with reclaim := { s.reclaim with
      cursor := (c + 64) % 2 ^ 18
      agents := s.reclaim.agents.map (fun a => { a with begun := true, quanta := a.quanta + 1 }) } })

/-! ### Directory scrub -/

/-- R196: the shared regions with their backing-directory slots. -/
def sharedSlots (s : State) : List (Nat × Nat) :=
  (s.regions.cells.filter (fun c => c.2.state != 0 && c.2.cls == 1)).map (fun c => (c.2.dirSlot, c.1))

/-- Quanta of 512 backing lines in a slot of a slice. -/
def slotQuanta : Nat := 256

/-- R214: passes that begin in this transit take the shared slots in use at this moment. -/
def beginPasses (s : State) : State :=
  let part := (sharedSlots s).map (fun x => (x.1, slotQuanta))
  { s with reclaim := { s.reclaim with passes := s.reclaim.passes.map (fun p =>
      if p.parts.isEmpty && decide (p.from_ ≤ s.transit) then { p with parts := List.replicate 16 (some part) } else p) } }

/-- R214: a quantum of slot `d` (none: the slice has no shared slots) ran on a slice. -/
def countScrub (sl : Nat) (d : Option Nat) (p : ScrubPass) : ScrubPass :=
  match p.parts.getD sl none with
  | none => p
  | some l =>
    let l := l.map (fun x => if some x.1 == d then (x.1, x.2 - 1) else x)
    { p with parts := p.parts.set sl (if l.all (fun x => x.2 == 0) then none else some l) }

/-- R214: PEND bits of complete passes clear. -/
def endPasses (s : State) : State :=
  let done (p : ScrubPass) : Bool := !p.parts.isEmpty && p.parts.all (fun o => o.isNone)
  let s := forAll (s.reclaim.passes.filter done) (fun p s =>
    s.put F.HA_DEAD_PEND.PEND (setSlice (s.get F.HA_DEAD_PEND.PEND) p.han 1 0)) s
  { s with reclaim := { s.reclaim with passes := s.reclaim.passes.filter (fun p => !done p) } }

/-- R200: the newest GEN of the dead agents whose PEND bit is set. -/
def newestDead (s : State) : Nat :=
  (List.range 64).foldl (fun n h =>
    if bitOf (s.get F.HA_DEAD_PEND.PEND) h then max n (s.get (F.HA_DEAD_GEN.GEN h)) else n) 0

/-- R200: a backing line is written back: entries whose line is DIRTY in the almanac as the almanac holds them. -/
def rewriteBacking (region sl line : Nat) (s : State) : State :=
  forAll (List.range 8) (fun j s =>
    let a := dirAddr region sl (8 * line + j)
    match almFind s a with
    | some k =>
      let e := s.almanac.get k
      if e.dirty then dirWrite a e.state e.presence s else s
    | none => s) (dirStamp (dirKey sl (s.region region).dirSlot (8 * line) / 8) s)

/-- R200: a backing line of the quantum. -/
def scrubBacking (region sl line : Nat) (s : State) : State :=
  let k := dirKey sl (s.region region).dirSlot (8 * line) / 8
  let before := s.dir.getList (8 * k) 8
  let (ok, corrected, s) := readBacking region sl line s
  if ok && (corrected || s.dir.getList (8 * k) 8 != before || decide (stampOf s k < newestDead s)) then
    rewriteBacking region sl line (chargeInternal 66 1 s)
  else s

/-- R200, R279: a backing line of the quantum, whose read meets the error that `errs` gives for it. -/
def scrubStruck (region sl line : Nat) (err : Option MemErr) (s : State) : State :=
  match err with
  | some e => struck (regionBacking s region sl line) e (scrubBacking region sl line) s
  | none => scrubBacking region sl line s

/-- R200: the shared slot a slice's scrub works on: the one at its position, else the next in use, wrapping. -/
def scrubSlot (s : State) (sl : Nat) : Option (Nat × Nat × Nat) :=
  let (d, line) := s.reclaim.scrubAt.getD sl (0, 0)
  let find (p : Nat → Bool) : Option (Nat × Nat) := (List.range 2048).findSome? (fun x =>
    if p x then (sharedSlots s).find? (fun y => y.1 == x) else none)
  match find (fun x => x == d) with
  | some (d, r) => some (d, r, line)
  | none =>
    match find (fun x => decide (d < x)), find (fun _ => true) with
    | some (d, r), _ => some (d, r, 0)
    | none, some (d, r) => some (d, r, 0)
    | none, none => none

/-- R200: DIRECTORY_SCRUB_QUANTUM (job 0x06). The reads of the quantum's lines `lines` meet the errors `errs`. -/
def execDirectoryScrubQuantum (lines : List Nat) (errs : List MemErr) (s : State) : Host.Outcome State Fault Refusal :=
  if !unitWaits s 0x06 0 || !accessesIn s 66 then .next s else
  let t := unitTransit s 0x06 0
  let sl := t % 16
  let s := jobDone 0x06 0 s
  let count (d : Option Nat) (s : State) : State :=
    endPasses { s with reclaim := { s.reclaim with passes := s.reclaim.passes.map (fun p =>
      if p.from_ ≤ t then countScrub sl d p else p) } }
  match scrubSlot s sl with
  | none => .next (count none s)
  | some (d, r, line) =>
    let s := chargeInternal 66 512 s
    let s := forAll (List.range 512) (fun i s =>
      scrubStruck r sl (line + i) (cellFind i (lines.zip errs)) s) s
    let nxt := if line + 512 < 131072 then (d, line + 512) else (d + 1, 0)
    .next (settle (count (some d) { s with reclaim := { s.reclaim with scrubAt := s.reclaim.scrubAt.set sl nxt } }))

/-! ### Almanac ECC scrub -/



/-- R440: ALMANAC_ECC_SCRUB_QUANTUM (job 0x07): the entries of the quantum with a corrected word, an uncorrectable word
0 and an uncorrectable word 1. -/
def execAlmanacEccScrubQuantum (corrected presenceBad tagBad : List Nat) (s : State) : Host.Outcome State Fault Refusal :=
  if !unitWaits s 0x07 0 then .next s else
  let sl := unitTransit s 0x07 0 % 16
  let s := jobDone 0x07 0 s
  let at_ := s.reclaim.eccAt.getD sl 0
  let s := s.bump (F.HA_SLICE_STATUS.CE sl) corrected.length
  let s := forAll presenceBad (fun i s => losePresence (sl * 2 ^ 18 + at_ + i) s) s
  let s := forAll tagBad (fun _ s => loseTag sl s) s
  .next (settle { s with reclaim := { s.reclaim with eccAt := s.reclaim.eccAt.set sl ((at_ + 256) % 2 ^ 18) } })

end Sys2Proof.Machine
end

