-- ==== Sys2Proof/Machine/Links.lean ====
section
/-!
DEFINITION. Host ports and links: port control and configuration (R45), link training, drops and returns (R66 to R69),
resets of logical devices (R66, R469), host agent numbers (R44), L0p, IDE and PTM (R55 to R57), HDM decoders (R48), and
the writes and reads of the vendor DVSEC (R61 to R64).
-/

namespace Sys2Proof.Machine

/-! ### Ports -/

/-- R41: a host link that the latched bifurcation of its port produces, with its port out of reset. -/
def linkExists (s : State) (l : Nat) : Bool := !(s.ports.get (l / 4)).inReset && laneGroup s l != 0

/-- R46: whether a local slot's LD is reached: its link is up with that many LDs. -/
def ldReached (s : State) (m : Nat) : Bool :=
  let l := s.links.get (linkOfSlot m)
  l.up && decide (m % 4 < l.lds)

/-- R376, R381: a CXL.io access of an LD's host is a wake. In SL2 and SL3 it waits: it is an access of its own once SL0 is
reported (DESIGN CHOICE, log entry 160). -/
def ioAccess (m : Nat) (k : State → State) (s : State) : State :=
  if s.coreDown || !ldReached s m then s else if s.asleep then wakeRaw 0 s else k (wakeRaw 0 s)

/-- R333, R376, R381: a message that the sideband FIFO has delivered; its START was the wake. In SL2 and SL3, and behind one that waits,
its row waits. -/
def sidebandAccess (row : Instr) (k : State → State) (s : State) : State :=
  if s.asleep || !s.mgt.rows.isEmpty then { s with mgt := { s.mgt with rows := s.mgt.rows ++ [row] } } else k s

/-- R42: the local slots of the logical devices a link exposes. -/
def linkSlots (s : State) (l : Nat) : List Nat := (List.range (s.links.get l).lds).map (fun d => 4 * l + d)

/-- The links of a port. -/
def portLinks (p : Nat) : List Nat := (List.range 4).map (fun k => 4 * p + k)

/-- R54, R67: snoops to an agent whose link went down are held, in the order they were issued. -/
def holdSnoops (slot : Nat) (s : State) : State :=
  match hanOf s slot with
  | none => s
  | some h => { s with snoops := s.snoops.map (fun n =>
      if n.han == h && !n.remote then { n with sent := false, held := true } else n) }

/-- R9, R66 row 2, R457: an LD is reset: its configuration space returns to its reset state (PRESUMED, log entry 26), and an agent
that is ALIVE or DOWN is to be reclaimed. -/
def resetLd (slot : Nat) (s : State) : State :=
  let s := if agentState s slot = 1 ∨ agentState s slot = 2 then enterReclaiming slot (holdSnoops slot s) else s
  let s := s.put (F.AQ_STREAM_CTRL.STREAM_BITS slot) 0
  let s := ((s.put (F.AQ_DROP_LOG.DROPS slot) 0).put (F.AQ_DROP_LOG.LOST_READS slot) 0).put (F.AQ_DROP_LOG.LOST_WRITES slot) 0
  { s with lds := s.lds.upd slot (fun l => { l with
    mse := false, hdm := List.replicate 4 {}, tbLatch := none, irqPolicy := 0 }) }

/-- R67: what the LDs of a link that goes down have outstanding is carried out, and its responses are discarded. -/
def muteLink (l : Nat) (s : State) : State :=
  let mute (r : Req) : Req := match r.src with
    | .host m _ _ => if linkOfSlot m = l then { r with muted := true } else r
    | _ => r
  { s with reqs := s.reqs.map mute, ingress := s.ingress.map (fun x => (x.1, x.2.1, mute x.2.2)) }

/-- R53: a link's data link layer is down; its LDs are in no flit mode. -/
def linkOff (l : Nat) (s : State) : State :=
  let s := muteLink l s
  forAll (List.range 4) (fun d s => s.put (F.HP_AGENT_STATE.FLIT68 (4 * l + d)) 0)
    { s with links := s.links.upd l (fun x => { x with up := false, width := 0, credits := 32 }) }

/-- R45, R469: every link of a port goes down and its LDs are reset. -/
def resetPortLinks (p : Nat) (s : State) : State :=
  forAll (portLinks p) (fun l s => linkOff l (forAll (linkSlots s l) resetLd s)) s

/-- R45: the ingress buffers of a port are emptied: requests that no slice has taken, and writes that keep their entry. -/
def emptyIngress (p : Nat) (s : State) : State :=
  let here (r : Req) : Bool := match r.src with
    | .host m _ _ => m / 16 == p && (r.stage == .arrived || r.stage == .bufferFull)
    | _ => false
  settle (forAll (s.reqs.filter here) (fun r s => dropReq r.id (freeTracker r s))
    { s with ingress := s.ingress.filter (fun x => x.1 / 16 != p) })

/-- R45: a host port's domain is reset. -/
def resetPort (p : Nat) (s : State) : State :=
  let s := emptyIngress p (resetPortLinks p s)
  let s := forAll (portLinks p) (fun l s => s.put (F.HP_LINK_CTRL.DISABLE l) 0) s
  let s := { s with links := s.links.keep (fun l _ => l / 4 != p) }
  { s with ports := s.ports.upd p (fun x => { x with inReset := true, since := s.now }) }

/-- R45: HOST_PORT_CTRL_WRITE. -/
def execHostPortCtrlWrite (port : Fin 4) (value : BitVec 32) (s : State) : Host.Outcome State Fault Refusal :=
  let hold := bitOf value.toNat 1
  let s' := s.put (F.HP_PORT_CTRL.HOLD port) (bit hold)
  if bitOf value.toNat 0 || (hold && !(s.ports.get port).inReset) then .next (resetPort port s') else .next s'

/-- R45: PORT_RESET_RELEASE. -/
def execPortResetRelease (port : Fin 4) (s : State) : Host.Outcome State Fault Refusal :=
  let p := s.ports.get port
  if p.inReset && !s.flag (F.HP_PORT_CTRL.HOLD port) && decide (10000 ≤ s.since p.since) then
    .next { s with ports := s.ports.set port { p with
      inReset := false
      bifurc := s.get (F.HP_PORT_CFG.BIFURC port)
      maxSpeed := s.get (F.HP_PORT_CFG.MAX_SPEED port)
      laneRev := s.flag (F.HP_PORT_CFG.LANE_REV port) } }
  else .next s

/-- R10, R45: HOST_PORT_CFG_WRITE. A locked register ignores writes of its RWL fields, and so does the write that sets LOCK (DEDUCED,
log entry 137). -/
def execHostPortCfgWrite (port : Fin 4) (value : BitVec 32) (s : State) : Host.Outcome State Fault Refusal :=
  let v := value.toNat
  let badB := slice v 0 2 == 3
  let badS := !(decide (2 ≤ slice v 2 3) && decide (slice v 2 3 ≤ 5))
  let s := if bitOf v 9 then s.put (F.HP_PORT_CFG.BAD_ENC port) 0 else s
  if s.flag (F.HP_PORT_CFG.LOCK port) then .next s
  else if bitOf v 31 then .next (s.put (F.HP_PORT_CFG.LOCK port) 1)
  else
    let s := s.put (F.HP_PORT_CFG.LANE_REV port) (slice v 8 1)
    let s := if badB then s else s.put (F.HP_PORT_CFG.BIFURC port) (slice v 0 2)
    let s := if badS then s else s.put (F.HP_PORT_CFG.MAX_SPEED port) (slice v 2 3)
    .next (if badB || badS then s.put (F.HP_PORT_CFG.BAD_ENC port) 1 else s)

/-- R469: PERST. -/
def execPerst (port : Fin 4) (asserted : Bool) (s : State) : Host.Outcome State Fault Refusal :=
  let s := { s with ports := s.ports.upd port (fun p => { p with detect := asserted }) }
  .next (if asserted then resetPortLinks port s else s)

/-! ### Links -/

/-- R67: reads of a link's LDs whose response has not left. -/
def openReads (s : State) (l : Nat) : Nat :=
  (s.reqs.filter (fun r => match r.src with
    | .host m _ _ => linkOfSlot m == l && wantsData r.intent
    | _ => false)).length

/-- R66, R67: a link drop. `lost` is the number of writes that had been received in part. -/
def dropLink (l lost : Nat) (s : State) : State :=
  if !(s.links.get l).up then s
  else
    let reads := openReads s l
    let s := linkOff l s
    forAll (linkSlots s l) (fun m s =>
      let s := s.bump (F.AQ_DROP_LOG.DROPS m)
      let s := s.put (F.AQ_DROP_LOG.LOST_READS m) (min 255 reads)
      let s := s.put (F.AQ_DROP_LOG.LOST_WRITES m) (min 255 lost)
      let s := s.put (F.HP_AGENT_STATE.DROP_TB m) (s.now / 256)
      if agentState s m = 1 then
        let s := s.put (F.HP_AGENT_STATE.STATE m) 2
        holdSnoops m { s with lds := s.lds.upd m (fun x =>
          { x with dropTimeout := s.get F.HP_DEAD_TIMEOUT.MS, dropTb := s.now }) }
      else s) s

/-- R67: LINK_DROP. -/
def execLinkDrop (link : Fin 16) (lostWrites : BitVec 8) (s : State) : Host.Outcome State Fault Refusal :=
  .next (dropLink link lostWrites.toNat s)

/-- R66, R458: LINK_RESET_WRITE; a link that does not exist, or whose port is in reset, ignores it. -/
def execLinkResetWrite (link : Fin 16) (lostWrites : BitVec 8) (s : State) : Host.Outcome State Fault Refusal :=
  .next (if linkExists s link then dropLink link lostWrites.toNat s else s)

/-- R66: LINK_DISABLE_WRITE. -/
def execLinkDisableWrite (link : Fin 16) (disable : Bool) (lostWrites : BitVec 8) (s : State) :
    Host.Outcome State Fault Refusal :=
  if !linkExists s link then .next s
  else
    let s := s.put (F.HP_LINK_CTRL.DISABLE link) (bit disable)
    .next (if disable then dropLink link lostWrites.toNat s else s)

/-- R59: an interrupt held for a DOWN LD is sent when it returns. -/
def sendHeldIrq (m : Nat) (s : State) : State :=
  let l := s.lds.get m
  if l.irqHeld then ({ s with lds := s.lds.set m { l with irqHeld := false } }).emit (.msix m l.irqPolicy) else s

/-- R66, R68: an LD whose link is up goes to ALIVE: from DOWN, or with its Memory Space Enable set from IDLE or DEAD. -/
def ldUp (m : Nat) (s : State) : State :=
  let st := agentState s m
  if st = 2 then sendHeldIrq m (s.put (F.HP_AGENT_STATE.STATE m) 1)
  else if (st = 0 ∨ st = 4) && (s.lds.get m).mse then s.put (F.HP_AGENT_STATE.STATE m) 1
  else s

/-- R55, R66: the LDs of a link that is up go to ALIVE, unless an integrity failure left it insecure: its traffic is dropped until
it has a new key. -/
def ldsUp (l : Nat) (s : State) : State := if (s.links.get l).ideInsecure then s else forAll (linkSlots s l) ldUp s

/-- R45, R66, R255, R469: whether a link can come up; a member holds its host links until a roster lists it. -/
def canTrain (s : State) (l : Nat) : Bool :=
  linkExists s l && (!s.inClutch || s.clu.released) && !(s.ports.get (l / 4)).detect && !s.flag (F.HP_LINK_CTRL.DISABLE l) && !(s.links.get l).up

/-- R69: the timeout check of an agent. -/
def deadCheck (m : Nat) (s : State) : State :=
  let l := s.lds.get m
  if agentState s m = 2 ∧ l.dropTimeout * 1000000 ≤ s.since l.dropTb then
    enterReclaiming m (s.log 0x10 m 0 (s.get (F.HP_HAN_MAP.HAN m)))
  else s

/-- R69: the clock of the timeout check: the first of a transit. -/
def checkClock (s : State) : Bool := s.now % 1000 == 0

/-- R69: in the clock of a timeout check, the check goes before the return of a link's agents. -/
def deadFirst (l : Nat) (s : State) : State :=
  if checkClock s then forAll ((List.range 4).map (fun d => 4 * l + d)) deadCheck s else s

/-- R41, R46, R53, R66, R69: LINK_UP: a link trains to a width and rate, in 68 B flit mode or not, with `lds` + 1 LDs bound, and
with PTM offered by its host or not. In the clock of a timeout check, that check goes first. -/
def execLinkUp (link : Fin 16) (width : BitVec 5) (speed : BitVec 3) (flit68 : Bool) (lds : Fin 4) (ptm : Bool) (s : State) :
    Host.Outcome State Fault Refusal :=
  let w := width.toNat
  let v := speed.toNat
  let fits := [1, 2, 4, 8, 16].contains w && decide (w ≤ laneGroup s link) && decide (2 ≤ v)
    && decide (v ≤ (s.ports.get (link.val / 4)).maxSpeed) && (!flit68 || decide (v ≤ 4))
  if canTrain s link && fits then
    let s := deadFirst link s
    let s := { s with links := s.links.upd link (fun x => { x with
      up := true, width := w, trained := w, speed := v, flit68, lds := lds.val + 1, ptm, credits := 32 }) }
    let s := forAll (linkSlots s link) (fun m s => s.put (F.HP_AGENT_STATE.FLIT68 m) (bit flit68)) s
    .next (wakeFrom 9 (settle (retrySnoops (ldsUp link s))))
  else .next s

/-- R68, R69: DL_UP: the data link layer of a dropped link returns at its trained width with no reset of its LDs; in the clock of a
timeout check, that check goes first. -/
def execDlUp (link : Fin 16) (s : State) : Host.Outcome State Fault Refusal :=
  if canTrain s link && (s.links.get link).trained != 0 then
    let s := deadFirst link s
    let s := { s with links := s.links.upd link (fun x => { x with up := true, width := x.trained, credits := 32 }) }
    let s := forAll (linkSlots s link) (fun m s => s.put (F.HP_AGENT_STATE.FLIT68 m) (bit (s.links.get link).flit68)) s
    .next (settle (retrySnoops (ldsUp link s)))
  else .next s

/-- R66: MEMORY_SPACE_ENABLE of an LD is written. -/
def execMemorySpaceEnable (slot : Fin 64) (on : Bool) (s : State) : Host.Outcome State Fault Refusal :=
  let l := linkOfSlot slot
  let s := { s with lds := s.lds.upd slot (fun x => { x with mse := on }) }
  .next (if on && (s.links.get l).up && !(s.links.get l).ideInsecure && (linkSlots s l).contains slot.val && agentState s slot != 2 then ldUp slot s else s)

/-- R66, R457: HOT_RESET of a link (hot reset, secondary bus reset, retrain through Detect), or the CXL Reset of one LD. -/
def execHotReset (link : Fin 16) (ld : Option (Fin 4)) (s : State) : Host.Outcome State Fault Refusal :=
  match ld with
  | some d => .next (resetLd (4 * link.val + d.val) s)
  | none =>
    let s := linkOff link (forAll (linkSlots s link) resetLd s)
    .next { s with links := s.links.upd link (fun x => { x with ide := false, ideMode := 0, ideKey := none, ideInsecure := false }) }

/-- R69: HOST_DEAD_TIMEOUT: the check of the first clock of a transit. -/
def execHostDeadTimeout (slot : Fin 64) (s : State) : Host.Outcome State Fault Refusal :=
  .next (if checkClock s then deadCheck slot s else s)

/-- R57: L0P_CHANGE by the host: any width from x1 up to the trained width. -/
def execL0pChange (link : Fin 16) (width : BitVec 5) (s : State) : Host.Outcome State Fault Refusal :=
  let x := s.links.get link
  if x.up && [1, 2, 4, 8, 16].contains width.toNat && decide (width.toNat ≤ x.trained) then
    .next { s with links := s.links.set link { x with width := width.toNat } }
  else .next s

/-- R55: IDE_INTEGRITY_FAILURE: the link is insecure and its key dropped until IDE_KM sets one; the transition is a link drop. -/
def execIdeIntegrityFailure (link : Fin 16) (lostWrites : BitVec 8) (s : State) : Host.Outcome State Fault Refusal :=
  if (s.links.get link).ide && (s.links.get link).up then
    .next (dropLink link lostWrites.toNat { s with links := s.links.upd link (fun x => { x with ideInsecure := true, ideKey := none }) })
  else .next s

/-- R46: GLOBAL_PERSISTENT_FLUSH: each phase is acknowledged, and nothing else happens. -/
def execGlobalPersistentFlush (link : Fin 16) (phase : Fin 2) (s : State) : Host.Outcome State Fault Refusal :=
  .next (if (s.links.get link).up then s.emit (.gpfAck link phase) else s)

/-- R56: the host link PTM is taken from: the first of the preference list that has PTM and is up. -/
def ptmLink (s : State) : Option Nat :=
  ((List.range 4).filter (fun k => s.flag (F.HP_PTM_SEL.VALID k))).map (fun k => s.get (F.HP_PTM_SEL.LINK k)) |>.find?
    (fun l => (s.links.get l).up && (s.links.get l).ptm)

/-! ### Host agent numbers -/

/-- R44, R66: HAN_MAP_WRITE. -/
def execHanMapWrite (slot : Fin 64) (value : BitVec 32) (s : State) : Host.Outcome State Fault Refusal :=
  let m := slot.val
  let st := agentState s m
  if s.flag (F.HP_PORT_CFG.LOCK (m / 16)) || !(st == 0 || st == 4) then .next s
  else
    let valid := slice value.toNat 7 1
    let han := slice value.toNat 0 6
    if s.inClutch then .next (s.put (F.HP_HAN_MAP.VALID m) valid)
    else if valid == 1 && slots.any (fun x => x != m && s.flag (F.HP_HAN_MAP.ASSIGNED x) && s.get (F.HP_HAN_MAP.HAN x) == han)
    then .next (s.log 0x13 m)
    else .next (((s.put (F.HP_HAN_MAP.VALID m) valid).put (F.HP_HAN_MAP.ASSIGNED m) valid).put (F.HP_HAN_MAP.HAN m) han)

/-! ### HDM decoders and the DVSEC -/

/-- R48: whether every byte of a DPA range is covered by static entries. -/
def staticCovers (l : LdSt) (dpa len : Nat) : Bool :=
  (List.range ((dpa % 2 ^ 30 + len + 2 ^ 30 - 1) / 2 ^ 30)).all (fun k =>
    l.extents.any (fun e => e.source.isNone && decide (e.dpa ≤ dpa / 2 ^ 30 * 2 ^ 30 + k * 2 ^ 30)
      && decide (dpa / 2 ^ 30 * 2 ^ 30 + k * 2 ^ 30 < e.dpa + e.gib * 2 ^ 30)))

/-- Whether two ranges, each a start and a length, overlap. -/
def overlaps (a n b m : Nat) : Bool := decide (a < b + m) && decide (b < a + n)

/-- R48: the DPA range of a decoder. -/
def hdmDpaLen (d : Hdm) : Nat := d.size / d.ways

/-- R48: HDM_DECODER_COMMIT. -/
def execHdmDecoderCommit (slot : Fin 64) (decoder : Fin 4) (base size : BitVec 64) (ways : BitVec 5) (gran : BitVec 15)
    (dpa : BitVec 64) (s : State) : Host.Outcome State Fault Refusal :=
  let l := s.lds.get slot
  let d : Hdm := { base := base.toNat, size := size.toNat, ways := ways.toNat, gran := gran.toNat, dpa := dpa.toNat, committed := true }
  let shaped := [1, 2, 3, 4, 6, 8, 12, 16].contains d.ways && [256, 512, 1024, 2048, 4096, 8192, 16384].contains d.gran
    && d.base % 2 ^ 28 == 0 && d.size % 2 ^ 28 == 0 && d.size != 0
  let others := (List.range 4).filter (fun k => k != decoder.val) |>.map (fun k => l.hdm.getD k {})
  let free := others.all (fun o => !o.committed
    || (!overlaps d.dpa (hdmDpaLen d) o.dpa (hdmDpaLen o) && !overlaps d.base d.size o.base o.size))
  let d' : Hdm := if shaped && staticCovers l d.dpa (hdmDpaLen d) && free then d
    else { d with committed := false, notCommitted := true }
  .next { s with lds := s.lds.set slot { l with hdm := l.hdm.set decoder d' } }

/-- R64: STREAM_CTRL_WRITE; 5 to 7 leave the field unchanged. -/
def execStreamCtrlWrite (slot : Fin 64) (value : BitVec 32) (s : State) : Host.Outcome State Fault Refusal :=
  let v := slice value.toNat 0 3
  .next (if v ≤ 4 then s.put (F.AQ_STREAM_CTRL.STREAM_BITS slot) v else s)


end Sys2Proof.Machine
end

