-- ==== Sys2Proof/Machine/Mover.lean ====
section
/-!
DEFINITION. The commands of the data mover: ring control (R105, R109), descriptor fetches, the start of each operation
(R40, R106 to R108) and completion (R109).
-/

namespace Sys2Proof.Machine

/-- R105, R109: DMR_CTRL_WRITE. -/
def execDmrCtrlWrite (ring : Fin 32) (value : BitVec 32) (s : State) : Host.Outcome State Fault Refusal :=
  let v := value.toNat
  let on := bitOf v 0
  let s := s.put (F.TIER_DMR_CTRL.MSIX ring) (slice v 16 8)
  let s := if bitOf v 15 then s.put (F.TIER_DMR_CTRL.STOPPED ring) 0 else s
  if s.flag (F.TIER_DMR_CTRL.ENABLE ring) then .next (if on then s else stopRing ring s)
  else
    let s := (s.put (F.TIER_DMR_CTRL.OWNER_MGT ring) (slice v 14 1)).put (F.TIER_DMR_CTRL.OWNER ring) (slice v 8 6)
    let s := if 4 ≤ slice v 1 4 then s.put (F.TIER_DMR_CTRL.SIZE_LOG2 ring) (slice v 1 4) else s
    if on then
      let s := s.put (F.TIER_DMR_CTRL.ENABLE ring) 1
      let s := { s with rings := s.rings.upd ring (fun t => { t with fetch := nextSlot s ring, got := [] }) }
      .next (fetchRing ring (ringSize s ring) s)
    else .next s

/-- R109: a ring's TAIL is written, and its descriptors are fetched. -/
def ringTail (ring tail : Nat) (s : State) : State :=
  let s := s.put (F.TIER_DMR_TAIL.TAIL ring) tail
  fetchRing ring (ringSize s ring) s

/-- R62, R105: whether an LD owns a ring. -/
def ownsRing (s : State) (m ring : Nat) : Bool :=
  !s.flag (F.TIER_DMR_CTRL.OWNER_MGT ring) && s.get (F.TIER_DMR_CTRL.OWNER ring) == m

/-- R62, R109: DMR_DOORBELL, by software or through the data-mover page of an LD, which reaches only its own rings. -/
def execDmrDoorbell (ring : Fin 32) (tail : BitVec 15) (page : Option (Fin 64)) (s : State) : Host.Outcome State Fault Refusal :=
  match page with
  | none => .next (ringTail ring tail.toNat s)
  | some m => .next (ioAccess m (fun s => if ownsRing s m ring then ringTail ring tail.toNat s else s) s)

/-- R109: DESCRIPTOR_FETCH: the ring takes up the descriptor of its next slot, once it has arrived; poison stops the
ring. -/
def execDescriptorFetch (ring : Fin 32) (s : State) : Host.Outcome State Fault Refusal :=
  let t := s.rings.get ring
  let slot := nextSlot s ring
  match t.got.find? (fun g => g.1 == slot) with
  | none => .next s
  | some (_, none) => .next (stopRing ring s)
  | some (_, some d) =>
    .next { s with rings := s.rings.set ring { t with
      got := t.got.filter (fun g => g.1 != slot), ops := t.ops ++ [{ slot, desc := descOf d }] } }

/-! ### Starting an operation -/

/-- R40: whether an operation that has all of `earlier` before it on its ring may start. -/
def mayStart (earlier : List MoverOp) (o : MoverOp) : Bool :=
  let fenced (x : MoverOp) : Bool := x.desc.opcode == 0x0F
  if slice o.desc.flags 0 1 == 1 || fenced o then earlier.all (fun x => x.done)
  else earlier.all (fun x => !fenced x || x.done)

/-- R40: the oldest operation of a ring with an opcode that may start. -/
def startable (p : Nat → Bool) : List MoverOp → List MoverOp → Option MoverOp
  | _, [] => none
  | before, o :: rest =>
    if !o.started && p o.desc.opcode && mayStart before o then some o else startable p (before ++ [o]) rest

/-- Whether a ring maps the whole of a range. -/
def ringMaps (s : State) (ring a len : Nat) : Bool :=
  (List.range (len / 2 ^ 30 + 2)).all (fun k =>
    let x := if k = 0 then a else min (a / 2 ^ 30 * 2 ^ 30 + k * 2 ^ 30) (a + len - 1)
    len == 0 || (ringAddr s ring x).isSome)

/-- R209: whether a range of presented addresses touches a leased region that is held. -/
def leaseHeld (s : State) (a len : Nat) : Bool :=
  len != 0 && (List.range ((a + len - 1) / 2 ^ 30 - a / 2 ^ 30 + 1)).any (fun k =>
    let d := s.region (a / 2 ^ 30 + k)
    d.cls == 2 && (d.lease == 1 || d.lease == 2))

/-- The source and destination ranges of an operation, in bytes. -/
def opRanges (d : Desc) : List (Nat × Nat) :=
  if d.opcode = 1 then [(d.src, d.length), (d.dst, d.length)]
  else if d.opcode = 2 ∨ d.opcode = 3 then [(d.dst, d.length)]
  else if d.opcode = 4 then [(d.src, d.length), (d.dst, d.auxLen)]
  else if d.opcode = 5 then [(d.src, d.auxLen), (d.dst, d.length)]
  else []

/-- R106, R108, R149: whether an operation's fields are in range, and a COMPRESS has an encoder to run on. Addresses are multiples of
64 (PRESUMED, log entry 27). A COMPRESS already under way when the last encoder leaves service waits for one (DESIGN CHOICE, log entry
154). -/
def descFits (s : State) (d : Desc) : Bool :=
  let work := decide (1 ≤ d.opcode) && decide (d.opcode ≤ 5)
  decide (d.flags < 8) && (!work || (decide (d.length ≤ 2 ^ 30) && d.length % (if 4 ≤ d.opcode then 1024 else 64) == 0
    && d.dst % 64 == 0 && (d.opcode == 2 || d.opcode == 3 || d.src % 64 == 0)
    && (d.opcode != 4 || (decide (d.level ≤ 7) && !encNone s))
    && (d.opcode != 1 || !overlaps d.src d.length d.dst d.length)))

/-- R37, R107: a page that a ZERO turns to ZERO at once: whole, homed here, of a private region or LOST, with no request of it at its
home, whose order a write of the whole page would break, and with its metadata at hand. -/
def zeroAtOnce (s : State) (cpa : Nat) : Bool :=
  let page := pageOf (homeAddr s cpa)
  homePath s cpa == s.path && ((s.region (regionOf page)).cls == 0 || pageKind s page == 4)
    && pageRoom s page && !s.reqs.any (fun r => r.stage != .away && r.page == page)

/-- R107: the lines of a ZERO, page by page: a whole page at once where that can be, other lines one by one. -/
def zeroRange (ring slot : Nat) (d : Desc) (s : State) : State :=
  let first := d.dst / 4096
  let last := (d.dst + d.length - 1) / 4096
  if d.length = 0 then s
  else
    forAll ((List.range (last - first + 1)).map (fun k => first + k)) (fun pg s =>
      let lo := max (pg * 4096) d.dst
      let hi := min (pg * 4096 + 4096) (d.dst + d.length)
      match ringAddr s ring (pg * 4096) with
      | some cpa =>
        if hi - lo = 4096 ∧ zeroAtOnce s cpa then freePage (pageOf (homeAddr s cpa)) s
        else forAll (List.range ((hi - lo) / 64)) (fun i s => writeLine ring slot ((lo - d.dst) / 64 + i) (some 0) s) s
      | none => s) s

/-- R107: the first work of an operation. -/
def runOp (ring slot : Nat) (d : Desc) (s : State) : State :=
  let lines := List.range (d.length / 64)
  let fill := BitVec.ofNat 512 (ofBytes ((List.replicate 8 (toBytes 8 d.pattern)).flatten))
  let s :=
    if d.opcode = 1 ∨ d.opcode = 4 then forAll lines (fun i s => readLine ring slot i s) s
    else if d.opcode = 2 then forAll lines (fun i s => writeLine ring slot i (some fill) s) s
    else if d.opcode = 3 then zeroRange ring slot d s
    else s
  advanceOp ring slot s

/-- R40, R106 to R108: an operation of a ring starts. -/
def startOp (ring : Nat) (p : Nat → Bool) (s : State) : State :=
  match startable p [] (s.rings.get ring).ops with
  | none => s
  | some o =>
    let s := setOp ring { o with started := true } s
    let d := o.desc
    let refuse := endOp ring o.slot 0x0B 0
    let known := decide (d.opcode ≤ 5) || d.opcode == 0x0F
    if !known || !descFits s d then refuse s
    else if !(opRanges d).all (fun x => ringMaps s ring x.1 x.2) then
      refuse (s.log 0x12 (if s.flag (F.TIER_DMR_CTRL.OWNER_MGT ring) then 0xFF else s.get (F.TIER_DMR_CTRL.OWNER ring)))
    else if s.flag (F.TIER_DMR_CTRL.OWNER_MGT ring) && (opRanges d).any (fun x => leaseHeld s x.1 x.2) then refuse s
    else runOp ring o.slot d s

/-- R107: DM_COPY. -/
def execDmCopy (ring : Fin 32) (s : State) : Host.Outcome State Fault Refusal := .next (startOp ring (· == 1) s)
/-- R107: DM_FILL. -/
def execDmFill (ring : Fin 32) (s : State) : Host.Outcome State Fault Refusal := .next (startOp ring (· == 2) s)
/-- R107: DM_ZERO. -/
def execDmZero (ring : Fin 32) (s : State) : Host.Outcome State Fault Refusal := .next (startOp ring (· == 3) s)
/-- R107, R138: DM_COMPRESS. -/
def execDmCompress (ring : Fin 32) (s : State) : Host.Outcome State Fault Refusal := .next (startOp ring (· == 4) s)
/-- R107, R128: DM_DECOMPRESS. -/
def execDmDecompress (ring : Fin 32) (s : State) : Host.Outcome State Fault Refusal := .next (startOp ring (· == 5) s)
/-- R40: DM_FENCE. -/
def execDmFence (ring : Fin 32) (s : State) : Host.Outcome State Fault Refusal := .next (startOp ring (· == 0x0F) s)
/-- R107: DM_NOP. -/
def execDmNop (ring : Fin 32) (s : State) : Host.Outcome State Fault Refusal := .next (startOp ring (· == 0) s)
/-- R108: DM_RESERVED_OPCODE. -/
def execDmReservedOpcode (ring : Fin 32) (s : State) : Host.Outcome State Fault Refusal :=
  .next (startOp ring (fun n => decide (5 < n) && n != 0x0F) s)

/-! ### Completion -/

/-- R37, R107: the pages of this member that a ZERO turns to ZERO when it completes (DESIGN CHOICE, log entry 28): its whole pages, those
excepted that another write accepted behind it has met. -/
def zeroedPages (ring : Nat) (o : MoverOp) (s : State) : List Nat :=
  let d := o.desc
  if d.opcode != 3 || d.length == 0 || o.status != some 0 then []
  else
    ((List.range (d.length / 4096 + 1)).map (fun k => (d.dst + 4095) / 4096 + k)).filterMap (fun pg =>
      match ringAddr s ring (pg * 4096) with
      | some cpa =>
        if decide (pg * 4096 + 4096 ≤ d.dst + d.length) && homePath s cpa == s.path
            && !o.overwritten.any (fun a => pageOf a == pageOf (homeAddr s cpa)) then some (pageOf (homeAddr s cpa))
        else none
      | none => none)

/-- R109: HEAD passes the completed slots from it on. -/
def advanceHead (ring : Nat) : Nat → State → State
  | 0, s => s
  | fuel + 1, s =>
    let t := s.rings.get ring
    match t.ops with
    | o :: rest =>
      if o.done then
        advanceHead ring fuel
          ({ s with rings := s.rings.set ring { t with ops := rest } }.put (F.TIER_DMR_HEAD.HEAD ring) ((o.slot + 1) % ringSize s ring))
      else s
    | [] => s

/-- R106: STATUS, RESULT_LEN and DONE are written to the descriptor in one 8-byte write. -/
def writeBack (ring : Nat) (o : MoverOp) (s : State) : State :=
  let v := o.resultLen + (o.status.getD 0) * 2 ^ 32 + 2 ^ 40
  let d := BitVec.ofNat 512 (v * 2 ^ 320)
  match ringAddr s ring (s.get (F.TIER_DMR_BASE.BASE ring) * 4096 + 64 * o.slot) with
  | some cpa => (issueLine .internal (ringAgent s ring) true cpa (some d) (BitVec.ofNat 64 (0xFF * 2 ^ 40)) none s).2
  | none => s

/-- R109: DM_OPERATION_COMPLETE: the oldest operation of the ring that has ended and whose lines are done is written back
with DONE, and HEAD advances. It waits for the metadata of pages that it turns to ZERO (R165, R168). -/
def execDmOperationComplete (ring : Fin 32) (s : State) : Host.Outcome State Fault Refusal :=
  match (s.rings.get ring).ops.find? (fun o => o.status.isSome && o.pendingLines == 0 && !o.done) with
  | none => .next s
  | some o =>
    let pages := zeroedPages ring o s
    if pages.any (fun p => !pageRoom s p) then .next s
    else
    let s := forAll pages freePage s
    let s := (writeBack ring o (setOp ring { o with done := true } s)).count 0x406 ring
    let s := if slice o.desc.flags 1 1 == 1 && !s.flag (F.TIER_DMR_CTRL.OWNER_MGT ring) then
        s.emit (.msix (s.get (F.TIER_DMR_CTRL.OWNER ring)) (s.get (F.TIER_DMR_CTRL.MSIX ring)))
      else s
    .next (advanceHead ring (s.rings.get ring).ops.length s)

end Sys2Proof.Machine
end

