-- ==== Sys2Proof/Machine/StitchPort.lean ====
section
/-!
DEFINITION. The stitch link layer (R215 to R245): flits and their check code, training, sequence numbers and replay, credits,
link reset and resynchronisation, and the spare lane.
-/

namespace Sys2Proof.Machine

/-! ### Flits -/

/-- R223: one byte of the CRC-24. -/
def crc24Byte (c b : Nat) : Nat :=
  (List.range 8).foldl (fun c _ => if c / 2 ^ 23 % 2 = 1 then (c * 2 % 2 ^ 24) ^^^ 0x864CFB else c * 2 % 2 ^ 24) (c ^^^ (b % 256 * 2 ^ 16))

/-- R223: the CRC-24 over a list of bytes. -/
def crc24 (l : List Nat) : Nat := l.foldl crc24Byte 0xB704CE

/-- R222, R223: the 72 bytes of a flit from its header and payload. -/
def flitBits (header : Nat) (payload : BitVec 512) : BitVec 576 :=
  let b := toBytes 5 header ++ toBytes 64 payload.toNat
  let c := crc24 b
  BitVec.ofNat 576 (ofBytes (b ++ [c / 2 ^ 16, c / 2 ^ 8 % 256, c % 256]))

/-- R222: the header of a sequenced flit. -/
def flitHeader (f : Flit) : Nat :=
  1 + f.vc * 2 ^ 2 + f.seq * 2 ^ 4 + bit f.poison * 2 ^ 14 + bit f.last * 2 ^ 15 + f.dtag * 2 ^ 16 + f.beat * 2 ^ 28 + f.scode * 2 ^ 34

/-- The check code of 72 received bytes is right (R223). -/
def crcGood (bits : BitVec 576) : Bool :=
  let b := toBytes 72 bits.toNat
  crc24 (b.take 69) == b.getD 69 0 * 2 ^ 16 + b.getD 70 0 * 2 ^ 8 + b.getD 71 0

/-- R235: the VC of a message. -/
def msgVc (m : StMsg) : Nat :=
  let o := m.opcode.toNat
  if o / 16 = 2 then 1 else if o / 16 = 4 then 3 else 0

/-- R235: a message as a flit's payload. -/
def msgBits (m : StMsg) : BitVec 512 :=
  let b := toBytes 1 m.opcode.toNat ++ toBytes 1 m.flags.toNat ++ toBytes 2 m.tag.toNat ++ toBytes 1 m.src.toNat ++ toBytes 1 m.dst.toNat
    ++ toBytes 1 m.han.toNat ++ toBytes 1 m.code.toNat ++ toBytes 8 m.addr.toNat ++ toBytes 8 m.mask.toNat ++ toBytes 4 m.arg.toNat
    ++ toBytes 1 m.status.toNat ++ toBytes 1 m.beats.length ++ toBytes 1 m.seg.toNat
  BitVec.ofNat 512 (ofBytes b)

/-- R235: a message from a flit's payload; its beats are as many blank ones as BEATS says. -/
def msgOf (p : BitVec 512) : StMsg :=
  let x := p.toNat
  { opcode := BitVec.ofNat 8 (slice x 0 8), flags := BitVec.ofNat 8 (slice x 8 8), tag := BitVec.ofNat 12 (slice x 16 12)
    src := BitVec.ofNat 6 (slice x 32 6), dst := BitVec.ofNat 6 (slice x 40 6), han := BitVec.ofNat 6 (slice x 48 6)
    code := BitVec.ofNat 8 (slice x 56 8), addr := BitVec.ofNat 64 (slice x 64 64), mask := BitVec.ofNat 64 (slice x 128 64)
    arg := BitVec.ofNat 32 (slice x 192 32), status := BitVec.ofNat 8 (slice x 224 8), seg := BitVec.ofNat 8 (slice x 240 8)
    beats := List.replicate (slice x 232 8) { data := 0, poison := false, scode := 0 } }

/-- R251: whether a message comes from another member than this one. -/
def passesOn (s : State) (m : StMsg) : Bool := s.inClutch && m.src.toNat != s.path

/-- R222, R235: the flits of a message and its beats. -/
def msgFlits (m : StMsg) : List Flit :=
  let n := m.beats.length
  { vc := msgVc m, payload := msgBits m } ::
    (List.range n).map (fun i =>
      let b := m.beats.getD i { data := 0, poison := false, scode := 0 }
      { vc := 2, poison := b.poison, last := i + 1 == n, dtag := m.tag.toNat, beat := i, scode := b.scode.toNat, payload := b.data })

/-! ### Ports -/

/-- R230: B_v, the size of a VC buffer. -/
def vcSize (v : Nat) : Nat := [64, 64, 256, 32].getD v 0

/-- A port's link layer. -/
def portSt (s : State) (p : Nat) : StPort := s.stPorts.get p

/-- A port's link layer changed. -/
def setPort (p : Nat) (f : StPort → StPort) (s : State) : State := { s with stPorts := s.stPorts.upd p f }

/-- STATE of a port: 0 DETECT, 1 POLL, 2 CONFIG, 3 EQ, 4 ALIGN, 5 SYNC, 6 ACTIVE. -/
def portState (s : State) (p : Nat) : Nat := s.get (F.ST_PORT_STATUS.STATE p)

/-- R433: whether a port's transmitter may send: not in electrical idle after a fatal error in a clutch. -/
def transmits (s : State) (p : Nat) : Bool := !(s.inFatal && s.inClutch) && !s.flag (F.ST_PORT_CTRL.DISABLE p)

/-- R215: logical lanes of a direction. -/
def laneCount (s : State) (p : Nat) : Nat := 2 ^ s.get (F.ST_PORT_STATUS.WIDTH p) / 2

/-- R218: the bytes of a flit on logical lane `n` of `w`. -/
def laneBytes (w n : Nat) (bits : BitVec 576) : List Nat :=
  (List.range (72 / w)).map (fun i => slice bits.toNat (8 * (n + i * w)) 8)

/-- R216: the bytes of a logical lane as its scrambler sends them. -/
def scrambled (x : StPort) (n : Nat) (l : List Nat) : List (BitVec 8) :=
  (List.range l.length).map (fun i => BitVec.ofNat 8 (l.getD i 0) ^^^ Config.scrambler n (x.scramble.getD n 0 + i))

/-- R216, R218, R243, R244: a flit on the logical lanes; then, where the partner has a spare, what it carries: the lane it stands
for, or a copy of lane FLIT_COUNT mod w. -/
def flitLanes (s : State) (p : Nat) (bits : BitVec 576) : List (List (BitVec 8)) :=
  let x := portSt s p
  let w := laneCount s p
  let lane (n : Nat) : List (BitVec 8) := scrambled x n (laneBytes w n bits)
  (List.range w).map lane ++ (if x.peerMap.any (fun m => m.2 == 0x0F) then [lane (x.txSpare.getD (x.txCount % w))] else [])

/-- R215: the time of a flit, in eighths of a ns. -/
def flitTime (s : State) (p : Nat) : Nat := 9 * 2 ^ (4 - s.get (F.ST_PORT_STATUS.WIDTH p)) * 2 ^ (2 - s.get (F.ST_PORT_STATUS.SPEED p))

/-- R218: a flit leaves on a port, in the next slot. Slots follow each other without a gap; only a port that could send nothing for
2 us, longer than one command lasts, starts them anew. -/
def sendFlit (p : Nat) (bits : BitVec 576) (s : State) : State :=
  if transmits s p then
    let w := laneCount s p
    let t := flitTime s p
    let lanes := flitLanes s p bits
    (setPort p (fun x => { x with
      txCount := (x.txCount + 1) % 2 ^ 16
      gap := x.gap + 1
      slot := (if x.slot + 16000 < 8 * s.now then 8 * s.now else x.slot) + t
      scramble := (List.range 8).map (fun n => x.scramble.getD n 0 + (if n < w then 72 / w else 0)) }) s).emit (.flit p bits lanes)
  else s

/-- R225: a CTRL flit with the given FLAGS and SPARE_LANE leaves; it carries ACKSEQ and every credit limit, and what it
acknowledges or advertises is then no longer due (R228, R233). -/
def putCtrl (p flags lane : Nat) (s : State) : State :=
  let x := portSt s p
  let ackSeq := (x.e + 1023) % 1024
  let pay := flags + ackSeq * 2 ^ 8 + lane * 2 ^ 24 + x.freed.getD 0 0 * 2 ^ 32 + x.freed.getD 1 0 * 2 ^ 56
    + x.freed.getD 2 0 * 2 ^ 80 + x.freed.getD 3 0 * 2 ^ 104
  let acked := flags % 4 != 0
  let s := setPort p (fun x => { x with
    adv := x.freed
    acc := if acked then 0 else x.acc
    ackTb := if acked || x.acc == 0 then none else x.ackTb }) s
  setPort p (fun x => { x with gap := 0 }) (sendFlit p (flitBits 2 (BitVec.ofNat 512 pay)) s)

/-- R225: a CTRL flit that is due joins those that wait: it goes with one of them unless both name a lane and not the same. -/
def joinCtrl (flags lane : Nat) : List (Nat × Nat) → List (Nat × Nat)
  | [] => [(flags, lane)]
  | (g, m) :: rest =>
    let names (f : Nat) : Bool := f &&& 24 != 0
    if names flags && names g && lane != m then (g, m) :: joinCtrl flags lane rest
    else (flags ||| g, if names flags then lane else m) :: rest

/-- R225: whether the port may send flits, and a CTRL flit among them in the next slot. -/
def ctrlOpen (s : State) (p : Nat) : Bool := decide (5 ≤ portState s p) && transmits s p && decide (3 ≤ (portSt s p).gap)

/-- R225: a CTRL flit that waits leaves once its slot may have one. -/
def flushCtrl (p : Nat) (s : State) : State :=
  match (portSt s p).ctrlDue with
  | [] => s
  | (f, l) :: rest => if ctrlOpen s p then putCtrl p f l (setPort p (fun x => { x with ctrlDue := rest }) s) else s

/-- R225: a CTRL flit is due: a NAK leaves at once, any other at most once in 4 slots. Before SYNC a port sends no flits. -/
def sendCtrl (p flags lane : Nat) (s : State) : State :=
  if portState s p < 5 then s
  else if flags / 2 % 2 = 1 then putCtrl p flags lane s
  else flushCtrl p (setPort p (fun x => { x with ctrlDue := joinCtrl flags lane x.ctrlDue }) s)

/-- R218, R222: the slot of a port that is free goes to a CTRL flit that waits, or to an IDLE flit. -/
def idleSlot (p : Nat) (s : State) : State :=
  if portState s p < 5 || !transmits s p || decide (8 * s.now < (portSt s p).slot) then s
  else if !(portSt s p).ctrlDue.isEmpty && ctrlOpen s p then flushCtrl p s
  else sendFlit p (flitBits 0 0) s

/-- R233: a buffer entry of a VC is freed; a CTRL flit goes out once 8 are not advertised, and the timer of R228 runs. -/
def freeCredit (p v : Nat) (s : State) : State :=
  let s := setPort p (fun x => { x with
    freed := x.freed.set v ((x.freed.getD v 0 + 1) % 2 ^ 24)
    ackTb := if x.ackTb.isNone then some s.now else x.ackTb }) s
  let x := portSt s p
  if 8 ≤ (x.freed.getD v 0 + 2 ^ 24 - x.adv.getD v 0) % 2 ^ 24 then sendCtrl p 0 0 s else s

/-! ### Sending -/

/-- R231: whether a VC has credit for a new flit. -/
def hasCredit (x : StPort) (v : Nat) : Bool :=
  match x.limit.getD v none with
  | none => false
  | some l =>
    let d := (l + 2 ^ 24 - x.sent.getD v 0) % 2 ^ 24
    decide (1 ≤ d) && decide (d < 2 ^ 23)

/-- R234: the VC of the next new flit: RSP, DAT, SNP, REQ, with one slot in 8 for REQ. -/
def pickVc (x : StPort) : Option Nat :=
  let ready (v : Nat) : Bool := hasCredit x v && x.txq.any (fun f => f.vc == v)
  if ready 0 && decide (7 ≤ x.reqWait) then some 0 else [1, 2, 3, 0].find? ready

/-- R226, R231, R234: new flits leave a port in ACTIVE while they have credit and the replay buffer has room. -/
def pumpPort (p : Nat) : Nat → State → State
  | 0, s => s
  | fuel + 1, s =>
    let x := portSt s p
    if portState s p != 6 || decide (256 ≤ x.replay.length) || !transmits s p then s
    else
      match pickVc x with
      | none => s
      | some v =>
        match x.txq.find? (fun f => f.vc == v) with
        | none => s
        | some f =>
          let f' := { f with seq := x.nextSeq }
          let s := setPort p (fun x => { x with
            txq := eraseFirst (fun g => g == f) x.txq
            replay := x.replay ++ [f']
            nextSeq := (x.nextSeq + 1) % 1024
            sent := x.sent.set v ((x.sent.getD v 0 + 1) % 2 ^ 24)
            reqWait := if v = 0 then 0 else x.reqWait + 1
            replayTb := if x.replayTb.isNone then some s.now else x.replayTb }) s
          pumpPort p fuel (flushCtrl p (sendFlit p (flitBits (flitHeader f') f'.payload) (s.count 0x201 p)))

/-- R251: the flits of a message join those that wait at a port. -/
def queueMsg (p : Nat) (m : StMsg) (s : State) : State :=
  let f := passesOn s m
  setPort p (fun x => { x with txq := x.txq ++ (msgFlits m).map (fun y => { y with forwarded := f }) }) s

/-- The lowest tag of a port's open transactions that is free (R251: 4096 of them). -/
def freeTag (used : List Nat) : Nat → Nat → Option Nat
  | 0, _ => none
  | fuel + 1, n => if used.contains n then freeTag used fuel (n + 1) else some n

/-- R254: whether a message is clutch control. -/
def isClu (m : StMsg) : Bool := m.opcode == 8

/-- R250, R251, R269: an unsent open transaction takes a tag and joins its port's queues, unless a hold keeps this member's
new requests at their origin. -/
def sendOpen (o : StOpen) (s : State) : State :=
  let own := match o.what with | .forward _ _ => false | _ => true
  if o.tag.isSome || (s.clu.hold && own && msgVc o.msg == 0 && !isClu o.msg) then s
  else
    let port := if isClu o.msg || !own then o.port else egress s o.msg.dst.toNat false
    match freeTag ((s.stOpen.filter (fun x => x.port == port)).filterMap (·.tag)) 4096 0 with
    | none => s
    | some t =>
      if 3 < port then s
      else
        let m := { o.msg with tag := BitVec.ofNat 12 t }
        let s := { s with stOpen := s.stOpen.map (fun x => if x == o then { o with port, tag := some t } else x) }
        queueMsg port m s

/-- Messages that wait join their ports' queues, and the ports send what they can. -/
def pump (s : State) : State :=
  let s := forAll s.stOpen sendOpen s
  let s := forAll s.stSend (fun a s => if a.1 ≤ 3 then queueMsg a.1 a.2 s else s) { s with stSend := [] }
  forAll (List.range 4) (fun p s => pumpPort p ((portSt s p).txq.length) s) s

/-- R229: every buffered flit is sent again, in SEQ order. -/
def resendAll (p : Nat) (s : State) : State :=
  let s := forAll (portSt s p).replay (fun f s => flushCtrl p (sendFlit p (flitBits (flitHeader f) f.payload) s)) s
  setPort p (fun x => { x with replayTb := if x.replay.isEmpty then none else some s.now }) s

/-! ### Link reset -/

/-- R239: an open transaction is in doubt: its message may not have arrived. Set by `Stitch.lean`'s rules through the list
of lost ones. -/
def portOpens (s : State) (p : Nat) : List StOpen := s.stOpen.filter (fun o => o.port == p && o.tag.isSome)

/-- A port leaves ACTIVE for DETECT. -/
def leaveActive (p : Nat) (s : State) : State :=
  let was := portState s p == 6
  let s := setPort p (fun x => { x with
    attempt := none, detected := [], locked := [], peerMap := [], map := [], spare := none, syncGot := false, seenGot := false
    lastSync := none, rxSpare := none, spareReq := none, txSpare := none, txCount := 0, rxCount := 0, window := 0, ctrlDue := []
    gap := 3, slot := 0, replayTb := none
    leftActive := if was then some s.now else x.leftActive }) s
  let s := forAll (List.range 8) (fun l s => s.put (F.ST_PORT_LANEERR.LANE p l) 0) s
  (((s.put (F.ST_PORT_STATUS.STATE p) 0).put (F.ST_PORT_STATUS.WIDTH p) 0).put (F.ST_PORT_STATUS.SPARE_USED p) 0).put
    (F.ST_PORT_STATUS.SPARE_BAD p) 0

/-- R239: a link reset: the physical layer retrains and the link-layer state is kept; the counts in a row restart (DESIGN
CHOICE, log entry 178). -/
def linkReset (p : Nat) (s : State) : State :=
  let s := leaveActive p (s.bump (F.ST_PORT_ERR.RESETS p))
  setPort p (fun x => { x with
    replays := 0, naks := 0
    resets := s.transit :: x.resets.filter (fun t => decide (s.transit < t + 1000000)) }) s

/-- R239: a cold start of a port's link layer. -/
def coldStart (p : Nat) (s : State) : State :=
  let s := leaveActive p s
  setPort p (fun x => { ({} : StPort) with leftActive := x.leftActive, down := x.down, resets := x.resets }) s

/-- R224: a protocol error. -/
def protocolError (p : Nat) (s : State) : State :=
  linkReset p ((s.bump (F.ST_PORT_ERR.PROTOCOL p)).log 0x41 p)

/-! ### Receiving -/

/-- R227: a NAK, with its timer; the fourth for the same E resets the link (R239). -/
def sendNak (p : Nat) (s : State) : State :=
  let s := sendCtrl p 2 0 s
  let s := setPort p (fun x => { x with wait := true, nakTb := some s.now, naks := x.naks + 1 }) s
  if 4 ≤ (portSt s p).naks then linkReset p s else s

/-- R224, R227: a flit with a wrong check code. -/
def crcError (p : Nat) (s : State) : State :=
  let s := ((s.bump (F.ST_PORT_ERR.CRC p)).log 0x40 p).count 0x204 p
  if (portSt s p).wait then s else sendNak p s

/-- R226, R229: an ACKSEQ releases buffered flits; a stale one is ignored. Answers whether any was released. -/
def release (p a : Nat) (s : State) : Bool × State :=
  let x := portSt s p
  let oldest := match x.replay.head? with | some f => f.seq | none => x.nextSeq
  let n := (a + 1 + 1024 - oldest) % 1024
  if n = 0 ∨ x.replay.length < n then (false, s)
  else
    (true, setPort p (fun x => { x with
      replay := x.replay.drop n, replays := 0, replayTb := if x.replay.length = n then none else some s.now }) s)

/-- R231: a received credit limit replaces the held one unless it is stale. -/
def takeLimit (held : Option Nat) (c : Nat) : Option Nat :=
  match held with
  | none => some c
  | some l => if (c + 2 ^ 24 - l) % 2 ^ 24 < 2 ^ 23 then some c else some l

/-- R229: a replay starts; the fourth in a row without a release resets the link. -/
def startReplay (p : Nat) (s : State) : State :=
  let x := portSt s p
  if x.replay.isEmpty then setPort p (fun x => { x with replayTb := none }) s
  else
    let s := setPort p (fun x => { x with replays := x.replays + 1 }) ((s.bump (F.ST_PORT_ERR.REPLAYS p)).count 0x203 p)
    let s := resendAll p s
    if 4 ≤ (portSt s p).replays then linkReset p s else s

/-- R244: a substitution is recorded in STATUS and raises STITCH_SPARED. -/
def recordSpare (p lane : Nat) (s : State) : State :=
  ((s.put (F.ST_PORT_STATUS.SPARE_USED p) 1).put (F.ST_PORT_STATUS.SPARE_LANE p) lane).log 0x88 p

/-- R244: SPARE_REQ received: the spare carries the lane from the next flit on, and SPARE_ACK answers, also a repeat. Each end
records the lane; where this end's own direction has its spare in use, STATUS stays that direction's (log entry 139). -/
def takeSpareReq (p lane : Nat) (s : State) : State :=
  let x := portSt s p
  let s := setPort p (fun x => { x with txSpare := some lane }) s
  let s := if x.txSpare == some lane then s else if x.rxSpare.isSome then s.log 0x88 p else recordSpare p lane s
  sendCtrl p 16 lane s

/-- R244: SPARE_ACK received: the lane is taken from the spare, and the substitution is recorded. -/
def takeSpareAck (p lane : Nat) (s : State) : State :=
  if (portSt s p).spareReq != some lane then s
  else recordSpare p lane (setPort p (fun x => { x with spareReq := none, rxSpare := some lane }) s)

/-- R240: a SYNC flit: through ACKSEQ is released and LIMIT is set; in SYNC the partner's end is then known, and in ACTIVE the
partner, which has yet to see it, is answered. -/
def takeSync (p a : Nat) (cred : List Nat) (s : State) : State :=
  let s := (release p a s).2
  let s := setPort p (fun x => { x with limit := cred.map some }) s
  if portState s p = 6 then sendCtrl p 32 0 s else setPort p (fun x => { x with syncGot := true }) s

/-- R225 to R231, R240, R244: a control flit with a right check code; a NAK replays whether its ACKSEQ is stale or not (DESIGN
CHOICE, log entry 176). -/
def takeCtrl (p : Nat) (pay : Nat) (s : State) : State :=
  let flags := slice pay 0 8
  let a := slice pay 8 10
  let lane := slice pay 24 3
  let cred := [slice pay 32 24, slice pay 56 24, slice pay 80 24, slice pay 104 24]
  if 64 ≤ flags ∨ slice pay 18 6 ≠ 0 ∨ slice pay 27 5 ≠ 0 ∨ pay / 2 ^ 128 ≠ 0 then protocolError p s
  else
    let s := if flags / 4 % 2 = 1 then takeSync p a cred s else s
    let s := if flags / 32 % 2 = 1 then setPort p (fun x => { x with seenGot := true }) s else s
    let s := setPort p (fun x => { x with limit := List.zipWith takeLimit x.limit cred }) s
    let s := if flags % 4 ≠ 0 then (release p a s).2 else s
    let s := if flags / 2 % 2 = 1 && portState s p == 6 then startReplay p s else s
    let s := if flags / 8 % 2 = 1 then takeSpareReq p lane s else s
    let s := if flags / 16 % 2 = 1 then takeSpareAck p lane s else s
    pump s

/-- The entries of a VC's buffer. RSP and DAT drain at once (R234). -/
def vcUsed (x : StPort) (v : Nat) : Nat := if v = 0 then x.rxReq.length else if v = 3 then x.rxSnp.length else 0

/-- R227: an accepted flit enters its VC's buffer. RSP and DAT flits are gathered at once and give their entry back: they
wait on no VC (R234). -/
def placeFlit (p : Nat) (f : Flit) (s : State) : State :=
  let m := msgOf f.payload
  if f.vc = 2 then freeCredit p 2 (setPort p (fun x => { x with rxDat := x.rxDat ++ [f] }) s)
  else if f.vc = 1 then freeCredit p 1 (setPort p (fun x => { x with rxRsp := x.rxRsp ++ [m] }) s)
  else setPort p (fun x => if f.vc = 0 then { x with rxReq := x.rxReq ++ [m] } else { x with rxSnp := x.rxSnp ++ [m] }) s

/-- R227, R228, R232: a sequenced flit with a right check code. -/
def takeSeq (p : Nat) (f : Flit) (s : State) : State :=
  let x := portSt s p
  let d := (x.e + 1024 - f.seq) % 1024
  if d = 0 then
    if vcSize f.vc ≤ vcUsed x f.vc then protocolError p s
    else
      let s := setPort p (fun x => { x with
        e := (x.e + 1) % 1024, wait := false, nakTb := none, naks := 0, acc := x.acc + 1
        ackTb := if x.ackTb.isNone then some s.now else x.ackTb }) s
      let s := placeFlit p f (s.count 0x202 p)
      if s.get (F.ST_PORT_CFG.COALESCE p) ≤ (portSt s p).acc then sendCtrl p 1 0 s else s
  else if d ≤ 256 then sendCtrl p 1 0 (s.bump (F.ST_PORT_ERR.DUPS p))
  else if x.wait then s
  else sendNak p s

/-- R243: whether the spare is there, unused and sound. -/
def spareFree (s : State) (p : Nat) : Bool :=
  (portSt s p).spare.isSome && (portSt s p).rxSpare.isNone && !s.flag (F.ST_PORT_STATUS.SPARE_BAD p)
    && (portSt s p).spareReq.isNone

/-- R243: a flit is counted; while the spare is unused its copy is compared with logical lane FLIT_COUNT mod w, and mismatches
are counted by lane. -/
def countFlit (p : Nat) (bits copy : BitVec 576) (s : State) : State :=
  let w := laneCount s p
  let lane := (portSt s p).rxCount % w
  let compared := spareFree s p && portState s p == 6
  let s := setPort p (fun x => { x with
    rxCount := (x.rxCount + 1) % 2 ^ 16, window := if compared then x.window + 1 else x.window }) s
  if compared && ofBytes (laneBytes w lane bits) != copy.toNat then s.bump (F.ST_PORT_LANEERR.LANE p lane) else s

/-- R222, R224: a received flit of any kind, as its lanes' descramblers give it, with what the spare lane carried. -/
def takeFlit (p : Nat) (bits copy : BitVec 576) (s : State) : State :=
  if portState s p < 5 then s
  else
    let s := countFlit p bits copy s
    if !crcGood bits then crcError p s
    else
      let h := bits.toNat % 2 ^ 40
      let pay := slice bits.toNat 40 512
      let kind := h % 4
      if kind = 0 then if h ≠ 0 ∨ pay ≠ 0 then protocolError p s else s
      else if kind = 2 then if h ≠ 2 then protocolError p s else takeCtrl p pay s
      else if kind = 3 then protocolError p s
      else
        let f : Flit := { vc := slice h 2 2, seq := slice h 4 10, poison := slice h 14 1 == 1, last := slice h 15 1 == 1
                          dtag := slice h 16 12, beat := slice h 28 6, scode := slice h 34 4, payload := BitVec.ofNat 512 pay }
        if slice h 38 2 ≠ 0 ∨ (f.vc ≠ 2 ∧ h / 2 ^ 14 ≠ 0) then protocolError p s else takeSeq p f s

/-- R227: FLIT_RECEIVED. -/
def execFlitReceived (port : Fin 4) (flit copy : BitVec 576) (s : State) : Host.Outcome State Fault Refusal :=
  .next (takeFlit port flit copy s)

/-- R226: CTRL_FLIT_RECEIVED. -/
def execCtrlFlitReceived (port : Fin 4) (flit copy : BitVec 576) (s : State) : Host.Outcome State Fault Refusal :=
  .next (takeFlit port flit copy s)

/-- R228: ACK_TIMER. -/
def execAckTimer (port : Fin 4) (s : State) : Host.Outcome State Fault Refusal :=
  let x := portSt s port
  match x.ackTb with
  | some t =>
    if portState s port = 6 ∧ 200 ≤ s.since t then
      .next (sendCtrl port (if x.acc = 0 then 0 else 1) 0 (setPort port (fun x => { x with ackTb := none }) s))
    else .next s
  | none => .next s

/-- R227: NAK_RESEND_TIMER. -/
def execNakResendTimer (port : Fin 4) (s : State) : Host.Outcome State Fault Refusal :=
  let x := portSt s port
  match x.nakTb with
  | some t => if x.wait && portState s port == 6 && decide (1000 ≤ s.since t) then .next (sendNak port s) else .next s
  | none => .next s

/-- R229: REPLAY_TIMER. -/
def execReplayTimer (port : Fin 4) (s : State) : Host.Outcome State Fault Refusal :=
  match (portSt s port).replayTb with
  | some t => if portState s port = 6 ∧ 1000 ≤ s.since t then .next (startReplay port s) else .next s
  | none => .next s

/-! ### Training -/

/-- R219: a training block that this port sends on a physical lane. The EQ bytes are those of PCIe 6.x equalisation, which the
spec does not lay down: free values. -/
def trainingBlock (s : State) (p lane : Nat) : BitVec 576 :=
  let x := portSt s p
  let st := portState s p
  let type := if st = 2 then 2 else if st = 4 then 3 else 1
  let map := if st != 2 then 0xFF
    else match x.map.findIdx? (· == lane) with
      | some k => k
      | none => if x.spare == some lane then 0x0F else 0xFF
  let flags := s.get (F.ST_PORT_CFG.SPARE_EN p) + 2 * bit x.cold
  let b := [0x7E, 0x81, type, lane, map, s.get (F.ST_PORT_CFG.MAX_SPEED p) % 8, s.get (F.ST_PORT_CFG.MAX_WIDTH p), flags]
    ++ toBytes 6 (deviceId s) ++ [p, 0] ++ toBytes 4 (if st = 3 then (Config.eqBytes s.freeCtr lane).toNat else 0)
    ++ List.replicate 49 0x5A
  let c := crc24 b
  BitVec.ofNat 576 (ofBytes (b ++ [c / 2 ^ 16, c / 2 ^ 8 % 256, c % 256]))

/-- R219: the time of a training block on its lane, in eighths of a ns. -/
def blockTime (s : State) (p : Nat) : Nat := 72 * 2 ^ (2 - s.get (F.ST_PORT_STATUS.SPEED p))

/-- R219: a port's blocks of its training state, on every lane that detects a receiver. -/
def sendBlocks (p : Nat) (s : State) : State :=
  if transmits s p then
    let s := forAll (portSt s p).detected (fun l s => s.emit (.training p l (trainingBlock s p l))) s
    let s := setPort p (fun x => { x with slot := (if x.slot + 16000 < 8 * s.now then 8 * s.now else x.slot) + blockTime s p }) s
    if portState s p = 3 then { s with freeCtr := s.freeCtr + 1 } else s
  else s

/-- R218, R219, R222: what a port sends in a slot with nothing else to send: its training blocks again while it trains, and then flits
that carry no message. -/
def portSlot (p : Nat) (s : State) : State :=
  if 1 ≤ portState s p ∧ portState s p ≤ 4 then
    if transmits s p && decide ((portSt s p).slot ≤ 8 * s.now) then sendBlocks p s else s
  else idleSlot p s

/-- R218, R219, R222: the slots of a port that have passed, when time has gone on by more than one of them. -/
def fillSlots (p : Nat) (s : State) : State :=
  let t := if portState s p ≤ 4 then blockTime s p else flitTime s p
  if portState s p = 0 then s
  else forAll (List.range (min 16000 (8 * s.now - (portSt s p).slot) / t + 1)) (fun _ s => portSlot p s) s

/-- R219, R221: a port enters a training state; the attempt and 16 GT/s begin with POLL. SYNC has no blocks. -/
def enterTraining (p st : Nat) (s : State) : State :=
  let s := s.put (F.ST_PORT_STATUS.STATE p) st
  let s := if st = 1 then setPort p (fun x => { x with attempt := some s.now }) (s.put (F.ST_PORT_STATUS.SPEED p) 0) else s
  let s := setPort p (fun x => { x with slot := 8 * s.now }) s
  if st ≤ 4 then sendBlocks p s else s

/-- R220: the lanes in x4, x2 ... that a width code of SPEEDS or WIDTHS names, by bit. -/
def widthOfBit (k : Nat) : Nat := 2 ^ k

/-- R220: the largest width both sides permit for which this direction has lanes, as a bit number. -/
def ownWidth (s : State) (p : Nat) : Option Nat :=
  let x := portSt s p
  [3, 2, 1, 0].find? (fun k => bitOf (s.get (F.ST_PORT_CFG.MAX_WIDTH p)) k && bitOf x.peerWidths k
    && decide (widthOfBit k ≤ x.locked.length))

/-- R220: the number of logical lanes that the partner's maps name: one more than the highest. -/
def namedLanes (x : StPort) : Nat := x.peerMap.foldl (fun n m => if m.2 ≤ 7 then max n (m.2 + 1) else n) 0

/-- R220: the largest width both sides permit for which both directions have lanes, as a bit number. The partner's direction has
the smallest width that holds every lane it names: a map on a lane that did not lock is not heard. -/
def agreedWidth (s : State) (p : Nat) : Option Nat :=
  match ownWidth s p with
  | none => none
  | some w => [3, 2, 1, 0].find? (fun k => bitOf (s.get (F.ST_PORT_CFG.MAX_WIDTH p)) k && bitOf (portSt s p).peerWidths k
      && decide (k ≤ w) && decide (widthOfBit k < 2 * namedLanes (portSt s p)))

/-- R220: the highest rate both sides permit. -/
def agreedSpeed (s : State) (p : Nat) : Option Nat :=
  [2, 1, 0].find? (fun k => bitOf (s.get (F.ST_PORT_CFG.MAX_SPEED p)) k && bitOf (portSt s p).peerSpeeds k)

/-- Insertion into a sorted list without repeats. -/
def addLane (l : Nat) : List Nat → List Nat
  | [] => [l]
  | a :: r => if l < a then l :: a :: r else if l = a then a :: r else a :: addLane l r

/-- R220: the receive lanes are mapped for a width: the lowest that locked become the logical lanes, and the next the spare, if
both ends offer one. -/
def mapLanes (p : Nat) (k : Option Nat) (s : State) : State :=
  let spared := s.flag (F.ST_PORT_CFG.SPARE_EN p) && bitOf (portSt s p).peerFlags 0
  match k with
  | none => s
  | some k => setPort p (fun x => { x with
      map := x.locked.take (widthOfBit k), spare := if spared then (x.locked.drop (widthOfBit k)).head? else none }) s

/-- R220: TS2 was heard on every lane that locked. -/
def mapsHeard (x : StPort) : Bool := x.locked.all (fun l => (cellFind l x.peerMap).isSome)

/-- R220: once the partner's maps are heard, this end maps its lanes for the agreed width, and announces the map again where
that changes it. -/
def remap (p : Nat) (s : State) : State :=
  if mapsHeard (portSt s p) then
    let t := mapLanes p (agreedWidth s p) s
    if (portSt t p).map == (portSt s p).map && (portSt t p).spare == (portSt s p).spare then s else sendBlocks p t
  else s

/-- R239: the warm end of a link whose partner is cold discards its state. Messages it held are lost, not delivered. -/
def meetCold (p : Nat) (s : State) : State :=
  let x := portSt s p
  if bitOf x.peerFlags 1 && !x.cold then
    setPort p (fun x => { x with
      nextSeq := 0, replay := [], sent := [0, 0, 0, 0], limit := [none, none, none, none], replays := 0, e := 0, wait := false
      nakTb := none, naks := 0, acc := 0, ackTb := none, freed := [64, 64, 256, 32], adv := [64, 64, 256, 32], rxReq := []
      rxRsp := [], rxSnp := [], rxDat := [], txq := [], cold := true, scramble := List.replicate 8 0 }) (s.log 0x44 p)
  else s

/-- R220: CONFIG ends once every lane's map is heard: width and rate are agreed, or the attempt fails. -/
def endConfig (p : Nat) (s : State) : State :=
  if !mapsHeard (portSt s p) then s
  else
    match agreedWidth s p, agreedSpeed s p with
    | some w, some v =>
      enterTraining p 3 (((meetCold p s).put (F.ST_PORT_STATUS.WIDTH p) (w + 1)).put (F.ST_PORT_STATUS.SPEED p) v)
    | _, _ => leaveActive p s

/-- R219, R220: a training block is received on a physical lane while the lanes of `detected` detect a receiver; with such lanes
an enabled port leaves DETECT. `advance` says that the port leaves its training state with this block: the spec gives the states
and their order, and no condition (log entry 29). -/
def trainingBlockIn (port : Fin 4) (lane : Fin 9) (detected : BitVec 9) (block : BitVec 576) (advance : Bool) (s : State) : State :=
  let p := port.val
  let off := s.flag (F.ST_PORT_CTRL.DISABLE p)
  let s := if !off && portState s p == 0 && detected != 0 then
      enterTraining p 1 (setPort p (fun x => { x with detected := (List.range 9).filter (bitOf detected.toNat) }) s)
    else s
  let st := portState s p
  let b := toBytes 72 block.toNat
  let type := b.getD 2 0
  if off || !crcGood block || b.take 2 != [0x7E, 0x81] || st == 0 || decide (4 < st) then s
  else
    let lock (s : State) : State :=
      let s := setPort p (fun x => { x with
        locked := addLane lane.val x.locked, peerSpeeds := b.getD 5 0, peerWidths := b.getD 6 0, peerFlags := b.getD 7 0 }) s
      (s.put (F.ST_PORT_STATUS.PEER_ID p) (fieldLE b 8 6)).put (F.ST_PORT_STATUS.PEER_PORT p) (b.getD 14 0)
    if st = 1 then
      let s := lock s
      (if advance then enterTraining p 2 (mapLanes p (ownWidth s p) s) else s)
    else if st = 2 then
      let s := if type = 2 then remap p (setPort p (fun x => { x with peerMap := cellInsert lane.val (b.getD 4 0) x.peerMap }) s) else s
      (if advance then endConfig p s else s)
    else if st = 3 then (if advance then enterTraining p 4 s else s)
    else (if advance && type == 3 then enterTraining p 5 s else s)

/-- R221: TRAINING_ATTEMPT_TIMEOUT. -/
def execTrainingAttemptTimeout (port : Fin 4) (s : State) : Host.Outcome State Fault Refusal :=
  let st := portState s port
  let late : Bool := match (portSt s port).attempt with | some t => decide (100000 ≤ s.since t) | none => false
  if 1 ≤ st ∧ st ≤ 5 ∧ late then .next (leaveActive port s) else .next s

/-- R240: SYNC_SEND. -/
def execSyncSend (port : Fin 4) (s : State) : Host.Outcome State Fault Refusal :=
  let x := portSt s port
  let due : Bool := match x.lastSync with | none => true | some t => decide (1000 ≤ s.since t)
  if portState s port = 5 ∧ due then
    .next (setPort port (fun x => { x with lastSync := some s.now }) (sendCtrl port (4 + 32 * bit x.syncGot) 0 s))
  else .next s

/-- R216, R218, R240: LINK_ACTIVE: the port enters ACTIVE and replays before it sends new flits. From cold, the scramblers are
seeded and FLIT_COUNT starts; that replay is not counted (DESIGN CHOICE, log entry 177). -/
def execLinkActive (port : Fin 4) (s : State) : Host.Outcome State Fault Refusal :=
  let x := portSt s port
  if portState s port = 5 ∧ x.syncGot ∧ x.seenGot then
    let s := s.put (F.ST_PORT_STATUS.STATE port) 6
    let s := if x.cold then setPort port (fun x => { x with txCount := 0, rxCount := 0, scramble := List.replicate 8 0 }) s else s
    let s := setPort port (fun x => { x with cold := false, leftActive := none, down := false, attempt := none }) s
    .next (pump (resendAll port s))
  else .next s

/-! ### The spare lane -/

/-- R243, R244: a logical lane has failed while the spare is free. -/
def failLane (p lane : Nat) (s : State) : State :=
  let s := setPort p (fun x => { x with spareReq := some lane, spareReqTb := s.now }) s
  sendCtrl p 8 lane s

/-- R243: the lanes whose mismatches of the window reach THRESH. -/
def noisyLanes (s : State) (p : Nat) : List Nat :=
  (List.range 8).filter (fun l => decide (s.get (F.ST_PORT_CFG.THRESH p) ≤ s.get (F.ST_PORT_LANEERR.LANE p l)))

/-- R243: SPARE_WINDOW_END: 2^20 flits were compared; the counts are judged and a new window starts. -/
def execSpareWindowEnd (port : Fin 4) (s : State) : Host.Outcome State Fault Refusal :=
  let p := port.val
  if (portSt s p).window < 2 ^ 20 || !spareFree s p then .next s
  else
    let t := forAll (List.range 8) (fun l s => s.put (F.ST_PORT_LANEERR.LANE p l) 0) (setPort p (fun x => { x with window := 0 }) s)
    match noisyLanes s p with
    | [] => .next t
    | [l] => .next (failLane p l t)
    | _ => .next (t.put (F.ST_PORT_STATUS.SPARE_BAD p) 1)

/-- R239, R243: LANE_LOCK_LOSS of a logical lane, or of the spare (lane 8). A lane that the spare carries, or is asked to, is
covered; the loss of a spare in use is one lane more than it can cover. -/
def execLaneLockLoss (port : Fin 4) (lane : Fin 9) (s : State) : Host.Outcome State Fault Refusal :=
  let p := port.val
  let x := portSt s p
  if portState s p != 6 then .next s
  else if lane.val = 8 then
    .next (if x.spare.isNone then s
      else if x.rxSpare.isSome || x.spareReq.isSome then linkReset p s
      else s.put (F.ST_PORT_STATUS.SPARE_BAD p) 1)
  else if laneCount s p ≤ lane.val then .next s
  else if spareFree s p then .next (failLane p lane s)
  else if x.spareReq = some lane.val ∨ x.rxSpare = some lane.val then .next s
  else .next (linkReset p s)

/-- R244: SPARE_REQ received. -/
def execSpareReq (port : Fin 4) (lane : Fin 8) (s : State) : Host.Outcome State Fault Refusal :=
  .next (if portState s port = 6 then takeSpareReq port lane s else s)

/-- R244: SPARE_ACK received. -/
def execSpareAck (port : Fin 4) (lane : Fin 8) (s : State) : Host.Outcome State Fault Refusal :=
  .next (if portState s port = 6 then takeSpareAck port lane s else s)

/-- R244: SPARE_REQ_REPEAT. -/
def execSpareReqRepeat (port : Fin 4) (s : State) : Host.Outcome State Fault Refusal :=
  let x := portSt s port
  match x.spareReq with
  | some l => if portState s port = 6 ∧ 1000 ≤ s.since x.spareReqTb then .next (failLane port l s) else .next s
  | none => .next s

/-! ### Port control -/

/-- R239: ST_RETRAIN_WRITE. -/
def execStRetrainWrite (port : Fin 4) (s : State) : Host.Outcome State Fault Refusal :=
  .next (if s.flag (F.ST_PORT_CTRL.DISABLE port) then s else linkReset port s)

end Sys2Proof.Machine
end

