-- ==== Sys2Proof/Machine/Stitch.lean ====
section
/-!
DEFINITION. Messages between members (R235 to R237, R248, R251, R257, R260 to R262): requests served for a peer or
forwarded, spill slots held for peers, answers that complete open transactions, the end of transactions whose route is lost
(R267), and the port controls of R239 and R241.
-/

namespace Sys2Proof.Machine

/-! ### Taking messages -/

/-- R235: the beats of a message, once all of them have come. -/
def beatsFor (x : StPort) (m : StMsg) : Option (List Flit) :=
  let l := (x.rxDat.filter (fun f => f.dtag == m.tag.toNat)).take m.beats.length
  if l.length = m.beats.length then some l else none

/-- The messages a port holds on a VC: 0 REQ, 1 RSP, 3 SNP. -/
def rxQueue (x : StPort) (v : Nat) : List StMsg := if v = 0 then x.rxReq else if v = 1 then x.rxRsp else x.rxSnp

/-- R227, R234: the message of a VC that is next: the oldest; on RSP, which waits on no VC, the oldest whose beats have come. -/
def nextMsg (x : StPort) (v : Nat) : Option StMsg :=
  if v = 1 then x.rxRsp.find? (fun m => (beatsFor x m).isSome) else (rxQueue x v).head?

/-- R230, R234: the next message of a VC is taken with its beats, and its buffer entry is freed; an RSP message gave its entry
back when it came. -/
def takeHead (p v : Nat) (s : State) : Option (StMsg × State) :=
  let x := portSt s p
  match nextMsg x v with
  | none => none
  | some m =>
    match beatsFor x m with
    | none => none
    | some l =>
      let beats := l.map (fun f => ({ data := f.payload, poison := f.poison, scode := BitVec.ofNat 4 f.scode } : Beat))
      let dat := l.foldl (fun d f => eraseFirst (fun g => g == f) d) x.rxDat
      let rest := eraseFirst (fun n => n == m) (rxQueue x v)
      let s := setPort p (fun x =>
        if v = 0 then { x with rxReq := rest, rxDat := dat }
        else if v = 1 then { x with rxRsp := rest, rxDat := dat }
        else { x with rxSnp := rest, rxDat := dat }) s
      some ({ m with beats }, if v = 1 then s else freeCredit p v s)

/-- The open transactions that keep a member from reporting HELD (R269): its own requests on their way, and forwarded
requests that have no tag yet. A command whose ACCEPTED reply has come only waits for its completion event. -/
def holdsHeld (s : State) (o : StOpen) : Bool :=
  match o.what with
  | .control => false
  | .command _ accepted => !accepted && o.tag.isSome
  | .forward _ _ => o.tag.isNone && decide (portState s o.port = 6)
  | _ => o.tag.isSome && msgVc o.msg == 0

/-- R269: whether a flit of a message that this member forwards waits at a port that can send it (log entry 188). -/
def forwards (s : State) : Bool := (List.range 4).any (fun p => portState s p == 6 && (portSt s p).txq.any (·.forwarded))

/-- Whether a message is for this member. -/
def mine (s : State) (m : StMsg) : Bool := !s.inClutch || m.dst.toNat == s.path

/-- An answer of this member to a message that arrived on a port, or one passed on; its tag is the one it answers. -/
def sendAnswer (p tag : Nat) (m : StMsg) (s : State) : State :=
  { s with stSend := s.stSend ++ [(p, { m with tag := BitVec.ofNat 12 tag })] }

/-- R257: the answer to a snoop. -/
def snpRsp (s : State) (m : StMsg) (keep : Bool) : StMsg :=
  { mkMsg 0x22 m.src.toNat (code := bit keep) (han := m.han.toNat) (addr := m.addr.toNat) with
    src := BitVec.ofNat 6 s.path }

/-- The bytes of a packet that a CMD or CMD_RSP carries. -/
def packetBytes (m : StMsg) : List Nat :=
  ((m.beats.map (fun b => toBytes 64 b.data.toNat)).flatten).take m.arg.toNat

/-- R266, R314: a command's bytes answered with ABORTED. -/
def abortedReply (b : List Nat) : List Nat := headerBytes (fieldLE b 0 2) (fieldLE b 2 2) 1 0 0x30

/-- A request that can go no further is answered: reads with poison, snoops as I, everything else ABORTED (DESIGN CHOICE, log
entry 30). -/
def refuseMsg (p : Nat) (m : StMsg) (status : Nat) (s : State) : State :=
  let op := m.opcode.toNat
  let tag := m.tag.toNat
  if op = 0x41 ∨ op = 0x42 then sendAnswer p tag (snpRsp s m false) s
  else if op = 7 then
    let b := abortedReply (packetBytes m)
    sendAnswer p tag { mkMsg 0x23 m.src.toNat (arg := b.length) (beats := packetBeats b) with
      src := BitVec.ofNat 6 s.path } s
  else sendCmp p tag m.src.toNat status 0 0 (if op = 1 then [lineBeat none] else []) s

/-- R250, R251: a message for another member goes on, with a tag of this member's own. -/
def forwardMsg (p : Nat) (m : StMsg) (s : State) : State :=
  let e := egress s m.dst.toNat (!bitOf (s.get F.CLU_LINKS.UP_END) p)
  if 3 < e then refuseMsg p m 0x30 s
  else
    let s : State := { s with stOpen := s.stOpen ++ [{ port := e, what := .forward p m.tag.toNat, msg := m, since := s.now }] }
    s.count 0x206 e

/-! ### Requests of peers -/

/-- R248: the host agent a peer's request acts for: the one it names, where the HAN table places that agent on the sender; a hint names
another (DESIGN CHOICE, log entry 31). -/
def peerAgent (s : State) (m : StMsg) : Option Nat :=
  let h := m.han.toNat
  if m.flags.toNat % 2 = 0 && s.flag (F.CLU_HAN.VALID h) && !s.flag (F.CLU_HAN.DEAD h)
      && s.get (F.CLU_HAN.PATH h) == m.src.toNat then some h else none

/-- R104, R236: the hint of a peer's write. -/
def peerHint (s : State) (m : StMsg) : Option Nat :=
  if m.flags.toNat % 2 = 1 && hanAlive s m.han.toNat then some m.han.toNat else none

/-- R203, R247, R248: a peer's read or write enters its home slice as the peer-member master, or is unbacked; the log of an unbacked
access is kept against the LD, by the member of that LD (R47, `backed`). -/
def servePeer (p : Nat) (m : StMsg) (write : Bool) (mask : BitVec 64) (s : State) : State :=
  let a := lineAddr (homeAddr s m.addr.toNat)
  let i := codeIntent m.code.toNat
  let i := if write && !isWrite i then .wrNC else if !write && isWrite i then .readNC else i
  if s.presented ≤ regionOf (pageOf a) then
    sendCmp p m.tag.toNat m.src.toNat 0 0 0 (if write then [] else [lineBeat none]) s
  else
    let b := m.beats.headD { data := 0, poison := true, scode := 0 }
    addReq { id := 0, src := .peer p m.tag.toNat m.src.toNat, intent := i, addr := a, master := 68, agent := peerAgent s m
             input := 4 + p, write, data := b.data, mask, poison := b.poison && write, hint := if write then peerHint s m else none } s

/-! ### Spill slots held for other members -/

/-- R260: frames of the spill table of each channel. -/
def spillTable (s : State) : Nat := (spillFrames s + 1023) / 1024

/-- R260: the slots this member offers. -/
def offeredSlots (s : State) : Nat := 16 * (spillFrames s - spillTable s)

/-- The slots in use. -/
def heldSlots (s : State) : Nat := (s.spills.cells.filter (fun x => x.2.isSome)).length

/-- R260: the line of sector `i` of a slot, in its channel. The spill area lies above the data pool (DESIGN CHOICE, log entry
32). -/
def slotLine (s : State) (n i : Nat) : Nat := frameLine (s.tier.spillBase.getD (n % 16) 0 + spillTable s + n / 16) i

/-- CLU_SPILL_STATUS.HELD follows the spill table. -/
def showHeld (s : State) : State := s.put F.CLU_SPILL_STATUS.HELD (heldSlots s)

/-- R99, R260: a slot from `n` on that is free and whose channel is not evacuating. -/
def freeSlot (s : State) : Nat → Nat → Option Nat
  | 0, _ => none
  | fuel + 1, n =>
    if offeredSlots s ≤ n then none
    else if (s.spills.get n).isNone && s.get (F.TIER_POOL_STATUS.EVAC (n % 16)) == 0 then some n
    else freeSlot s fuel (n + 1)

/-- R237: the sectors and tags of a transfer in sector form with `n` sectors; none where a beat of it or of its tag is poison. -/
def sectorsIn (beats : List Beat) (n : Nat) : List (Option (List Nat × List Nat)) :=
  let tags := ((beats.drop n).map (fun b => toBytes 64 b.data.toNat)).flatten
  (List.range n).map (fun i =>
    let b := beats.getD i { data := 0, poison := true, scode := 0 }
    let poisoned (k : Nat) : Bool := (beats.getD k { data := 0, poison := true, scode := 0 }).poison
    if b.poison || poisoned (n + 6 * i / 64) || poisoned (n + (6 * i + 5) / 64) then none
    else some (toBytes 64 b.data.toNat, (tags.drop (6 * i)).take 6))

/-- The storage code of a transfer in sector form. -/
def beatCode (beats : List Beat) : Nat := match beats.head? with | some b => b.scode.toNat | none => 0

/-- R237: whether a transfer has the beats its code asks for. -/
def sectorForm (beats : List Beat) : Bool :=
  let n := secCount (beatCode beats)
  beats.length == (if n = 0 then 1 else n + (6 * n + 63) / 64)

/-- R158, R260: the sectors of segment `k` are stored in a slot with their tags; those that came as poison are not, and the slot
keeps which they are. -/
def storeSpill (n k : Nat) (codes : List Nat) (beats : List Beat) (s : State) : State :=
  let l := sectorsIn beats (secCount (codes.getD k 0))
  forAll (List.range l.length) (fun i s =>
    match l.getD i none with
    | some (b, t) => dramWrite (n % 16) (slotLine s n (secStart codes k + i)) (codewordOf b t) s
    | none => s) s

/-- R260: the 4 bytes of a slot's entry in the spill table. -/
def spillEntry (s : State) (n : Nat) : List Nat :=
  match s.spills.get n with
  | some x => toBytes 4 (x.owner + 2 ^ 6 + 2 ^ 16 * (x.codes.getD 0 0 + x.codes.getD 1 0 * 16 + x.codes.getD 2 0 * 256 + x.codes.getD 3 0 * 4096))
  | none => [0, 0, 0, 0]

/-- R260: a slot's entry changes, and the line of the spill table that holds it, in the slot's channel, is written. -/
def setSpill (n : Nat) (v : Option Spill) (s : State) : State :=
  let s := { s with spills := s.spills.set n v }
  let c := n % 16
  let line := n / 16 / 16
  let bytes := ((List.range 16).map (fun j => spillEntry s ((16 * line + j) * 16 + c))).flatten
  dramWrite c (frameLine (s.tier.spillBase.getD c 0) line) (codewordOf bytes []) s

/-- R237: whether the single beat of a zero segment came as poison. -/
def badZero (beats : List Beat) : Bool := beatCode beats == 0 && (beats.headD { data := 0, poison := true, scode := 0 }).poison

/-- R237: the sectors of segment `k` that came as poison, by 16 × segment + sector; of a zero segment its beat, as sector 0. -/
def badSpill (k : Nat) (beats : List Beat) : List Nat :=
  let l := sectorsIn beats (secCount (beatCode beats))
  if badZero beats then [16 * k]
  else ((List.range l.length).filter (fun i => (l.getD i none).isNone)).map (fun i => 16 * k + i)

/-- R237, R261: SPILL_PUT at the holder. -/
def holdSpill (p : Nat) (m : StMsg) (s : State) : State :=
  let src := m.src.toNat
  let k := m.seg.toNat
  let refuse := sendCmp p m.tag.toNat src 0x0B 0 0 []
  let code := beatCode m.beats
  if !sectorForm m.beats || 3 < k then refuse s
  else
    let slot := if m.arg.toNat = 0xFFFFFFFF ∧ k = 0 then freeSlot s (16 * (s.spills.cells.length + 1)) 0
      else if ((s.spills.get m.arg.toNat).map (·.owner)) == some src then some m.arg.toNat else none
    match slot with
    | none => refuse s
    | some n =>
      let held := (s.spills.get n).getD { owner := src }
      let codes := held.codes.set k code
      let bad := held.bad.filter (fun i => i / 16 != k) ++ badSpill k m.beats
      let s := chargeInternal 68 (secCount code) (setSpill n (some { owner := src, codes, bad }) s)
      let s := storeSpill n k codes m.beats s
      sendCmp p m.tag.toNat src 0 0 n [] (showHeld s)

/-- R262: the sectors of a segment read back; none cannot be read. -/
def readSpill (n first : Nat) : Nat → State → List (Option (List Nat)) × State
  | 0, s => ([], s)
  | i + 1, s =>
    let (l, s) := readSpill n first i s
    let (o, s) := dramRead (n % 16) (slotLine s n (first + i)) noErr none s
    let s := scheduleFix (n % 16) (slotLine s n (first + i)) o s
    (l ++ [o.data], s)

/-- R237, R262: SPILL_GET at the holder. -/
def giveSpill (p : Nat) (m : StMsg) (s : State) : State :=
  let n := m.arg.toNat
  let k := m.seg.toNat
  match s.spills.get n with
  | some held =>
    if held.owner != m.src.toNat || 3 < k then sendCmp p m.tag.toNat m.src.toNat 0x0B 0 0 [] s
    else
      let codes := held.codes
      let code := codes.getD k 0
      let arg := codes.getD 0 0 + codes.getD 1 0 * 16 + codes.getD 2 0 * 256 + codes.getD 3 0 * 4096
      let (l, s) := readSpill n (secStart codes k) (secCount code) (chargeInternal 68 (secCount code) s)
      let beats := sectorBeats code (l.map (fun o => (o.getD []).take 64)) (l.map (fun o => padTo 6 (((o.getD []).drop 64).take 6)))
      let beats := (List.range beats.length).map (fun i =>
        let b := beats.getD i { data := 0, poison := false, scode := 0 }
        if l.getD i (some []) == none || (decide (i < max 1 (secCount code)) && held.bad.contains (16 * k + i)) then
          { b with poison := true } else b)
      sendCmp p m.tag.toNat held.owner 0 0 arg beats s (flags := 2)
  | none => sendCmp p m.tag.toNat m.src.toNat 0x0B 0 0 [] s

/-- R262: SPILL_FREE at the holder. -/
def dropSpill (p : Nat) (m : StMsg) (s : State) : State :=
  let n := m.arg.toNat
  match s.spills.get n with
  | some held =>
    if held.owner = m.src.toNat then sendCmp p m.tag.toNat held.owner 0 0 0 [] (showHeld (setSpill n none s))
    else sendCmp p m.tag.toNat m.src.toNat 0x0B 0 0 [] s
  | none => sendCmp p m.tag.toNat m.src.toNat 0 0 0 [] s

/-! ### Segments that come back from a holder -/

/-- R161, R262: a sector from a holder is checked under the page's counter state and decrypted. -/
def openSpilled (page idx : Nat) (u : Option (List Nat × List Nat)) (s : State) : Option (BitVec 512) × State :=
  let c := ctrStateOf s page 3 idx
  match u with
  | none => (none, s)
  | some (b, t) =>
    if zeroized s c.key then (none, s)
    else
      match openUnit (workKey s c.key) c (b ++ t) with
      | .good d => (some d, s)
      | .marker => (none, s)
      | .badTag => (none, alarmData 1 page idx c.key s)

/-- R262: the sectors of an answer to SPILL_GET. -/
def openSectors (page first : Nat) : List (Option (List Nat × List Nat)) → State → List (Option (BitVec 512)) × State
  | [], s => ([], s)
  | u :: rest, s =>
    let (d, s) := openSpilled page first u s
    let (l, s) := openSectors page (first + 1) rest s
    (d :: l, s)

/-- The four storage codes of ARG. -/
def argCodes (arg : Nat) : List Nat := [slice arg 0 4, slice arg 4 4, slice arg 8 4, slice arg 12 4]

/-- R262: segment `k` from the answer to SPILL_GET: its code and checked sectors, none where the holder gave nothing. -/
def spilledSegment (page k : Nat) (m : StMsg) (s : State) : Option (Nat × List (Option (BitVec 512))) × State :=
  let codes := argCodes m.arg.toNat
  let code := codes.getD k 0
  let n := secCount code
  if m.status != 0 || m.beats.length != (if n = 0 then 1 else n + (6 * n + 63) / 64) then (none, s)
  else if code = 0 && badZero m.beats then (some (15, List.replicate 16 none), s)
  else
    let (l, s) := openSectors page (secStart codes k) (sectorsIn m.beats n) s
    (some (code, l), s)

/-- R262, R301: the data of a read of a T2 line; the home charges what its segment holds, which it learns now. -/
def finishSpillRead (id k : Nat) (m : StMsg) (s : State) : State :=
  match reqAt s id with
  | none => s
  | some r =>
    match spilledSegment r.page k m s with
    | (none, s) => finish r none s
    | (some (code, l), s) =>
      let s := chargeInternal r.master (if code = 15 then 1 else code) s
      let poisoned (s : State) : State := finishRead r none true (s.poisonAdd (cpaOf s r.addr / 64))
      if code = 0 then finishRead r (some 0) true s
      else if code = 15 then
        match l.getD (lineIdx r.addr % 16) none with
        | some d => finishRead r (some d) true s
        | none => poisoned s
      else
        let want := 64 * (lineIdx r.addr % 16) + 64
        let bytes := sectorBytes l
        let ok := match (badSectors l).head? with | none => true | some b => lineBefore bytes want b
        if ok then
          let j : DecJob := { owner := .read r.id, bytes, code := some code, want := some want, home := pageStop s r.page }
          setReq { r with stage := .decode, code } (addDecode j s)
        else poisoned s


/-- R182, R262: a segment of a T2 page that moves has come: for a promotion as plaintext or for a decoder, for a walk as it is
stored. The last one lets the move go on. -/
def finishSpillMove (page k : Nat) (m : StMsg) (s : State) : State :=
  match moveOf s page with
  | none => s
  | some v =>
    if !(v.kind == .unspill || v.peer) then s
    else
      let (seg, s) := spilledSegment page k m s
      let walk := v.peer
      let work : SegWork := match seg with
        | none => lostSegment
        | some (code, l) =>
          if walk then .ready (sectorBytes l) code (badSectors l) else plainOf code l
      let s := queueDecode page k work (setSeg page k work s)
      match moveOf s page with
      | none => s
      | some v =>
        if v.segs.any (fun w => w == .stored [] 0 none) then s
        else if walk then putSegment page v.newChan 0xFFFFFFFF 0 v s
        else setMove { v with waitPeer := false } s

/-- R261 steps 3 to 5: an answer to SPILL_PUT. The slot of an aborted move is given back. -/
def finishSpillPut (o : StOpen) (page k : Nat) (m : StMsg) (s : State) : State :=
  let member := o.msg.dst.toNat
  match (moveOf s page).filter (fun v => v.peer && v.waitPeer) with
  | none => if m.status = 0 ∧ k = 0 then sendSpillFree member m.arg.toNat s else s
  | some v =>
    if m.status != 0 then abortMove v s
    else if k = 0 then
      let v := { v with taken := true, newAt := m.arg.toNat }
      forAll [1, 2, 3] (fun k => putSegment page member v.newAt k v) (setMove v s)
    else if s.stOpen.any (fun x => match x.what with | .spillPut q _ => q == page | _ => false) then s
    else setMove { v with waitPeer := false } s

/-! ### Answers -/

/-- The open transaction that an answer on a port belongs to. -/
def openOf (s : State) (p : Nat) (m : StMsg) : Option StOpen := s.stOpen.find? (fun o => o.port == p && o.tag == some m.tag.toNat)

/-- An open transaction is closed. -/
def closeOpen (o : StOpen) (s : State) : State := { s with stOpen := eraseFirst (fun x => x == o) s.stOpen }

/-- R204, R248: the completion of a request that another member served. -/
def finishRemote (id : Nat) (d : Option (BitVec 512)) (grant : Nat) (s : State) : State :=
  match reqAt s id with
  | some r => retrySnoops (finish { r with grant } d s)
  | none => s

/-- R316: the data of a CMP; none is poison. -/
def cmpData (m : StMsg) : Option (BitVec 512) :=
  match m.beats.head? with
  | some b => if b.poison || m.status != 0 then none else some b.data
  | none => none

/-- R209: a management ring's access that its home refused for a lease stops its operation. -/
def leaseStops (id : Nat) (m : StMsg) (s : State) : State :=
  match reqAt s id with
  | some r =>
    match r.src with
    | .mover ring slot _ _ => if m.status = 0x0B then refuseOp ring slot s else s
    | _ => s
  | none => s

/-- R236: CMP. -/
def takeCmp (p : Nat) (m : StMsg) (s : State) : State :=
  match openOf s p m with
  | none => s
  | some o =>
    let s := closeOpen o s
    match o.what with
    | .forward fp ft => sendAnswer fp ft m s
    | .control => s
    | .spillFree => s
    | .read id => finishRemote id (cmpData m) m.code.toNat (leaseStops id m s)
    | .write id => finishRemote id none m.code.toNat (leaseStops id m s)
    | .spillRead id k => finishSpillRead id k m s
    | .spillMove page k => finishSpillMove page k m s
    | .spillPut page k => finishSpillPut o page k m s
    | .snoop id h => answerSnoop id h false s
    | .command q _ => reply q m.status.toNat 0 0 [] s

/-- R257, R267: SNP_RSP at the home. Data of the agent is its writeback; a re-sent snoop to an owner that answers without
data loses the line. -/
def takeSnpRsp (p : Nat) (m : StMsg) (s : State) : State :=
  match openOf s p m with
  | none => s
  | some o =>
    let s := closeOpen o s
    match o.what with
    | .forward fp ft => sendAnswer fp ft m s
    | .snoop id h =>
      let a := lineAddr (homeAddr s o.msg.addr.toNat)
      let owned := match almFind s a with | some k => ownerIn (s.almanac.get k) == some h | none => false
      let s := match m.beats.head? with
        | some b => internalWrite { id := 0, src := .internal, intent := .wrNC, addr := a, master := 68, agent := none, input := 4
                                    write := true, data := b.data, mask := BitVec.allOnes 64, poison := b.poison } true s
        | none => if o.again && owned then loseLine a h s else s
      answerSnoop id h (m.code.toNat % 2 == 1) s
    | _ => s

/-- R314: an answer packet that carries STATUS ACCEPTED, whose completion event follows. -/
def acceptedReply (b : List Nat) : Bool := fieldLE b 4 2 / 2 % 2 == 0 && b.getD 8 0 == 1


/-- R236, R259: CMD_RSP: a member that forwarded the command passes it on; at its first member it is the command's reply, or
its completion event. -/
def takeCmdRsp (p : Nat) (m : StMsg) (s : State) : State :=
  match openOf s p m with
  | none => s
  | some o =>
    let b := packetBytes m
    let more := acceptedReply b
    match o.what with
    | .forward fp ft => sendAnswer fp ft m (if more then s else closeOpen o s)
    | .command q _ =>
      let s := closeOpen o s
      let s := if more then { s with stOpen := s.stOpen ++ [{ o with what := .command q true }] } else s
      if fieldLE b 4 2 / 2 % 2 = 1 then completeAway q (b.getD 8 0) (fieldLE b 9 3) s
      else reply q (b.getD 8 0) (fieldLE b 9 3) (fieldLE b 12 4) ((b.drop 16).map (BitVec.ofNat 8)) s
    | _ => closeOpen o s

/-! ### The end of transactions whose route is lost -/

/-- An open transaction is to be sent again. -/
def sendAgain (o : StOpen) (s : State) : State :=
  { s with stOpen := s.stOpen.map (fun x => if x == o then { o with tag := none, again := true } else x) }

/-- R267: an open transaction of this member ends: `gone` says that its destination failed. -/
def endOpen (gone : Bool) (o : StOpen) (s : State) : State :=
  match o.what with
  | .read id => if gone then finishRemote id none 0 (closeOpen o s) else sendAgain o s
  | .write id =>
    let s := closeOpen o s
    finishRemote id none 0 (if gone then s.log 0x12 o.port o.msg.addr.toNat else s.log 0x43 o.port o.msg.addr.toNat)
  | .spillPut page _ =>
    let s := closeOpen o s
    match (moveOf s page).filter (fun v => v.peer) with
    | some v => abortMove (if gone then { v with taken := false } else v) s
    | none => s
  | .spillRead id _ =>
    if gone then
      match reqAt s id with
      | some r => finish r none (closeOpen o s)
      | none => closeOpen o s
    else sendAgain o s
  | .spillMove page k => if gone then finishSpillMove page k { o.msg with status := 0x30, beats := [] } (closeOpen o s) else sendAgain o s
  | .spillFree => if gone then closeOpen o s else sendAgain o s
  | .snoop _ _ => if gone then closeOpen o s else sendAgain o s
  | .command q started => if started then completeAway q 0x30 0 (closeOpen o s) else reply q 0x30 0 0 [] (closeOpen o s)
  | .forward _ _ => closeOpen o s
  | .control => closeOpen o s

/-- R239, R267: a port's link-layer state was discarded. Its own transactions end as at a change of routes; those it forwarded
are answered for the member they came from (DESIGN CHOICE, log entry 33). -/
def endPortOpens (p : Nat) (s : State) : State :=
  forAll (portOpens s p) (fun o s =>
    match o.what with
    | .forward fp ft =>
      let op := o.msg.opcode.toNat
      let m := { o.msg with tag := BitVec.ofNat 12 ft }
      if op = 2 ∨ op = 3 then sendCmp fp ft m.src.toNat 0 0 0 [] ((closeOpen o s).log 0x43 p m.addr.toNat)
      else if op = 4 ∨ op = 7 then refuseMsg fp m 0x30 (closeOpen o s)
      else sendAgain o s
    | _ => endOpen false o s) s

/-! ### The rows -/

/-- The next message of the VC is handled where `want` names it. -/
def onMsg (p v : Nat) (want : StMsg → Bool) (act : StMsg → State → State) (s : State) : State :=
  match nextMsg (portSt s p) v with
  | none => s
  | some m =>
    if want m then
      match takeHead p v s with
      | some (m, s) => pump (settle (act m s))
      | none => s
    else s

/-- A request for this member is acted on, another goes on. -/
def here (act : Nat → StMsg → State → State) (p : Nat) (m : StMsg) (s : State) : State :=
  if mine s m then act p m s else forwardMsg p m s

/-- R248: ST_RD. -/
def execStRd (port : Fin 4) (s : State) : Host.Outcome State Fault Refusal :=
  .next (onMsg port 0 (fun m => m.opcode == 1) (here (fun p m s => servePeer p m false 0 s) port) s)

/-- R248: ST_WR. -/
def execStWr (port : Fin 4) (s : State) : Host.Outcome State Fault Refusal :=
  .next (onMsg port 0 (fun m => m.opcode == 2) (here (fun p m s => servePeer p m true (BitVec.allOnes 64) s) port) s)

/-- R248: ST_WR_PTL. -/
def execStWrPtl (port : Fin 4) (s : State) : Host.Outcome State Fault Refusal :=
  .next (onMsg port 0 (fun m => m.opcode == 3) (here (fun p m s => servePeer p m true m.mask s) port) s)

/-- R261: SPILL_PUT. -/
def execSpillPut (port : Fin 4) (s : State) : Host.Outcome State Fault Refusal :=
  .next (onMsg port 0 (fun m => m.opcode == 4) (here holdSpill port) s)

/-- R262: SPILL_GET. -/
def execSpillGet (port : Fin 4) (s : State) : Host.Outcome State Fault Refusal :=
  .next (onMsg port 0 (fun m => m.opcode == 5) (here giveSpill port) s)

/-- R262: SPILL_FREE. -/
def execSpillFree (port : Fin 4) (s : State) : Host.Outcome State Fault Refusal :=
  .next (onMsg port 0 (fun m => m.opcode == 6) (here dropSpill port) s)

/-- R259: a command from another member: from the top head it is accepted as stitch-from-head; at the top head it keeps the
arrival class of MASK[7:0]; any other goes on to the top head. -/
def takeCmd (p : Nat) (m : StMsg) (s : State) : State :=
  let b := (packetBytes m).map (BitVec.ofNat 8)
  let head := s.get F.CLU_STATUS.HEAD
  let path : Path := .stitch (Fin.ofNat 4 p) m.tag m.src
  let packet : Packet := { packetOf path 0 b with
    flags := BitVec.ofNat 16 (fieldLE (packetBytes m) 4 1 + slice m.mask.toNat 8 8 * 2 ^ 8) }
  if m.src.toNat = head then arrive packet s
  else if s.path = head then
    arrive { packet with cls := some (Fin.ofNat 17 (min 16 (m.mask.toNat % 256))) } s
  else
    let e := egress s head false
    if 3 < e then refuseMsg p m 0x30 s
    else { s with stOpen := s.stOpen ++ [{ port := e, what := .forward p m.tag.toNat, since := s.now
                                           msg := { m with dst := BitVec.ofNat 6 head } }] }

/-- R259: ST_CMD. -/
def execStCmd (port : Fin 4) (s : State) : Host.Outcome State Fault Refusal :=
  .next (onMsg port 0 (fun m => m.opcode == 7) (here takeCmd port) s)

/-- R257: SNP_INV or SNP_DATA at the member of the named agent. An agent this member does not serve holds nothing. The completion that
PRIOR speaks of is still to come where a request for the line is open and none has passed yet; where one has, whether this is the one
is open (log entry 163). -/
def takeSnoop (p : Nat) (m : StMsg) (s : State) : State :=
  let h := m.han.toNat
  let a := lineAddr m.addr.toNat
  let coming := grantOpen s h a && (!s.passed.contains (h, a) || Config.grantComing s.freeCtr)
  let n : Snoop := { req := s.nextId, han := h, inv := m.opcode == 0x41, addr := a
                     prior := m.code.toNat % 2 == 1 && coming, home := some (p, m.tag.toNat, m.src.toNat) }
  if (slotOfHan s h).isNone then answerHome n false s
  else retrySnoops { s with nextId := s.nextId + 1, freeCtr := s.freeCtr + 1, snoops := s.snoops ++ [n] }

/-- R257: SNP_INV. -/
def execSnpInv (port : Fin 4) (s : State) : Host.Outcome State Fault Refusal :=
  .next (onMsg port 3 (fun m => m.opcode == 0x41) (here takeSnoop port) s)

/-- R257: SNP_DATA. -/
def execSnpData (port : Fin 4) (s : State) : Host.Outcome State Fault Refusal :=
  .next (onMsg port 3 (fun m => m.opcode == 0x42) (here takeSnoop port) s)

/-- R236: the opcodes defined on a VC; a CLU also needs a defined sub-operation (R254). -/
def definedOp (v : Nat) (m : StMsg) : Bool :=
  let o := m.opcode.toNat
  if v = 0 then (1 ≤ o && o ≤ 7) || (o == 8 && decide (1 ≤ m.arg.toNat % 256) && decide (m.arg.toNat % 256 ≤ 0x0B))
  else if v = 1 then 0x21 ≤ o && o ≤ 0x23
  else o == 0x41 || o == 0x42

/-- R236, R254: ST_UNDEFINED_OPCODE: the first VC whose oldest message has an undefined opcode. -/
def execStUndefinedOpcode (port : Fin 4) (s : State) : Host.Outcome State Fault Refusal :=
  let bad (v : Nat) : Bool := match nextMsg (portSt s port) v with | some m => !definedOp v m | none => false
  match [0, 1, 3].find? bad with
  | some v => .next (onMsg port v (fun _ => true) (fun m s => sendCmp port m.tag.toNat m.src.toNat 0x0B 0 0 [] s) s)
  | none => .next s

/-- R219, R220, R239: TRAINING_BLOCK_RECEIVED; where this warm end meets a cold one, its messages on the way are lost. -/
def execTrainingBlockReceived (port : Fin 4) (lane : Fin 9) (detected : BitVec 9) (block : BitVec 576) (advance : Bool) (s : State) :
    Host.Outcome State Fault Refusal :=
  let s' := trainingBlockIn port lane detected block advance s
  .next (pump (if (portSt s' port).cold && !(portSt s port).cold then endPortOpens port s' else s'))

/-- R239, R329: ST_PORT_RESET_WRITE: a cold start; channels whose far end is a member are reset with it. -/
def execStPortResetWrite (port : Fin 4) (s : State) : Host.Outcome State Fault Refusal :=
  let s := forAll ((List.range 15).filter (fun c => chanKind s c == 2)) farEndReset s
  .next (pump (endPortOpens port (coldStart port s)))

/-- R239: ST_DISABLE_WRITE. -/
def execStDisableWrite (port : Fin 4) (disable : Bool) (s : State) : Host.Outcome State Fault Refusal :=
  let s := s.put (F.ST_PORT_CTRL.DISABLE port) (bit disable)
  .next (if disable then leaveActive port s else s)

end Sys2Proof.Machine
end

