-- ==== Sys2Proof/Machine/Clutch.lean ====
section
/-!
DEFINITION. Clutches (R246 to R270): flooded control messages, formation, heads and the roster, routes, holds, the failure of
members, and the removal of one.
-/

namespace Sys2Proof.Machine

/-! ### Flooding -/

/-- This member's path. -/
def ownPath (s : State) : Nat := s.path

/-- R253: whether this member is the top head of the roster it has. -/
def isHead (s : State) : Bool :=
  (s.get F.CLU_STATUS.STATE == 2 || s.get F.CLU_STATUS.STATE == 3) && s.get F.CLU_STATUS.HEAD == ownPath s

/-- R254: a control message leaves on every ACTIVE port but one. -/
def floodOut (except : Option Nat) (m : StMsg) (s : State) : State :=
  let ports := (List.range 4).filter (fun p => some p != except && portState s p == 6)
  pump { s with stOpen := s.stOpen ++ ports.map (fun p => { port := p, what := .control, msg := m, since := s.now }) }

/-- R254: the flood numbers seen, with their senders: the 64 last ones are kept (DESIGN CHOICE, log entry 37). -/
def remember (src n : Nat) (seen : List (Nat × Nat)) : List (Nat × Nat) :=
  let l := seen ++ [(src, n)]
  l.drop (l.length - 64)

/-- R254: a member floods a control message: sub-operation, its parameters (ARG[31:8]), its destination (none: every member)
and its beats. -/
def flood (op arg : Nat) (dst : Option Nat) (beats : List Beat) (s : State) : State :=
  let n := (s.clu.seq + 1) % 2 ^ 32
  let own := ownPath s
  let m := mkMsg 8 (dst.getD 0) (mask := BitVec.ofNat 64 (n + (if dst.isNone then 2 ^ 32 else 0))) (arg := op + arg % 2 ^ 24 * 2 ^ 8)
    (beats := beats)
  floodOut none { m with src := BitVec.ofNat 6 own } { s with clu := { s.clu with
    seq := n, seen := remember own n s.clu.seen } }

/-- A beat of bytes. -/
def byteBeat (b : List Nat) : Beat := { data := lineOf (padTo 64 b), poison := false, scode := 0 }

/-- Byte fields of a beat of a message. -/
def beatField (m : StMsg) (i off n : Nat) : Nat :=
  fieldLE (toBytes 64 (m.beats.getD i { data := 0, poison := false, scode := 0 }).data.toNat) off n

/-- R254: a control message is taken from a port's buffer: its neighbour is answered; a duplicate goes no further; another is
acted on where it names this member or all, and forwarded. -/
def onClu (p op : Nat) (act : StMsg → State → State) (s : State) : State :=
  onMsg p 0 (fun m => m.opcode == 8 && m.arg.toNat % 256 == op) (fun m s =>
    let s := sendCmp p m.tag.toNat m.src.toNat 0 0 0 [] s
    let n := m.mask.toNat % 2 ^ 32
    let src := m.src.toNat
    if s.clu.seen.contains (src, n) || src == ownPath s then s
    else
      let s := floodOut (some p) m { s with clu := { s.clu with seen := remember src n s.clu.seen } }
      if slice m.mask.toNat 32 1 = 1 ∨ m.dst.toNat = ownPath s then act m s else s) s

/-! ### HELLO -/

/-- R254: AUTH_HASH: SHA-256 over the port authority and key policy fuse fields, bits 640 to 921 in 36 bytes. -/
def authHash (s : State) : BitVec 256 := BitVec.ofNat 256 (ofBytes (sha256 (toBytes 36 (s.fuseBits 640 282))))

/-- R254: the path of the partner on a port, by the DEVICE_ID that training gave and the HELLOs received. -/
def partnerPath (s : State) (p : Nat) : Nat :=
  if portState s p != 6 then 0xFF
  else
    match s.clu.hellos.find? (fun h => h.id == s.get (F.ST_PORT_STATUS.PEER_ID p)) with
    | some h => h.path
    | none => 0xFF

/-- R254: what this member says of itself. -/
def ownHello (s : State) : Hello :=
  { id := deviceId s, path := ownPath s, depth := s.get F.CLU_CFG.DEPTH, version := s.get F.SEC_BOOT.RUN_VERSION
    presented := s.presented, shared := s.get F.TIER_CAP_CFG.SHARED_REGIONS, auth := authHash s
    peers := (List.range 4).map (partnerPath s)
    hanReq := BitVec.ofNat 64 (ofBits ((List.range 64).map (fun m => s.flag (F.HP_HAN_MAP.VALID m)))) }

/-- R254: the HELLO beat. -/
def helloBeat (h : Hello) : Beat :=
  byteBeat (toBytes 6 h.id ++ toBytes 1 h.path ++ toBytes 1 h.depth ++ toBytes 4 h.version ++ toBytes 2 h.presented
    ++ toBytes 2 h.shared ++ toBytes 32 h.auth.toNat ++ (List.range 4).map (fun i => h.peers.getD i 0xFF)
    ++ toBytes 8 h.hanReq.toNat)

/-- R254: a HELLO from its beat. -/
def helloOf (m : StMsg) : Hello :=
  { id := beatField m 0 0 6, path := beatField m 0 6 1 % 64, depth := beatField m 0 7 1 % 4, version := beatField m 0 8 4
    presented := beatField m 0 12 2, shared := beatField m 0 14 2, auth := BitVec.ofNat 256 (beatField m 0 16 32)
    peers := (List.range 4).map (fun i => beatField m 0 (48 + i) 1), hanReq := BitVec.ofNat 64 (beatField m 0 52 8) }

/-- The HELLOs a member knows, its own included. -/
def allHellos (s : State) : List Hello := ownHello s :: s.clu.hellos.filter (fun h => h.path != ownPath s)

/-- The HELLO of a path. -/
def helloAt (s : State) (path : Nat) : Option Hello := (allHellos s).find? (fun h => h.path == path)

/-! ### Routes -/

/-- A link as one of its ends sees it: from a member, its port, to the partner. -/
structure LinkEnd where
  from_ : Nat
  port : Nat
  to_ : Nat
deriving DecidableEq, Repr

/-- R250: the ACTIVE links among a set of members, as the HELLOs report them from both ends, without those reported down. -/
def linkEnds (s : State) (members : Nat) : List LinkEnd :=
  let hs := (allHellos s).filter (fun h => bitOf members h.path)
  let ends := (hs.map (fun h => (List.range 4).map (fun p => { from_ := h.path, port := p, to_ := h.peers.getD p 0xFF : LinkEnd }))).flatten
  let up := ends.filter (fun e => decide (e.to_ < 64) && bitOf members e.to_
    && !s.clu.linksDown.any (fun x => x.1 / 4 == e.from_ && x.1 % 4 == e.port && x.2 == e.to_))
  up.filter (fun e => up.any (fun f => f.from_ == e.to_ && f.to_ == e.from_))

/-- One round of hop distances from a set already reached. -/
def reachStep (es : List LinkEnd) (d : Nat) (t : List (Nat × Nat)) : List (Nat × Nat) :=
  es.foldl (fun t e => if cellFind e.from_ t == some d && (cellFind e.to_ t).isNone then cellInsert e.to_ (d + 1) t else t) t

/-- Hop distances from a member, in rising order of path; a path that is not listed is not reachable. -/
def distances (es : List LinkEnd) (root : Nat) : List (Nat × Nat) :=
  (List.range 64).foldl (fun t d => reachStep es d t) [(root, 0)]

/-- R250: the rank of a member: distance from the top head, then path. -/
def rank (ds : List (Nat × Nat)) (path : Nat) : Nat := ((cellFind path ds).getD 63) * 64 + path

/-- R250: whether a message that has or has not crossed a link downward may take a link, and whether it then has. -/
def legalHop (ds : List (Nat × Nat)) (crossed : Bool) (e : LinkEnd) : Option Bool :=
  if rank ds e.to_ < rank ds e.from_ then (if crossed then none else some false) else some true

/-- One round of the lengths of legal routes to a destination, keyed by path × 2 + (1 after a link downward). -/
def routeStep (ds : List (Nat × Nat)) (es : List LinkEnd) (n : Nat) (t : List (Nat × Nat)) : List (Nat × Nat) :=
  es.foldl (fun t e => [false, true].foldl (fun t c =>
    let k := 2 * e.from_ + bit c
    match legalHop ds c e with
    | some c' =>
      if (cellFind k t).isNone && cellFind (2 * e.to_ + bit c') t == some n then cellInsert k (n + 1) t else t
    | none => t) t) t

/-- R250: the lengths of the shortest legal routes to a destination. -/
def routeLengths (ds : List (Nat × Nat)) (es : List LinkEnd) (dst : Nat) : List (Nat × Nat) :=
  (List.range 128).foldl (fun t n => routeStep ds es n t) (cellInsert (2 * dst) 0 [(2 * dst + 1, 0)])

/-- R250: the lowest port of a member that begins a shortest legal continuation to a destination. -/
def routePort (ds : List (Nat × Nat)) (es : List LinkEnd) (lens : List (Nat × Nat)) (path dst : Nat) (crossed : Bool) : Nat :=
  if path = dst then 6
  else
    match cellFind (2 * path + bit crossed) lens with
    | none => 7
    | some n =>
      let able := (List.range 4).filter (fun p => es.any (fun e => e.from_ == path && e.port == p &&
        (match legalHop ds crossed e with | some c => (cellFind (2 * e.to_ + bit c) lens).map (· + 1) == some n | none => false)))
      able.headD 7

/-- R254: a member's ROUTE_SET beat. -/
def routeBeat (s : State) (members head path : Nat) : Beat :=
  let es := linkEnds s members
  let ds := distances es head
  byteBeat ((List.range 64).map (fun d =>
    if !bitOf members d then 7 + 8 * 7
    else
      let lens := routeLengths ds es d
      routePort ds es lens path d false + 8 * routePort ds es lens path d true))

/-- R250, R254: a ROUTE_SET is loaded, and CLU_LINKS and the hop distances follow. -/
def applyRoutes (b : List Nat) (s : State) : State :=
  forAll (List.range 64) (fun d s =>
    let v := b.getD d 0x3F
    (s.put (F.CLU_ROUTE.PORT_UP d) (v % 8)).put (F.CLU_ROUTE.PORT_DOWN d) (slice v 3 3)) s

/-- R250: CLU_LINKS and the hop distances of this member under the present roster; the links that the routes go over are kept. -/
def showLinks (s : State) : State :=
  let es := linkEnds s (s.get F.CLU_ROSTER.MAP)
  let ds := distances es (s.get F.CLU_STATUS.HEAD)
  let own := ownPath s
  let mine := es.filter (fun e => e.from_ == own)
  let up := ofBits ((List.range 4).map (fun p => mine.any (fun e => e.port == p && decide (rank ds own < rank ds e.to_))))
  let used := ofBits ((List.range 4).map (fun p => mine.any (fun e => e.port == p)))
  let far := distances es own
  { (s.put F.CLU_LINKS.UP_END up).put F.CLU_LINKS.IN_ROUTES used with
    hops := ⟨far.filter (fun x => x.2 != 0)⟩, clu := { s.clu with routeLinks := es.map (fun e => (e.from_, e.port, e.to_)) } }

/-- The members a message of this member passes through to a destination, by the routes of the present roster. -/
def routeVia (s : State) (es : List LinkEnd) (ds lens : List (Nat × Nat)) (dst : Nat) : Nat → Nat → Bool → List Nat
  | 0, _, _ => []
  | fuel + 1, path, crossed =>
    let p := routePort ds es lens path dst crossed
    match es.find? (fun e => e.from_ == path && e.port == p) with
    | none => []
    | some e => e.to_ :: routeVia s es ds lens dst fuel e.to_ (crossed || (legalHop ds crossed e).getD false)

/-! ### Rosters -/

/-- R253: what a ROSTER carries. -/
structure Roster where
  epoch : Nat
  clutch : Nat
  head : Nat
  state : Nat
  members : Nat
  failed : Nat
  expect : Nat
  hans : List Nat
deriving DecidableEq, Repr

/-- R254: the beats of a ROSTER. -/
def rosterBeats (r : Roster) : List Beat :=
  let h := (r.hans.map (toBytes 2)).flatten
  [byteBeat (toBytes 4 r.epoch ++ toBytes 2 r.clutch ++ toBytes 1 r.head ++ toBytes 1 r.state ++ toBytes 8 r.members
    ++ toBytes 8 r.failed ++ toBytes 8 r.expect), byteBeat (h.take 64), byteBeat (h.drop 64)]

/-- R254: a ROSTER from its message. -/
def rosterOf (m : StMsg) : Roster :=
  { epoch := beatField m 0 0 4, clutch := beatField m 0 4 2, head := beatField m 0 6 1 % 64, state := beatField m 0 7 1
    members := beatField m 0 8 8, failed := beatField m 0 16 8, expect := beatField m 0 24 8
    hans := (List.range 64).map (fun h => if h < 32 then beatField m 1 (2 * h) 2 else beatField m 2 (2 * h - 64) 2) }

/-- The HAN table of this member's registers, as a ROSTER carries it. -/
def hanTable (s : State) : List Nat :=
  (List.range 64).map (fun h => s.get (F.CLU_HAN.SLOT h) + s.get (F.CLU_HAN.PATH h) * 2 ^ 6 + s.get (F.CLU_HAN.DEAD h) * 2 ^ 12
    + s.get (F.CLU_HAN.VALID h) * 2 ^ 15)

/-- The roster this member holds. -/
def ownRoster (s : State) : Roster :=
  { epoch := s.get F.CLU_STATUS.EPOCH, clutch := s.get F.CLU_STATUS.CLUTCH_ID, head := s.get F.CLU_STATUS.HEAD
    state := s.get F.CLU_STATUS.STATE, members := s.get F.CLU_ROSTER.MAP, failed := s.get F.CLU_FAILED.MAP
    expect := s.get F.CLU_EXPECT.EXPECT, hans := hanTable s }

/-- R265: the member fences itself. -/
def fence (s : State) : State :=
  { s.put F.CLU_STATUS.STATE 4 with clu := { s.clu with hold := false, change := none, claimTb := none, deferTb := none } }

/-- R71, R255: HAN entries are loaded, and this member's IDLE and DEAD slots follow them; at other times a slot keeps its own. -/
def applyHans (hans : List Nat) (s : State) : State :=
  let s := forAll (List.range 64) (fun h s =>
    let v := hans.getD h 0
    (((s.put (F.CLU_HAN.SLOT h) (slice v 0 6)).put (F.CLU_HAN.PATH h) (slice v 6 6)).put (F.CLU_HAN.DEAD h) (slice v 12 1)).put
      (F.CLU_HAN.VALID h) (slice v 15 1)) s
  forAll (slots.filter (fun m => agentState s m == 0 || agentState s m == 4)) (fun m s =>
    match (List.range 64).find? (fun h => slice (hans.getD h 0) 15 1 == 1 && slice (hans.getD h 0) 12 1 == 0
        && slice (hans.getD h 0) 6 6 == ownPath s && slice (hans.getD h 0) 0 6 == m) with
    | some h => (s.put (F.HP_HAN_MAP.HAN m) h).put (F.HP_HAN_MAP.ASSIGNED m) 1
    | none => s.put (F.HP_HAN_MAP.ASSIGNED m) 0) s

/-- R266: what a survivor does for a member that failed: its host agents are dead, slots it holds for it are free, and open
transactions to it end. -/
def survive (f : Nat) (s : State) : State :=
  let hans := (List.range 64).filter (fun h => s.flag (F.CLU_HAN.VALID h) && s.get (F.CLU_HAN.PATH h) == f)
  let s := forAll hans (fun h s => if s.reclaim.agents.any (fun a => a.han == h) then s else declareDead h s) s
  let held := s.spills.cells.filter (fun x => (x.2.map (·.owner)) == some f)
  let s := showHeld (forAll held (fun x s => setSpill x.1 none s) s)
  forAll (s.stOpen.filter (fun o => o.msg.dst.toNat == f && !isClu o.msg)) (endOpen true) s

/-- R59, R266: the device-wide event of a member's failure (its code is PRESUMED, log entry 34). -/
def memberEvent (f : Nat) (s : State) : State := eventAll 0x42 f s

/-- R253, R255, R265, R266, R268: a roster newer than this member's is applied. A device that has been reset since it failed stays
FORMING. -/
def applyRoster (r : Roster) (s : State) : State :=
  let own := ownPath s
  let wasFailed := s.get F.CLU_FAILED.MAP
  let listed := bitOf r.members own
  let s := ((s.put F.CLU_STATUS.EPOCH r.epoch).put F.CLU_STATUS.CLUTCH_ID r.clutch).put F.CLU_STATUS.HEAD r.head
  let s := ((s.put F.CLU_ROSTER.MAP r.members).put F.CLU_FAILED.MAP r.failed).put F.CLU_EXPECT.EXPECT r.expect
  let st := s.get F.CLU_STATUS.STATE
  let s := if st = 4 then s else if listed then s.put F.CLU_STATUS.STATE r.state
    else if bitOf r.failed own && (st == 2 || st == 3) then fence s else s
  let s := applyHans r.hans s
  let fresh := (List.range 64).filter (fun f => bitOf r.failed f && !bitOf wasFailed f && f != own)
  let s := forAll fresh (fun f s => memberEvent f (survive f s)) s
  let gone := s.clu.leaving.filter (fun p => !bitOf r.members p && !bitOf r.failed p)
  let s := showLinks (forAll gone (fun p s => completeLongs 0x0902 p 0 0 s) s)
  { s with
    recalled := s.recalled.filter (fun m => bitOf r.members m && s.clu.leaving.contains m)
    levels := s.levels.keep (fun m _ => bitOf r.members m)
    clu := { s.clu with

      heardTb := if listed then s.now else s.clu.heardTb
      linksDown := [], linkTb := none, claims := [], leaving := s.clu.leaving.filter (fun p => bitOf r.members p || bitOf r.failed p)

      claimTb := if listed then none else s.clu.claimTb
      deferTb := if listed then none else s.clu.deferTb
      released := s.clu.released || listed } }

/-- R253, R256: a roster of the epoch this member has: a heartbeat. -/
def heartbeat (r : Roster) (s : State) : State :=
  if bitOf r.members (ownPath s) then
    { s with clu := { s.clu with heardTb := s.now, claimTb := none, deferTb := none, claims := [] } }
  else s

/-! ### Holds -/

/-- R267: the members that this member's link reports give as failed, under R264's choice. A link between two members counts once,
whichever of its ends reported it. -/
def downLinks (s : State) (m x : Nat) : Nat :=
  let count (a b : Nat) : Nat := (s.clu.linksDown.filter (fun l => l.1 / 4 == a && l.2 == b)).length
  sumOf ((List.range 64).map (fun y => if bitOf m y && y != x then max (count x y) (count y x) else 0))

/-- R264: members leave M until no reported link has both ends in it. -/
def dropDown (s : State) : Nat → Nat → Nat
  | 0, m => m
  | fuel + 1, m =>
    let worst := (List.range 64).foldl (fun (b : Nat × Nat) x =>
      if bitOf m x && decide (b.2 ≤ downLinks s m x) then (x, downLinks s m x) else b) (0, 0)
    if worst.2 = 0 then m else dropDown s fuel (setSlice m worst.1 1 0)

/-- The number of members of a map. -/
def popCount (m : Nat) : Nat := ((List.range 64).filter (bitOf m)).length

/-- R264: the members that survive: without those with failed links and those the top head no longer reaches. -/
def survivors (s : State) (head : Nat) : Nat :=
  let m := dropDown s 64 (s.get F.CLU_ROSTER.MAP)
  let ds := distances (linkEnds s m) head
  ofBits ((List.range 64).map (fun y => bitOf m y && (cellFind y ds).isSome))

/-- R256, R264: the members that go on, as a member judges by who holds it: under its top head those that the link reports leave, under
a claimant those that have claimed. -/
def goingOn (src : Nat) (s : State) : Nat :=
  let all := s.get F.CLU_ROSTER.MAP
  let head := s.get F.CLU_STATUS.HEAD
  if src = head then survivors s head
  else ofBits ((List.range 64).map (fun p => bitOf all p && p != head && (p == ownPath s || p == src || s.clu.claims.contains p)))

/-- R266, R267: this member's transactions to failed members, those outside `m`, or that were routed through them, end. -/
def endRouted (m : Nat) (s : State) : State :=
  let es := s.clu.routeLinks.map (fun x => { from_ := x.1, port := x.2.1, to_ := x.2.2 : LinkEnd })
  let ds := distances es (s.get F.CLU_STATUS.HEAD)
  let lost (o : StOpen) : Bool :=
    let dst := o.msg.dst.toNat
    !isClu o.msg && o.tag.isSome
      && (routeVia s es ds (routeLengths ds es dst) dst 64 (ownPath s) false).any (fun y => !bitOf m y)
  forAll (s.stOpen.filter lost) (fun o s =>
    match o.what with
    | .forward _ _ => closeOpen o s
    | _ => endOpen (!bitOf m o.msg.dst.toNat) o s) s

/-- R255: the HAN table of a change: entries of members stay while their slot still asks, those of failed members read DEAD,
and slots of members that ask and have none get the lowest free numbers in the order (path, slot). -/
def assignHans (s : State) (members failed joined : Nat) : List Nat × Bool :=
  let asks (p m : Nat) : Bool := match helloAt s p with | some h => h.hanReq.getLsbD m | none => false
  let old := hanTable s
  let kept := old.map (fun v =>
    let p := slice v 6 6
    if slice v 15 1 = 0 then 0
    else if bitOf joined p then 0
    else if bitOf members p then (if asks p (slice v 0 6) then v else 0)
    else if bitOf failed p then setSlice v 12 1 1
    else 0)
  let want := ((List.range 64).filter (bitOf members)).flatMap (fun p =>
    ((List.range 64).filter (fun m => asks p m && !kept.any (fun v => slice v 15 1 == 1 && slice v 12 1 == 0
      && slice v 6 6 == p && slice v 0 6 == m))).map (fun m => m + p * 64 + 2 ^ 15))
  want.foldl (fun (a : List Nat × Bool) v =>
    match a.1.findIdx? (fun x => x == 0) with
    | some i => (a.1.set i v, a.2)
    | none => (a.1, true)) (kept, false)

/-- R252: the top head of a roster: its lowest path. -/
def lowestPath (members own : Nat) : Nat := ((List.range 64).find? (bitOf members)).getD own

/-- R252, R255, R264, R269: the top head carries a change out: ROUTE_SET to every member, ROSTER, and RESUME where traffic was held. The
roster may name another head. -/
def makeChange (members failed state : Nat) (resume : Bool) (s : State) : State :=
  let own := ownPath s
  let old := s.get F.CLU_ROSTER.MAP
  let head := lowestPath members own
  let joined := ofBits ((List.range 64).map (fun p => bitOf members p && !bitOf old p))
  let (hans, full) := assignHans s members failed joined
  let s := if full then s.log 0x46 0 else s
  let s := forAll ((List.range 64).filter (fun p => bitOf members p && p != own)) (fun p s =>
    flood 3 0 (some p) [routeBeat s members head p] s) s
  let s := applyRoutes (toBytes 64 (routeBeat s members head own).data.toNat) s
  let clutch := if s.get F.CLU_STATUS.EPOCH = 0 then deviceId s % 2 ^ 16 else s.get F.CLU_STATUS.CLUTCH_ID
  let r : Roster := { epoch := (s.get F.CLU_STATUS.EPOCH + 1) % 2 ^ 32, clutch, head, state, members, failed
                      expect := s.get F.CLU_EXPECT.EXPECT, hans }
  let s := flood 2 0 none (rosterBeats r) s
  let s := applyRoster r { s with clu := { s.clu with change := none, heldFrom := [], heldSent := false } }
  if resume then
    let s := flood 6 r.epoch none [] s
    let s := pump { s with clu := { s.clu with hold := false } }
    forAll s.clu.leaving (fun p s => flood 0x0A (p * 2 ^ 8) none [] s) s
  else s

/-- R269: every member that is to report HELD has done so: the change is made. -/
def checkHeld (s : State) : State :=
  match s.clu.change with
  | none => s
  | some c =>
    let need := (List.range 64).filter (fun p => bitOf (s.get F.CLU_ROSTER.MAP) p && !bitOf c.failed.toNat p)
    if need.all (fun p => s.clu.heldFrom.contains p) then makeChange c.members.toNat c.failed.toNat c.state true s else s

/-- R269: a held member without open requests, and without flits to forward, reports HELD. -/
def tryHeld (s : State) : State :=
  if !s.clu.hold || s.clu.heldSent || s.stOpen.any (holdsHeld s) || forwards s then s
  else
    let s := { s with clu := { s.clu with heldSent := true } }
    if s.clu.change.isSome then
      checkHeld { s with clu := { s.clu with heldFrom := ownPath s :: s.clu.heldFrom } }
    else flood 5 0 (some s.clu.holdFor) [] s

/-- R269: a member holds for `src`, with the members `m` going on: it ends the transactions of R267, and reports when its others are
done. -/
def beginHold (src m : Nat) (s : State) : State :=
  tryHeld (endRouted m { s with clu := { s.clu with hold := true, heldSent := false, holdFor := src } })

/-- R264, R268 to R270: the top head starts a change under a hold. -/
def startChange (members failed state : Nat) (s : State) : State :=
  let c : Change := { members := BitVec.ofNat 64 members, failed := BitVec.ofNat 64 failed, state }
  let m := ofBits ((List.range 64).map (fun p => bitOf (s.get F.CLU_ROSTER.MAP) p && !bitOf failed p))
  beginHold (ownPath s) m (flood 4 0 none [] { s with clu := { s.clu with change := some c, heldFrom := [] } })

/-- R236: CMP. -/
def execStCmp (port : Fin 4) (s : State) : Host.Outcome State Fault Refusal :=
  .next (tryHeld (onMsg port 1 (fun m => m.opcode == 0x21) (takeCmp port) s))

/-- R257: SNP_RSP. -/
def execSnpRsp (port : Fin 4) (s : State) : Host.Outcome State Fault Refusal :=
  .next (tryHeld (onMsg port 1 (fun m => m.opcode == 0x22) (takeSnpRsp port) s))

/-- R236: CMD_RSP. -/
def execCmdRsp (port : Fin 4) (s : State) : Host.Outcome State Fault Refusal :=
  .next (tryHeld (onMsg port 1 (fun m => m.opcode == 0x23) (takeCmdRsp port) s))

/-! ### Formation and joining -/

/-- R268: whether an extent in the clutch maps the window of a path: one of this member's LDs, or one of another's, of which this member
knows nothing (log entry 42). -/
def windowMapped (s : State) (path : Nat) : Bool :=
  slots.any (fun m => (s.lds.get m).extents.any (fun e => e.base / 2 ^ 45 == path))
    || ((List.range 64).any (fun q => q != ownPath s && bitOf (s.get F.CLU_ROSTER.MAP) q) && Config.farWindow s.freeCtr path)

/-- R268: whether the top head admits a device; FW_VERSION and AUTH_HASH are compared with its own. -/
def admits (s : State) (h : Hello) : Bool :=
  bitOf (s.get F.CLU_EXPECT.EXPECT) h.path && !bitOf (s.get F.CLU_ROSTER.MAP) h.path && h.depth == s.get F.CLU_CFG.DEPTH
    && h.version == s.get F.SEC_BOOT.RUN_VERSION && h.auth == authHash s
    && !(bitOf (s.get F.CLU_FAILED.MAP) h.path && windowMapped s h.path)

/-- The devices the top head would form a clutch of. -/
def formers (s : State) : Nat :=
  ofBits ((List.range 64).map (fun p => p == ownPath s || (match helloAt s p with | some h => h.path == p && admits s h | none => false)))

/-- R255 step 4: the clutch is FORMED once every expected device is there. -/
def tryForm (s : State) : State :=
  if s.clu.headTb.isNone || s.get F.CLU_STATUS.STATE != 1 then s
  else
    let m := formers s
    let e := s.get F.CLU_EXPECT.EXPECT
    if m &&& e = e ∧ e ≠ 0 then makeChange (m &&& e) 0 2 false s else s

/-- R255 step 1: a device with D > 0 begins to form. -/
def beginForming (s : State) : State :=
  if s.inClutch && s.get F.CLU_STATUS.STATE == 0 && !s.clu.left then
    { s.put F.CLU_STATUS.STATE 1 with clu := { s.clu with beganTb := some s.now } }
  else s

/-- R254, R255, R268: HELLO. A refused device is logged; one the top head knows as a member is no joiner. -/
def takeHello (m : StMsg) (s : State) : State :=
  let h := helloOf m
  let known := s.clu.hellos.any (fun x => x.path == h.path && x.id == h.id)
  let s := { s with clu := { s.clu with hellos := s.clu.hellos.filter (fun x => x.path != h.path) ++ [h] } }
  if s.clu.headTb.isSome && s.get F.CLU_STATUS.STATE == 1 then
    tryForm (if admits s h then s else s.log 0x47 0 0 h.path)
  else if isHead s then
    if bitOf (s.get F.CLU_ROSTER.MAP) h.path && known then s
    else if !admits s h then s.drawn.log 0x47 0 0 h.path
    else if s.clu.change.isSome || !s.clu.leaving.isEmpty then s
    else
      let s := s.drawn
      let members := setSlice (s.get F.CLU_ROSTER.MAP) h.path 1 1
      let failed := setSlice (s.get F.CLU_FAILED.MAP) h.path 1 0
      startChange members failed (if members = s.get F.CLU_EXPECT.EXPECT then 2 else 3) s
  else s

/-- R255: HELLO. -/
def execHello (port : Fin 4) (s : State) : Host.Outcome State Fault Refusal := .next (onClu port 1 takeHello s)

/-- R255 step 1: HELLO_TIMER: a device with D > 0 floods HELLO every 1000 transits. -/
def execHelloTimer (s : State) : Host.Outcome State Fault Refusal :=
  let due := match s.clu.helloTransit with | some t => decide (t + 1000 ≤ s.transit) | none => true
  if s.inClutch && due && !fenced s then
    let s := beginForming { s with clu := { s.clu with helloTransit := some s.transit } }
    .next (flood 1 0 none [helloBeat (ownHello s)] s)
  else .next s

/-- R255 step 2: HEAD_ELECTION. -/
def execHeadElection (s : State) : Host.Outcome State Fault Refusal :=
  match s.clu.beganTb with
  | some t =>
    let due := decide (s.get F.CLU_CFG.SETTLE_MS * 1000000 ≤ s.since t)
    if s.get F.CLU_STATUS.STATE = 1 ∧ !s.clu.rosterSeen ∧ s.clu.headTb.isNone ∧ due ∧ s.clu.hellos.all (fun h => decide (ownPath s ≤ h.path)) then
      let s := { s.put F.CLU_STATUS.HEAD (ownPath s) with clu := { s.clu with headTb := some s.now } }
      let s := forAll (s.clu.hellos.filter (fun h => !admits s h)) (fun h s => s.log 0x47 0 0 h.path) s
      .next (tryForm s)
    else .next s
  | none => .next s

/-- R255 step 4: FORMATION_DEADLINE. -/
def execFormationDeadline (s : State) : Host.Outcome State Fault Refusal :=
  match s.clu.headTb with
  | some t =>
    if s.get F.CLU_STATUS.STATE = 1 ∧ !s.clu.formFailed ∧ 2000000000 ≤ s.since t then
      let m := formers s &&& s.get F.CLU_EXPECT.EXPECT
      if popCount (s.get F.CLU_EXPECT.EXPECT) < 2 * popCount m then .next (makeChange m 0 3 false s)
      else .next ({ s with clu := { s.clu with formFailed := true } }.log 0x45 0)
    else .next s
  | none => .next s

/-! ### Rosters received and sent -/

/-- R253, R255: ROSTER. -/
def takeRoster (m : StMsg) (s : State) : State :=
  let r := rosterOf m
  let s := { s with clu := { s.clu with rosterSeen := true } }
  let mineEpoch := s.get F.CLU_STATUS.EPOCH
  if mineEpoch < r.epoch then applyRoster r { s with clu := { s.clu with headTb := none } }
  else if mineEpoch = r.epoch ∧ m.src.toNat = s.get F.CLU_STATUS.HEAD then heartbeat r s
  else s

/-- R255: ROSTER. -/
def execRoster (port : Fin 4) (s : State) : Host.Outcome State Fault Refusal := .next (onClu port 2 takeRoster s)

/-- R253: ROSTER_HEARTBEAT. -/
def execRosterHeartbeat (s : State) : Host.Outcome State Fault Refusal :=
  let due := match s.clu.rosterTransit with | some t => decide (t + 1000 ≤ s.transit) | none => true
  if isHead s && due then
    let s := { s with clu := { s.clu with rosterTransit := some s.transit, heardTb := s.now } }
    .next (flood 2 0 none (rosterBeats (ownRoster s)) s)
  else .next s

/-- R254: ROUTE_SET. -/
def execRouteSet (port : Fin 4) (s : State) : Host.Outcome State Fault Refusal :=
  .next (onClu port 3 (fun m s => showLinks (applyRoutes (toBytes 64 (m.beats.getD 0 (byteBeat [])).data.toNat) s)) s)

/-- R269: HOLD. -/
def execHold (port : Fin 4) (s : State) : Host.Outcome State Fault Refusal :=
  .next (onClu port 4 (fun m s => beginHold m.src.toNat (goingOn m.src.toNat s) s) s)

/-- R269: HELD. -/
def execHeld (port : Fin 4) (s : State) : Host.Outcome State Fault Refusal :=
  .next (onClu port 5 (fun m s => checkHeld { s with clu := { s.clu with heldFrom := m.src.toNat :: s.clu.heldFrom } }) s)

/-- R267, R269: RESUME under the new routes: requests that waited, and those to be sent again, leave. -/
def execResume (port : Fin 4) (s : State) : Host.Outcome State Fault Refusal :=
  .next (onClu port 6 (fun m s =>
    if slice m.arg.toNat 8 24 = s.get F.CLU_STATUS.EPOCH % 2 ^ 24 then
      pump { s with clu := { s.clu with hold := false, heldSent := false } }
    else s) s)

/-! ### Failures -/

/-- R264: a link report is collected. -/
def addReport (src port partner : Nat) (s : State) : State :=
  { s with clu := { s.clu with
    linksDown := if s.clu.linksDown.contains (src * 4 + port, partner) then s.clu.linksDown
      else s.clu.linksDown ++ [(src * 4 + port, partner)]
    linkTb := if s.clu.linkTb.isNone then some s.now else s.clu.linkTb } }

/-- R264: LINK_DOWN. -/
def execLinkDown (port : Fin 4) (s : State) : Host.Outcome State Fault Refusal :=
  .next (onClu port 7 (fun m s => addReport m.src.toNat (slice m.arg.toNat 8 2) (slice m.arg.toNat 16 6) s) s)

/-- R241, R264: STITCH_DOWN, raised once until the port is ACTIVE again. The partner's path is the one its last HELLO gave; path
0 where none came (DESIGN CHOICE, log entry 179). -/
def execStitchDown (port : Fin 4) (s : State) : Host.Outcome State Fault Refusal :=
  let x := portSt s port
  let late := match x.leftActive with
    | some t => portState s port != 6 && decide (s.get (F.ST_PORT_CFG.DOWN_US port) * 1000 ≤ s.since t)
    | none => false
  let often := decide (8 ≤ (x.resets.filter (fun t => decide (s.transit < t + 1000000))).length)
  if (late || often) && !x.down then
    let s := (setPort port (fun x => { x with down := true }) s).log 0x42 port
    if !s.inClutch then .next s
    else
      let partner := match s.clu.hellos.find? (fun h => h.id == s.get (F.ST_PORT_STATUS.PEER_ID port)) with
        | some h => h.path | none => 0
      .next (addReport (ownPath s) port partner (flood 7 (port.val + partner * 2 ^ 8) none [] s))
  else .next s

/-- R264: whether a set of members may go on: more than half of the roster, or half of it with the old top head. -/
def majority (s : State) (m : Nat) : Bool :=
  let all := s.get F.CLU_ROSTER.MAP
  !(decide (2 * popCount m < popCount all) || (2 * popCount m == popCount all && !bitOf m (s.get F.CLU_STATUS.HEAD)))

/-- R264: FAILURE_DECISION by the top head. -/
def execFailureDecision (s : State) : Host.Outcome State Fault Refusal :=
  match s.clu.linkTb with
  | none => .next s
  | some t =>
    if isHead s && decide (s.get F.CLU_CFG.SETTLE_MS * 1000000 ≤ s.since t) then
      let m := survivors s (ownPath s)
      let s := { s with clu := { s.clu with linkTb := none } }
      if !bitOf m (ownPath s) || !majority s m then .next (fence s)
      else
        let failed := s.get F.CLU_FAILED.MAP ||| ofBits ((List.range 64).map (fun p => bitOf (s.get F.CLU_ROSTER.MAP) p && !bitOf m p))
        .next (startChange m failed 3 s)
    else .next s

/-- R256: HEARTBEAT_LOSS: the member floods CLAIM. -/
def execHeartbeatLoss (s : State) : Host.Outcome State Fault Refusal :=
  let st := s.get F.CLU_STATUS.STATE
  if (st = 2 ∨ st = 3) ∧ !isHead s ∧ s.clu.claimTb.isNone ∧ s.clu.deferTb.isNone
      ∧ s.get F.CLU_CFG.HEAD_MS * 1000000 ≤ s.since s.clu.heardTb then
    let s := { s with clu := { s.clu with claimTb := some s.now } }
    .next (flood 8 (s.get F.CLU_STATUS.EPOCH) none [] s)
  else .next s

/-- R256: CLAIM. -/
def execClaim (port : Fin 4) (s : State) : Host.Outcome State Fault Refusal :=
  .next (onClu port 8 (fun m s => { s with clu := { s.clu with claims := m.src.toNat :: s.clu.claims } }) s)

/-- R256: CLAIM_SETTLE: the claimant defers to a lower path, fences itself, or becomes top head. -/
def execClaimSettle (s : State) : Host.Outcome State Fault Refusal :=
  match s.clu.claimTb with
  | none => .next s
  | some t =>
    if s.since t < s.get F.CLU_CFG.SETTLE_MS * 1000000 then .next s
    else
      let own := ownPath s
      let s := { s with clu := { s.clu with claimTb := none } }
      if s.clu.claims.any (fun p => decide (p < own)) then .next { s with clu := { s.clu with deferTb := some s.now } }
      else
        let m := ofBits ((List.range 64).map (fun p => bitOf (s.get F.CLU_ROSTER.MAP) p && p != s.get F.CLU_STATUS.HEAD
          && (p == own || s.clu.claims.contains p)))
        if !majority s m then .next (fence s)
        else
          let failed := s.get F.CLU_FAILED.MAP ||| ofBits ((List.range 64).map (fun p => bitOf (s.get F.CLU_ROSTER.MAP) p && !bitOf m p))
          .next ((startChange m failed 3 s).put F.CLU_STATUS.HEAD own)

/-- R265: DEFERRED_CLAIM_TIMEOUT. -/
def execDeferredClaimTimeout (s : State) : Host.Outcome State Fault Refusal :=
  match s.clu.deferTb with
  | some t => if s.get F.CLU_CFG.HEAD_MS * 1000000 ≤ s.since t then .next (fence s) else .next s
  | none => .next s

/-! ### Levels, recalls and removal -/

/-- R254, R261: the level and the free spill slots this member reports. -/
def ownLevel (s : State) : Nat × Nat := (s.tier.level, offeredSlots s - heldSlots s)

/-- R254: LEVEL is flooded when what it says has changed (when is not stated: DESIGN CHOICE, log entry 35). -/
def sendLevel (s : State) : State :=
  let l := ownLevel s
  if (s.get F.CLU_STATUS.STATE = 2 ∨ s.get F.CLU_STATUS.STATE = 3) ∧ s.clu.lastLevel ≠ some l then
    flood 9 (l.1 + l.2 % 2 ^ 22 * 4) none [] { s with clu := { s.clu with lastLevel := some l } }
  else s

/-- R266, R270: the top head removes a member whose held slots are empty, or one that has failed: LEAVE, then the change under a hold.
The clutch is no longer DEGRADED once no failed member is left and every other expected one is there (DEDUCED, log entry 155). -/
def removeMember (p : Nat) (s : State) : State :=
  let s := flood 0x0B (p * 2 ^ 8) none [] s
  let s := if p = ownPath s then { s with clu := { s.clu with left := true } } else s
  let members := setSlice (s.get F.CLU_ROSTER.MAP) p 1 0
  let failed := setSlice (s.get F.CLU_FAILED.MAP) p 1 0
  let rest := setSlice (s.get F.CLU_EXPECT.EXPECT) p 1 0
  let whole : Bool := failed == 0 && (rest &&& members) == rest
  startChange members failed (if whole then 2 else s.get F.CLU_STATUS.STATE) s

/-- R270: whether a leaving member's slots are empty: it reports as many free as it ever did (DESIGN CHOICE, log entry 36). -/
def slotsEmpty (s : State) (p : Nat) : Bool :=
  if p = ownPath s then heldSlots s == 0
  else match s.levels.get p with
    | some l => decide ((cellFind p s.clu.totals).getD 0 ≤ l.2)
    | none => true

/-- R270: removals whose member's slots are empty go on, one change at a time. -/
def checkLeaving (s : State) : State :=
  if !isHead s || s.clu.change.isSome then s
  else
    match s.clu.leaving.find? (fun p => !bitOf (s.get F.CLU_ROSTER.MAP) p || slotsEmpty s p) with
    | some p => removeMember p s
    | none => s

/-- R254: LEVEL. -/
def execLevel (port : Fin 4) (s : State) : Host.Outcome State Fault Refusal :=
  .next (onClu port 9 (fun m s =>
    let p := m.src.toNat
    let free := slice m.arg.toNat 10 22
    checkLeaving { s with
      levels := s.levels.set p (some (slice m.arg.toNat 8 2, free))
      clu := { s.clu with totals := cellInsert p (max free ((cellFind p s.clu.totals).getD 0)) s.clu.totals } }) s)

/-- R263: a holder's pages are to be moved away by their owners. -/
def recallFrom (p : Nat) (s : State) : State := if s.recalled.contains p then s else { s with recalled := s.recalled ++ [p] }

/-- R263: RECALL. -/
def execRecallLeases (port : Fin 4) (s : State) : Host.Outcome State Fault Refusal :=
  .next (onClu port 0x0A (fun m s => recallFrom (slice m.arg.toNat 16 6) s) s)

/-- R270: LEAVE: the member it names leaves at its next reset. -/
def execLeave (port : Fin 4) (s : State) : Host.Outcome State Fault Refusal :=
  .next (onClu port 0x0B (fun m s =>
    let p := slice m.arg.toNat 16 6
    if p = ownPath s then { s with clu := { s.clu with left := true } } else s) s)

end Sys2Proof.Machine
end

