-- ==== Sys2Proof/Machine/Mgmt.lean ====
section
/-!
DEFINITION. The decision of command packets (R313 to R323), their way through a clutch (R259), and the commands of the classes
REGION, TIER, KEY, LEASE, QOS, ENGINE and CLUTCH with IDENTIFY (R319, R482).
-/

namespace Sys2Proof

/-- A field of PARAM. -/
def Packet.par (p : Packet) (lo w : Nat) : Nat := slice p.param.toNat lo w

/-- The payload's bytes. -/
def Packet.bytes (p : Packet) : List Nat := p.payload.map (·.toNat)

/-- A packet with a field of PARAM set. -/
def Packet.withPar (p : Packet) (lo w v : Nat) : Packet := { p with param := BitVec.ofNat 64 (setSlice p.param.toNat lo w v) }

end Sys2Proof

namespace Sys2Proof.Machine

/-! ### Replies and checks -/

/-- R316, R317: the outcome of a command: STATUS, DETAIL, result and payload; `later` says that its reply is sent when its work
ends. -/
structure Verdict where
  status : Nat := 0
  det : Nat := 0
  result : Nat := 0
  payload : List Nat := []
  later : Bool := false
deriving DecidableEq, Repr

/-- REFUSED with a reason (R316, R317). -/
def refuse (reason index : Nat) (s : State) : Verdict × State := ({ status := 0x0B, det := detail reason index }, s)

/-- REFUSED, reason State. -/
def refuseState (index : Nat) (s : State) : Verdict × State := refuse 1 index s
/-- REFUSED, reason Limit. -/
def refuseLimit (index : Nat) (s : State) : Verdict × State := refuse 2 index s
/-- REFUSED, reason Range. -/
def refuseRange (offset : Nat) (s : State) : Verdict × State := refuse 3 offset s
/-- REFUSED, reason Conflict. -/
def refuseConflict (index : Nat) (s : State) : Verdict × State := refuse 4 index s
/-- BUSY. -/
def busy (s : State) : Verdict × State := ({ status := 0x0D }, s)
/-- OK with no result. -/
def ok (s : State) : Verdict × State := ({}, s)

/-- The effect of a command once R318's checks 1 to 5 have passed. -/
abbrev Effect := Packet → State → Verdict × State

/-- R314: the reply of a decided command. -/
def answer (p : Packet) (v : Verdict) (s : State) : State :=
  if v.later then s else reply p v.status v.det v.result (v.payload.map (BitVec.ofNat 8)) s

/-- R319: of each opcode, the mask of the PARAM bits that it names, and whether it has a payload. -/
def opSpec (op : Nat) : Option (Nat × Bool) :=
  (cellFind op [
    (0x0101, (0, false)), (0x0102, (2 ^ 40 - 1, false)), (0x0103, (2 ^ 48 - 1, false)),
    (0x0201, (2 ^ 24 - 1 + 2 ^ 57, false)), (0x0202, (0x7FFF, false)), (0x0203, (0x37FFF, false)), (0x0204, (0, true)),
    (0x0205, (0x3F, true)), (0x0206, (0x7FFF, false)),
    (0x0301, (1, true)), (0x0302, (15, false)), (0x0303, (15, false)),
    (0x0401, (0x13F, true)), (0x0402, (0x7F3F, false)),
    (0x0501, (0x17FFF, false)), (0x0502, (0x7FFF, false)),
    (0x0601, (0, true)), (0x0701, (0x31F01, false)),
    (0x0801, (7, false)), (0x0802, (3, false)), (0x0803, (0x10F, false)),
    (0x0901, (0x3F, false)), (0x0902, (0x3F, false)),
    (0x0A01, (0, true)), (0x0A02, (0, false)), (0x0A03, (0x13F, false)),
    (0x0B01, (0, false)), (0x0B02, (0, false)),
    (0x0C01, (2 ^ 32 - 1, true)), (0x0C02, (1, false)),
    (0x0D01, (0, true)), (0x0E01, (0, true)), (0x0E02, (2 ^ 32 - 1, true))])

/-- R318 step 1. -/
def headerFault (p : Packet) : Bool :=
  p.length.toNat != p.payload.length || decide (4080 < p.payload.length) || slice p.flags.toNat 2 6 != 0

/-- R318 step 2, R361: whether an opcode is defined; boot recovery mode defines four. -/
def opDefined (s : State) (op : Nat) : Bool :=
  (opSpec op).isSome && (!s.flag F.SEC_STATUS.RECOVERY || [0x0101, 0x0B01, 0x0C01, 0x0C02].contains op)

/-- R318 step 3, R323: whether the port authority table denies class `c` on a column. -/
def denied (s : State) (c column : Nat) : Bool := decide (1 ≤ c) && s.fuseBits (640 + 19 * (c - 1) + column) 1 == 1

/-- R318 step 4, R322: the classes that need a secure path. -/
def needsSecure (c : Nat) : Bool := c == 4 || c == 0x0C || c == 0x0D

/-- R349, R395: the thermal model's Tj lies between 0.0 and 85.0 °C. -/
def tjInWindow (s : State) : Bool :=
  let t := toSigned 16 (s.get F.THM_STATUS.TJ_MAX)
  decide (0 ≤ t) && decide (t ≤ 1360)

/-- R319, R313: the byte offset of the lowest reserved PARAM bit that is set, if one is. -/
def reservedParam (p : Packet) (mask : Nat) : Option Nat :=
  ((List.range 58).find? (fun b => p.par b 1 == 1 && slice mask b 1 == 0)).map (fun b => 8 + b / 8)

/-- R318, R319: the first check that fails before the command's own. -/
def checkPacket (p : Packet) (s : State) : Option Verdict :=
  let op := p.opcode.toNat
  let c := op / 256
  let column := packetColumn s p
  if headerFault p then some { status := 0x03 }
  else if !opDefined s op then some { status := 0x02 }
  else if denied s c column || (needsSecure c && !securePath p s) || (op == 0x0802 && decide (16 ≤ column)) then some { status := 0x0A }
  else if (op == 0x0C01 || op == 0x0D01) && !tjInWindow s then some { status := 0x0C }
  else if s.inFatal && c != 1 && c != 0x0B then some { status := 0x0B, det := detail 1 0 }
  else
    match opSpec op with
    | none => none
    | some (mask, payload) =>
      match reservedParam p mask with
      | some o => some { status := 0x0B, det := detail 3 o }
      | none => if !payload && p.length != 0 then some { status := 0x0B, det := detail 3 6 } else none

/-! ### The way through a clutch -/

/-- R259: a CMD to another member carries the packet, with its arrival class and its sender's stamp; out of reach it is answered with
ABORTED. -/
def relay (dst : Nat) (p : Packet) (s : State) : State :=
  let b := headerBytes p.opcode.toNat p.tag.toNat (p.flags.toNat % 256) p.length.toNat p.param.toNat ++ p.bytes
  let m := mkMsg 7 dst (mask := BitVec.ofNat 64 (packetColumn s p + senderStamp p s * 2 ^ 8)) (arg := b.length) (beats := packetBeats b)
  match originate m (.command p false) s with
  | (true, s) => pump s
  | (false, s) => answer p { status := 0x30 } s

/-- R259: whether this member belongs to a clutch whose top head is another. -/
def hasOtherHead (s : State) : Bool :=
  s.inClutch && (s.get F.CLU_STATUS.STATE == 2 || s.get F.CLU_STATUS.STATE == 3) && s.get F.CLU_STATUS.HEAD != ownPath s

/-- R259, R325, R348: whether a packet goes on to the top head: one that did not come from it, nor by the debug UART. -/
def goesToHead (p : Packet) (s : State) : Bool :=
  hasOtherHead s && p.opcode != 0x0D01 && decide (packetColumn s p ≤ 16) && (match p.path with | .stitch _ _ _ => false | _ => true)

/-- R78, R254, R259: the presented regions of a member that are free: of another, at most those it presents (how the top head learns
their number is not stated: a free value, log entry 42). -/
def freeOn (s : State) (path : Nat) : Nat :=
  if path = ownPath s then s.presented - (s.regions.cells.filter (fun c => c.2.state != 0)).length
  else min (match helloAt s path with | some h => h.presented | none => 0) (Config.freeRegions s.freeCtr path)

/-- R313, R259, R319: the member on whose hardware a command acts, as the top head sees it. A pin goes to the member of its range
(DEDUCED, log entry 39). -/
def targetOfCmd (p : Packet) (s : State) : Nat :=
  let op := p.opcode.toNat
  if op = 0x0101 ∨ op / 256 = 9 ∨ op = 0x0D01 then ownPath s
  else if op = 0x0201 ∧ p.par 57 1 = 1 then
    let own := ownPath s
    ((List.range 64).filter (bitOf (s.get F.CLU_ROSTER.MAP))).foldl
      (fun best q => if freeOn s best < freeOn s q ∨ (freeOn s best = freeOn s q ∧ q < best) then q else best) own
  else if op = 0x0301 ∧ p.length = 16 then slice (fieldLE p.bytes 0 8) 45 6
  else p.par 58 6

/-- R259, R325: the other member a command goes to: at the top head alone, and not for a command of the debug UART. -/
def relayTo (p : Packet) (s : State) : Option Nat :=
  if !isHead s || packetColumn s p == 18 then none
  else if targetOfCmd p s = ownPath s then none
  else some (targetOfCmd p s)

/-- R263: the pages that a member holds for others are to be taken back. -/
def recallAll (path : Nat) (s : State) : State := recallFrom path (flood 0x0A (path * 2 ^ 8) none [] s)

/-- R318, R336, R445: the decision unit of a packet whose effect is `eff`. -/
def decideWith (eff : Effect) (p : Packet) (s : State) : State :=
  let s := s.count 0x902 0
  if headerFault p then answer p { status := 0x03 } s
  else if goesToHead p s && (!needsSecure (p.opcode.toNat / 256) || securePath p s) then relay (s.get F.CLU_STATUS.HEAD) p s
  else
    match checkPacket p s with
    | some v => answer p v s
    | none =>
      match relayTo p s with
      | some m =>
        let s := if p.opcode = 0x0302 then recallAll m s else s
        relay m p s.drawn
      | none =>
        let (v, s) := eff p s
        answer p v s

/-- R333, R337: whether a packet can be accepted and decided as it arrives: the executive runs, no packet came before it, and its
channel has room for its reply. -/
def decidesNow (p : Packet) (s : State) : Bool :=
  !s.asleep && s.sec.running && s.mgt.accepted.isEmpty && s.mgt.arrivals.isEmpty && replyRoom p.path s

/-- R333, R381: a packet that arrives in SL2 or SL3 wakes the device by its path's source. -/
def wakeArrival (p : Packet) (s : State) : State :=
  if !s.asleep then s
  else match p.path with
    | .mbx _ | .tunnel _ | .doe _ => wakeRaw 0 s
    | .sideband => wakeFrom 2 s
    | _ => s

/-- A command row: the packet has the row's opcode, and is accepted and decided at once. In SL2 and SL3, until the management
processor has booted, and behind packets that came before it, it waits for a slot (R333, R337). -/
def runCmd (op : Nat) (eff : Effect) (p : Packet) (s : State) : State :=
  let p := { p with opcode := BitVec.ofNat 16 op, muted := false }
  if !decidesNow p s then arrive p (wakeArrival p s)
  else if tagHeld p s then answerBusy p s
  else decideWith eff p (holdTag p s)

/-- R314: a Long command starts: ACCEPTED now, its completion event later. -/
def startLong (p : Packet) (object arg : Nat) (s : State) : Verdict × State :=
  let c : LongCmd := {
    path := p.path, opcode := p.opcode.toNat, tag := p.tag.toNat
    object, arg, key := packetKey p, slot := p.slot.val, discard := p.muted }
  ({ status := 1 }, { s with mgt := { s.mgt with longs := s.mgt.longs ++ [c] } })

/-- R316: whether a Long command of this packet's kind runs on an object. -/
def longRuns (s : State) (p : Packet) (object : Nat) : Bool := !(longsOn s p.opcode.toNat object).isEmpty

/-- R336: whether a Long REGION_FREE or REGION_REKEY holds a region (DEDUCED, log entry 198). -/
def regionHeld (s : State) (r : Nat) : Bool := !(longsOn s 0x0202 r).isEmpty || !(longsOn s 0x0206 r).isEmpty

/-! ### INFO -/

/-- R259, R319: the values that IDENTIFY's payload gives, for a clutch its summed capacity and roster as well; how they are laid out
is open (log entry 40). -/
def identifyValues (p : Packet) (s : State) : List Nat :=
  [Config.siRev, s.get F.SEC_BOOT.RUN_VERSION, fieldLE (s.sec.nor.getList (0x400008 + 0x800000 * s.sec.ctrl.active) 4) 0 4,
    fieldLE (s.sec.nor.getList (0x400008 + 0x800000 * (1 - s.sec.ctrl.active)) 4) 0 4, s.get F.CLU_STATUS.CLUTCH_ID,
    (packetSlot s p).getD 64,
    sumOf (((allHellos s).filter (fun h => h.path == ownPath s || bitOf (s.get F.CLU_ROSTER.MAP) h.path)).map (·.presented)),
    s.get F.CLU_ROSTER.MAP]

/-- R319: IDENTIFY. -/
def identify (p : Packet) (s : State) : Verdict × State :=
  ({ payload := ((Config.identifyLayout (identifyValues p s)).take 4080).map (·.toNat) }, s)

/-! ### REGION -/

/-- R74: backing-directory slots in use. -/
def slotsUsed (s : State) : List Nat := ((s.regions.cells.filter (fun c => c.2.state != 0 && c.2.cls == 1)).map (·.2.dirSlot))

/-- R74: the free backing-directory slots, lowest first. -/
def slotsFree (s : State) : List Nat :=
  (List.range (s.get F.TIER_CAP_CFG.SHARED_REGIONS)).filter (fun d => !(slotsUsed s).contains d)

/-- R196, R300: a slot's entries are written as zeros in every slice, and no almanac way holds a line of the region. -/
def clearDirectory (region d : Nat) (s : State) : State :=
  let ofSlot (k : Nat) : Bool := k / 2 ^ 20 % 2048 == d
  let other (b : Option BandLine) : Bool := match b with
    | some (.directory _ line) => line / 2 ^ 17 != d
    | _ => true
  let s := chargeInternal 69 (16 * 2 ^ 17) (dropAlmanac region s)
  { s with
    dram := s.dram.keep (fun k _ => other (bandLineAt s (k / 2 ^ 34) (k % 2 ^ 34)))
    dir := s.dir.keep (fun k _ => !ofSlot k)
    stamps := s.stamps.keep (fun k _ => !ofSlot (k * 8))
    slotStamps := s.slotStamps.set d (s.get F.HA_RECLAIM.GEN) }

/-- R72 to R74, R196, R211: a region is of a class; a shared one takes the lowest free slot. A change of class is no way out of
ORPHANED; the holder's number stays. -/
def setClass (region cls : Nat) (s : State) : State :=
  let d := if cls = 1 then (slotsFree s).headD 0 else 0
  let s := s.writeRegion region (fun r => { r with cls, dirSlot := d, lease := if r.lease = 3 then 3 else 0, breaker := 0 })
  if cls = 1 then clearDirectory region d s else s

/-- R166, R172: whether a region has a page that depends on a line in quarantine: a leaf of its own, or a node above one. -/
def regionQuarantined (s : State) (r : Nat) : Bool :=
  s.quarantine.any (fun q =>
    let kind := q.2.1
    let index := q.2.2
    if kind = 0 then index / 2 ^ 14 == r
    else if kind = 1 then index / 2 ^ 12 == r
    else
      let span := 64 ^ (kind - 1)
      let meets (first n : Nat) : Bool := decide (first / span ≤ index) && decide (index ≤ (first + n - 1) / span)
      meets (r * 2 ^ 14) (2 ^ 14) || meets (16384 * s.presented + r * 2 ^ 12) (2 ^ 12))

/-- R72, R172: whether a run of `n` regions from `r` is FREE, and none of it depends on a line in quarantine. -/
def runFree (s : State) (r n : Nat) : Bool :=
  decide (r + n ≤ s.presented) && (List.range n).all (fun i => (s.region (r + i)).state == 0 && !regionQuarantined s (r + i))

/-- R72 to R74, R150, R259: REGION_ALLOC: the first run that fits. -/
def regionAlloc (p : Packet) (s : State) : Verdict × State :=
  let cls := p.par 0 2
  let k := p.par 2 6
  let n := p.par 8 16
  if cls = 3 then refuseRange 8 s
  else if n = 0 then refuseRange 9 s
  else if keyState s k ≠ 1 then refuseState k s
  else if cls = 1 ∧ (slotsFree s).length < n then refuseLimit 0 s
  else
    match (List.range s.presented).find? (fun r => runFree s r n) with
    | none => refuseLimit 0 s
    | some r =>
      let s := forAll (List.range n) (fun i s =>
        setClass (r + i) cls (s.writeRegion (r + i) (fun d => { state := 1, key := k, gen := d.gen }))) s
      ({ result := r + ownPath s * 2 ^ 16 }, recountKeys s)

/-- R73, R75: whether the extent table of an LD, of this device or another member, maps a region of this member. -/
def regionMapped (s : State) (r : Nat) : Bool :=
  slots.any (fun m => ldMaps s m (cpaOf s (r * 2 ^ 30))) || mappedAway s (cpaOf s (r * 2 ^ 30))

/-- R75: REGION_FREE. -/
def regionFree (p : Packet) (s : State) : Verdict × State :=
  let r := p.par 0 15
  if longRuns s p r then busy s
  else if regionHeld s r then refuseConflict r s
  else if (s.region r).state ≠ 1 ∨ regionMapped s r then refuseState r s.farDrawn
  else startLong p r 0 (startFreeing r s.farDrawn)

/-- R73, R74: REGION_CLASS. -/
def regionClass (p : Packet) (s : State) : Verdict × State :=
  let r := p.par 0 15
  let cls := p.par 16 2
  if cls = 3 then refuseRange 0x0A s
  else if regionHeld s r then refuseConflict r s
  else if (s.region r).state ≠ 1 ∨ regionMapped s r then refuseState r s.farDrawn
  else if (s.region r).cls = cls then ok s.farDrawn
  else if cls = 1 ∧ (slotsFree s).isEmpty then refuseLimit 0 s.farDrawn
  else
    let s := s.farDrawn
    let s := if (s.region r).cls = 1 then dropPassSlot (s.region r).dirSlot (clearDirectory r (s.region r).dirSlot s) else s
    ok (setClass r cls s)

/-- R49: the state and class of the region of a CPA: of this member's region as its descriptor says; of another member's as an LD of
this device that maps it knows, or free (log entry 41). -/
def regionKnown (s : State) (cpa : Nat) : Nat × Nat :=
  if homePath s cpa == ownPath s then
    let d := s.region (homeAddr s cpa / 2 ^ 30)
    (d.state, d.cls)
  else if slots.any (fun m => ldMaps s m cpa) then (1, bit (slots.any (fun m => mapsShared s m cpa)))
  else (Config.farState s.freeCtr cpa, Config.farClass s.freeCtr cpa)

/-- R49: which regions of a presented range are shared or leased regions of another member. -/
def sharedAway (s : State) (base n : Nat) : List Nat :=
  (List.range n).filter (fun i => homePath s (base + i * 2 ^ 30) != ownPath s && (regionKnown s (base + i * 2 ^ 30)).2 != 0)

/-- R49, R482: the first region of a presented range that is not ALLOCATED, or that an entry of `slot` may not map: a private region
that some other LD of the clutch maps, or a shared or leased one where the LD has no host agent number. -/
def badRegion (s : State) (slot base n : Nat) : Option Nat :=
  let bad (i : Nat) : Bool :=
    let cpa := base + i * 2 ^ 30
    let (state, cls) := regionKnown s cpa
    state != 1 || (cls == 0 && (slots.any (fun m => m != slot && ldMaps s m cpa) || mappedAway s cpa))
      || (cls != 0 && (hanOf s slot).isNone)
  ((List.range n).find? bad).map (fun i => homeAddr s (base + i * 2 ^ 30) / 2 ^ 30)

/-- R482: EXTENT_SET. -/
def extentSet (p : Packet) (s : State) : Verdict × State :=
  let b := p.bytes
  let slot := fieldLE b 0 8
  let dpa := fieldLE b 8 8
  let len := fieldLE b 16 8
  let base := fieldLE b 24 8
  let g := 2 ^ 30
  if p.length ≠ 32 then refuseRange 6 s
  else if 64 ≤ slot then refuseRange 0x10 s
  else if dpa % g ≠ 0 then refuseRange 0x18 s
  else if len % g ≠ 0 ∨ len = 0 ∨ 2 ^ 51 < len then refuseRange 0x20 s
  else if base % g ≠ 0 ∨ 2 ^ 51 ≤ base then refuseRange 0x28 s
  else if (s.lds.get slot).extents.any (fun e => decide (e.dpa < dpa + len) && decide (dpa < e.dpa + e.gib * g)) then refuseState slot s
  else if 256 ≤ (s.lds.get slot).extents.length then refuseLimit slot s
  else
    match badRegion s slot base (len / g) with
    | some r => refuseState r s.farDrawn
    | none =>
      ok { s.farDrawn with lds := s.lds.upd slot (fun l => { l with
        extents := l.extents ++ [{ dpa, gib := len / g, base, source := none, shared := sharedAway s base (len / g) }] }) }

/-- R48, R50: whether a committed HDM decoder of an LD covers part of an extent. -/
def hdmCovers (l : LdSt) (e : Extent) : Bool :=
  l.hdm.any (fun d => d.committed && decide (d.dpa < e.dpa + e.gib * 2 ^ 30) && decide (e.dpa < d.dpa + d.size / d.ways))

/-- An extent leaves an LD's table. -/
def dropExtent (slot : Nat) (e : Extent) (s : State) : State :=
  { s with lds := s.lds.upd slot (fun l => { l with extents := eraseFirst (fun x => x == e) l.extents }) }

/-- R482: EXTENT_CLEAR. -/
def extentClear (p : Packet) (s : State) : Verdict × State :=
  let slot := p.par 0 6
  let l := s.lds.get slot
  if p.length ≠ 8 then refuseRange 6 s
  else
    match l.extents.find? (fun e => e.dpa == fieldLE p.bytes 0 8) with
    | none => refuseRange 0x10 s
    | some e => if hdmCovers l e then refuseState slot s else ok (dropExtent slot e s)

/-- R179: REGION_REKEY. -/
def regionRekey (p : Packet) (s : State) : Verdict × State :=
  let r := p.par 0 15
  let d := s.region r
  if longRuns s p r then busy s
  else if regionHeld s r then refuseConflict r s
  else if d.state ≠ 1 ∨ d.gen = 127 then refuseState r s
  else if d.walk ∨ s.walkQueue.any (fun q => q.region == r) then refuseConflict r s
  else startLong p r 0 { s with walkQueue := s.walkQueue ++ [{ region := r, toKey := none }] }

/-! ### TIER -/

/-- R93: a page's PIN bit; a T1 page that is pinned is promoted. -/
def pinPage (on : Bool) (page : Nat) (s : State) : State :=
  let s := (pageFetch page s).2
  let s := setCat page 3 1 (bit on) (unpin page s)
  if !on then s
  else
    let s := { s with tier := { s.tier with pinned := s.tier.pinned ++ [page] } }
    if pageKind s page = 2 then startPromotion page s else s

/-- R93, R482: TIER_PIN, to pin or to unpin. -/
def tierPin (p : Packet) (s : State) : Verdict × State :=
  let base := fieldLE p.bytes 0 8
  let n := fieldLE p.bytes 8 8
  let window := if s.inClutch then 2 ^ 45 else 2 ^ 51
  let first := pageOf (homeAddr s base)
  let regions := (List.range (regionOf (first + n - 1) + 1)).filter (fun r => decide (regionOf first ≤ r))
  let fresh := n - (s.tier.pinned.filter (fun x => decide (first ≤ x) && decide (x < first + n))).length
  if p.length ≠ 16 then refuseRange 6 s
  else if base % 4096 ≠ 0 ∨ 2 ^ 51 ≤ base then refuseRange 0x10 s
  else if n = 0 ∨ window < base % window + n * 4096 then refuseRange 0x18 s
  else
    match regions.find? (fun r => (s.region r).state != 1) with
    | some r => refuseState r s
    | none =>
      if p.par 0 1 = 1 ∧ t0Budget s < 2 * (s.tier.pinned.length + fresh) then refuseLimit 0 s
      else ok (poolChanged (forAll (List.range n) (fun i s => pinPage (p.par 0 1 == 1) (first + i) s) s))

/-- R336: whether a Long command on a channel other than one of opcode `op` holds it. -/
def channelHeld (s : State) (op c : Nat) : Bool := [0x0302, 0x0303, 0x0803].any (fun o => o != op && !(longsOn s o c).isEmpty)

/-- R99, R100: CHANNEL_EVACUATE. -/
def channelEvacuate (p : Packet) (s : State) : Verdict × State :=
  let c := p.par 0 4
  if longRuns s p c then busy s
  else if channelHeld s 0x0302 c then refuseConflict c s
  else if s.get (F.TIER_POOL_STATUS.EVAC c) ≠ 0 then refuseState c s
  else if s.get (F.TIER_POOL_STATUS.EVAC (partner c)) ≠ 0 then refuseState (partner c) s
  else if !evacAllowed s c then refuseLimit 0 s
  else
    let s := startEvacuation c s
    startLong p c 0 (if isHead s && 0 < heldSlots s then recallAll (ownPath s) s else s)

/-- R101, R425, R426: CHANNEL_RETURN of an evacuated channel. Its modules must be known to be the part that the channel was set
up for. -/
def channelReturn (p : Packet) (s : State) : Verdict × State :=
  let c := p.par 0 4
  if longRuns s p c then busy s
  else if channelHeld s 0x0303 c then refuseConflict c s
  else if s.get (F.TIER_POOL_STATUS.EVAC c) ≠ 2 ∨ !(s.spw.get c).samePart ∨ s.flag (F.SPW_SLOT_STATUS.SPD_ERR c) then refuseState c s
  else startLong p c 0 (startReturn c s)

/-! ### KEY -/

/-- R151, R152, R346: KEY_LOAD. -/
def keyLoad (p : Packet) (s : State) : Verdict × State :=
  let k := p.par 0 6
  let imported := p.par 8 1 == 1
  if p.length.toNat ≠ (if imported then 32 else 0) then refuseRange 6 s
  else if keyState s k ≠ 0 then refuseState k s
  else if imported then
    if sessioned p s && s.fuseBits 906 1 == 0 then ok (loadKey k (BitVec.ofNat 256 (ofBytes p.bytes)) true s) else refuseState k s
  else
    let (v, s) := s.trng
    ok (loadKey k v false s)

/-- R185: a slot goes to RETIRING; with a destination each ALLOCATED region that names it waits for a key move. -/
def retireKey (k : Nat) (target : Option Nat) (s : State) : State :=
  let named := (s.regions.cells.filter (fun c => c.2.state == 1 && c.2.key == k)).map (·.1)
  let s := s.put (F.CRY_KEY_STATUS.STATE k) 2
  match target with
  | none => s
  | some j => { s with walkQueue := s.walkQueue ++ named.map (fun r => { region := r, toKey := some j }) }

/-- R184: KEY_RETIRE. -/
def keyRetire (p : Packet) (s : State) : Verdict × State :=
  let k := p.par 0 6
  let j := p.par 8 6
  let none_ := p.par 14 1 == 1
  if longRuns s p k then busy s
  else if keyState s k ≠ 1 then refuseState k s
  else if none_ then
    if s.regions.cells.any (fun c => c.2.state == 1 && c.2.key == k) then refuseState k s
    else startLong p k 0 (retireKey k none s)
  else if j = k ∨ keyState s j ≠ 1 then refuseState j s
  else startLong p k 0 (retireKey k (some j) s)

/-! ### LEASE -/

/-- R319: whether a packet may answer for the holder of a lease: from a host path, of this or another member, the holder's own LD. -/
def actsForHolder (p : Packet) (s : State) (holder : Nat) : Bool :=
  if 16 ≤ packetColumn s p ∧ senderStamp p s = 0 then true else senderStamp p s == 0x80 + holder

/-- R210: LEASE_ANSWER. -/
def leaseAnswer (p : Packet) (s : State) : Verdict × State :=
  let r := p.par 0 15
  let d := s.region r
  if d.state ≠ 1 ∨ d.cls ≠ 2 ∨ (d.lease ≠ 1 ∧ d.lease ≠ 2) ∨ !actsForHolder p s d.holder then refuseState r s
  else ok (settle (if p.par 16 1 = 1 then releaseLease r s else if d.lease = 2 then keepLease r s else s))

/-- R211: LEASE_CLEAR_ORPHAN. -/
def leaseClearOrphan (p : Packet) (s : State) : Verdict × State :=
  let r := p.par 0 15
  let d := s.region r
  if d.state ≠ 1 ∨ d.cls ≠ 2 ∨ d.lease ≠ 3 then refuseState r s
  else ok (s.writeRegion r (fun d => { d with lease := 0, breaker := 0 }))

/-! ### QOS -/

/-- R310: an entry of the payload. -/
def qosEntry (b : List Nat) : QosEntry :=
  { master := b.getD 0 0, g := fieldLE b 1 2, w := b.getD 3 0, qmax := fieldLE b 4 4 % 64, ncmin := fieldLE b 4 4 / 64 % 1024 }

/-- R310: the byte offset, within an entry, of its first field that is out of range or reserved. -/
def qosFault (seen : List Nat) (b : List Nat) : Option Nat :=
  let e := qosEntry b
  if 71 < e.master ∨ seen.contains e.master then some 0
  else if e.qmax = 0 then some 4
  else if b.getD 6 0 ≠ 0 then some 6
  else if b.getD 7 0 ≠ 0 then some 7
  else none

/-- R310: the packet offset of the first fault of a list of entries. -/
def qosFaults : List (List Nat) → List Nat → Nat → Option Nat
  | [], _, _ => none
  | b :: rest, seen, at_ =>
    match qosFault seen b with
    | some o => some (at_ + o)
    | none => qosFaults rest (seen ++ [b.getD 0 0]) (at_ + 8)

/-- R310: a master's configuration with the accepted entries that wait for the refill. -/
def qosNow (s : State) (m : Nat) : QosEntry :=
  match s.qosPending.reverse.find? (fun e => e.master == m) with
  | some e => e
  | none => { master := m, g := s.get (F.QOS_MASTER.G m), w := s.get (F.QOS_MASTER.W m)
              qmax := s.get (F.QOS_MASTER.QMAX m), ncmin := s.get (F.QOS_MASTER.NCMIN m) }

/-- R307, R310: QOS_CONFIG. -/
def qosConfig (p : Packet) (s : State) : Verdict × State :=
  let parts := chunks 8 510 p.bytes
  let entries := parts.map qosEntry
  let new (m : Nat) : QosEntry := match entries.find? (fun e => e.master == m) with | some e => e | none => qosNow s m
  let sum (f : QosEntry → Nat) (l : List Nat) : Nat := sumOf (l.map (fun m => f (new m)))
  let raises := allMasters.any (fun m => decide ((qosNow s m).g < (new m).g))
  if p.length.toNat % 8 ≠ 0 then refuseRange 6 s
  else
    match qosFaults parts [] 0x10 with
    | some o => refuseRange o s
    | none =>
      if raises && decide (s.get F.QOS_CAP.C_CERT < sum (·.g) allMasters) then refuseLimit 0 s
      else if 65536 < 64 * sum (·.ncmin) (List.range 64 ++ [70]) then refuseLimit 0 s
      else ok { s with qosPending := s.qosPending ++ entries }

/-! ### ENGINE -/

/-- R147, R148, R188, R189: ENGINE_SET. -/
def engineSet (p : Packet) (s : State) : Verdict × State :=
  let crypto := p.par 0 1 == 1
  let n := p.par 8 5
  let act := p.par 16 2
  if crypto ∧ 8 ≤ n then refuseRange 9 s
  else if act = 3 then refuseRange 0x0A s
  else if act = 2 then
    let st := if crypto then cryState s n else cmpState s n
    if st = 2 ∨ st = 4 then ok (if crypto then crySelftest n s else cmpSelftest n s) else refuseState n s
  else
    let (granted, s) := if crypto then cryOffline n (act == 1) s else cmpOffline n (act == 1) s
    if granted then ok s else refuseState n s

/-! ### CLUTCH -/

/-- R268: MEMBER_JOIN. -/
def memberJoin (p : Packet) (s : State) : Verdict × State :=
  let m := p.par 0 6
  if !isHead s then refuseState m s
  else ok (s.put F.CLU_EXPECT.EXPECT (setSlice (s.get F.CLU_EXPECT.EXPECT) m 1 1))

/-- R266, R270: whether a member, or a device that has failed, may be removed. Whether another member has ALLOCATED regions, what its LDs
map, and whether one of them is ALIVE with a HAN, the top head has no rule to learn by: a value the spec leaves open (log entry 42). -/
def mayRemove (s : State) (m : Nat) : Bool :=
  let others := (List.range 64).any (fun q => q != m && bitOf (s.get F.CLU_ROSTER.MAP) q)
  (bitOf (s.get F.CLU_ROSTER.MAP) m || bitOf (s.get F.CLU_FAILED.MAP) m) && others
    && (if m = ownPath s then
          !s.regions.cells.any (fun c => c.2.state == 1)
            && slots.all (fun x => (s.lds.get x).extents.isEmpty && !(agentState s x == 1 && (hanOf s x).isSome))
        else bitOf (s.get F.CLU_FAILED.MAP) m || Config.memberIdle s.freeCtr)

/-- R270: MEMBER_REMOVE. -/
def memberRemove (p : Packet) (s : State) : Verdict × State :=
  let m := p.par 0 6
  if longRuns s p m then busy s
  else if !isHead s || !mayRemove s m then refuseState m s.drawn
  else
    let s := s.drawn
    let s := { s with clu := { s.clu with leaving := s.clu.leaving ++ [m] } }
    let (v, s) := startLong p m 0 s
    (v, checkLeaving (recallAll m s))

/-! ### The rows -/

/-- R319: IDENTIFY. -/
def execIdentify (p : Packet) (s : State) : Host.Outcome State Fault Refusal := .next (runCmd 0x0101 identify p s)
/-- R72: REGION_ALLOC. -/
def execRegionAlloc (p : Packet) (s : State) : Host.Outcome State Fault Refusal := .next (runCmd 0x0201 regionAlloc p s)
/-- R75: REGION_FREE. -/
def execRegionFree (p : Packet) (s : State) : Host.Outcome State Fault Refusal := .next (runCmd 0x0202 regionFree p s)
/-- R73: REGION_CLASS. -/
def execRegionClass (p : Packet) (s : State) : Host.Outcome State Fault Refusal := .next (runCmd 0x0203 regionClass p s)
/-- R482: EXTENT_SET. -/
def execExtentSet (p : Packet) (s : State) : Host.Outcome State Fault Refusal := .next (runCmd 0x0204 extentSet p s)
/-- R482: EXTENT_CLEAR. -/
def execExtentClear (p : Packet) (s : State) : Host.Outcome State Fault Refusal := .next (runCmd 0x0205 extentClear p s)
/-- R179: REGION_REKEY. -/
def execRegionRekey (p : Packet) (s : State) : Host.Outcome State Fault Refusal := .next (runCmd 0x0206 regionRekey p s)
/-- R93: TIER_PIN. -/
def execTierPin (p : Packet) (s : State) : Host.Outcome State Fault Refusal := .next (runCmd 0x0301 tierPin (p.withPar 0 1 1) s)
/-- R93: TIER_UNPIN. -/
def execTierUnpin (p : Packet) (s : State) : Host.Outcome State Fault Refusal := .next (runCmd 0x0301 tierPin (p.withPar 0 1 0) s)
/-- R99: CHANNEL_EVACUATE. -/
def execChannelEvacuate (p : Packet) (s : State) : Host.Outcome State Fault Refusal := .next (runCmd 0x0302 channelEvacuate p s)
/-- R101: CHANNEL_RETURN. -/
def execChannelReturn (p : Packet) (s : State) : Host.Outcome State Fault Refusal := .next (runCmd 0x0303 channelReturn p s)
/-- R151: KEY_LOAD with GENERATE. -/
def execKeyLoadGenerate (p : Packet) (s : State) : Host.Outcome State Fault Refusal := .next (runCmd 0x0401 keyLoad (p.withPar 8 1 0) s)
/-- R151: KEY_LOAD with IMPORT. -/
def execKeyLoadImport (p : Packet) (s : State) : Host.Outcome State Fault Refusal := .next (runCmd 0x0401 keyLoad (p.withPar 8 1 1) s)
/-- R184: KEY_RETIRE. -/
def execKeyRetire (p : Packet) (s : State) : Host.Outcome State Fault Refusal := .next (runCmd 0x0402 keyRetire p s)
/-- R210: LEASE_ANSWER with RELEASE. -/
def execLeaseRelease (p : Packet) (s : State) : Host.Outcome State Fault Refusal := .next (runCmd 0x0501 leaseAnswer (p.withPar 16 1 1) s)
/-- R210: LEASE_ANSWER with KEEP. -/
def execLeaseKeep (p : Packet) (s : State) : Host.Outcome State Fault Refusal := .next (runCmd 0x0501 leaseAnswer (p.withPar 16 1 0) s)
/-- R211: LEASE_CLEAR_ORPHAN. -/
def execLeaseClearOrphan (p : Packet) (s : State) : Host.Outcome State Fault Refusal := .next (runCmd 0x0502 leaseClearOrphan p s)
/-- R310: QOS_CONFIG. -/
def execQosConfig (p : Packet) (s : State) : Host.Outcome State Fault Refusal := .next (runCmd 0x0601 qosConfig p s)
/-- R147: ENGINE_SET to online. -/
def execEngineSetOnline (p : Packet) (s : State) : Host.Outcome State Fault Refusal := .next (runCmd 0x0701 engineSet (p.withPar 16 2 0) s)
/-- R147: ENGINE_SET to offline. -/
def execEngineSetOffline (p : Packet) (s : State) : Host.Outcome State Fault Refusal := .next (runCmd 0x0701 engineSet (p.withPar 16 2 1) s)
/-- R148: ENGINE_SET to self-test. -/
def execEngineSetSelftest (p : Packet) (s : State) : Host.Outcome State Fault Refusal := .next (runCmd 0x0701 engineSet (p.withPar 16 2 2) s)
/-- R268: MEMBER_JOIN. -/
def execMemberJoin (p : Packet) (s : State) : Host.Outcome State Fault Refusal := .next (runCmd 0x0901 memberJoin p s)
/-- R270: MEMBER_REMOVE. -/
def execMemberRemove (p : Packet) (s : State) : Host.Outcome State Fault Refusal := .next (runCmd 0x0902 memberRemove p s)

end Sys2Proof.Machine
end

