-- ==== Sys2Proof/Machine/Errors.lean ====
section
/-!
DEFINITION. The error block: records as words (R429), ERR_READ and ERR_CLEAR (R432), records reported from outside the
modelled data path, and the SRAM scrubbers (R440).
-/

namespace Sys2Proof.Machine

/-! ### Records as words -/

/-- R429: word `w` of a record. -/
def errWord (r : ErrRec) (w : Nat) : Nat :=
  match w with
  | 0 => r.code % 2 ^ 8 + r.cls % 2 ^ 3 * 2 ^ 8 + r.source % 2 ^ 8 * 2 ^ 16 + r.inst % 2 ^ 8 * 2 ^ 24 + r.count % 2 ^ 16 * 2 ^ 32
      + r.seq % 2 ^ 16 * 2 ^ 48
  | 1 => r.tb % 2 ^ 64
  | 2 => r.addr % 2 ^ 64
  | 3 => r.detail % 2 ^ 32 + r.lastUs % 2 ^ 32 * 2 ^ 32
  | _ => 0

/-- R429: word `w` of a record that may be absent: 0 where it is. -/
def errWordOf (r : Option ErrRec) (w : Nat) : Nat := match r with | some r => errWord r w | none => 0

/-- R429: the 32 bytes of a record; zeros where there is none. -/
def errBytes (r : Option ErrRec) : List Nat := ((List.range 4).map (fun w => toBytes 8 (errWordOf r w))).flatten

/-! ### ERR_READ and ERR_CLEAR -/

/-- R431, R432: the queue in the order of sequence numbers: the order of entry, in which numbers are taken (R430). -/
def errRead (_p : Packet) (s : State) : Verdict × State :=
  let q := s.err.queue
  ({ result := q.length
     payload := errBytes s.err.first ++ errBytes s.err.fatal ++ (q.map (fun r => errBytes (some r))).flatten },
    { s with err := { s.err with queue := [] } })

/-- R432: ERR_CLEAR. -/
def errClear (_p : Packet) (s : State) : Verdict × State :=
  ok ((({ s with err := { s.err with first := none } }).put F.ERR_STATUS.FIRST_VALID 0).put F.ERR_STATUS.OVERFLOW 0)

/-- R432: ERR_READ. -/
def execErrRead (p : Packet) (s : State) : Host.Outcome State Fault Refusal := .next (runCmd 0x0B01 errRead p s)
/-- R432: ERR_CLEAR. -/
def execErrClear (p : Packet) (s : State) : Host.Outcome State Fault Refusal := .next (runCmd 0x0B02 errClear p s)

/-! ### Reported records -/

/-- R428: the codes of the table. -/
def definedCode (c : Nat) : Bool :=
  [0x01, 0x02, 0x03, 0x04, 0x05, 0x10, 0x11, 0x12, 0x13, 0x20, 0x21, 0x22, 0x28, 0x29, 0x2A, 0x2B, 0x2C, 0x2D, 0x30, 0x31, 0x32,
    0x33, 0x34, 0x35, 0x36, 0x37, 0x38, 0x40, 0x41, 0x42, 0x43, 0x44, 0x45, 0x46, 0x47, 0x50, 0x51, 0x52, 0x53, 0x54, 0x55, 0x58,
    0x59, 0x60, 0x61, 0x62, 0x63, 0x64, 0x65].contains c || decide (0x80 ≤ c ∧ c ≤ 0x90)

/-- R428, R430: ERROR_RECORD: a record of a defined code reaches the block; `fatal` gives ALMANAC_UE its fatal form (R195). -/
def execErrorRecord (code inst : BitVec 8) (fatal : Bool) (addr : BitVec 64) (detail : BitVec 32) (s : State) :
    Host.Outcome State Fault Refusal :=
  let c := code.toNat
  if !definedCode c then .next s
  else
    let cls := if c = 0x30 ∧ fatal then 5 else classOf c
    .next (s.logAs cls (sourceOf c) c inst.toNat addr.toNat detail.toNat)

/-! ### SRAM words -/

/-- R440: an uncorrectable word of a metadata cache. -/
def metaSramUe (sl kind index : Nat) (s : State) : State :=
  match metaCached s sl kind index with
  | none => s
  | some m =>
    if !m.dirty then (metaDrop sl kind index s).log 0x35 sl
    else if kind = 1 then
      let pages := (List.range 4).map (fun k => pageAt sl (4 * index + k))
      let s := metaWrite sl 1 index lostLine (forAll pages losePage s)
      s.log 0x36 sl (cpaOf s (pages.headD 0 * 4096))
    else if kind = 0 then
      let page := pageAt sl index
      (losePage page s).log 0x36 sl (cpaOf s (page * 4096))
    else
      let s := metaDrop sl kind index s
      let s := if quarantined s sl kind index then s
        else { s with quarantine := (sl, kind, index) :: s.quarantine }.wrapAdd F.CRY_ALARM_COUNT.QUARANTINED
      s.log 0x37 sl 0 kind

/-- R440: SRAM_UE: kinds 0 to 6 are the metadata lines of a slice, 7 a way of its near cache. A line that the array does not
hold has no word to fail. -/
def execSramUe (slice : Fin 16) (kind : Fin 8) (index : BitVec 40) (s : State) : Host.Outcome State Fault Refusal :=
  if kind.val = 7 then
    let k := slice.val * 2 ^ 16 + index.toNat % 2 ^ 16
    if (s.near.get k).valid then .next ({ s with near := s.near.set k {} }.log 0x35 slice) else .next s
  else .next (metaSramUe slice kind index.toNat s)

/-- R439: lines of a slice's near cache, catalogue cache and counter and tree cache. -/
def sramLines (array : Nat) : Nat := [65536, 16384, 8192].getD array 1

/-- R439, R440: SRAM_SCRUB_STEP of an array, in SL0 and SL1; a correction is counted. -/
def execSramScrubStep (slice : Fin 16) (array : Fin 3) (corrected : Bool) (s : State) : Host.Outcome State Fault Refusal :=
  if s.asleep then .next s
  else
    let k := slice.val * 4 + array.val
    let s := { s with sramAt := s.sramAt.set k ((s.sramAt.get k + 1) % sramLines array) }
    .next (if corrected then s.bump (F.HA_SLICE_STATUS.CE slice) else s)

end Sys2Proof.Machine
end

