-- ==== Sys2Proof/Machine/Power.lean ====
section
/-!
DEFINITION. Performance levels (R373 to R375), sleep states with the stop sequence and the exit (R376 to R383), wake sources
(R381, R382, R472, R473), and the discipline of the timebase (R385, R386).
-/

namespace Sys2Proof.Machine

/-! ### Performance levels -/

/-- R374: the level that should be in force: the slower of REQUESTED and THERMAL_MIN. -/
def wantedLevel (s : State) : Nat := max (s.get F.PWR_PL_STATUS.REQUESTED) (s.get F.PWR_PL_STATUS.THERMAL_MIN)

/-- R369, R374: VDD_CORE is sent to a level's voltage. -/
def sendVoltage (level : Nat) (s : State) : State :=
  let mv := s.get (F.PWR_PL_CFG.VOLT_MV level)
  { s with pwr := { s.pwr with pl := { s.pwr.pl with volt := mv } } }.emit (.coreVoltage mv)

/-- R34, R374: the sequencer reserves the next transit for the switch of the clock. -/
def reserveTransit (s : State) : State :=
  { s with pwr := { s.pwr with pl := { s.pwr.pl with stage := .switching, reserved := some (s.transit + 1) } } }

/-- R374: the sequencer starts a change, if the level that should be in force is another: to a faster level the voltage rises
first. -/
def startPl (s : State) : State :=
  let t := wantedLevel s
  let cur := s.get F.PWR_PL_STATUS.CURRENT
  if s.pwr.pl.stage != .idle || t == cur || s.asleep then s
  else
    let s := { s with pwr := { s.pwr with pl := { s.pwr.pl with target := t, busySeen := true } } }
    let s := s.put F.PWR_PL_STATUS.BUSY 1
    if t < cur then sendVoltage t { s with pwr := { s.pwr with pl := { s.pwr.pl with stage := .raising } } }
    else reserveTransit s

/-- R374, R375: a change completes: the SET_PL that waits is answered with the level in force, and a change that a new limit calls
for begins. -/
def finishPl (s : State) : State :=
  let s := { s with pwr := { s.pwr with pl := { s.pwr.pl with stage := .idle, reserved := none } } }
  let s := (s.put F.PWR_PL_STATUS.BUSY 0).count 0xA01 0
  let s := match s.pwr.pl.waiting with
    | some p => answer p { result := s.get F.PWR_PL_STATUS.CURRENT }
        { s with pwr := { s.pwr with pl := { s.pwr.pl with waiting := none } } }
    | none => s
  startPl s

/-- R375: SET_PL. Levels 6 and 7 are out of range. -/
def setPl (p : Packet) (s : State) : Verdict × State :=
  let n := p.par 0 3
  if 5 < n then refuseRange 8 s
  else if s.flag F.PWR_PL_STATUS.BUSY then busy s
  else
    let s := startPl (s.put F.PWR_PL_STATUS.REQUESTED n)
    if s.flag F.PWR_PL_STATUS.BUSY then
      ({ later := true }, { s with pwr := { s.pwr with pl := { s.pwr.pl with waiting := some p } } })
    else ({ result := s.get F.PWR_PL_STATUS.CURRENT }, s)

/-- R375: SET_PL. -/
def execSetPl (p : Packet) (s : State) : Host.Outcome State Fault Refusal := .next (runCmd 0x0801 setPl p s)

/-- R374: PL_VOLTAGE_SETTLED. -/
def execPlVoltageSettled (s : State) : Host.Outcome State Fault Refusal :=
  match s.pwr.pl.stage with
  | .raising => .next (reserveTransit s)
  | .lowering => .next (finishPl s)
  | _ => .next s

/-- R374: PL_CLOCK_SWITCH, in the reserved transit; to a slower level the voltage falls afterwards. -/
def execPlClockSwitch (s : State) : Host.Outcome State Fault Refusal :=
  let pl := s.pwr.pl
  if pl.stage == .switching && !s.asleep && (match pl.reserved with | some t => decide (t ≤ s.transit) | none => false) then
    let slower := decide (s.get F.PWR_PL_STATUS.CURRENT < pl.target)
    let s := s.put F.PWR_PL_STATUS.CURRENT pl.target
    if slower then
      .next (sendVoltage pl.target { s with pwr := { s.pwr with pl := { s.pwr.pl with stage := .lowering, reserved := none } } })
    else .next (finishPl s)
  else .next s

/-- R375, R396: THERMAL_MIN changes; asleep it applies on exit. -/
def setThermalMin (n : Nat) (s : State) : State := startPl (s.put F.PWR_PL_STATUS.THERMAL_MIN n)

/-! ### The stop sequence -/

/-- R371: the configured SL3 load, in 0.05 mA. A slot is powered while its gate is driven. -/
def sleepLoad (s : State) : Nat :=
  let powered := ((List.range 16).filter (fun c => [2, 3, 4].contains (s.get (F.SPW_SLOT_STATUS.STATE c)))).length
  160 + 40 + 60 * s.get F.PWR_SL3_CFG.SIDEBAND + 16 * powered + 5 * s.get F.PWR_SL3_CFG.SURVEY

/-- R377: the first host link other than the one kept whose LDs are not all at rest. -/
def linkInUse (s : State) : Option Nat :=
  (List.range 16).find? (fun l => l != s.get F.PWR_SL3_CFG.LINK
    && (List.range 4).any (fun d => agentState s (4 * l + d) == 1 || agentState s (4 * l + d) == 2))

/-- R378: what refuses at once when the block is asked to stop. -/
def blockRefuses (s : State) (b : Nat) : Bool :=
  match b with
  | 2 => (List.range 32).any (fun r => s.flag (F.TIER_DMR_CTRL.ENABLE r)
      && s.get (F.TIER_DMR_HEAD.HEAD r) != s.get (F.TIER_DMR_TAIL.TAIL r))
  | 3 => (List.range 16).any (fun c => s.get (F.TIER_POOL_STATUS.EVAC c) % 2 == 1) || !s.walks.isEmpty || !s.walkQueue.isEmpty
      || !s.tier.freeing.isEmpty || s.moves.any (fun m => m.kind == .spill || m.kind == .unspill)
  | 4 => (List.range 32).any (fun n => cmpState s n == 3)
  | 5 => slots.any (fun m => agentState s m == 2 || agentState s m == 3)
      || s.regions.cells.any (fun c => c.2.cls == 2 && c.2.lease == 2)
  | 6 => (List.range 8).any (fun n => cryState s n == 3)
  | 8 => (List.range 16).any (fun c => s.flag (F.DC_TRN_CTRL.BUSY c) || (s.chans.get c).zeroing)
  | 9 => s.flag F.SEC_STATUS.FUSE_BUSY || s.flag F.SEC_STATUS.FLASH_BUSY
  | 10 => (List.range 16).any (fun c => [1, 2, 3, 5].contains (s.get (F.SPW_SLOT_STATUS.STATE c)))
  | _ => false

/-- R378: whether a block's work is done. -/
def blockDone (s : State) (b : Nat) : Bool :=
  match b with
  | 1 => !s.reqs.any (fun r => match r.src with | .host _ _ _ => true | _ => false)
  | 3 => s.moves.isEmpty
  | 4 => s.cmp.encoders.isEmpty && s.cmp.decoders.isEmpty && s.cmp.demoteQ.isEmpty && s.cmp.moverQ.isEmpty
      && s.cmp.waitDec.isEmpty
  | 5 => s.wb.isEmpty && s.snoops.isEmpty
  | _ => true

/-- R378: a block's budget in ns. -/
def blockBudget (target b : Nat) : Nat :=
  if b = 5 ∧ target = 3 then 2200000
  else [0, 20000, 0, 100000, 10000, 200000, 2000, 1000, 50000, 0, 0, 1000, 10000].getD b 0

/-- R168, R378: dirty metadata lines are written back, leaves before their ancestors. -/
def flushMeta : Nat → State → State
  | 0, s => s
  | fuel + 1, s =>
    match (List.range 7).findSome? (fun k => s.metaCache.find? (fun m => m.dirty && m.kind == k)) with
    | some m => flushMeta fuel (metaWriteBack m.slice m.kind m.index s)
    | none => s

/-- R378, block 0x05 for SL3: the caches are written back and empty. -/
def emptyCaches (s : State) : State :=
  let s := forAll (s.almanac.cells.map (·.1)) almEvict s
  let s := flushMeta (8 * (s.metaCache.length + 1)) s
  { s with metaCache := [], near := {} }

/-- R378, R380: the register fields that the retention store keeps of the crypto block: LOADS with the slots' states. -/
def retainedLoads (s : State) : List (Nat × Nat) :=
  s.regs.filter (fun c => decide (0x150100 ≤ c.1 / 64) && decide (c.1 / 64 < 0x150300))

/-- R378, R380: the register fields that the retention store keeps of the channels: DCn_DLY and DCn_MARK. -/
def retainedLanes (s : State) : List (Nat × Nat) :=
  s.regs.filter (fun c =>
    let a := c.1 / 64
    decide (0x200000 ≤ a) && decide (a < 0x300000) &&
      ((decide (0xB00 ≤ a % 0x10000) && decide (a % 0x10000 < 0xC40)) || (decide (0x200 ≤ a % 0x10000) && decide (a % 0x10000 < 0x240))))

/-- R293: a channel's ranks take every owed refresh and go into self-refresh. -/
def enterSelfRefresh (c : Nat) (s : State) : State :=
  if s.get (F.DC_CFG.FRAMES c) = 0 then s
  else
    forAll (List.range (ranksOf s c)) (fun k s =>
      let s := forAll (List.range (s.get (F.DC_REF_STATUS.OWED c k))) (fun _ s => issueRefab c k s) s
      let s := setRank c k (fun r => { r with selfRefresh := true, powerDown := false }) s
      sendDram c 1 (.sre k) (sendDram c 0 (.sre k) s))
      { s with chans := s.chans.upd c (fun ch => { ch with rows := [] }) }

/-- R293: a channel's ranks leave self-refresh, without debt. -/
def leaveSelfRefresh (c : Nat) (s : State) : State :=
  if s.get (F.DC_CFG.FRAMES c) = 0 then s
  else
    forAll (List.range (ranksOf s c)) (fun k s =>
      if !(rankAt s c k).selfRefresh then s
      else
        let s := setRank c k (fun r => { r with selfRefresh := false, converted := 0, lastRef := none, idleSince := s.now }) s
        let s := ((s.put (F.DC_REF_STATUS.OWED c k) 0).put (F.DC_REF_STATUS.ACC c k) 0).put (F.DC_REF_STATUS.BLOCKED c k) 0
        sendDram c 1 (.srx k) (sendDram c 0 (.srx k) s))
      { s with chans := s.chans.upd c (fun ch => { ch with planTb := s.now }) }

/-- R57, R378: every link that is up is at x1; for SL3 the others than the one kept are down. -/
def narrowLinks (target : Nat) (s : State) : State :=
  forAll (List.range 16) (fun l s =>
    let x := s.links.get l
    if !x.up then s
    else if target = 3 ∧ l ≠ s.get F.PWR_SL3_CFG.LINK then { s with links := s.links.set l { x with up := false, savedWidth := 0 } }
    else { s with links := s.links.set l { x with savedWidth := x.width, width := 1 } }) s

/-- R57, R383: links that are up return to the width held before entry. -/
def widenLinks (s : State) : State :=
  forAll (List.range 16) (fun l s =>
    let x := s.links.get l
    if x.up && x.savedWidth != 0 then { s with links := s.links.set l { x with width := x.savedWidth, savedWidth := 0 } } else s) s

/-- R378: what a block does as it stops. -/
def stopAction (target b : Nat) (s : State) : State :=
  match b with
  | 5 => if target = 3 then emptyCaches s else s
  | 6 =>
    let s := { s with keystreams := [] }
    if target = 3 then { s with pwr := { s.pwr with
      retained := some { keys := s.keys, salt := s.salt, kint := s.kint, roots := s.roots, fields := retainedLoads s } } }
    else s
  | 8 =>
    let s := { s with pwr := { s.pwr with
      retained := s.pwr.retained.map (fun r => { r with fields := r.fields ++ retainedLanes s }) } }
    forAll (List.range 16) enterSelfRefresh s
  | 12 => narrowLinks target s
  | _ => s

/-- R378, block 0x03: demotions and recompressions in flight abort. -/
def abortForSleep (s : State) : State :=
  forAll (s.moves.filter (fun m => m.kind == .demote)) abortHeld (forAll (s.moves.filter (fun m => m.kind == .recompress)) abortMove s)

/-- R376, R378: the blocks restart: rings fetch again, and requests that waited in ingress go on. -/
def releaseIngress (s : State) : State :=
  let s := forAll (List.range 32) (fun r s => fetchRing r (ringSize s r) s) s
  forAll s.ingress (fun x s => route x.1 x.2.1 x.2.2 s) { s with ingress := [] }

/-- R379: a block refused: the blocks that had stopped restart and the command is refused. -/
def stopRefused (x : SleepSt) (s : State) : State :=
  let s := { s with pwr := { s.pwr with sleep := none, latched := false, retained := none } }
  let s := if 8 < x.block then forAll (List.range 16) leaveSelfRefresh s else s
  let s := (s.put F.PWR_SL_STATUS.IN_ENTRY 0).put F.PWR_SL_STATUS.LAST_REFUSED x.block
  answer x.packet { status := 0x0B, det := detail 5 x.block } (settle (releaseIngress s))

/-- R378: a block is asked to stop. -/
def askBlock (x : SleepSt) (s : State) : State :=
  let x := { x with since := s.now }
  if blockRefuses s x.block then stopRefused x s
  else
    let s := { s with pwr := { s.pwr with sleep := some x } }
    if x.block = 3 then abortForSleep s else s

/-- R378, R380: the secrets of the core rails are gone in SL3; the retention store has their copies. -/
def loseCore (s : State) : State :=
  ({ s with
    keys := {}, salt := 0, kint := 0, roots := {}
    pwr := { s.pwr with lowPower := true, railsOff := true } }).emit (.rails false)

/-- R35: the units of the jobs that do not run in SL2 and SL3 are dropped; each such job runs once, at its next due transit, after
the return to SL0. -/
def dropUnits (s : State) : State :=
  let stays (job : Nat) : Bool := job == 0x0B || job == 0x0C
  { s with jobs := s.jobs.keep (fun k _ => stays (k / 256)), deferred := s.deferred.filter (fun u => stays u.1) }

/-- R369, R378, R382: every block has stopped: the reply, and the sleep state with its voltages; a wake that was latched starts the
exit at once. -/
def enterSleep (x : SleepSt) (s : State) : State :=
  let woken := s.pwr.latched
  let s := answer x.packet {} { s with pwr := { s.pwr with sleep := none, latched := false, entryTb := s.now } }
  let s := (s.put F.PWR_SL_STATUS.IN_ENTRY 0).put F.PWR_SL_STATUS.STATE x.target
  let s := s.wrapAdd F.PWR_SL_STATUS.ENTRIES
  let s := dropUnits s
  let s := if x.target = 3 then loseCore s
    else (s.emit (.coreVoltage (s.get (F.PWR_PL_CFG.VOLT_MV 5)))).emit (.sramVoltage 600)
  if woken then beginExit s else s

/-- R377: SLEEP. -/
def sleepCmd (p : Packet) (s : State) : Verdict × State :=
  let t := p.par 0 2
  if s.pwr.sleep.isSome then busy s
  else if t = 0 then refuseRange 8 s
  else if 2 ≤ t ∧ s.get F.CLU_STATUS.STATE ≠ 0 then refuseState (ownPath s) s
  else if s.flag F.PWR_PL_STATUS.BUSY then refuseConflict 0 s
  else if t = 1 then ok (s.put F.PWR_SL_STATUS.STATE 1)
  else
    match (if t = 3 then linkInUse s else none) with
    | some l => refuseState l s
    | none =>
      if t = 3 ∧ 620 < sleepLoad s then refuseLimit 0 s
      else
        let x : SleepSt := { packet := p, target := t, from1 := sleepState s == 1, block := 1, since := s.now }
        ({ later := true }, askBlock x (s.put F.PWR_SL_STATUS.IN_ENTRY 1))

/-- R377: SLEEP. -/
def execSleep (p : Packet) (s : State) : Host.Outcome State Fault Refusal := .next (runCmd 0x0802 sleepCmd p s)

/-- R378: BLOCK_STOP_COMPLETE: the block being stopped has stopped. -/
def execBlockStopComplete (s : State) : Host.Outcome State Fault Refusal :=
  match s.pwr.sleep with
  | none => .next s
  | some x =>
    if !blockDone s x.block then .next s
    else
      let s := stopAction x.target x.block s
      if 12 ≤ x.block then .next (enterSleep x s) else .next (askBlock { x with block := x.block + 1 } s)

/-- R378: STOP_BUDGET_EXPIRY: a block that can refuse has not stopped within its budget. -/
def execStopBudgetExpiry (s : State) : Host.Outcome State Fault Refusal :=
  match s.pwr.sleep with
  | none => .next s
  | some x =>
    let stopped := [1, 3, 4, 5].contains x.block && blockDone s x.block
    if [2, 7, 9, 10, 11].contains x.block || stopped || decide (s.since x.since < blockBudget x.target x.block) then .next s
    else .next (stopRefused x s)

/-! ### Wake and exit -/

/-- R472, R473: WAKE_PIN. -/
def execWakePin (pin : Fin 2) (s : State) : Host.Outcome State Fault Refusal := .next (wakeFrom (4 + pin.val) s)

/-- R381: WAKE_TIMER, once for a value of the register. -/
def execWakeTimer (s : State) : Host.Outcome State Fault Refusal :=
  let t := s.get F.PWR_WAKE_TIMER.TB
  if t = 0 ∨ s.now < t ∨ s.pwr.timerDone = t then .next s
  else .next (wakeRaw 3 { s with pwr := { s.pwr with timerDone := t } })

/-- R473: WAKE_MASK_CLEAR. -/
def execWakeMaskClear (src : Fin 10) (s : State) : Host.Outcome State Fault Refusal :=
  .next { s with pwr := { s.pwr with
    masked := s.pwr.masked.filter (fun m => m.1 != src.val || decide (s.since m.2 < 1000000000)) } }

/-- R383, R386: PLL_LOCK during an exit: TB counts finely again. -/
def execPllLock (s : State) : Host.Outcome State Fault Refusal :=
  if s.pwr.exiting = some 0 then
    let s := { s with pwr := { s.pwr with exiting := some 1 } }
    .next (if (ptmLink s).isNone then s.put F.TB_STATUS.COARSE 0 else s)
  else .next s

/-- R380, R383: the retention store is restored and zeroized. An uncorrectable word costs every stored content. -/
def restore (ue : Bool) (s : State) : State :=
  match s.pwr.retained with
  | none => s
  | some r =>
    let s := { s with pwr := { s.pwr with retained := none } }
    if ue then lostRegionsEvent (cryptoReset (s.log 0x62))
    else
      let s := { s with keys := r.keys, salt := r.salt, kint := r.kint, roots := r.roots }
      { s with regs := r.fields.foldl (fun l c => cellInsert c.1 c.2 l) s.regs }

/-- R375: a THERMAL_MIN that changed in SL2 or SL3 applies before SL0 is reported. -/
def applyLevel (s : State) : State :=
  let t := wantedLevel s
  if t = s.get F.PWR_PL_STATUS.CURRENT then s else sendVoltage t (s.put F.PWR_PL_STATUS.CURRENT t)

/-- R383, R444: SL_EXIT_COMPLETE. -/
def execSlExitComplete (retentionUe : Bool) (s : State) : Host.Outcome State Fault Refusal :=
  if s.pwr.exiting = some 1 then
    let from3 := sleepState s == 3
    let s := if from3 then restore retentionUe s else s
    let s := applyLevel (widenLinks (forAll (List.range 16) leaveSelfRefresh s))
    let s := { s with pwr := { s.pwr with exiting := none, latched := false } }
    let s := (s.count 0x002 0 (s.since s.pwr.entryTb)).put F.PWR_SL_STATUS.STATE 0
    .next (settle (releaseIngress (s.log 0x8F 0 0 (s.get F.PWR_WAKE_STATUS.SRC))))
  else .next s

/-! ### The timebase -/

/-- A signed value held within `w` bits. -/
def saturate (w : Nat) (v : Int) : Int := max (-(2 ^ (w - 1))) (min (2 ^ (w - 1) - 1) v)

/-- R385, R386: PTM_EXCHANGE: the measured offset of the PTM master. -/
def execPtmExchange (offset : Int) (s : State) : Host.Outcome State Fault Refusal :=
  match ptmLink s with
  | none => .next (s.put F.TB_STATUS.SOURCE 0)
  | some l =>
    let t := s.time
    if s.asleep || (t.lastPtm != 0 && decide (s.since t.lastPtm < s.get F.TB_DISC.INTERVAL_MS * 1000000)) then .next s
    else
      let base := if t.link = some l then t.base else if t.link.isNone then 0 else offset
      let o := offset - base
      let good := if -200 < o ∧ o < 200 then t.good + 1 else 0
      let s := (s.put F.TB_STATUS.SOURCE 1).put F.TB_STATUS.PTM_LINK l
      let s := s.put F.TB_DISC.OFFSET_NS (ofSigned 32 (saturate 32 offset))
      let s := s.put F.TB_STATUS.LOCKED (bit (decide (8 ≤ good)))
      let s := if -1000 < o ∧ o < 1000 then s.put F.TB_STATUS.COARSE 0 else s
      if 10000 ≤ o then
        .next ({ s with time := { t with good, base, link := some l, lastPtm := s.now, step := o.toNat, slew := 0 } }.put
          F.TB_STATUS.SLEWING 0)
      else
        .next ({ s with time := { t with good, base, link := some l, lastPtm := s.now, slew := o } }.put
          F.TB_STATUS.SLEWING (bit (o != 0)))

/-- R386: XTAL_TRIM_UPDATE, every 2^20 crystal ticks while LOCKED. -/
def execXtalTrimUpdate (trim : BitVec 32) (s : State) : Host.Outcome State Fault Refusal :=
  if s.flag F.TB_STATUS.LOCKED ∧ !s.asleep ∧ 2 ^ 20 * 40 ≤ s.since s.time.trimTb then
    .next ({ s with time := { s.time with trimTb := s.now } }.put F.TB_XTAL.TRIM trim.toNat)
  else .next s

end Sys2Proof.Machine
end

