-- ==== Sys2Proof/Machine/Pmu.lean ====
section
/-!
DEFINITION. The counter bank (R442 to R452): clock and amount events, the slot accounts of DRAM channels, configuration, storage
errors, plates and user pages; and the passage of time (R384 to R387), which moves the timebase and the counters together.
-/

namespace Sys2Proof.Machine

/-! ### Slot accounting -/

/-- R284, R448: whether a channel's whole bandwidth goes to training or zero initialisation. -/
def channelBusy (s : State) (c : Nat) : Bool :=
  (s.flag (F.DC_TRN_CTRL.BUSY c) && (s.chans.get c).trn.1 != 8) || (s.chans.get c).zeroing

/-- R448: whether a rank is BLOCKED, or within the time of its last refresh. -/
def rankRefreshes (s : State) (c k : Nat) : Bool := s.flag (F.DC_REF_STATUS.BLOCKED c k) || refreshing s c k

/-- R448: the bucket of a slot of a subchannel that carries no burst of a queue. Which of TURN and BANK it is, the model tells by
whether the oldest request hits an open row (DEDUCED, log entry 43). -/
def idleBucket (s : State) (c sc : Nat) : Nat :=
  let q := subOf s c sc
  let all := q.reads ++ q.writes
  let oldest := all.foldl (fun (best : Option DramReq) d => match best with
    | some b => if d.since < b.since then some d else some b
    | none => some d) none
  if channelBusy s c then 2
  else if !(s.chans.get c).live then 7
  else
    match oldest with
    | some d =>
      if rankRefreshes s c (entryPlace s c d).rank || !slotLeft s c then 3
      else if rowHit s c d then 4
      else 5
    | none =>
      if s.reqs.any (fun r => r.throttled && r.stage == .admission && targetOf s r == some (c, sc)) then 6 else 7

/-- R448: `n` slots of a bucket. -/
def addSlots (c bucket n : Nat) (s : State) : State :=
  if n = 0 then s
  else
    { s with chans := s.chans.upd c (fun ch => { ch with
        buckets := ch.buckets.set bucket (ch.buckets.getD bucket 0 + n) }) }.count (0x7A0 + bucket) c n

/-- R448: the next `n` slots of a channel go by: the bursts that wait are counted first, and the rest as what each subchannel
does now. -/
def passSlots (c n : Nat) (s : State) : State :=
  let now := (s.chans.get c).bursts.take n
  let s := { s with chans := s.chans.upd c (fun ch => { ch with bursts := ch.bursts.drop n }) }
  let s := forAll (List.range 3) (fun b s => addSlots c b (now.filter (· == b)).length s) s
  let rest := n - now.length
  addSlots c (idleBucket s c 1) (rest / 2) (addSlots c (idleBucket s c 0) (rest - rest / 2) s)

/-- R448: slots of a channel go by in `n` ns. -/
def runSlots (c n : Nat) (s : State) : State :=
  let acc := (s.chans.get c).slotAcc + n * s.get (F.DC_SLOTS.SLOTS c)
  passSlots c (acc / 1000) { s with chans := s.chans.upd c (fun ch => { ch with slotAcc := acc % 1000 }) }

/-- R448: job 0x03 copies a channel's totals of the transit that ends. Slots that its time did not show are counted here, so that
the buckets sum to SLOTS. -/
def snapshotSlots (c : Nat) (s : State) : State :=
  let gone := sumOf (s.chans.get c).buckets
  let s := passSlots c (s.get (F.DC_SLOTS.SLOTS c) - gone) s
  let b (k : Nat) : Nat := (s.chans.get c).buckets.getD k 0
  let s := (((s.put (F.PMU_SLOT_A.RD c) (b 0)).put (F.PMU_SLOT_A.WR c) (b 1)).put (F.PMU_SLOT_A.MAINT c) (b 2)).put
    (F.PMU_SLOT_A.REFRESH c) (b 3)
  let s := (((s.put (F.PMU_SLOT_B.TURN c) (b 4)).put (F.PMU_SLOT_B.BANK c) (b 5)).put (F.PMU_SLOT_B.THROTTLED c) (b 6)).put
    (F.PMU_SLOT_B.IDLE c) (b 7)
  { s with chans := s.chans.upd c (fun ch => { ch with buckets := List.replicate 8 0, slotAcc := 0 }) }

/-- R449: the figures of a channel over the transit of its snapshot: data bandwidth in MB/s, and the slots of the data, device-bound,
regulation-bound, demand-bound and maintenance shares, each a share of SLOTS. -/
def channelFigures (s : State) (c : Nat) : Nat × List Nat :=
  let data := s.get (F.PMU_SLOT_A.RD c) + s.get (F.PMU_SLOT_A.WR c)
  (64 * data,
    [data, s.get (F.PMU_SLOT_A.REFRESH c) + s.get (F.PMU_SLOT_B.TURN c) + s.get (F.PMU_SLOT_B.BANK c),
      s.get (F.PMU_SLOT_B.THROTTLED c), s.get (F.PMU_SLOT_B.IDLE c), s.get (F.PMU_SLOT_A.MAINT c)])

/-- R448: the snapshot of job 0x03, for the transit that ended. -/
def snapshotAll (transit : Nat) (s : State) : State :=
  (forAll (List.range 16) snapshotSlots s).put F.PMU_SLOT_TRANSIT.TRANSIT transit

/-! ### Clock and amount events -/

/-- R445: instances of a class of events. -/
def eventInstances (ev : Nat) : Nat :=
  match ev / 256 with
  | 1 => 64
  | 2 => 4
  | 3 => 16
  | 4 => if ev = 0x406 then 32 else 16
  | 5 => 32
  | 6 => 8
  | 7 => 16
  | 8 => 72
  | _ => 1

/-- R445: the event numbers. -/
def definedEvent (ev : Nat) : Bool :=
  let n := ev % 256
  match ev / 256 with
  | 0 => decide (1 ≤ n ∧ n ≤ 4)
  | 1 => decide (1 ≤ n ∧ n ≤ 6)
  | 2 => decide (1 ≤ n ∧ n ≤ 6)
  | 3 => decide (1 ≤ n ∧ n ≤ 8)
  | 4 => decide (1 ≤ n ∧ n ≤ 6)
  | 5 => decide (1 ≤ n ∧ n ≤ 3)
  | 6 => decide (1 ≤ n ∧ n ≤ 3)
  | 7 => decide (1 ≤ n ∧ n ≤ 7) || decide (0xA0 ≤ n ∧ n ≤ 0xA7)
  | 8 => decide (1 ≤ n ∧ n ≤ 4)
  | 9 => decide (1 ≤ n ∧ n ≤ 2)
  | 10 => decide (1 ≤ n ∧ n ≤ 2)
  | _ => false

/-- R445: what an event adds in a fabric clock, for the events counted by the clock. -/
def clockAmount (s : State) (ev i : Nat) : Nat :=
  match ev with
  | 0x001 => 1
  | 0x104 =>
    bit ((s.links.get (linkOfSlot i)).credits == 0 && s.snoops.any (fun n => !n.sent && hanOf s i == some n.han))
  | 0x106 => bit (ingressFull s i false || ingressFull s i true)
  | 0x205 =>
    let x := portSt s i
    bit (portState s i == 6 && x.txq.any (fun f => !hasCredit x f.vc))
  | 0x308 => bit (!wbRoom s i)
  | 0x405 => (s.moves.filter (fun m => pageSlice m.page == i)).length
  | 0x503 => bit (s.cmp.encoders.any (fun e => e.1 == i) || s.cmp.decoders.any (fun d => d.1 / 4 + 8 == i))
  | 0x602 =>
    bit (s.keystreams.any (fun k => k.1 == i && !k.2.ready && (match reqAt s k.2.req with
      | some r => (r.units[k.2.unit]?.map (·.got)).getD false
      | none => false)))
  | 0x707 => (subOf s i 0).reads.length + (subOf s i 1).reads.length
  | 0x804 => bit (s.reqs.any (fun r => r.master == i && r.throttled && r.stage == .admission))
  | _ => 0

/-- R443 to R445: `k` fabric clocks go by. -/
def runClocks (k : Nat) (s : State) : State :=
  forAll (enabledCtrs s) (fun n s =>
    let ev := s.get (F.PMU_CTR_CFG.EVENT n)
    let sum :=
      if wholeEvent ev then clockAmount s ev 0
      else if s.flag (F.PMU_CTR_CFG.ALL n) then sumOf ((List.range (eventInstances ev)).map (clockAmount s ev))
      else clockAmount s ev (s.get (F.PMU_CTR_CFG.INSTANCE n))
    if (n != 0 && s.flag (F.PMU_CTR_CFG.CHAIN n)) || sum == 0 then s else addCounter n (k * sum) 256 s) s

/-- R387, R444: whether the fabric clock runs: not in SL2 and SL3, and in SL1 only while there is work. -/
def clockRuns (s : State) : Bool :=
  !s.asleep && !(sleepState s == 1 && s.reqs.isEmpty && s.jobs.cells.isEmpty)

/-- R384, R443, R448: `n` ns of TB go by, with the fabric clocks and the slots that fall in them. -/
def elapse (n : Nat) (s : State) : State :=
  if n = 0 then s
  else
    let runs := clockRuns s
    let awake := !s.asleep
    let s := advanceTb n s
    let s :=
      if runs then
        let clocks := s.time.clock + clocksPerTransit s * n
        runClocks (clocks / 1000) { s with time := { s.time with clock := clocks % 1000 } }
      else s
    if awake then forAll (List.range 16) (fun c s => runSlots c n s) s else s

/-! ### Discipline in time -/

/-- R386: one crystal edge in SL2 and SL3. -/
def crystalEdge (s : State) : State :=
  let acc := s.time.acc + toSigned 32 (s.get F.TB_XTAL.TRIM)
  let (n, acc) :=
    if 2 ^ 32 < acc then (41, acc - 2 ^ 32) else if acc < -(2 ^ 32) then (39, acc + 2 ^ 32) else (40, acc)
  (advanceTb n { s with time := { s.time with acc } }).put F.TB_STATUS.COARSE 1

/-- R385: an offset is slewed out at 500 ppm: one ns in every 2000. -/
def slewNs (s : State) : State :=
  if s.time.slew = 0 then s
  else
    let k := s.time.slewAcc + 1
    if k < 2000 then { s with time := { s.time with slewAcc := k } }
    else
      let d : Int := if 0 < s.time.slew then 1 else -1
      let s := { s with time := { s.time with slewAcc := 0, slew := s.time.slew - d } }
      let s := if s.time.slew = 0 then s.put F.TB_STATUS.SLEWING 0 else s
      if d = 1 then elapse 1 s else s

/-- R385: whether this ns is the one left out to bring TB back. -/
def skipsNs (s : State) : Bool := decide (s.time.slew < 0) && decide (1999 ≤ s.time.slewAcc)

/-- R385: a forward step at a transit boundary: time events count it, and the refresh reference moves with it. -/
def stepTb (s : State) : State :=
  let n := s.time.step
  if n = 0 ∨ s.asleep then s
  else
    let s := (advanceTb n { s with time := { s.time with step := 0 } }).put F.TB_STATUS.STEPPED 1
    forAll (List.range 16) (fun c s =>
      { s with chans := s.chans.upd c (fun ch => { ch with planTb := ch.planTb + n }) }) s

/-- R384 to R386, R471: the time between two commands: a ns of TB, or a crystal edge while the PLL is stopped. Without VAUX_1V8
there is none. -/
def tick (s : State) : State :=
  if s.rst.off then s
  else if s.asleep && s.pwr.exiting != some 1 then crystalEdge s
  else
    let skip := skipsNs s
    let s := slewNs s
    let s := if skip then s else elapse 1 s
    forAll (List.range 4) portSlot (pump s)

/-! ### Configuration -/

/-- R446: the byte offset, within an entry, of its first fault. -/
def pmuFault (seen : List Nat) (b : List Nat) : Option Nat :=
  let n := fieldLE b 0 2
  let cfg := fieldLE b 8 8
  let ev := slice cfg 0 12
  let chain := slice cfg 62 1 == 1
  if 255 < n ∨ seen.contains n then some 0
  else if fieldLE b 2 6 ≠ 0 then some 2
  else if !chain && !definedEvent ev then some 8
  else if slice cfg 12 4 ≠ 0 then some 9
  else if !chain && definedEvent ev && slice cfg 24 1 == 0 && !wholeEvent ev && decide (eventInstances ev ≤ slice cfg 16 8) then some 10
  else if slice cfg 25 35 ≠ 0 then some 11
  else none

/-- R446: the packet offset of the first fault of a list of entries. -/
def pmuFaults : List (List Nat) → List Nat → Nat → Option Nat
  | [], _, _ => none
  | b :: rest, seen, at_ =>
    match pmuFault seen b with
    | some o => some (at_ + o)
    | none => pmuFaults rest (seen ++ [fieldLE b 0 2]) (at_ + 16)

/-- R446: a counter is configured and starts from 0. -/
def setCounter (n cfg : Nat) (s : State) : State :=
  let s := (((s.put (F.PMU_CTR_CFG.ENABLE n) (slice cfg 63 1)).put (F.PMU_CTR_CFG.CHAIN n) (slice cfg 62 1)).put
    (F.PMU_CTR_CFG.PLATE_ON_OVF n) (slice cfg 61 1)).put (F.PMU_CTR_CFG.USER n) (slice cfg 60 1)
  let s := ((s.put (F.PMU_CTR_CFG.ALL n) (slice cfg 24 1)).put (F.PMU_CTR_CFG.INSTANCE n) (slice cfg 16 8)).put
    (F.PMU_CTR_CFG.EVENT n) (slice cfg 0 12)
  ((s.put (F.PMU_CTR_VALUE.VALUE n) 0).put (F.PMU_CTR_VALUE.VALID n) 1).put (F.PMU_CTR_VALUE.OVF n) 0

/-- R446: PMU_CONFIG. -/
def pmuConfig (p : Packet) (s : State) : Verdict × State :=
  let entries := chunks 16 256 p.bytes
  if p.length.toNat % 16 ≠ 0 ∨ p.length = 0 then refuseRange 6 s
  else
    match pmuFaults entries [] 0x10 with
    | some o => refuseRange o s
    | none => ok (forAll entries (fun b s => setCounter (fieldLE b 0 2) (fieldLE b 8 8) s) s)

/-- R450: PMU_PLATE: the result is the plate's number. -/
def pmuPlate (_p : Packet) (s : State) : Verdict × State :=
  let s := takePlate 1 0 s
  ({ result := s.get F.PMU_STATUS.PLATE_NO }, s)

/-- R61, R452: the user page of a local slot opens or closes. -/
def userPage (m : Nat) (on : Bool) (s : State) : State :=
  { s with lds := s.lds.upd m (fun l => { l with userPage := on }) }.put (F.AQ_PMU_LOC.OPEN m) (bit on)

/-- R452: PMU_USER_PAGE. -/
def pmuUserPage (p : Packet) (s : State) : Verdict × State := ok (userPage (p.par 0 6) (p.par 8 1 == 1) s)

/-- R452: byte-aligned word `o` / 8 of a local slot's user page. -/
def userPageWord (s : State) (m o : Nat) : Nat :=
  if !(s.lds.get m).userPage then 0
  else if o < 0x800 then (if s.flag (F.PMU_CTR_CFG.USER (o / 8)) then ctrWord s (o / 8) else 0)
  else if o < 0x900 then
    let c := (o - 0x800) / 16
    if o % 16 < 8 then
      s.get (F.PMU_SLOT_A.RD c) + s.get (F.PMU_SLOT_A.WR c) * 2 ^ 16 + s.get (F.PMU_SLOT_A.MAINT c) * 2 ^ 32
        + s.get (F.PMU_SLOT_A.REFRESH c) * 2 ^ 48
    else
      s.get (F.PMU_SLOT_B.TURN c) + s.get (F.PMU_SLOT_B.BANK c) * 2 ^ 16 + s.get (F.PMU_SLOT_B.THROTTLED c) * 2 ^ 32
        + s.get (F.PMU_SLOT_B.IDLE c) * 2 ^ 48
  else if o < 0x908 then s.get F.PMU_SLOT_TRANSIT.TRANSIT
  else 0

/-! ### The rows -/

/-- R446: PMU_CONFIG. -/
def execPmuConfig (p : Packet) (s : State) : Host.Outcome State Fault Refusal := .next (runCmd 0x0A01 pmuConfig p s)
/-- R450: PMU_PLATE. -/
def execPmuPlate (p : Packet) (s : State) : Host.Outcome State Fault Refusal := .next (runCmd 0x0A02 pmuPlate p s)
/-- R452: PMU_USER_PAGE, open. -/
def execPmuUserPageOpen (p : Packet) (s : State) : Host.Outcome State Fault Refusal :=
  .next (runCmd 0x0A03 pmuUserPage (p.withPar 8 1 1) s)
/-- R452: PMU_USER_PAGE, close. -/
def execPmuUserPageClose (p : Packet) (s : State) : Host.Outcome State Fault Refusal :=
  .next (runCmd 0x0A03 pmuUserPage (p.withPar 8 1 0) s)

/-- R446: PMU_VALUE_WRITE by the management processor: the counter is armed again. -/
def execPmuValueWrite (ctr : Fin 256) (value : BitVec 48) (s : State) : Host.Outcome State Fault Refusal :=
  .next (((s.put (F.PMU_CTR_VALUE.VALUE ctr) value.toNat).put (F.PMU_CTR_VALUE.VALID ctr) 1).put (F.PMU_CTR_VALUE.OVF ctr) 0)

/-- R450: PMU_PLATE_WRITE: PMU_CTRL.PLATE is written 1. -/
def execPmuPlateWrite (s : State) : Host.Outcome State Fault Refusal := .next (takePlate 2 0 s)

/-- R443: COUNTER_WRAP: an enabled counter whose increment passes its last value; an increment that does not wrap it is no
wrap. -/
def execCounterWrap (ctr : Fin 256) (inc : BitVec 48) (s : State) : Host.Outcome State Fault Refusal :=
  if 2 ^ 48 ≤ s.get (F.PMU_CTR_VALUE.VALUE ctr) + inc.toNat then .next (addCounter ctr inc.toNat 256 s) else .next s

/-- R447: PMU_UE: a counter's word cannot be corrected. -/
def execPmuUe (ctr : Fin 256) (s : State) : Host.Outcome State Fault Refusal :=
  if !s.flag (F.PMU_CTR_VALUE.VALID ctr) then .next s
  else .next (((s.put (F.PMU_CTR_VALUE.VALID ctr) 0).bump F.PMU_STATUS.UE).log 0x38 ctr)

/-- R450: PERIODIC_PLATE, in a transit that is a multiple of 1000 × PERIOD_MS. Plates are not made up in SL2 and SL3. -/
def execPeriodicPlate (s : State) : Host.Outcome State Fault Refusal :=
  let ms := s.get F.PMU_CTRL.PERIOD_MS
  if ms = 0 ∨ s.asleep ∨ s.transit % (1000 * ms) ≠ 0 then .next s else .next (takePlate 3 0 s)

end Sys2Proof.Machine
end

