-- ==== Sys2Proof/Machine/Slots.lean ====
section
/-!
DEFINITION. Slot power (R414 to R423): starting, power-good, current limit and faults, switching off, metering; and module
identity by the SPD engine (R424, R425).
-/

namespace Sys2Proof.Machine

/-- The state of a slot: 0 OFF, 1 DELAY, 2 RAMP, 3 SETTLE, 4 ON, 5 DOWN, 6 LATCHED. -/
def slotState (s : State) (c : Nat) : Nat := s.get (F.SPW_SLOT_STATUS.STATE c)

/-- A slot changed beside its registers. -/
def setSlot (c : Nat) (f : SlotSt → SlotSt) (s : State) : State := { s with spw := s.spw.upd c f }

/-- A slot enters a state now. -/
def slotGo (c st : Nat) (s : State) : State :=
  setSlot c (fun x => { x with since := s.now }) (s.put (F.SPW_SLOT_STATUS.STATE c) st)

/-- R415: whether the gate is driven. -/
def gateDriven (s : State) (c : Nat) : Bool := [2, 3, 4].contains (slotState s c)

/-- R419, R420: whether the channel serves. -/
def serving (s : State) (c : Nat) : Bool := s.flag (F.DC_CFG.ENABLE c) && s.get (F.TIER_POOL_STATUS.EVAC c) != 2

/-- R457, R460: the reset domain of a channel resets alone: its registers and its controller. -/
def resetChannel (c : Nat) (s : State) : State :=
  let s := { s with
    regs := s.regs.filter (fun r => domainOfKey r.1 != Domain.chan c)
    chans := s.chans.set c { planTb := s.now } }
  let s := (s.put F.PWR_RESET_CAUSE.CHAN (s.get F.PWR_RESET_CAUSE.CHAN ||| 2 ^ c)).put F.PWR_RESET_CAUSE.LAST 6
  setSlot c (fun x => { x with enabled := false }) s

/-- The pages of the catalogue lines that are held, cached or stored. -/
def heldPages (s : State) : List Nat :=
  let cached := (s.metaCache.filter (fun m => m.kind == 1)).map (fun m => (m.slice, m.index))
  let stored := (s.metaSto.cells.filter (fun x => x.1 / 2 ^ 40 % 8 == 1)).map (fun x => (x.1 / 2 ^ 43, x.1 % 2 ^ 40))
  ((cached ++ stored).eraseDups.map (fun l => (List.range 4).map (fun k => pageAt l.1 (4 * l.2 + k)))).flatten

/-- R102: whether a place lies in a channel. -/
def inChannel (c : Nat) (l : Loc) : Bool :=
  match l with
  | .frame d _ => d == c
  | .run d _ _ => d == c
  | _ => false

/-- R102: a slice's band is lost with its channel, its catalogue not yet copied: every page of the slice becomes LOST. -/
def loseBand (sl : Nat) (s : State) : State :=
  let mine := (heldPages s).filter (fun p => pageSlice p == sl)
  let s := forAll mine discardPage s
  { s with
    metaCache := s.metaCache.filter (fun m => !(m.slice == sl && m.kind == 1))
    metaSto := s.metaSto.keep (fun k _ => !(k / 2 ^ 40 == sl * 8 + 1))
    tier := { s.tier with bandLost := sl :: s.tier.bandLost } }

/-- R102: a channel fails during its evacuation. The pages that have storage in it become LOST, and where its slice's band lies in it
still every page of that slice; each page whose entry was held is logged. That the loss of the modules' contents is the failure, and
that LINE_LOST logs it, is DEDUCED (log entry 151). -/
def channelFails (c : Nat) (s : State) : State :=
  let band := !s.flag (F.TIER_POOL_STATUS.METAMOVED c)
  let hit := (heldPages s).filter (fun p =>
    inChannel c (pageLoc s p) || (band && pageSlice p == c && decide (pageKind s p ≠ 0)))
  let s := forAll hit (fun p s => s.log 0x32 (pageSlice p) (cpaOf s (p * 4096))) s
  let s := forAll (hit.filter (fun p => !(band && pageSlice p == c))) losePage s
  if band then loseBand c s else s

/-- R76, R79, R196, R400, R419: the metadata lines, backing entries and stamps that the bands in a channel held are as open as the cells
they lay in. -/
def loseTables (c : Nat) (s : State) : State :=
  let free (k : Nat) : BitVec 640 := Config.lostCell s.freeCtr (2 ^ 64 + k)
  let dirLost (line : Nat) : Bool := (dirPlace s (line / 2 ^ 28) (line % 2 ^ 28)).1 == c
  let metaLost (k : Nat) : Bool := (metaPlace s (k / 2 ^ 43) (k / 2 ^ 40 % 8) (k % 2 ^ 40)).1 == c
  let dir := s.dir.cells.filter (fun x => dirLost (x.1 / 8))
  let stamps := s.stamps.cells.filter (fun x => dirLost x.1)
  let stored := s.metaSto.cells.filter (fun x => metaLost x.1)
  let s := forAll dir (fun x s => { s with dir := s.dir.set x.1 ((free x.1).truncate 64) }) s
  let s := forAll stamps (fun x s => { s with stamps := s.stamps.set x.1 (((free x.1).toNat / 2 ^ 64) % 2 ^ 32 + 1) }) s
  let line (k : Nat) : MetaSto := { val := (free k).truncate 512, tag := (free k).toNat / 2 ^ 512 % 2 ^ 48 }
  forAll stored (fun x s => { s with metaSto := s.metaSto.set x.1 (some (line x.1)) }) s

/-- R400, R419: a channel's modules lose power, and every line they stored; what such a line reads is open. -/
def loseContents (c : Nat) (s : State) : State :=
  let s := if s.get (F.TIER_POOL_STATUS.EVAC c) = 1 then channelFails c s else s
  let mine := s.dram.cells.filter (fun x => x.1 / 2 ^ 34 == c)
  loseTables c (forAll mine (fun x s => { s with dram := s.dram.set x.1 (Config.lostCell s.freeCtr x.1) }) s.drawn)

/-! ### Starting -/

/-- R416: whether a module is present. -/
def present (s : State) (c : Nat) : Bool := s.flag (F.SPW_SLOT_STATUS.PRSNT0 c) || s.flag (F.SPW_SLOT_STATUS.PRSNT1 c)

/-- R416: an accepted request starts its slot once every condition holds; an evacuated channel whose configuration is locked is
reset first. The window of VIN is read with its hysteresis (DEDUCED, log entry 44). -/
def tryStart (c : Nat) (s : State) : State :=
  let x := s.spw.get c
  if slotState s c ≠ 0 || !x.armed || !present s c || !x.vinOpen then s
  else
    let s := if s.flag (F.DC_CFG.LOCK c) && s.get (F.TIER_POOL_STATUS.EVAC c) == 2 then resetChannel c s else s
    if s.flag (F.DC_CFG.LOCK c) then s else slotGo c 1 s

/-- R416: INSERTION_DELAY_EXPIRY. -/
def execInsertionDelayExpiry (slot : Fin 16) (s : State) : Host.Outcome State Fault Refusal :=
  let c := slot.val
  if slotState s c = 1 ∧ s.get (F.SPW_SLOT_CFG.INS_DELAY c) * 10000000 ≤ s.since (s.spw.get c).since then .next (slotGo c 2 s)
  else .next s

/-- R417, R418: SLOT_FULLY_ON: from RAMP, or in SETTLE after a current limit released. -/
def execSlotFullyOn (slot : Fin 16) (s : State) : Host.Outcome State Fault Refusal :=
  let c := slot.val
  if s.flag (F.SPW_SLOT_STATUS.LIMITING c) then .next s
  else if slotState s c = 2 ∨ (slotState s c = 3 ∧ !(s.spw.get c).fully) then
    .next (setSlot c (fun x => { x with fully := true }) (slotGo c 3 s))
  else .next s

/-- R418: PG_DELAY_EXPIRY: power-good rises, unless the fault timer runs. -/
def execPgDelayExpiry (slot : Fin 16) (s : State) : Host.Outcome State Fault Refusal :=
  let c := slot.val
  let x := s.spw.get c
  if slotState s c = 3 ∧ x.fully ∧ x.timer.isNone ∧ s.get (F.SPW_SLOT_CFG.PG_DELAY c) * 100000 ≤ s.since x.since then
    let s := ((slotGo c 4 s).put (F.SPW_SLOT_STATUS.PG c) 1).put (F.SPW_SLOT_STATUS.SPD_ERR c) 0
    .next (setSlot c (fun x => { x with armed := false, pgTb := some s.now }) s)
  else .next s

/-! ### Switching off -/

/-- R415, R418, R420: the gate goes off, and with it power-good, the limit, the timer, the SPD mirror and the modules' contents. -/
def gateOff (c st : Nat) (s : State) : State :=
  let driven := gateDriven s c
  let s := ((slotGo c st s).put (F.SPW_SLOT_STATUS.PG c) 0).put (F.SPW_SLOT_STATUS.SPD_DONE c) 0
  let s := (s.put (F.SPW_SLOT_STATUS.LIMITING c) 0).put (F.SPW_SLOT_STATUS.TIMER c) 0
  let s := setSlot c (fun x => { x with timer := none, fully := false, pgTb := none, spdBusy := false, armed := false }) s
  if driven then loseContents c s else s

/-- R420: a slot is forced off. A slot that is OFF or LATCHED has its gate off; a request that waits ends with it (DEDUCED, log
entry 45). -/
def forceOff (c : Nat) (s : State) : State :=
  let st := slotState s c
  if st = 0 ∨ st = 6 then setSlot c (fun x => { x with armed := false }) s
  else gateOff c 0 (s.put (F.SPW_SLOT_STATUS.LAST_FAULT c) 6)

/-- R419, R420: DIMM_POWER_LOST of a serving channel: the other slots are forced off. -/
def powerLost (c : Nat) (s : State) : State :=
  forAll ((List.range 16).filter (· != c)) forceOff (s.log 0x59 c)

/-- R420, R421: a slot goes off on a fault of its surroundings; wake source 7 fires. -/
def slotDrop (c cause : Nat) (s : State) : State :=
  let was := serving s c
  let s := wakeRaw 7 (gateOff c 0 (s.put (F.SPW_SLOT_STATUS.LAST_FAULT c) cause))
  if was then powerLost c s else s

/-- R417, R419: a slot latches off. -/
def slotLatch (c cause : Nat) (s : State) : State :=
  let was := serving s c
  let s := (gateOff c 6 (s.put (F.SPW_SLOT_STATUS.LAST_FAULT c) cause)).bump (F.SPW_SLOT_STATUS.FAULTS c)
  let s := wakeRaw 7 (s.log 0x58 c 0 cause)
  if was then powerLost c s else s

/-- R417: RAMP_TIMEOUT. -/
def execRampTimeout (slot : Fin 16) (s : State) : Host.Outcome State Fault Refusal :=
  let c := slot.val
  if slotState s c = 2 ∧ 100000000 ≤ s.since (s.spw.get c).since then .next (slotLatch c 2 s) else .next s

/-- R419: CURRENT_LIMIT_ONSET. -/
def execCurrentLimitOnset (slot : Fin 16) (s : State) : Host.Outcome State Fault Refusal :=
  let c := slot.val
  if !gateDriven s c || s.flag (F.SPW_SLOT_STATUS.LIMITING c) then .next s
  else
    let s := (s.put (F.SPW_SLOT_STATUS.LIMITING c) 1).put (F.SPW_SLOT_STATUS.TIMER c) 1
    .next (setSlot c (fun x => { x with timer := some s.now, fully := x.fully && slotState s c == 4 }) s)

/-- R419: CURRENT_LIMIT_RELEASE. -/
def execCurrentLimitRelease (slot : Fin 16) (s : State) : Host.Outcome State Fault Refusal :=
  let c := slot.val
  if !s.flag (F.SPW_SLOT_STATUS.LIMITING c) then .next s
  else
    .next (setSlot c (fun x => { x with timer := none })
      ((s.put (F.SPW_SLOT_STATUS.LIMITING c) 0).put (F.SPW_SLOT_STATUS.TIMER c) 0))

/-- R419, R421: FAULT_TIMER_EXPIRY, also in the cycle in which a SLOT_POWER off began. -/
def execFaultTimerExpiry (slot : Fin 16) (s : State) : Host.Outcome State Fault Refusal :=
  let c := slot.val
  let x := s.spw.get c
  let here := gateDriven s c || (slotState s c == 5 && x.since == s.now)
  match x.timer with
  | some t =>
    if here ∧ s.get (F.SPW_SLOT_CFG.FAULT_T c) * 100000 ≤ s.since t then .next (slotLatch c 1 s) else .next s
  | none => .next s

/-- R420: SLOT_DOWN_END: `low` says that VOUT is below 0.5 V. -/
def execSlotDownEnd (slot : Fin 16) (low : Bool) (s : State) : Host.Outcome State Fault Refusal :=
  let c := slot.val
  if slotState s c = 5 ∧ (low ∨ 150000000 ≤ s.since (s.spw.get c).since) then
    .next (setSlot c (fun x => { x with timer := none })
      (((slotGo c 0 s).put (F.SPW_SLOT_STATUS.TIMER c) 0).put (F.SPW_SLOT_STATUS.LIMITING c) 0))
  else .next s

/-! ### Presence and VIN -/

/-- R421, R381: PRESENCE_CHANGE, debounced. -/
def execPresenceChange (slot : Fin 16) (prsnt0 prsnt1 : Bool) (s : State) : Host.Outcome State Fault Refusal :=
  let c := slot.val
  let old0 := s.flag (F.SPW_SLOT_STATUS.PRSNT0 c)
  let old1 := s.flag (F.SPW_SLOT_STATUS.PRSNT1 c)
  if old0 == prsnt0 && old1 == prsnt1 then .next s
  else
    let lost := (old0 && !prsnt0) || (old1 && !prsnt1)
    let s := (s.put (F.SPW_SLOT_STATUS.PRSNT0 c) (bit prsnt0)).put (F.SPW_SLOT_STATUS.PRSNT1 c) (bit prsnt1)
    let s := wakeFrom 7 s
    if gateDriven s c then .next (if lost then slotDrop c 5 s else s)
    else if slotState s c = 1 ∧ !present s c then .next (slotGo c 0 s)
    else .next (tryStart c s)

/-- R416: whether VIN's window is open, from its value in mV. -/
def vinWindow (was : Bool) (mv : Nat) : Bool :=
  if 10800 < mv ∧ mv < 13200 then true else if mv < 10500 ∨ 13500 < mv then false else was

/-- R416, R420, R421: VIN_WINDOW_CHANGE. -/
def execVinWindowChange (slot : Fin 16) (vin : BitVec 16) (s : State) : Host.Outcome State Fault Refusal :=
  let c := slot.val
  let mv := vin.toNat
  let on := vinWindow (s.spw.get c).vinOpen mv
  let s := setSlot c (fun x => { x with vinOpen := on }) s
  if on then .next (tryStart c s)
  else if gateDriven s c then .next (slotDrop c (if mv < 10500 then 3 else 4) s)
  else if slotState s c = 1 then .next (slotGo c 0 s)
  else .next s

/-! ### SLOT_POWER -/

/-- R416, R420, R421: SLOT_POWER. A slot that is ON is not in the state that power-on needs (DEDUCED, log entry 46). -/
def slotPower (p : Packet) (s : State) : Verdict × State :=
  let c := p.par 0 4
  let st := slotState s c
  if longRuns s p c then busy s
  else if channelHeld s 0x0803 c then refuseConflict c s
  else if p.par 8 1 = 1 then
    if st = 1 ∨ st = 2 ∨ st = 3 ∨ st = 5 then busy s
    else if st ≠ 0 then refuseState c s
    else startLong p c 1 (tryStart c (setSlot c (fun x => { x with armed := true }) s))
  else if st = 6 then startLong p c 0 (slotGo c 0 s)
  else if s.get (F.TIER_POOL_STATUS.EVAC c) ≠ 2 ∧ (s.spw.get c).enabled then refuseState c s
  else if st = 0 then startLong p c 0 (setSlot c (fun x => { x with armed := false }) s)
  else
    let t := (s.spw.get c).timer
    startLong p c 0 (setSlot c (fun x => { x with timer := t }) (gateOff c 5 s))

/-- R416: SLOT_POWER on. -/
def execSlotPowerOn (p : Packet) (s : State) : Host.Outcome State Fault Refusal :=
  .next (runCmd 0x0803 slotPower (p.withPar 8 1 1) s)

/-- R420: SLOT_POWER off. -/
def execSlotPowerOff (p : Packet) (s : State) : Host.Outcome State Fault Refusal :=
  .next (runCmd 0x0803 slotPower (p.withPar 8 1 0) s)

/-- R420, R421: how a SLOT_POWER ends: none while its slot is still on its way; else its completion's STATUS and DETAIL. -/
def slotOutcome (s : State) (x : LongCmd) : Option (Nat × Nat) :=
  let c := x.object
  let st := slotState s c
  if x.arg = 1 then
    if st = 4 then some (0, 0)
    else if st = 6 ∨ (st = 0 ∧ !(s.spw.get c).armed) ∨ st = 5 then some (0x0B, detail 1 c)
    else none
  else if st = 5 then none
  else some (0, 0)

/-! ### Metering and identity -/

/-- R422: METER_UPDATE: the averages of the last ms, and the energy delivered in it. -/
def execMeterUpdate (slot : Fin 16) (current : BitVec 32) (vout vin : BitVec 16) (power energy : BitVec 32) (s : State) :
    Host.Outcome State Fault Refusal :=
  let c := slot.val
  let s := ((s.put (F.SPW_SLOT_METER.CURRENT c) current.toNat).put (F.SPW_SLOT_METER.VOUT c) vout.toNat).put
    (F.SPW_SLOT_METER.VIN c) vin.toNat
  .next ((s.put (F.SPW_SLOT_POWER.POWER c) power.toNat).wrapAdd (F.SPW_SLOT_ENERGY.ENERGY c) energy.toNat)

/-- R424: SPD_READ_START, 10 ms after power-good rose. -/
def execSpdReadStart (slot : Fin 16) (s : State) : Host.Outcome State Fault Refusal :=
  let c := slot.val
  let x := s.spw.get c
  match x.pgTb with
  | some t =>
    if slotState s c = 4 ∧ 10000000 ≤ s.since t then .next (setSlot c (fun x => { x with spdBusy := true, pgTb := none }) s)
    else .next s
  | none => .next s

/-- R424: a module's 1,024 bytes in the SPD mirror. -/
def mirrorHub (c d : Nat) (h : Option SpdHub) (s : State) : State :=
  let b := match h with | some h => h.bytes.toList.map (·.toNat) | none => List.replicate 1024 0
  { s with spd := s.spd.setList (c * 2048 + d * 1024) b }

/-- R424: whether a socket's hub answered with a sound base block, where a module is present. -/
def hubOk (isThere : Bool) (h : Option SpdHub) : Bool := !isThere || (match h with | some h => h.crcOk | none => false)

/-- R424, R425: SPD_READ_COMPLETE. `same` says that the modules are the part that was there before. -/
def execSpdReadComplete (slot : Fin 16) (hub0 hub1 : Option SpdHub) (same : Bool) (s : State) :
    Host.Outcome State Fault Refusal :=
  let c := slot.val
  if !(s.spw.get c).spdBusy then .next s
  else
    let p0 := s.flag (F.SPW_SLOT_STATUS.PRSNT0 c)
    let p1 := s.flag (F.SPW_SLOT_STATUS.PRSNT1 c)
    let h0 := if p0 then hub0 else none
    let h1 := if p1 then hub1 else none
    let good := hubOk p0 h0 && hubOk p1 h1
    let serial (h : Option SpdHub) : Nat := match h with | some h => h.serial.toNat | none => 0
    let s := mirrorHub c 1 h1 (mirrorHub c 0 h0 s)
    let s := (s.put (F.SPW_SLOT_ID.SERIAL0 c) (serial h0)).put (F.SPW_SLOT_ID.SERIAL1 c) (serial h1)
    let s := setSlot c (fun x => { x with spdBusy := false, samePart := good && same }) s
    let s := if good then s.put (F.SPW_SLOT_STATUS.SPD_DONE c) 1 else s.put (F.SPW_SLOT_STATUS.SPD_ERR c) 1
    .next (if s.sec.running && !s.flag (F.DC_CFG.LOCK c) && s.get (F.TIER_POOL_STATUS.EVAC c) == 0 then startTraining c s else s)

end Sys2Proof.Machine
end

