-- ==== Sys2Proof/Machine/Nor.lean ====
section
/-!
DEFINITION. SPI NOR (R349, R351, R352, R360): the queue of programs and erases, the temperature window, and BOOT_CTRL; and the
logbook's record queue (R408 to R411).
-/

namespace Sys2Proof.Machine

/-! ### Programs and erases -/

/-- `n` bytes of the flash from an address. -/
def norRead (s : State) (a n : Nat) : List Nat := s.sec.nor.getList a n

/-- Programming clears bits (R351: the part is a NOR flash). -/
def norBytes (t : Tab Nat 0xFF) (a : Nat) : List Nat → Tab Nat 0xFF
  | [] => t
  | b :: r => norBytes (t.set a (t.get a &&& b)) (a + 1) r

/-- Cells that hold bytes from an address on. -/
def norLoad (t : Tab Nat 0xFF) (a : Nat) : List Nat → Tab Nat 0xFF
  | [] => t
  | b :: r => norLoad (t.set a b) (a + 1) r

/-- An operation takes its effect on the cells. -/
def norApply (o : NorOp) (t : Tab Nat 0xFF) : Tab Nat 0xFF :=
  if o.erase = 0 then norBytes t o.addr o.bytes
  else t.keep (fun a _ => decide (a < o.addr) || decide (o.addr + o.erase ≤ a))

/-- R349, R360: a FW_WRITE is stopped by the temperature window: its reply gives the bytes done. A sector it did not come to erase is
still to be erased. -/
def stopFwWrite (s : State) : State :=
  let ops := s.sec.norOps.filter (fun o => o.who != .fwWrite)
  let undone := (s.sec.norOps.filter (fun o => o.who == .fwWrite && o.erase != 0)).map (·.addr / 0x10000)
  let sec := { s.sec with norOps := ops, erased := s.sec.erased.filter (fun k => !undone.contains k) }
  match s.sec.fw with
  | some (p, n) => answer p { status := 0x0C, result := n } { s with sec := { sec with fw := none } }
  | none => { s with sec }

/-- The next operation is issued: it is checked against the temperature window first; one of a FW_WRITE ends there, one of the
firmware waits. -/
def issueNor (s : State) : State :=
  let start (s : State) : State := { s with sec := { s.sec with norBusy := true } }.put F.SEC_STATUS.FLASH_BUSY 1
  if s.sec.norBusy || s.sec.norOps.isEmpty then s
  else if tjInWindow s then start s
  else if s.sec.norOps.any (fun o => o.who == .fwWrite) then stopFwWrite s
  else s

/-- Operations join the queue. -/
def norQueue (ops : List NorOp) (s : State) : State :=
  issueNor { s with sec := { s.sec with norOps := s.sec.norOps ++ ops } }

/-! ### BOOT_CTRL -/

/-- R352: the CRC of a copy's first 60 bytes. -/
def bctlBytes (b : BootCtrl) : List Nat :=
  let body := toBytes 4 0x4C544342 ++ toBytes 4 b.seq ++ [b.active, b.pending] ++ List.replicate 50 0
  body ++ toBytes 4 (crc32 body)

/-- R352: the fields of a copy, where it is valid. -/
def bctlRead (s : State) (copy : Nat) : Option BootCtrl :=
  let l := norRead s (0x1000 * copy) 64
  let active := l.getD 8 0
  let pending := l.getD 9 0
  if fieldLE l 0 4 = 0x4C544342 ∧ fieldLE l 0x3C 4 = crc32 (l.take 60) ∧ active ≤ 1 ∧ (pending ≤ 1 ∨ pending = 0xFF) then
    some { copy, seq := fieldLE l 4 4, active, pending }
  else none

/-- R352: the copy that is selected; copy 0 where neither is newer (DESIGN CHOICE, log entry 180). -/
def bctlSelect (s : State) : BootCtrl :=
  match bctlRead s 0, bctlRead s 1 with
  | some a, some b =>
    let d := (b.seq + 2 ^ 32 - a.seq) % 2 ^ 32
    if 1 ≤ d ∧ d ≤ 2 ^ 31 - 1 then b else a
  | some a, none => a
  | none, some b => b
  | none, none => { copy := 1, seq := 0, active := 0, pending := 0xFF }

/-- R352: a write of BOOT_CTRL goes to the copy that is not selected, with the next SEQ. -/
def bctlWrite (active pending : Nat) (s : State) : State :=
  let c := s.sec.ctrl
  let n : BootCtrl := { copy := 1 - c.copy, seq := (c.seq + 1) % 2 ^ 32, active, pending }
  norQueue [{ who := .bootCtrl, addr := 0x1000 * n.copy, erase := 0x1000 },
    { who := .bootCtrl, addr := 0x1000 * n.copy, bytes := bctlBytes n }] s

/-! ### The logbook -/

/-- R408: the first byte of the logbook. -/
def logBase : Nat := 0x100000

/-- QUEUED shows the records that wait. -/
def showLog (s : State) : State := s.put F.HK_LOG_STATUS.QUEUED s.hk.queue.length

/-- R410: a record joins the queue: it replaces one of its key; a full queue drops its oldest margin record. -/
def logRecord (kind subject : Nat) (payload : List Nat) (s : State) : State :=
  let r : LogRec := { kind, subject, tb := s.now, payload }
  let same (x : LogRec) : Bool := x.kind == kind && x.subject == subject
  let margin (x : LogRec) : Bool := x.kind == 2 || x.kind == 3
  if s.hk.queue.any same then
    showLog { s with hk := { s.hk with queue := s.hk.queue.map (fun x => if same x then r else x) } }
  else if s.hk.queue.length < 64 then showLog { s with hk := { s.hk with queue := s.hk.queue ++ [r] } }
  else
    let told := s.hk.dropTold
    let s := { s with hk := { s.hk with queue := eraseFirst margin s.hk.queue ++ [r], dropTold := true } }.bump F.HK_LOG_STATUS.DROPS
    showLog (if told then s else s.log 0x8D)

/-- R409: the 64 bytes of a record. -/
def logBytes (seq : Nat) (r : LogRec) : List Nat :=
  let body := [r.kind % 256, r.subject % 256, 0, 0] ++ toBytes 4 seq ++ toBytes 8 r.tb ++ padTo 44 r.payload
  body ++ toBytes 4 (crc32 body)

/-- R409, R411: a record of the flash with its SEQ, where its CRC holds. -/
def logAt (s : State) (a : Nat) : Option (Nat × LogRec) :=
  let l := norRead s a 64
  if l.getD 0 0xFF ≠ 0xFF ∧ fieldLE l 0x3C 4 = crc32 (l.take 60) then
    some (fieldLE l 4 4, { kind := l.getD 0 0, subject := l.getD 1 0, tb := fieldLE l 8 8, payload := (l.drop 16).take 44 })
  else none

/-- R411: the valid records of sectors 1 to 15, with their addresses. -/
def logAll (s : State) : List (Nat × Nat × LogRec) :=
  (s.sec.nor.cells.filter (fun c => decide (logBase + 0x10000 ≤ c.1) && decide (c.1 < logBase + 0x100000) && c.1 % 64 == 0)).filterMap
    (fun c => (logAt s c.1).map (fun r => (c.1, r.1, r.2)))

/-- R409: whether a SEQ is newer than another. -/
def seqNewer (a b : Nat) : Bool := let d := (a + 2 ^ 32 - b) % 2 ^ 32; decide (1 ≤ d) && decide (d < 2 ^ 31)

/-- R411: whether a record is the newest of its key. -/
def newestOfKey (all : List (Nat × Nat × LogRec)) (x : Nat × Nat × LogRec) : Bool :=
  !all.any (fun y => y.2.2.kind == x.2.2.kind && y.2.2.subject == x.2.2.subject && seqNewer y.2.1 x.2.1)

/-- R411: the newest valid record of each key. -/
def logInForce (s : State) : List LogRec :=
  let all := logAll s
  ((all.filter (newestOfKey all)).map (·.2.2))

/-- The next sector of the ring. -/
def nextSector (n : Nat) : Nat := if 15 ≤ n then 1 else n + 1

/-- R410: a record is programmed at the place the next one goes to. -/
def appendRecord (r : LogRec) (s : State) : State :=
  let seq := (s.hk.seq + 1) % 2 ^ 32
  let a := logBase + s.hk.sector * 0x10000 + s.hk.index * 64
  let op : NorOp := { who := .logbook, addr := a, bytes := logBytes seq r }
  let s : State := { s with
    hk := { s.hk with seq, index := s.hk.index + 1 }
    sec := { s.sec with norOps := s.sec.norOps ++ [op] } }
  s.put F.HK_LOG_STATUS.SECTOR s.hk.sector

/-- R410: a full sector is left for the next one; the sector after that is erased, its newest records copied forward first. -/
def turnSector (skip : LogRec) (s : State) : State :=
  if s.hk.index < 1024 then s
  else
    let sector := nextSector s.hk.sector
    let victim := logBase + nextSector sector * 0x10000
    let all := logAll s
    let keep := all.filter (fun x => decide (victim ≤ x.1) && decide (x.1 < victim + 0x10000) && newestOfKey all x
      && !(x.2.2.kind == skip.kind && x.2.2.subject == skip.subject))
    let s := { s with hk := { s.hk with sector, index := 0 } }
    let s := forAll keep (fun x s => appendRecord x.2.2 s) s
    let op : NorOp := { who := .logbook, addr := victim, erase := 0x10000 }
    { s with sec := { s.sec with norOps := s.sec.norOps ++ [op] } }

/-- R410: LOGBOOK_WRITE: the oldest queued record is written, once no earlier logbook write is under way. -/
def execLogbookWrite (s : State) : Host.Outcome State Fault Refusal :=
  match s.hk.queue with
  | [] => .next s
  | r :: rest =>
    if s.asleep || !tjInWindow s || !s.sec.applied || s.sec.norOps.any (fun o => o.who == .logbook) then .next s
    else
      let s := showLog { s with hk := { s.hk with queue := rest, dropTold := false } }
      .next (issueNor (appendRecord r (turnSector r s)))

end Sys2Proof.Machine
end

