-- ==== Sys2Proof/Machine/Thermal.lean ====
section
/-!
DEFINITION. Housekeeping and heat (R388 to R413): survey rounds, the thermal model and the power cap, the hardware shutdown,
re-margining, ageing and re-planning.
-/

namespace Sys2Proof.Machine

/-! ### The survey -/

/-- A survey channel's value as a signed number. -/
def survey (s : State) (k : Nat) : Int := toSigned 24 (s.get (F.HK_SURVEY.VALUE k))

/-- R390: a reading that could not be taken. -/
def unreadable (s : State) (k : Nat) : Bool := s.get (F.HK_SURVEY.VALUE k) == 0x800000

/-- R391: whether a channel is sampled in the present state. -/
def sampled (s : State) (k : Nat) : Bool :=
  if sleepState s = 3 then decide (k < s.get F.PWR_SL3_CFG.SURVEY) else !s.asleep || decide (k ≤ 15)

/-- R401: channel 0 read at or below RESTART_C, since when. -/
def trackCooling (s : State) : State :=
  if !s.thm.tripped then s
  else
    let cool := !unreadable s 0 && decide (survey s 0 ≤ 16 * s.get F.THM_CFG.RESTART_C)
    { s with thm := { s.thm with coolSince := if cool then s.thm.coolSince.orElse (fun _ => some s.now) else none } }

/-- R389 to R391: SURVEY_SUBROUND: a sample of a channel, `none` where its reading cannot be taken. -/
def execSurveySubround (chan : Fin 64) (value : Option (BitVec 24)) (selfCheck : Bool) (s : State) :
    Host.Outcome State Fault Refusal :=
  let k := chan.val
  if !unitWaits s 0x0B k then .next s else
  let s := jobDone 0x0B k s
  if !sampled s k then .next (s.put (F.HK_SURVEY.STALE k) 1)
  else
    let v :=
      if (12 ≤ k ∧ k ≤ 15) ∨ 61 ≤ k then 0
      else if 45 ≤ k then s.get (F.SPW_SLOT_POWER.POWER (k - 45))
      else match value with | some v => v.toNat | none => 0x800000
    let s := (s.put (F.HK_SURVEY.VALUE k) v).put (F.HK_SURVEY.STALE k) 0
    .next (trackCooling (if k = 0 then { s with thm := { s.thm with selfCheck } } else s))

/-! ### The thermal model -/

/-- R393: the power of a zone in mW; one that could not be read counts as 0 (DESIGN CHOICE, log entry 47). -/
def zonePower (s : State) (j : Nat) : Nat :=
  if s.asleep then s.get (F.THM_ZONE_CFG.SLEEP_MW j) else (survey s (21 + j)).toNat

/-- R396: P_tot in mW. -/
def totalPower (s : State) : Nat := sumOf ((List.range 12).map (fun j => (survey s (21 + j)).toNat))

/-- R394: whether channel 0 is valid. -/
def refValid (s : State) : Bool :=
  let v := survey s 0
  !unreadable s 0 && decide (-960 ≤ v) && decide (v ≤ 2400) && s.thm.selfCheck

/-- R394: the hottest valid thermistor. -/
def hottestThermistor (s : State) : Option Int :=
  (([6, 7, 8, 9].filter (fun k => !unreadable s k)).map (survey s)).foldl
    (fun m v => match m with | some x => some (max x v) | none => some v) none

/-- R394: T_ref in 1/16 °C, and whether THERMAL_MIN is forced to PL5. The first two invalid rounds keep the last valid T_ref (DESIGN
CHOICE, log entry 161). -/
def takeRef (s : State) : Int × Bool × State :=
  if refValid s then
    let v := survey s 0
    (v, false, ({ s with thm := { s.thm with bad := 0, lastRef := v } }.put F.THM_STATUS.REF_FAIL 0).put F.THM_STATUS.REF_SUBST 0)
  else
    let bad := s.thm.bad + 1
    let s := { s with thm := { s.thm with bad := min 3 bad } }
    let s := if bad = 3 then (s.put F.THM_STATUS.REF_FAIL 1).log 0x64 else s
    if bad < 3 then (s.thm.lastRef, false, s)
    else
      match hottestThermistor s with
      | some v => (v + 160, false, s.put F.THM_STATUS.REF_SUBST 1)
      | none => (s.thm.lastRef, true, s.put F.THM_STATUS.REF_SUBST 0)

/-- R393: a zone's dt after a round, in 10^-6 °C. Quotients are truncated (DESIGN CHOICE, log entry 49). -/
def nextDt (s : State) (z : Nat) : Int :=
  let ss : Int := sumOf ((List.range 12).map (fun j => s.get (F.THM_R.R (12 * z + j)) * zonePower s j))
  let dt := s.thm.dt.getD z 0
  dt + (ss - dt).tdiv (max 1 (s.get (F.THM_ZONE_CFG.TAU_MS z)))

/-- A temperature of 10^-6 °C in 1/16 °C. -/
def sixteenths (v : Int) : Int := v / 62500

/-- The 16-bit code of a temperature in 1/16 °C. -/
def tempCode (v : Int) : Nat := ofSigned 16 (saturate 16 v)

/-- R393: the zones' registers, TJ_MAX and HOT_ZONE after a round. -/
def showZones (tref : Int) (s : State) : State :=
  let tj (z : Nat) : Int := tref * 62500 + s.thm.dt.getD z 0
  let s := forAll (List.range 12) (fun z s =>
    ((s.put (F.THM_ZONE.TJ z) (tempCode (sixteenths (tj z)))).put (F.THM_ZONE.DT z) (tempCode (sixteenths (s.thm.dt.getD z 0)))).put
      (F.THM_ZONE.P_MW z) (zonePower s z)) s
  let hot := (List.range 12).foldl (fun b z => if tj b < tj z then z else b) 0
  ((s.put F.THM_STATUS.TJ_MAX (tempCode (sixteenths (tj hot)))).put F.THM_STATUS.HOT_ZONE hot).put F.THM_STATUS.T_REF
    (tempCode tref)

/-- TJ_MAX in 1/16 °C. -/
def tjMax (s : State) : Int := toSigned 16 (s.get F.THM_STATUS.TJ_MAX)

/-- R396, R398: the cap is set, in units of 8 W, with its events. -/
def setCap (n : Nat) (s : State) : State :=
  let old := s.get F.THM_STATUS.CAP
  let s := (s.put F.THM_STATUS.CAP n).put F.THM_STATUS.THROTTLED (bit (decide (n < 32)))
  if n < old then s.log 0x89 else if old < 32 ∧ n = 32 then s.log 0x8A else s

/-- R396: the cap control at the end of an update. A first cap stays below 256 W (DESIGN CHOICE, log entry 48). -/
def capControl (s : State) : State :=
  let cap := s.get F.THM_STATUS.CAP
  let floor := s.get F.THM_CFG.CAP_FLOOR
  let thr : Int := 16 * s.get F.THM_CFG.THROTTLE_C
  let n := s.get F.THM_STATUS.RELEASE_CNT
  if thr ≤ tjMax s then
    let new := if cap = 32 then max floor (min 32 (totalPower s / 8000) - 1) else max floor (cap - 1)
    setCap new (s.put F.THM_STATUS.RELEASE_CNT 0)
  else if tjMax s ≤ thr - 16 * s.get F.THM_CFG.HYST then
    if s.get F.THM_CFG.RELEASE_ROUNDS ≤ n + 1 then setCap (min 32 (cap + 1)) (s.put F.THM_STATUS.RELEASE_CNT 0)
    else s.put F.THM_STATUS.RELEASE_CNT (n + 1)
  else s.put F.THM_STATUS.RELEASE_CNT 0

/-- R397: whether the projected power at a level is within the cap. Both sides are multiplied out: P_core is channel 16 ×
channel 20 in 10^-2 mW. -/
def fitsCap (s : State) (n : Nat) : Bool :=
  let core := (survey s 16).toNat * (survey s 20).toNat
  let w (k : Nat) : Nat := plFreq k * s.get (F.PWR_PL_CFG.VOLT_MV k) * s.get (F.PWR_PL_CFG.VOLT_MV k)
  let base := w (s.get F.PWR_PL_STATUS.CURRENT)
  decide (totalPower s * 100 * base + core * w n ≤ (s.get F.THM_STATUS.CAP * 800000 + core) * base)

/-- R397: the fastest level that the cap and ageing permit. -/
def capLevel (s : State) : Nat :=
  let age := s.get F.HK_AGE.AGE_MIN
  if s.get F.THM_STATUS.CAP = 32 then age
  else ((List.range 6).find? (fun n => decide (age ≤ n) && fitsCap s n)).getD 5

/-- R397: THERMAL_MIN after an update, and a new round for BUSY. -/
def applyCap (forced : Bool) (s : State) : State :=
  let s := if forced then setThermalMin 5 s else if s.pwr.pl.busySeen then s else setThermalMin (capLevel s) s
  { s with pwr := { s.pwr with pl := { s.pwr.pl with busySeen := s.flag F.PWR_PL_STATUS.BUSY } } }

/-- R398: THERMAL_WARN. -/
def warnControl (s : State) : State :=
  let warn : Int := 16 * s.get F.THM_CFG.WARN_C
  if s.flag F.THM_STATUS.WARN then
    (if tjMax s < warn - 16 * s.get F.THM_CFG.HYST then s.put F.THM_STATUS.WARN 0 else s)
  else if warn ≤ tjMax s then wakeRaw 6 ((s.put F.THM_STATUS.WARN 1).log 0x8B)
  else s

/-! ### Shutdown -/

/-- R402: a stop sequence or a sleep state is abandoned. -/
def abandonSleep (s : State) : State :=
  let s := if 2 ≤ sleepState s then s.count 0x002 0 (s.since s.pwr.entryTb) else s
  let s := { s with pwr := { s.pwr with sleep := none, exiting := none, latched := false, lowPower := false, retained := none } }
  (s.put F.PWR_SL_STATUS.IN_ENTRY 0).put F.PWR_SL_STATUS.STATE 0

/-- R400: hosts see a surprise link down, and clutch peers a stitch link down. -/
def cutLinks (s : State) : State :=
  let s := forAll (List.range 16) (fun l s => dropLink l 0 s) s
  forAll (List.range 4) leaveActive (s.emit .transmittersIdle)

/-- R399, R400, R401: a thermal trip with its cause (1 model, 2 comparator) and temperature code. The fourth within 24 h keeps the
device off. -/
def trip (cause temp zone : Nat) (s : State) : State :=
  if s.thm.tripped then s
  else
    let trips := s.now :: s.thm.trips.filter (fun t => decide (s.since t < 86400000000000))
    let s := (((s.put F.THM_TRIP_LAST.TB_HI (s.now / 2 ^ 30)).put F.THM_TRIP_LAST.TEMP temp).put F.THM_TRIP_LAST.COUNT_24H
      (min 255 trips.length)).put F.THM_TRIP_LAST.ZONE zone
    let s := (s.put F.THM_TRIP_LAST.CAUSE cause).put F.THM_TRIP_LAST.VALID 1
    let s := { s with thm := { s.thm with trips, tripped := true, stayOff := decide (4 ≤ trips.length), coolSince := none } }
    let s := cutLinks (abandonSleep (s.log 0x63 0 0 cause))
    let lost := (List.range 16).filter (fun c => serving s c && gateDriven s c)
    let s := forAll (List.range 16) forceOff s
    let s := forAll lost (fun c s => s.log 0x59 c) s
    { s with keys := {}, salt := 0, kint := 0, roots := {}, pwr := { s.pwr with railsOff := true } }.emit (.rails false)

/-- R399: REF_COMPARATOR_TRIP: the edge temperature, in 1/16 °C, is at or above REF_SHUT_C. -/
def execRefComparatorTrip (temp : BitVec 16) (s : State) : Host.Outcome State Fault Refusal :=
  if 16 * (s.get F.THM_CFG.REF_SHUT_C : Int) ≤ toSigned 16 temp.toNat then .next (trip 2 temp.toNat 0 s) else .next s

/-- R393 to R399: THERMAL_MODEL_UPDATE. The flash operations that wait for the temperature window look at the new Tj (R349). -/
def execThermalModelUpdate (s : State) : Host.Outcome State Fault Refusal :=
  if !unitWaits s 0x0C 0 then .next s else
  let s := jobDone 0x0C 0 s
  let (tref, forced, s) := takeRef s
  let dt := (List.range 12).map (nextDt s)
  let s := warnControl (capControl (showZones tref { s with thm := { s.thm with dt } }))
  let s := applyCap forced s
  let s := if 16 * (s.get F.THM_CFG.SHUT_C : Int) ≤ tjMax s then
      trip 1 (s.get F.THM_STATUS.TJ_MAX) (s.get F.THM_STATUS.HOT_ZONE) s else s
  .next (if s.asleep then s else issueNor s)

/-! ### Re-margining -/

/-- R404: the link that drives a lane group of a host port. -/
def groupLink (s : State) (p g : Nat) : Option Nat :=
  (portLinks p).find? (fun l => decide (l % 4 ≤ g) && decide (g < l % 4 + laneGroup s l / 4))

/-- R404: whether a target is skipped. -/
def skipTarget (s : State) (t : Nat) : Bool :=
  if t < 16 then
    !s.flag (F.DC_CFG.ENABLE t) || s.get (F.TIER_POOL_STATUS.EVAC t) == 1 || s.flag (F.DC_TRN_CTRL.BUSY t)
  else if t < 32 then
    match groupLink s ((t - 16) / 4) ((t - 16) % 4) with
    | some l => !(s.links.get l).up
    | none => true
  else portState s (t - 32) != 6

/-- R404: the next target from `t` on is released, the skipped ones counted; past the last the pass completes. -/
def releaseTarget : Nat → Nat → State → State
  | 0, _, s => s
  | fuel + 1, t, s =>
    if 36 ≤ t then
      ({ s with hk := { s.hk with target := none } }.put F.HK_REMARGIN_STATUS.BUSY 0).bump F.HK_REMARGIN_STATUS.PASSES
    else
      let s := s.put F.HK_REMARGIN_STATUS.TARGET t
      if skipTarget s t then releaseTarget fuel (t + 1) (s.bump F.HK_REMARGIN_STATUS.SKIPPED)
      else { s with hk := { s.hk with target := some t } }

/-- R404: REMARGIN_PASS_START. -/
def execRemarginPassStart (s : State) : Host.Outcome State Fault Refusal :=
  if !s.flag F.HK_REMARGIN_CFG.ENABLE || s.hk.target.isSome || s.asleep
      || decide (s.since s.hk.passTb < s.get F.HK_REMARGIN_CFG.PERIOD_S * 1000000000) then .next s
  else
    .next (releaseTarget 40 0 ({ s with hk := { s.hk with passTb := s.now } }.put F.HK_REMARGIN_STATUS.BUSY 1))

/-- R405: the shift of an eye's centre, rounded toward 0. -/
def eyeShift (e : LaneEye) : Int := if e.left = 0xFF then 0 else ((e.left.toNat + e.right.toNat : Nat) - 48 : Int).tdiv 2

/-- R405: a LIVE_RD step of a rank and subchannel: its results, and the lanes whose delay is moved, within the field (DEDUCED). -/
def liveRead (c k sc : Nat) (eyes : List LaneEye) (s : State) : State :=
  let s := (((s.put (F.DC_TRN_CTRL.SWEEP c) 48).put (F.DC_TRN_CTRL.STEP c) 8).put (F.DC_TRN_CTRL.SC c) sc).put (F.DC_TRN_CTRL.RANK c) k
  forAll (List.range 40) (fun l s =>
    match eyes[l]? with
    | none => s
    | some e =>
      let i := 40 * sc + l
      let s := recordEye c i e s
      let d := eyeShift e
      if -4 < d ∧ d < 4 then s
      else s.put (F.DC_DLY.RD_DLY c i) (min 255 ((s.get (F.DC_DLY.RD_DLY c i) : Int) + d).toNat)) s
    |> liveProbe c |>.put (F.DC_TRN_CTRL.DONE c) 1

/-- R405, R409: the worst width of a step's 40 lanes and its lane. -/
def worstLane (eyes : List LaneEye) : Nat × Nat :=
  (List.range (min 40 eyes.length)).foldl (fun (b : Nat × Nat) l =>
    let w := (eyes[l]?.map eyeWidth).getD 255
    if w < b.1 then (w, l) else b) (255, 0)

/-- R409: a channel's module serial numbers as bytes. -/
def serials (s : State) (c : Nat) : List Nat := toBytes 4 (s.get (F.SPW_SLOT_ID.SERIAL0 c)) ++ toBytes 4 (s.get (F.SPW_SLOT_ID.SERIAL1 c))

/-- R412: the worst lane width that a DRAM_MARGIN record holds. A pair that was not measured holds 255. -/
def recordWidth (r : LogRec) : Nat := (List.range 16).foldl (fun m i => min m (r.payload.getD (2 * i) 255)) 255

/-- R412: the delay guard of a channel after a new margin record: the narrowing since the oldest of the last 14 days. -/
def newGuard (s : State) (c width : Nat) : Nat :=
  let old := (logAll s).filter (fun x => x.2.2.kind == 2 && x.2.2.subject == c && decide (s.since x.2.2.tb ≤ 1209600000000000))
  let first := old.foldl (fun (b : Option LogRec) x => match b with
    | some r => if x.2.2.tb < r.tb then some x.2.2 else b
    | none => some x.2.2) none
  match first with
  | some r => min 32 (16 + 2 * (recordWidth r - width))
  | none => 16

/-- R405, R407, R412: a channel quantum. `eyes` gives 40 lanes for each rank and subchannel, in the order 2k + sc. -/
def channelMargin (c : Nat) (eyes : List LaneEye) (s : State) : State :=
  let pairs := List.range (2 * ranksOf s c)
  let part (i : Nat) : List LaneEye := (eyes.drop (40 * i)).take 40
  let s := forAll pairs (fun i s => liveRead c (i / 2) (i % 2) (part i) s) s
  let worst := pairs.map (fun i => worstLane (part i))
  let s := logRecord 2 c ((padTo 32 ((worst.map (fun w => [w.1, w.2])).flatten ++ List.replicate (32 - 2 * worst.length) 255)) ++ serials s c) s
  let (i, w, l) := (List.range worst.length).foldl (fun (b : Nat × Nat × Nat) i =>
    match worst[i]? with
    | some x => if x.1 < b.2.1 then (i, x.1, x.2) else b
    | none => b) (0, 255, 0)
  let guard := s.hk.guards.getD c 16
  let det := i / 2 + 8 * (i % 2) + 16 * l
  let s := if w < guard then s.log 0x55 c 0 det else if w < guard + 8 then s.log 0x8C c 0 det else s
  let g := newGuard s c w
  if g = guard then s
  else logRecord 5 c [g, 8] { s with hk := { s.hk with guards := s.hk.guards.set c g } }

/-- R406: whether lane `i` of a lane group carries traffic: a lane in L0p idle is not measured. -/
def laneAwake (s : State) (t i : Nat) : Bool :=
  if t < 32 then
    match groupLink s ((t - 16) / 4) ((t - 16) % 4) with
    | some l => decide (4 * ((t - 16) % 4 - l % 4) + i < (s.links.get l).width)
    | none => false
  else true

/-- R406, R407: a lane group's quantum: width and height of each lane. A lane that is not measured has 0xFF in the record (DESIGN
CHOICE, log entry 161). -/
def serdesMargin (t : Nat) (steps : List (Byte × Byte)) (s : State) : State :=
  let lanes := steps.take (if t < 32 then 4 else 9)
  let bytes (i : Nat) : List Nat := match lanes[i]? with
    | some x => if laneAwake s t i then [x.1.toNat, x.2.toNat] else [0xFF, 0xFF]
    | none => []
  let s := logRecord 3 t ((List.range lanes.length).map bytes).flatten s
  forAll (List.range lanes.length) (fun l s =>
    match lanes[l]? with
    | some x =>
      if laneAwake s t l && (decide (x.1.toNat < s.get F.HK_REMARGIN_CFG.SD_MIN_W)
        || decide (x.2.toNat < s.get F.HK_REMARGIN_CFG.SD_MIN_H)) then s.log 0x8C t 0 l else s
    | none => s) s

/-- R404 to R407: REMARGINING_QUANTUM of the target that was released. -/
def execRemarginingQuantum (eyes : List (Vector LaneEye 40)) (steps : List (Byte × Byte)) (s : State) :
    Host.Outcome State Fault Refusal :=
  match s.hk.target with
  | none => .next s
  | some t =>
    if !unitWaits s 0x10 t then .next s
    else
      let s := jobDone 0x10 t s
      let s := if t < 16 then channelMargin t ((eyes.take 16).map (·.toList)).flatten s else serdesMargin t (steps.take 9) s
      .next (releaseTarget 40 (t + 1) s)

/-! ### Ageing -/

/-- R413: K_n in ppm/mV. -/
def ageRate (n : Nat) : Nat := [1000, 1100, 1250, 1400, 1600, 1800].getD n 1000

/-- R413: a level is planned for an ageing of `a` ppm. -/
def planLevel (a n : Nat) (s : State) : State :=
  let base := plVolt n
  let want := base + 5 * ((a + ageRate n * 5 - 1) / (ageRate n * 5))
  let top := min (base + 40) 900
  let cur := s.get (F.PWR_PL_CFG.VOLT_MV n)
  let s := s.put (F.PWR_PL_CFG.VOLT_MV n) (max cur (min want top))
  if want ≤ top then s
  else (s.put F.HK_AGE.AGE_MIN (max (s.get F.HK_AGE.AGE_MIN) (min 5 (n + 1)))).log 0x65 n

/-- R409: the PL_PLAN record. -/
def planRecord (s : State) : List Nat :=
  ((List.range 6).map (fun n => toBytes 2 (s.get (F.PWR_PL_CFG.VOLT_MV n)))).flatten ++ [s.get F.HK_AGE.AGE_MIN]

/-- R403, R413: RO_DAY with the median A_z of each zone. -/
def execRoDay (ageing : Vector (BitVec 16) 12) (s : State) : Host.Outcome State Fault Refusal :=
  if s.asleep || !s.sec.applied || decide (s.since s.hk.dayTb < 86400000000000) then .next s
  else
    let az := ageing.toList.map (·.toNat)
    let a := az.foldl max 0
    let s := (logRecord 1 0 (padTo 24 ((az.map (toBytes 2)).flatten) ++ toBytes 4 a) { s with hk := { s.hk with dayTb := s.now } }).put
      F.HK_AGE.A_PPM a
    let s := forAll (List.range 6) (planLevel a) s
    .next (logRecord 6 0 (planRecord s) s)

end Sys2Proof.Machine
end

