-- ==== Sys2Proof/Machine/Security.lean ====
section
/-!
DEFINITION. Security (R342 to R368): the fuse sequencer, image verification, firmware updates, the SPDM responder with IDE keys
(R55), and the debug lock.
-/

namespace Sys2Proof.Machine

/-! ### Fuses -/

/-- R343, R346: reserved logical bits. -/
def fuseReserved (b : Nat) : Bool :=
  decide (49 ≤ b ∧ b ≤ 63) || decide (908 ≤ b ∧ b ≤ 913) || decide (922 ≤ b ∧ b ≤ 927) || decide (929 ≤ b ∧ b ≤ 943) || decide (1200 ≤ b)

/-- R347: the bits that MFG_LOCK closes. -/
def fuseLocked (b : Nat) : Bool := decide (b ≤ 48) || decide (64 ≤ b ∧ b ≤ 575)

/-- R362: N, the ARB bits of the shadow that are blown. -/
def arbCount (s : State) : Nat := ((List.range 64).filter (fun i => s.fuseBits (576 + i) 1 == 1)).length

/-- The entries of a FUSE_PROGRAM payload. -/
def fuseEntries (p : Packet) : List Nat := (chunks 2 64 p.bytes).map ofBytes

/-- R347: the packet offset of the first entry that is out of range. -/
def fuseRange (s : State) (l : List Nat) : Option Nat :=
  (findIdx? (fun e => decide (2048 ≤ e) || fuseReserved e || (s.fuseBits 48 1 == 1 && fuseLocked e)) l 0).map (fun i => 0x10 + 2 * i)

/-- R347: what the state forbids. -/
def fuseForbidden (s : State) (l : List Nat) : Bool :=
  let arb := (List.range 64).map (fun i => s.fuseBits (576 + i) 1 == 1 || l.contains (576 + i))
  let n := (arb.filter id).length
  (l.any (fun e => decide (576 ≤ e ∧ e ≤ 639)) && ((arb.take n).any (!·) || decide (s.get F.SEC_STATUS.RUN_SVN < n)))
    || (l.any (fun e => decide (944 ≤ e ∧ e ≤ 1199)) && s.fuseBits 944 256 != 0)
    || (l.any (fun e => decide (914 ≤ e ∧ e ≤ 921)) && s.fuseBits 914 8 != 0)

/-- R348: the number of named bits that read 1. -/
def fuseOnes (s : State) (bits : List Nat) : Nat := (bits.eraseDups.filter (fun b => s.fuseBits b 1 == 1)).length

/-- R348, R349: the sequencer stops with a status and a result. -/
def fuseStop (j : FuseJob) (status result : Nat) (s : State) : State :=
  let s := { s with sec := { s.sec with fuse := none } }.put F.SEC_STATUS.FUSE_BUSY 0
  match j.packet with
  | some p => answer p { status, result } s
  | none => s

/-- R347, R348: FUSE_PROGRAM: the accepted entries go to the sequencer. -/
def fuseProgram (p : Packet) (s : State) : Verdict × State :=
  let l := fuseEntries p
  if s.flag F.SEC_STATUS.FUSE_BUSY then busy s
  else if p.length = 0 ∨ p.length.toNat % 2 ≠ 0 ∨ 128 < p.length.toNat then refuseRange 6 s
  else
    match fuseRange s l with
    | some o => refuseRange o s
    | none =>
      if fuseForbidden s l then refuseState 0 s
      else
        let left := l.eraseDups.filter (fun b => s.fuseBits b 1 == 0)
        if left.isEmpty then ({ result := fuseOnes s l }, s)
        else
          ({ later := true },
            { s with sec := { s.sec with fuse := some { packet := some p, bits := l, left } } }.put F.SEC_STATUS.FUSE_BUSY 1)

/-- R347: FUSE_PROGRAM. -/
def execFuseProgram (p : Packet) (s : State) : Host.Outcome State Fault Refusal := .next (runCmd 0x0D01 fuseProgram p s)

/-- R348: a logical bit is blown and verified: it enters the shadow. -/
def blow (b : Nat) (s : State) : State :=
  let one : BitVec 2048 := BitVec.ofNat 2048 (2 ^ b)
  let s := { s with fuses := s.fuses ||| one, fuseShadow := s.fuseShadow ||| one }
  if 906 ≤ b ∧ b ≤ 921 then checkAlarmLimit s else s

/-- R348, R349: FUSE_BIT_PROGRAM: 0 both fuses of the pair are blown, 1 one of them, 2 neither after 3 attempts. Outside the
temperature window the sequencer stops; the bit that a management reset met half blown completes (R350). -/
def execFuseBitProgram (result : Fin 3) (s : State) : Host.Outcome State Fault Refusal :=
  match s.sec.fuse with
  | none => .next s
  | some j =>
    match j.left with
    | [] => .next (fuseStop j 0 (fuseOnes s j.bits) s)
    | b :: rest =>
      if j.packet.isSome && !tjInWindow s then .next (fuseStop j 0x0C (fuseOnes s j.bits) s)
      else
        let s :=
          if result.val = 2 then s.log 0x60 0 0 b
          else if result.val = 1 then (blow b s).put F.SEC_STATUS.FUSE_WEAK 1
          else blow b s
        if rest.isEmpty then .next (fuseStop j 0 (fuseOnes s j.bits) s)
        else .next { s with sec := { s.sec with fuse := some { j with left := rest } } }

/-! ### Images -/

/-- R353: the bytes that PKCS #1 puts before a SHA-256 digest. -/
def sha256Prefix : List Nat :=
  [0x30, 0x31, 0x30, 0x0D, 0x06, 0x09, 0x60, 0x86, 0x48, 0x01, 0x65, 0x03, 0x04, 0x02, 0x01, 0x05, 0x00, 0x04, 0x20]

/-- R353: RSASSA-PKCS1-v1_5 with SHA-256, a 3,072-bit modulus and exponent 65,537. -/
def pkcs1Verify (modulus msg sig : List Nat) : Bool :=
  let m := ofBytesBE modulus
  let c := ofBytesBE sig
  let em := [0, 1] ++ List.replicate 330 0xFF ++ [0] ++ sha256Prefix ++ sha256 msg
  decide (c < m) && powMod m 17 c 65537 1 == ofBytesBE em

/-- `n` bytes from offset `o`. -/
def cut (l : List Nat) (o n : Nat) : List Nat := (l.drop o).take n

/-- R343, R354: whether a digest is the one of a 256-bit fuse field. -/
def fuseDigest (s : State) (lo : Nat) (d : List Nat) : Bool := ofBytes d == s.fuseBits lo 256

/-- R353: the lengths of an image. -/
def lengthsOk (h : List Nat) (type : Nat) : Bool :=
  let len := fieldLE h 0x10 4
  let load := fieldLE h 0x14 4
  let entry := fieldLE h 0x18 4
  if type = 1 then load % 4096 == 0 && decide (load + len ≤ 0x180000) && decide (entry < len)
  else decide (len ≤ 65536) && len % 16 == 0 && load == 0 && entry == 0

/-- R354: the checks of an image before its body: BAD where one fails. -/
def headerOk (s : State) (h : List Nat) (type : Nat) : Bool :=
  fieldLE h 0 4 == 0x5952524B && fieldLE h 4 2 == 1 && fieldLE h 6 2 == type
    && fieldLE h 0x0D 3 == 0 && fieldLE h 0x1C 4 == 0 && fieldLE h 0x34C 4 == 0 && fieldLE h 0x650 0x1B0 == 0
    && fuseDigest s 64 (sha256 (cut h 0x40 388))
    && ofBytesBE (cut h 0x1C0 4) == 65537 && ofBytesBE (cut h 0x348 4) == 65537
    && pkcs1Verify (cut h 0x40 384) (cut h 0x1C4 396) (cut h 0x350 384)
    && slice (fieldLE h 0x1C4 4) type 1 == 1
    && pkcs1Verify (cut h 0x1C8 384) (cut h 0 0x4D0) (cut h 0x4D0 384)
    && lengthsOk h type

/-- R354: an image of the flash passes verification. -/
def kraryVerify (s : State) (base type : Nat) : Bool :=
  let h := norRead s base 2048
  headerOk s h type && (sha256 (norRead s (base + 2048) (fieldLE h 0x10 4)) == cut h 0x20 32)
    && decide (h.getD 0x0C 0 ≤ 64) && decide (arbCount s ≤ h.getD 0x0C 0)

/-- R351: the first byte of a slot. -/
def slotBase (k : Nat) : Nat := 0x400000 + 0x800000 * k

/-- R351: the first byte of a slot's configuration image. -/
def configBase (k : Nat) : Nat := slotBase k + 0x700000

/-- R354: a slot passes: both images do, with the same SVN. -/
def slotPasses (s : State) (k : Nat) : Bool :=
  kraryVerify s (slotBase k) 1 && kraryVerify s (configBase k) 2 && norRead s (slotBase k + 12) 1 == norRead s (configBase k + 12) 1

/-- R365: the SHA-256 of an image, header and body. -/
def imageDigest (s : State) (base : Nat) : List Nat :=
  sha256 (norRead s base (2048 + fieldLE (norRead s base 2048) 0x10 4))

/-- R351: the first byte of the identity partition. -/
def identityBase : Nat := 0x2000

/-- R363: the sealing key: HMAC-SHA-256 of DEVICE_SECRET over a label and DEVICE_ID. -/
def sealingKey (s : State) : List Nat :=
  hmacSha256 (toBytes 32 (s.fuseBits 320 256)) ([0x41, 0x51, 0x53, 0x4B] ++ toBytes 6 (deviceId s))

/-- R363: whether the identity key of the flash unseals: the nonce, the sealed key and its tag stand first in the partition (the layout is
the model's: log entry 201). -/
def identityOpens (s : State) : Bool :=
  let n := Config.sealedKeyBytes
  gcmTag (sealingKey s) (norRead s identityBase 12) (norRead s (identityBase + 12) n) == norRead s (identityBase + 12 + n) 16

/-- R363: the certificate chain of the identity partition, behind the sealed key. -/
def certificateChain (s : State) : List Nat :=
  norRead s (identityBase + 28 + Config.sealedKeyBytes) Config.chainBytes

/-! ### Updating firmware -/

/-- R360, R358: the inactive slot. -/
def inactiveSlot (s : State) : Nat :=
  if s.flag F.SEC_STATUS.RECOVERY then 1 - s.sec.ctrl.active else 1 - s.get F.SEC_STATUS.RUN_SLOT

/-- R360: bytes programmed at an address, in pieces that stay within 256-byte pages. -/
def pages : Nat → Nat → List Nat → List NorOp
  | 0, _, _ => []
  | _, _, [] => []
  | fuel + 1, a, l =>
    let n := 256 - a % 256
    { who := .fwWrite, addr := a, bytes := l.take n } :: pages fuel (a + n) (l.drop n)

/-- R360: FW_WRITE: sectors are erased on the first touch. -/
def fwWrite (p : Packet) (s : State) : Verdict × State :=
  let o := p.par 0 32
  let n := p.bytes.length
  let a := slotBase (inactiveSlot s) + o
  if s.sec.fw.isSome then busy s
  else if 0x800000 < o + n then refuseRange 8 s
  else if s.sec.ctrl.pending ≠ 0xFF then refuseConflict s.sec.ctrl.pending s
  else if n = 0 then ok s
  else
    let touched := (List.range ((a + n - 1) / 0x10000 + 1 - a / 0x10000)).map (· + a / 0x10000)
    let fresh := touched.filter (fun k => !s.sec.erased.contains k)
    let erases : List NorOp := fresh.map (fun k => { who := .fwWrite, addr := k * 0x10000, erase := 0x10000 })
    let s := { s with sec := { s.sec with fw := some (p, 0), erased := s.sec.erased ++ fresh } }
    ({ later := true }, norQueue (erases ++ pages 18 a p.bytes) s)

/-- R360: FW_WRITE. -/
def execFwWrite (p : Packet) (s : State) : Host.Outcome State Fault Refusal := .next (runCmd 0x0C01 fwWrite p s)

/-- R361: FW_ACTIVATE. It is answered when BOOT_CTRL's write is queued (DEDUCED, log entry 50). -/
def fwActivate (p : Packet) (s : State) : Verdict × State :=
  let k := p.par 0 1
  let rec_ := s.flag F.SEC_STATUS.RECOVERY
  if s.sec.norOps.any (fun o => o.who == .bootCtrl) then busy s
  else if !slotPasses s k then refuseState k s
  else
    let s := { s with sec := { s.sec with erased := [] } }
    if rec_ then ok (bctlWrite k 0xFF s)
    else ok (bctlWrite s.sec.ctrl.active (if k = s.get F.SEC_STATUS.RUN_SLOT then 0xFF else k) s)

/-- R361: FW_ACTIVATE. -/
def execFwActivate (p : Packet) (s : State) : Host.Outcome State Fault Refusal := .next (runCmd 0x0C02 fwActivate p s)

/-- R359: TRIAL_CONFIRM. -/
def execTrialConfirm (s : State) : Host.Outcome State Fault Refusal :=
  let run := s.get F.SEC_STATUS.RUN_SLOT
  if s.sec.running && s.sec.applied && s.sec.ctrl.pending == run && decide (1000 ≤ s.sec.trialSlots) && !s.inFatal && !s.sec.confirming
      && !s.sec.norOps.any (fun o => o.who == .bootCtrl) then
    .next (bctlWrite run 0xFF { s with sec := { s.sec with confirming := true } })
  else .next s

/-! ### The debug lock -/

/-- R367, R368: an answer to a challenge opens the lock, or not. -/
def unlocks (s : State) (b : List Nat) : Bool :=
  match s.sec.challenge with
  | none => false
  | some (nonce, t) =>
    s.fuseBits 928 1 == 0 && s.fuseBits 944 256 != 0 && fuseDigest s 944 (sha256 (cut b 0 388))
      && ofBytesBE (cut b 384 4) == 65537
      && pkcs1Verify (cut b 0 384) (keyBytes nonce ++ toBytes 6 (deviceId s)) (cut b 388 384)
      && decide (s.since t ≤ 60000000000)

/-- R367, R368: DEBUG_UNLOCK: without a payload a challenge, with 772 bytes an answer. -/
def debugUnlock (p : Packet) (s : State) : Verdict × State :=
  if s.get F.SEC_STATUS.UNLOCK_FAILS = 3 then refuseState 0 s
  else if p.length = 0 then
    let (v, s) := s.trng
    ({ payload := keyBytes v ++ toBytes 6 (deviceId s) }, { s with sec := { s.sec with challenge := some (v, s.now) } })
  else if p.length ≠ 772 then refuseRange 6 s
  else
    let good := unlocks s p.bytes
    let s := { s with sec := { s.sec with challenge := none } }
    if good then
      let s := lostRegionsEvent (cryptoReset (zeroize s))
      ok ({ s with sec := { s.sec with dik := false } }.put F.SEC_STATUS.DEBUG_OPEN 1)
    else refuseState 0 (s.bump F.SEC_STATUS.UNLOCK_FAILS)

/-- R367: DEBUG_UNLOCK with LENGTH 0. -/
def execDebugUnlockChallenge (p : Packet) (s : State) : Host.Outcome State Fault Refusal :=
  .next (runCmd 0x0E01 debugUnlock { p with length := 0, payload := [] } s)
/-- R368: DEBUG_UNLOCK with an answer. -/
def execDebugUnlockAnswer (p : Packet) (s : State) : Host.Outcome State Fault Refusal := .next (runCmd 0x0E01 debugUnlock p s)

/-! ### SPDM -/

/-- R358, R366: whether the responder of a transport answers: in recovery MCTP alone, and in a clutch MCTP at the top head alone. -/
def spdmAnswers (s : State) (t : Nat) : Bool :=
  s.sec.running && (if t = 64 then !hasOtherHead s else !s.flag F.SEC_STATUS.RECOVERY)

/-- R333, R364, R381: a row's message for the responder of a transport arrives: the DOE of an LD, or MCTP (64). -/
def spdmCommand (row : Instr) (t : Nat) (k : State → State) (s : State) : Host.Outcome State Fault Refusal :=
  let serve (s : State) : State := if spdmAnswers s t then k s else s
  .next (if t = 64 then sidebandAccess row serve s else ioAccess t serve s)

/-- An answer of the responder. -/
def spdmReply (t : Nat) (a : SpdmOut) (s : State) : State := s.emit (.spdm t a)

/-- The next signature. -/
def State.signature (s : State) : BitVec 3072 × State := (Config.spdmSignature s.freeCtr, s.drawn)

/-- R363, R364: SPDM_GET_CERTIFICATE. -/
def execSpdmGetCertificate (transport : Fin 65) (certSlot : Fin 8) (s : State) : Host.Outcome State Fault Refusal :=
  spdmCommand (.spdmGetCertificate transport certSlot) transport (fun s =>
    if certSlot.val = 0 then spdmReply transport (.certificate (certificateChain s)) s
    else spdmReply transport .unsupported s) s

/-- R364, R368: SPDM_CHALLENGE. -/
def execSpdmChallenge (transport : Fin 65) (certSlot : Fin 8) (s : State) : Host.Outcome State Fault Refusal :=
  spdmCommand (.spdmChallenge transport certSlot) transport (fun s =>
    if !s.sec.dik then spdmReply transport .unspecified s
    else if certSlot.val ≠ 0 then spdmReply transport .unsupported s
    else
      let (g, s) := s.signature
      spdmReply transport (.challengeAuth g) s) s

/-- R365: what the boot ROM records as measurement 5. -/
def measure5 (s : State) : List Nat :=
  [bit (s.flag F.SEC_STATUS.DEBUG_OPEN) + 2 * bit (s.flag F.SEC_STATUS.FALLBACK) + 4 * bit (s.flag F.SEC_STATUS.DIK_FAIL),
    arbCount s, s.get F.SEC_STATUS.RUN_SVN, s.get F.SEC_STATUS.RUN_SLOT] ++ toBytes 4 (s.get F.SEC_BOOT.RUN_VERSION)
    ++ toBytes 6 (deviceId s) ++ [0, 0]

/-- R365: measurement 6, empty in a standalone device. -/
def measure6 (s : State) : List Nat :=
  if s.get F.CLU_STATUS.STATE = 0 then []
  else
    let map := s.get F.CLU_ROSTER.MAP
    let one (q : Nat) : List Nat := match helloAt s q with
      | some h => [q] ++ toBytes 6 h.id ++ toBytes 4 h.version ++ toBytes 32 h.auth.toNat
      | none => []
    toBytes 2 (s.get F.CLU_STATUS.CLUTCH_ID) ++ toBytes 4 (s.get F.CLU_STATUS.EPOCH) ++ toBytes 8 map
      ++ (((List.range 64).filter (bitOf map)).map one).flatten

/-- R365, R368: a measurement by its index: 1 to 5 as the boot ROM recorded them, with DEBUG_OPEN as it is now. -/
def measurement (s : State) (i : Nat) : List Nat :=
  let kept := s.sec.meas.getD (i - 1) []
  if i = 5 then (match kept with | b :: l => (b / 2 * 2 + bit (s.flag F.SEC_STATUS.DEBUG_OPEN)) :: l | [] => [])
  else if i = 6 then measure6 s
  else kept

/-- R365: SPDM_GET_MEASUREMENTS of an index, or of all (0xFF). -/
def execSpdmGetMeasurements (transport : Fin 65) (index : BitVec 8) (signed : Bool) (s : State) :
    Host.Outcome State Fault Refusal :=
  let i := index.toNat
  let which := if i = 0xFF then [1, 2, 3, 4, 5, 6] else [i]
  spdmCommand (.spdmGetMeasurements transport index signed) transport (fun s =>
    let blocks := which.map (fun k => (k, measurement s k))
    if i ≠ 0xFF ∧ (i = 0 ∨ 6 < i) then spdmReply transport .unsupported s
    else if !signed then spdmReply transport (.measurements blocks none) s
    else if !s.sec.dik then spdmReply transport .unspecified s
    else
      let (g, s) := s.signature
      spdmReply transport (.measurements blocks (some g)) s) s

/-- R364: the first session number that is free, from a number that is open on. -/
def freeSession (used : List Nat) : Nat → Nat → Nat
  | 0, n => n
  | fuel + 1, n => if used.contains n then freeSession used fuel ((n + 1) % 65536) else n

/-- R364: SPDM_KEY_EXCHANGE: at most 4 sessions on a transport. -/
def execSpdmKeyExchange (transport : Fin 65) (s : State) : Host.Outcome State Fault Refusal :=
  spdmCommand (.spdmKeyExchange transport) transport (fun s =>
    let used := s.sec.sessions.get transport
    if !s.sec.dik then spdmReply transport .unspecified s
    else if 4 ≤ used.length then spdmReply transport .sessionLimitExceeded s
    else
      let n := freeSession used 5 (Config.spdmSession s.freeCtr).toNat
      let (g, s) := s.signature
      spdmReply transport (.keyExchange n g)
        { s with sec := { s.sec with sessions := s.sec.sessions.set transport (used ++ [n]) } }) s

/-- R364: a request inside a session. -/
def inSession (transport : Fin 65) (session : BitVec 16) (s : State) : State :=
  spdmReply transport (if (s.sec.sessions.get transport).contains session.toNat then .ack else .invalidSession) s

/-- R364: SPDM_KEY_UPDATE. -/
def execSpdmKeyUpdate (transport : Fin 65) (session : BitVec 16) (s : State) : Host.Outcome State Fault Refusal :=
  spdmCommand (.spdmKeyUpdate transport session) transport (inSession transport session) s

/-- R364: SPDM_HEARTBEAT. -/
def execSpdmHeartbeat (transport : Fin 65) (session : BitVec 16) (s : State) : Host.Outcome State Fault Refusal :=
  spdmCommand (.spdmHeartbeat transport session) transport (inSession transport session) s

/-- R364: SPDM_SESSION_END: the place of the session is free. -/
def execSpdmSessionEnd (transport : Fin 65) (session : BitVec 16) (s : State) : Host.Outcome State Fault Refusal :=
  .next { s with sec := { s.sec with
    sessions := s.sec.sessions.upd transport (fun l => l.filter (· != session.toNat)) } }

/-- R55: IDE_KM over a secured session of one of the link's DOE instances: keys are set or refreshed, in skid (1) or containment
(2) mode. -/
def execIdeKm (link : Fin 16) (key : BitVec 256) (containment : Bool) (s : State) : Host.Outcome State Fault Refusal :=
  let l := link.val
  let insecure := (s.links.get l).ideInsecure
  let open_ := (linkSlots s l).any (fun m => !(s.sec.sessions.get m).isEmpty)
  .next (ioAccess (4 * l) (fun s =>
    if !s.sec.running || !open_ then s
    else
      let s := { s with links := s.links.upd l (fun x => { x with
        ide := true, ideMode := if containment then 2 else 1, ideKey := some key, ideInsecure := false }) }
      let s := if insecure then settle (retrySnoops (forAll (linkSlots s l) ldUp s)) else s
      s.emit (.ideKm l)) s)

end Sys2Proof.Machine
end

