-- ==== Sys2Proof/Machine/RegMap.lean ====
section
/-!
DEFINITION. The register map in use (R10, R453 to R462): reads of a word with the registers that hardware computes, writes by
access code with the registers that have a behaviour of their own, REGISTER_WRITE, READ_REG, READ_LOGBOOK and DBG_WRITE.
-/

namespace Sys2Proof.Machine

/-! ### Blocks -/

/-- R453: whether an address lies in a block. -/
def inBlock (addr : Nat) : Bool :=
  let b := addr / 0x10000
  decide (0x10 ≤ b ∧ b ≤ 0x17) || decide (0x20 ≤ b ∧ b ≤ 0x2F) || decide (0x30 ≤ b ∧ b ≤ 0x33) || decide (0x40 ≤ b ∧ b ≤ 0x45) || b == 0xF0

/-- R453: the unpublished debug block. -/
def inDebug (addr : Nat) : Bool := addr / 0x10000 == 0xF0

/-- R429, R459: CODE of a block: its SOURCE code. -/
def blockCode (b : Nat) : Nat :=
  (cellFind b [(0x10, 1), (0x11, 2), (0x12, 3), (0x13, 4), (0x14, 5), (0x15, 6), (0x16, 8), (0x17, 18), (0x30, 9), (0x31, 10),
    (0x32, 11), (0x33, 19), (0x40, 17), (0x41, 12), (0x42, 13), (0x43, 14), (0x44, 15), (0x45, 16), (0xF0, 20)]).getD 7

/-- R459: PREFIX_BLKID of the block at an address. -/
def blkid (addr : Nat) : Nat :=
  let b := addr / 0x10000
  let n := if 0x20 ≤ b ∧ b ≤ 0x2F then b - 0x20 else 0
  regsOfBlock (b * 0x10000) + 1 * 2 ^ 24 + n * 2 ^ 32 + blockCode b * 2 ^ 40

/-- R458: whether the domain of a register is held in reset. -/
def inReset (s : State) (addr : Nat) : Bool :=
  match domainOfAddr addr with
  | .port p => s.coreDown || (s.ports.get p).inReset
  | .aon => false
  | .vaux => false
  | .mgmt => s.coreDown || s.rst.mgtHeld
  | _ => s.coreDown

/-! ### Reads -/

/-- The fields that hardware computes. -/
def computed (s : State) (addr lo : Nat) : Option Nat :=
  if addr = 0x400000 then some s.now
  else if addr = 0x400100 then some s.transit
  else if addr = 0x120008 ∧ lo = 0 then some (s.transit % 11)
  else if addr = 0x140000 ∧ lo = 17 then
    some (bit ((List.range 8).all (fun n => cmpState s n != 0) || s.flag F.CMP_CTRL.TIER_DISABLE))
  else if addr = 0x150000 ∧ lo = 9 then some (bit (zeroizeForced s || s.flag F.CRY_CTRL.ALARM_ZEROIZE))
  else if addr = 0x410028 ∧ lo = 22 then some (sleepLoad s / 2)
  else if addr = 0x330000 ∧ lo = 16 then some s.err.queue.length
  else if 0x330010 ≤ addr ∧ addr < 0x330030 then some (errWordOf s.err.first ((addr - 0x330010) / 8))
  else if 0x330040 ≤ addr ∧ addr < 0x330060 then some (errWordOf s.err.fatal ((addr - 0x330040) / 8))
  else if 0x330100 ≤ addr ∧ addr < 0x330120 then some (errWordOf s.err.aonLast ((addr - 0x330100) / 8))
  else if 0x331000 ≤ addr ∧ addr < 0x331800 then
    some (errWordOf (s.err.queue[(addr - 0x331000) / 32]?) ((addr - 0x331000) / 8 % 4))
  else if addr = 0x320000 ∧ lo = 56 then some (arbCount s)
  else if addr = 0x320000 ∧ lo = 3 then some (s.fuseBits 48 1)
  else if 0x320100 ≤ addr ∧ addr < 0x320200 then
    let w := (addr - 0x320100) / 8
    some (if 5 ≤ w ∧ w ≤ 8 then 0 else s.fuseBits (64 * w) 64)
  else if addr = 0x311000 then
    (if s.sb.wr = s.sb.rd then none else (s.sb.ring.get (s.sb.rd % 512)).map (fun w => w.word.toNat))
  else none

/-- A field's value. -/
def fieldValue (s : State) (f : Fld) : Nat := ((computed s f.addr f.lo).getD (s.get f)) % 2 ^ f.width

/-- The fields of a register at an address. -/
def fieldsAt (addr : Nat) : List (FieldSpec × Fld) :=
  match regAt addr with
  | none => []
  | some (r, _, j) => r.fields.map (fun f => (f, { addr, lo := f.lo, width := f.width, reset := f.reset j }))

/-- A register's value; write-only fields read 0. -/
def regValue (s : State) (addr : Nat) : Nat :=
  if inReset s addr then 0
  else ((fieldsAt addr).map (fun x => if x.1.acc == .wo then 0 else fieldValue s x.2 * 2 ^ x.2.lo)).foldl (· + ·) 0

/-- R451: a word of a plate buffer. -/
def plateWord (p : Plate) (o : Nat) : Nat :=
  if o = 0 then p.no + p.trigger * 2 ^ 32 + p.ctr * 2 ^ 40 + p.pl * 2 ^ 48 + p.merged * 2 ^ 56
  else if o = 8 then p.tb
  else if o = 0x10 then p.transit
  else if o = 0x18 then p.sleeps
  else if 0x20 ≤ o ∧ o < 0x40 then slice p.enabled.toNat (64 * ((o - 0x20) / 8)) 64
  else if 0x40 ≤ o ∧ o < 0x840 then p.values.getD ((o - 0x40) / 8) 0
  else 0

/-- R424: a word of the SPD mirrors; a slot whose SPD_DONE is 0 reads as zeros. -/
def spdWord (s : State) (o : Nat) : Nat :=
  let c := o / 2048
  if c < 16 ∧ s.flag (F.SPW_SLOT_STATUS.SPD_DONE c) then ofBytes (s.spd.getList (o / 8 * 8) 8) else 0

/-- R454: the 64-bit word at an address that is a multiple of 8. -/
def wordAt (s : State) (addr : Nat) : Nat :=
  if inBlock addr ∧ addr % 0x10000 = 0xFFF8 then blkid addr
  else if 0x454000 ≤ addr ∧ addr < 0x455000 then plateWord s.pmu.plate0 (addr - 0x454000)
  else if 0x455000 ≤ addr ∧ addr < 0x456000 then plateWord s.pmu.plate1 (addr - 0x455000)
  else if 0x441000 ≤ addr ∧ addr < 0x449000 then spdWord s (addr - 0x441000)
  else regValue s addr + (match regAt (addr + 4) with
    | some (r, _, _) => if r.width = 32 then regValue s (addr + 4) * 2 ^ 32 else 0
    | none => 0)

/-- R61, R62: the vendor DVSEC registers of a local slot, at their offsets. -/
def dvsecValue (s : State) (m o : Nat) : Nat :=
  if o = 0 then 0x0023 + 1 * 2 ^ 16
  else if o = 4 then Config.vendorId % 2 ^ 16 + 1 * 2 ^ 16 + 0x030 * 2 ^ 20
  else if o = 8 then 0x00A4
  else if o = 0x0C then
    Config.siRev % 256 + s.path * 2 ^ 8 + (if s.inClutch then s.get F.CLU_CFG.DEPTH else 0) * 2 ^ 14
      + s.get F.CLU_STATUS.CLUTCH_ID * 2 ^ 16
  else if o = 0x10 then
    m + ((hanOf s m).getD 0) * 2 ^ 8 + bit (hanOf s m).isSome * 2 ^ 14 + agentState s m * 2 ^ 16
  else if o = 0x28 then
    regValue s (0x100000028 + 0x1000 * m) + bit ((List.range 32).any (fun r =>
      !s.flag (F.TIER_DMR_CTRL.OWNER_MGT r) && s.get (F.TIER_DMR_CTRL.OWNER r) == m)) * 2 ^ 3
  else if o = 0x20 then s.now % 2 ^ 32
  else if o = 0x24 then (match (s.lds.get m).tbLatch with | some v => v | none => s.now / 2 ^ 32)
  else regValue s (0x100000000 + 0x1000 * m + o)

/-- R61, R63: a host's read of a vendor DVSEC register: AQ_TB_LO latches TB, AQ_TB_HI takes the latch, and the record of link drops
is cleared. -/
def dvsecRead (m o : Nat) (s : State) : State :=
  let v := dvsecValue s m o
  let s :=
    if o = 0x20 then { s with lds := s.lds.upd m (fun l => { l with tbLatch := some (s.now / 2 ^ 32) }) }
    else if o = 0x24 then { s with lds := s.lds.upd m (fun l => { l with tbLatch := none }) }
    else if o = 0x1C then ((s.put (F.AQ_DROP_LOG.DROPS m) 0).put (F.AQ_DROP_LOG.LOST_READS m) 0).put (F.AQ_DROP_LOG.LOST_WRITES m) 0
    else s
  s.emit (.dvsec m o v)

/-- R62, R105: a word of the data-mover page of an LD: TAIL and HEAD of a ring it owns. -/
def dmrPageWord (s : State) (m o : Nat) : Nat :=
  let r := o / 16
  if o < 0x200 ∧ ownsRing s m r then
    regValue s (0x131010 + 0x40 * r + (if o % 16 < 8 then 0 else 8))
  else 0

/-- R46: what the device reports of an option: present or absent. -/
def cxlSupported : CxlOption → Bool
  | .aspm | .d3cold | .sriov | .tdisp | .cxlCache | .switching | .unorderedIo | .hdmD | .meta0 | .selectiveIde | .tsp
  | .persistent => false
  | _ => true

/-! ### Writes -/

/-- The state that a row leads to. -/
def runTo (o : Host.Outcome State Fault Refusal) (s : State) : State :=
  match o with
  | .next t => t
  | _ => s

/-- R10: a software write of a field by its access code: `v` its bits in the value, `mask` those that are written. -/
def writeField (locked : Bool) (x : FieldSpec × Fld) (v mask : Nat) (s : State) : State :=
  let f := x.2
  let old := s.get f
  let new := (old &&& (2 ^ f.width - 1 - mask)) ||| (v &&& mask)
  match x.1.acc with
  | .rw => if mask != 0 && x.1.ok new then s.put f new else s
  | .rwl => if mask != 0 && !locked && x.1.ok new then s.put f new else s
  | .w1c => s.put f (old &&& (2 ^ f.width - 1 - (v &&& mask)))
  | .w1s => s.put f (old ||| (v &&& mask))
  | _ => s

/-- R10: whether a write of a register meets its LOCK: the bit is set, or this write sets it. -/
def lockMet (l : Fld) (addr value mask : Nat) (s : State) : Bool :=
  s.flag l || (l.addr == addr && slice (value &&& mask) l.lo 1 == 1)

/-- R10, R454: a write of a register without a behaviour of its own. -/
def plainWrite (addr value mask : Nat) (s : State) : State :=
  match regAt addr with
  | none => s
  | some (r, i, j) =>
    let locked := match r.lock with | some l => lockMet (l i j) addr value mask s | none => false
    forAll (fieldsAt addr) (fun x s => writeField locked x (slice value x.2.lo x.2.width) (slice mask x.2.lo x.2.width) s) s

/-- R462: a write of HP_PTM_SEL that would name a link twice leaves it unchanged. -/
def writePtmSel (value mask : Nat) (s : State) : State :=
  let t := plainWrite 0x100208 value mask s
  let named := ((List.range 4).filter (fun k => t.flag (F.HP_PTM_SEL.VALID k))).map (fun k => t.get (F.HP_PTM_SEL.LINK k))
  if named.eraseDups.length = named.length then t else s

/-- R393, THM_CFG: a write that would break THROTTLE_C < WARN_C < SHUT_C leaves those fields unchanged. -/
def writeThmCfg (value mask : Nat) (s : State) : State :=
  let t := plainWrite 0x420000 value mask s
  if t.get F.THM_CFG.THROTTLE_C < t.get F.THM_CFG.WARN_C ∧ t.get F.THM_CFG.WARN_C < t.get F.THM_CFG.SHUT_C then t
  else
    ((t.put F.THM_CFG.THROTTLE_C (s.get F.THM_CFG.THROTTLE_C)).put F.THM_CFG.WARN_C (s.get F.THM_CFG.WARN_C)).put F.THM_CFG.SHUT_C
      (s.get F.THM_CFG.SHUT_C)

/-- R413, HK_AGE: a write of a smaller AGE_MIN leaves that field unchanged. -/
def writeAge (value mask : Nat) (s : State) : State :=
  let t := plainWrite 0x430210 value mask s
  if t.get F.HK_AGE.AGE_MIN < s.get F.HK_AGE.AGE_MIN then t.put F.HK_AGE.AGE_MIN (s.get F.HK_AGE.AGE_MIN) else t

/-- R44, R71: ASSIGNED of the IDLE and DEAD slots where a device becomes a member, before any roster, or standalone. -/
def resetAssigned (s : State) : State :=
  forAll (slots.filter (fun m => agentState s m == 0 || agentState s m == 4)) (fun m s =>
    s.put (F.HP_HAN_MAP.ASSIGNED m) (if s.inClutch then 0 else s.get (F.HP_HAN_MAP.VALID m))) s

/-- R246, CLU_CFG: a path with digits deeper than DEPTH is refused: the device stays standalone. -/
def writeCluCfg (value mask : Nat) (s : State) : State :=
  let t := plainWrite 0x170000 value mask s
  let deep := slice (t.get F.CLU_CFG.PATH) 0 (6 - 2 * t.get F.CLU_CFG.DEPTH)
  let t := t.put F.CLU_STATUS.CFG_ERR (bit (deep != 0))
  if t.inClutch == s.inClutch then t else resetAssigned t

/-- R66: HP_LINKn_CTRL. Writes that had been received in part are none here (log entry 53). -/
def writeLinkCtrl (l v : Nat) (s : State) : State :=
  let d := slice v 1 1
  let s := if d = s.get (F.HP_LINK_CTRL.DISABLE l) then s else runTo (execLinkDisableWrite (Fin.ofNat 16 l) (d == 1) 0 s) s
  if slice v 0 1 = 1 then runTo (execLinkResetWrite (Fin.ofNat 16 l) 0 s) s else s

/-- R239: ST_PORTp_CTRL. -/
def writeStCtrl (p v : Nat) (s : State) : State :=
  let q := Fin.ofNat 4 p
  let s := if slice v 2 1 = s.get (F.ST_PORT_CTRL.DISABLE p) then s else runTo (execStDisableWrite q (slice v 2 1 == 1) s) s
  let s := if slice v 1 1 = 1 then runTo (execStPortResetWrite q s) s else s
  if slice v 0 1 = 1 then runTo (execStRetrainWrite q s) s else s

/-- R147, R148, R188, R189: an engine's control register; OFFLINE is applied before SELFTEST (DESIGN CHOICE, log entry 171). -/
def writeEngine (crypto : Bool) (n v : Nat) (s : State) : State :=
  let off := slice v 0 1
  let s :=
    if crypto then runTo (execCryEngOfflineWrite (Fin.ofNat 8 n) (off == 1) s) s
    else runTo (execCmpEngOfflineWrite (Fin.ofNat 32 n) (off == 1) s) s
  if slice v 1 1 = 0 then s
  else if crypto then runTo (execCryEngSelftestWrite (Fin.ofNat 8 n) s) s
  else runTo (execCmpEngSelftestWrite (Fin.ofNat 32 n) s) s

/-- R327: MBX_CHc_DOORBELL as the management processor writes it. -/
def writeDoorbell (c v : Nat) (s : State) : State :=
  let k := Fin.ofNat 16 c
  let n := slice v 16 13
  let s := if slice v 1 1 = 1 then runTo (execInTaken k true s) s else s
  let s :=
    if slice v 2 1 = 0 then s
    else if n < 16 ∨ 4096 < n then s.put (F.MBX_CH_STATUS.OUT_ERR c) 1
    else runTo (execOutPost k true s) s
  let s := if slice v 0 1 = 1 then runTo (execInPost k 0 true 0 [] s) s else s
  if slice v 3 1 = 1 then runTo (execOutTaken k 0 true s) s else s

/-- R338 to R341: MBX_SB_CTRL. -/
def writeSbCtrl (v : Nat) (s : State) : State :=
  let s := if slice v 0 1 = 1 then runTo (execSbMark s) s else s
  let s := if slice v 1 1 = 1 then runTo (execSbRewind s) s else s
  if slice v 2 1 = 1 then runTo (execSbFlush s) s else s

/-- R295: DCn_SCRUB: LINES written 0 stops the scrub, with SCRUB_OFF. -/
def writeScrub (c addr value mask : Nat) (s : State) : State :=
  let t := plainWrite addr value mask s
  if slice mask 0 7 != 0 && t.get (F.DC_SCRUB.LINES c) == 0 then t.log 0x86 c else t

/-- R446: PMU_CTRn_VALUE: a write of VALUE arms the counter again; otherwise OVF is cleared by a 1. -/
def writeCtr (n addr value mask : Nat) (s : State) : State :=
  if slice mask 0 48 = 0 then plainWrite addr value mask s
  else runTo (execPmuValueWrite (Fin.ofNat 256 n) (BitVec.ofNat 48 (plainWrite addr value mask s |>.get (F.PMU_CTR_VALUE.VALUE n))) s) s

/-- R450: PMU_CTRL, whose PLATE bit takes a plate. -/
def writePmuCtrl (value mask : Nat) (s : State) : State :=
  let s := plainWrite 0x450000 value mask s
  if slice (value &&& mask) 16 1 = 1 then takePlate 2 0 s else s

/-- R453, R454: a write of the register at an address. What a write meets outside the device is taken as nothing lost, equal DIMMs
and room for every frame (log entry 53). -/
def regWrite (addr value mask : Nat) (s : State) : State :=
  let off := addr % 0x10000
  let v32 : BitVec 32 := BitVec.ofNat 32 value
  if inReset s addr then s
  else if addr / 0x10000 = 0x10 ∧ 0x2000 ≤ off ∧ off < 0x2400 ∧ off % 16 = 8 then
    runTo (execHanMapWrite (Fin.ofNat 64 ((off - 0x2000) / 16)) v32 s) s
  else if addr / 0x10000 = 0x10 ∧ 0x1000 ≤ off ∧ off < 0x2000 ∧ off % 0x100 = 0 then writeLinkCtrl ((off - 0x1000) / 0x100) value s
  else if addr / 0x10000 = 0x10 ∧ off < 0x100 ∧ off % 0x40 = 8 then runTo (execHostPortCtrlWrite (Fin.ofNat 4 (off / 0x40)) v32 s) s
  else if addr / 0x10000 = 0x10 ∧ off < 0x100 ∧ off % 0x40 = 0 then runTo (execHostPortCfgWrite (Fin.ofNat 4 (off / 0x40)) v32 s) s
  else if addr = 0x100208 then writePtmSel value mask s
  else if addr / 0x10000 = 0x11 ∧ off < 0x400 ∧ off % 0x100 = 8 then writeStCtrl (off / 0x100) value s
  else if addr / 0x10000 = 0x13 ∧ 0x1000 ≤ off ∧ off < 0x1800 ∧ off % 0x40 = 8 then
    runTo (execDmrCtrlWrite (Fin.ofNat 32 ((off - 0x1000) / 0x40)) v32 s) s
  else if addr = 0x130008 ∨ addr = 0x130010 then poolChanged (plainWrite addr value mask s)
  else if addr / 0x10000 = 0x13 ∧ 0x1000 ≤ off ∧ off < 0x1800 ∧ off % 0x40 = 0 then
    if s.flag (F.TIER_DMR_CTRL.ENABLE ((off - 0x1000) / 0x40)) then s else plainWrite addr value mask s
  else if addr / 0x10000 = 0x13 ∧ 0x1000 ≤ off ∧ off < 0x1800 ∧ off % 0x40 = 0x10 then
    runTo (execDmrDoorbell (Fin.ofNat 32 ((off - 0x1000) / 0x40)) (BitVec.ofNat 15 value) none s) s
  else if addr = 0x140000 then runTo (execTierDisableWrite v32 s) s
  else if addr / 0x10000 = 0x14 ∧ 0x100 ≤ off ∧ off < 0x300 ∧ off % 0x10 = 0 then writeEngine false ((off - 0x100) / 0x10) value s
  else if addr = 0x150000 then runTo (execCryCtrlWrite v32 s) s
  else if addr / 0x10000 = 0x15 ∧ 0x800 ≤ off ∧ off < 0x880 ∧ off % 0x10 = 0 then writeEngine true ((off - 0x800) / 0x10) value s
  else if addr = 0x160000 then runTo (execQosCtrlWrite v32 s) s
  else if addr = 0x170000 then writeCluCfg value mask s
  else if 0x20 ≤ addr / 0x10000 ∧ addr / 0x10000 ≤ 0x2F then
    let c := addr / 0x10000 - 0x20
    let k := Fin.ofNat 16 c
    if off = 0 then runTo (execDcCfgWrite k (BitVec.ofNat 64 ((regValue s addr &&& (2 ^ 64 - 1 - mask)) ||| (value &&& mask)))
      (Config.spdSame (s.spd.getList (c * 2048) 2048)) (Config.spdFrames (s.spd.getList (c * 2048) 2048))
      (Config.spdRated (s.spd.getList (c * 2048) 2048)) s) s
    else if off = 0x30 then writeScrub c addr value mask s
    else if 0x200 ≤ off ∧ off < 0x240 ∧ off % 8 = 0 then runTo (execDcMarkWrite k (Fin.ofNat 8 ((off - 0x200) / 8)) v32 s) s
    else if off = 0x800 then runTo (execTrainingGo k v32 s) s
    else plainWrite addr value mask s
  else if addr / 0x10000 = 0x31 ∧ 0x100 ≤ off ∧ off < 0x500 ∧ off % 0x40 = 0 then
    runTo (execMbxBindWrite (Fin.ofNat 16 ((off - 0x100) / 0x40)) v32 s) s
  else if addr / 0x10000 = 0x31 ∧ 0x100 ≤ off ∧ off < 0x500 ∧ off % 0x40 = 0x10 then writeDoorbell ((off - 0x100) / 0x40) value s
  else if addr = 0x311018 then writeSbCtrl value s
  else if addr = 0x410020 then plainWrite addr value mask { s with pwr := { s.pwr with timerDone := 0 } }
  else if addr = 0x420000 then writeThmCfg value mask s
  else if addr = 0x430210 then writeAge value mask s
  else if addr = 0x450000 then writePmuCtrl value mask s
  else if 0x451000 ≤ addr ∧ addr < 0x452000 ∧ addr % 16 = 8 then writeCtr ((addr - 0x451000) / 16) addr value mask s
  else plainWrite addr value mask s

/-- R461: a faulting access of the management processor. -/
def accessError (addr cause : Nat) (write : Bool) (s : State) : State :=
  (((s.put F.MGT_ACCESS_ERR.ADDR addr).put F.MGT_ACCESS_ERR.CAUSE cause).put F.MGT_ACCESS_ERR.WRITE (bit write)).put
    F.MGT_ACCESS_ERR.VALID 1 |>.bump F.MGT_ACCESS_ERR.COUNT

/-- R454: a 64-bit or 32-bit write at an aligned address of a block: a 64-bit register whole or in half, or one or two 32-bit
registers. -/
def writeWord (addr : Nat) (wide : Bool) (value : Nat) (s : State) : State :=
  let base := addr / 8 * 8
  let width := match regAt base with | some (r, _, _) => r.width | none => 32
  if width = 64 then
    if wide then regWrite base value (2 ^ 64 - 1) s
    else if addr % 8 = 0 then regWrite base (value % 2 ^ 32) (2 ^ 32 - 1) s
    else regWrite base (value % 2 ^ 32 * 2 ^ 32) (2 ^ 64 - 2 ^ 32) s
  else if wide then regWrite (base + 4) (value / 2 ^ 32 % 2 ^ 32) (2 ^ 32 - 1) (regWrite base (value % 2 ^ 32) (2 ^ 32 - 1) s)
  else regWrite addr (value % 2 ^ 32) (2 ^ 32 - 1) s

/-- R10, R455: a load by the management processor clears the RC fields of the register at an address, from bit `lo` up to bit `hi`. -/
def clearRc (addr lo hi : Nat) (s : State) : State :=
  forAll ((fieldsAt addr).filter (fun x => x.1.acc == .rc && decide (lo ≤ x.2.lo) && decide (x.2.lo < hi))) (fun x s => s.put x.2 0) s

/-- R454: the value that a load of 64 bits or 32 bits at an aligned address returns. -/
def loadValue (addr : Nat) (wide : Bool) (s : State) : Nat :=
  let w := wordAt s (addr / 8 * 8)
  if wide then w else if addr % 8 = 0 then w % 2 ^ 32 else w / 2 ^ 32 % 2 ^ 32

/-- R10, R339, R454, R455: what a load does: its RC fields are cleared, and MBX_SB_DATA gives up its oldest word. -/
def loadWord (addr : Nat) (wide : Bool) (s : State) : State :=
  let base := addr / 8 * 8
  let v := loadValue addr wide s
  let s := if base = 0x311000 then runTo (execSbDataRead false none s) s else s
  let s := if wide then clearRc (base + 4) 0 64 (clearRc base 0 64 s)
    else if addr % 8 = 0 then clearRc base 0 32 s else clearRc (base + 4) 0 64 (clearRc base 32 64 s)
  s.emit (.loaded addr v)

/-- R454, R458, R461: REGISTER_WRITE: an access of the management processor, 64 bits wide or 32. A load that faults returns 0. In
SL2 and SL3, and held in reset, it does not run. -/
def execRegisterWrite (addr : BitVec 32) (wide : Bool) (access : RegAccess) (s : State) : Host.Outcome State Fault Refusal :=
  let a := addr.toNat
  let write : Bool := match access with | .store _ => true | .load => false
  let cause := if !inBlock a then 1 else if a % (if wide then 8 else 4) ≠ 0 then 2 else if inReset s a then 3 else 0
  if s.asleep || s.rst.mgtHeld then .next s
  else if cause ≠ 0 then
    let s := accessError a cause write s
    .next (if write then s else s.emit (.loaded a 0))
  else
    match access with
    | .store v => .next (writeWord a wide v.toNat s)
    | .load => .next (loadWord a wide s)

/-! ### The mailbox page -/

/-- R326: whether an LD reaches a channel by its mailbox page: the one bound to it, or channel 15. -/
def reachesChannel (s : State) (m c : Nat) : Bool := c == 15 || (chanKind s c == 1 && s.get (F.MBX_CH_BIND.SLOT c) == m)

/-- R326, R330: the 64-bit word that an LD reads at an offset of its mailbox page: control registers, the IN buffer and the OUT buffer.
On channel 15 the holder of the claim alone reads HELD as 1 and the IN buffer, the destination alone reads the OUT buffer, and OWNER
reads 0. A buffer without a message reads as zeros (DESIGN CHOICE, log entry 200). -/
def mailboxWord (s : State) (m c o : Nat) : Nat :=
  let mine := (s.claim.map (·.1)) == some m
  let word (l : List Nat) (i : Nat) : Nat := ofBytes ((l.drop i).take 8)
  if !reachesChannel s m c then 0
  else if o < 0x1000 then
    if 0x40 ≤ o then 0
    else if o = 0x20 then (if c = 15 then bit (s.flag F.MBX_CH15_CLAIM.BUSY) * 2 ^ 6 + bit mine * 2 ^ 31 else 0)
    else regValue s (0x310100 + 0x40 * c + o)
  else if o < 0x2000 then (if c = 15 ∧ !mine then 0 else word ((s.mbx.get c).inMsg.map (·.toNat)) (o - 0x1000))
  else if c = 15 ∧ farSlot s 15 ≠ some m then 0
  else match (s.mbx.get c).outMsg with
    | some x => word (outBytes x) (o - 0x2000)
    | none => 0

/-- R327, R330: an LD writes a word of a channel's IN buffer: ignored, with IN_ERR, while FULL is 1; on channel 15 discarded unless the LD
holds the claim. -/
def storeIn (m c o : Nat) (v : BitVec 64) (s : State) : State :=
  if c = 15 ∧ (s.claim.map (·.1)) ≠ some m then s
  else if s.flag (F.MBX_CH_STATUS.IN_FULL c) then s.put (F.MBX_CH_STATUS.IN_ERR c) 1
  else
    let b := (toBytes 8 v.toNat).map (BitVec.ofNat 8)
    { s with mbx := s.mbx.upd c (fun x => { x with inMsg := overwrite o b x.inMsg }) }

/-- R327, R330: a far end's write of DOORBELL: IN_POST posts what the IN buffer holds. -/
def farDoorbell (m c v : Nat) (s : State) : State :=
  let k := Fin.ofNat 16 c
  let w := Fin.ofNat 64 m
  let s := if slice v 0 1 = 1 then runTo (execInPost k w false (BitVec.ofNat 13 (slice v 16 13)) [] s) s else s
  let s := if slice v 1 1 = 1 then runTo (execInTaken k false s) s else s
  let s := if slice v 2 1 = 1 then runTo (execOutPost k false s) s else s
  if slice v 3 1 = 1 then runTo (execOutTaken k w false s) s else s

/-- R326, R327, R330: an LD writes a word of its mailbox page: of the control registers STATUS, DOORBELL, IRQ and the claim take its
writes (DESIGN CHOICE, log entry 200), of the buffers IN; a write of OUT while it is FULL sets OUT_ERR. -/
def mailboxStore (m c o : Nat) (v : BitVec 64) (s : State) : State :=
  let all : Nat := 2 ^ 64 - 1
  if !reachesChannel s m c then s
  else if o = 8 ∨ o = 0x18 then plainWrite (0x310100 + 0x40 * c + o) v.toNat all s
  else if o = 0x10 then farDoorbell m c v.toNat s
  else if o = 0x20 ∧ c = 15 then (if v.getLsbD 7 then runTo (execCh15Claim (Fin.ofNat 64 m) s) s else s)
  else if o < 0x1000 then s
  else if o < 0x2000 then storeIn m c (o - 0x1000) v s
  else if s.flag (F.MBX_CH_STATUS.OUT_FULL c) then s.put (F.MBX_CH_STATUS.OUT_ERR c) 1
  else s

/-- R46, R61 to R63, R70, R326, R378, R452: TB_LO_READ: a host's read of what its LD shows it beside CXL.mem, or its write to its mailbox
page. A read of the vendor DVSEC or of the mailbox page wakes nothing and is served in every sleep state. -/
def execTbLoRead (slot : Fin 64) (read : HostRead) (s : State) : Host.Outcome State Fault Refusal :=
  let m := slot.val
  match read with
  | .dvsec o => .next (if s.coreDown || !ldReached s m then s else dvsecRead m (o.val / 4 * 4) s)
  | .dmrPage o => .next (ioAccess m (fun s => s.emit (.dmrPage m (o.toNat / 8 * 8) (dmrPageWord s m o.toNat))) s)
  | .memoryActive => .next (ioAccess m (fun s => s.emit (.memoryActive m (agentState s m != 3 && !fenced s))) s)
  | .userPage o => .next (ioAccess m (fun s => s.emit (.userPage m (o.toNat / 8 * 8) (userPageWord s m (o.toNat / 8 * 8)))) s)
  | .capability o => .next (ioAccess m (fun s => s.emit (.capability m o (cxlSupported o))) s)
  | .cdat => .next (ioAccess m (fun s => s.emit (.cdat m ((s.lds.get m).extents.map (fun e => (e.dpa, e.gib * 2 ^ 30))))) s)
  | .mailbox c o =>
    .next (if s.coreDown || !ldReached s m then s else s.emit (.mailboxPage m c (o.val / 8 * 8) (mailboxWord s m c (o.val / 8 * 8))))
  | .mailboxStore c o v => .next (if s.coreDown || !ldReached s m then s else mailboxStore m c (o.val / 8 * 8) v (wakeRaw 0 s))

/-! ### Commands -/

/-- R368, R454: whether a packet reaches the debug functions: on the debug UART, while the lock is open (log entry 52). -/
def debugOpen (p : Packet) (s : State) : Bool :=
  s.flag F.SEC_STATUS.DEBUG_OPEN && (match p.path with | .uart => true | _ => false)

/-- R454, R455: READ_REG. -/
def readReg (p : Packet) (s : State) : Verdict × State :=
  let a := p.par 0 32
  let n := p.par 32 8
  if inDebug a && !debugOpen p s then ({ status := 0x0A }, s)
  else if a % 8 ≠ 0 ∨ !inBlock a ∨ n = 0 ∨ 64 < n ∨ 0x10000 < a % 0x10000 + 8 * n then refuseRange 8 s
  else ({ payload := ((List.range n).map (fun i => toBytes 8 (wordAt s (a + 8 * i)))).flatten }, s)

/-- R454: READ_REG. -/
def execReadReg (p : Packet) (s : State) : Host.Outcome State Fault Refusal := .next (runCmd 0x0102 readReg p s)

/-- R319, R408: READ_LOGBOOK: bytes of the logbook from an offset. -/
def readLogbook (p : Packet) (s : State) : Verdict × State :=
  let o := p.par 0 32
  let n := p.par 32 16
  if 0x100000 ≤ o then refuseRange 8 s
  else if 4080 < n ∨ 0x100000 < o + n then refuseRange 0x0C s
  else ({ payload := norRead s (logBase + o) n }, s)

/-- R319: READ_LOGBOOK. -/
def execReadLogbook (p : Packet) (s : State) : Host.Outcome State Fault Refusal := .next (runCmd 0x0103 readLogbook p s)

/-- R319, R454: DBG_WRITE: the payload has the width of the register. -/
def dbgWrite (p : Packet) (s : State) : Verdict × State :=
  let a := p.par 0 32
  let width := match regAt a with | some (r, _, _) => r.width | none => 8 * p.bytes.length
  if !debugOpen p s then ({ status := 0x0A }, s)
  else if a % 4 ≠ 0 ∨ !inBlock a then refuseRange 8 s
  else if 8 * p.bytes.length ≠ width ∨ (width ≠ 32 ∧ width ≠ 64) then refuseRange 6 s
  else if inDebug a then ok s
  else ok (writeWord a (width == 64) (ofBytes p.bytes) s)

/-- R454: DBG_WRITE. -/
def execDbgWrite (p : Packet) (s : State) : Host.Outcome State Fault Refusal := .next (runCmd 0x0E02 dbgWrite p s)

end Sys2Proof.Machine
end

