-- ==== Sys2Proof/Machine/Boot.lean ====
section
/-!
DEFINITION. Boot (R356 to R359, R363, R365): the choice of a slot and its verification, measurements, and what the firmware does
as it starts: the logbook's records (R411) and the CONFIG image (R355). With it, the end of an SPI NOR operation (R360) and zero
initialisation with its marks (R282, R296).
-/

namespace Sys2Proof.Machine

/-! ### Records of the logbook that come into force -/

/-- R282, R411: the marks of a channel are those of its DIMM_MARK record, where the modules' serial numbers are the record's and
the devices are x4. -/
def restoreMarks (c : Nat) (s : State) : State :=
  match (logInForce s).find? (fun r => r.kind == 4 && r.subject == c) with
  | none => s
  | some r =>
    if r.payload.take 8 ≠ serials s c ∨ s.flag (F.DC_CFG.X8 c) then s
    else
      forAll (List.range 8) (fun k s =>
        let v := fieldLE r.payload (8 + 4 * k) 4
        let s := (s.put (F.DC_MARK.SC0_DEV c k) (slice v 0 4)).put (F.DC_MARK.SC0_VALID c k) (slice v 4 1)
        (s.put (F.DC_MARK.SC1_DEV c k) (slice v 12 4)).put (F.DC_MARK.SC1_VALID c k) (slice v 16 1)) s

/-- R411: PL_PLAN, GUARD and DIMM_MARK records return to their registers; a level is not lowered below the value it has (DEDUCED
from R413, log entry 54). -/
def restoreRecord (r : LogRec) (s : State) : State :=
  if r.kind = 6 then
    let s := forAll (List.range 6) (fun n s =>
      s.put (F.PWR_PL_CFG.VOLT_MV n) (max (s.get (F.PWR_PL_CFG.VOLT_MV n)) (fieldLE r.payload (2 * n) 2))) s
    s.put F.HK_AGE.AGE_MIN (max (s.get F.HK_AGE.AGE_MIN) (r.payload.getD 12 0))
  else if r.kind = 5 then { s with hk := { s.hk with guards := s.hk.guards.set r.subject (r.payload.getD 0 0) } }
  else s

/-- R411: the newest record of the ring: its place and its SEQ. -/
def newestRecord (s : State) : Option (Nat × Nat) :=
  (logAll s).foldl (fun (b : Option (Nat × Nat)) x => match b with
    | some n => if seqNewer x.2.1 n.2 then some (x.1, x.2.1) else b
    | none => some (x.1, x.2.1)) none

/-- R410, R411: the next record goes behind the newest one. -/
def findLogEnd (s : State) : State :=
  match newestRecord s with
  | some (a, seq) =>
    let o := a - logBase
    let sector := o / 0x10000
    ({ s with hk := { s.hk with sector, index := o % 0x10000 / 64 + 1, seq } }).put F.HK_LOG_STATUS.SECTOR sector
  | none => { s with hk := { s.hk with sector := 1, index := 0, seq := 0 } }.put F.HK_LOG_STATUS.SECTOR 1

/-- R409: the THERMAL_TRIP record of a trip that the logbook does not hold yet. -/
def recordTrip (s : State) : State :=
  let b := toBytes 8 (regValue s 0x420010)
  if !s.flag F.THM_TRIP_LAST.VALID || (logInForce s).any (fun r => r.kind == 7 && r.payload.take 8 == b) then s
  else logRecord 7 0 b s

/-! ### The CONFIG image -/

/-- R355: one record of a CONFIG body: those of the SEC and CRY blocks are skipped. -/
def configRecord (b : List Nat) (s : State) : State :=
  let a := fieldLE b 0 4
  let v := fieldLE b 8 8
  if a / 0x10000 = 0x32 ∨ a / 0x10000 = 0x15 then s.log 0x61 0 a 0
  else if !inBlock a then accessError a 1 true s
  else
    let wide := (regAt a).isNone || (match regAt a with | some (r, _, _) => r.width == 64 | none => true)
    if a % (if wide then 8 else 4) ≠ 0 then accessError a 2 true s
    else if inReset s a then accessError a 3 true s
    else writeWord a wide v s

/-- R355: the records of the running slot's CONFIG body, in order. -/
def applyConfig (slot : Nat) (s : State) : State :=
  let n := fieldLE (norRead s (configBase slot + 0x10) 4) 0 4
  let body := norRead s (configBase slot + 2048) n
  forAll (chunks 16 4096 body) configRecord s

/-! ### Boot -/

/-- R365: measurement 4: the fuse bits with DEVICE_SECRET taken as 0. -/
def fuseMeasure (s : State) : List Nat :=
  sha256 ((List.range 256).map (fun i => if 40 ≤ i ∧ i < 72 then 0 else s.fuseBits (8 * i) 8))

/-- R357: the slot that is chosen first, with SEC_BOOT_TRY. -/
def chooseSlot (s : State) : Nat × State :=
  let b := s.sec.ctrl
  if b.pending = 0xFF then (b.active, s)
  else if s.get F.SEC_BOOT_TRY.TRIED = 1 ∧ s.get F.SEC_BOOT_TRY.SEQ = b.seq then (b.active, s)
  else (b.pending, (s.put F.SEC_BOOT_TRY.SEQ b.seq).put F.SEC_BOOT_TRY.TRIED 1)

/-- R356, R365: the ROM starts a slot: measurements and SEC registers. -/
def startSlot (slot : Nat) (s : State) : State :=
  let s := ((s.put F.SEC_STATUS.RUN_SLOT slot).put F.SEC_STATUS.RUN_SVN ((norRead s (slotBase slot + 12) 1).headD 0)).put F.SEC_BOOT.RUN_VERSION
    (fieldLE (norRead s (slotBase slot + 8) 4) 0 4)
  let meas := [toBytes 32 Config.romDigest.toNat, imageDigest s (slotBase slot), imageDigest s (configBase slot), fuseMeasure s, measure5 s]
  { s with sec := { s.sec with meas, running := true, erased := [], trialSlots := 0, applied := false } }

/-- R329, R355, R411: what the firmware does as it starts; at the end an ABORTED notice goes out on every bound channel. -/
def startFirmware (slot : Nat) (s : State) : State :=
  let s := findLogEnd (forAll (logInForce s) restoreRecord s)
  let s := applyConfig slot s
  let s := forAll (List.range 16) restoreMarks s
  let s := forAll ((List.range 16).filter (fun c => !s.flag (F.DC_CFG.LOCK c))) startTraining s
  let s := recordTrip { s with sec := { s.sec with applied := true } }
  noticeAll 0x30 false s

/-- R357: the slot that was to run, for FALLBACK: the one named by PENDING, or ACTIVE. A trial that was tried before falls back to
ACTIVE (R362's worked example). -/
def wantedSlot (b : BootCtrl) : Nat := if b.pending = 0xFF then b.active else b.pending

/-- R356, R363: steps 1 and 2 of the boot ROM: the fuse shadows are loaded, and the identity key is unsealed. -/
def openIdentity (s : State) : State :=
  let s := { s with fuseShadow := s.fuses }
  let good := identityOpens s
  { s with sec := { s.sec with dik := good } }.put F.SEC_STATUS.DIK_FAIL (bit (!good))

/-- R356, R357, R358: steps 3 to 5 of the boot ROM, and what the firmware then does. -/
def bootRom (s : State) : State :=
  let ctrl := bctlSelect s
  let s := { s with sec := { s.sec with ctrl, confirming := false } }.put F.SEC_BOOT.BCTL_SEQ ctrl.seq
  let (first, s) := chooseSlot s
  let found := if slotPasses s first then some first else if slotPasses s (1 - first) then some (1 - first) else none
  match found with
  | none => { s with sec := { s.sec with running := true, erased := [] } }.put F.SEC_STATUS.RECOVERY 1
  | some slot =>
    let fallback := slot != wantedSlot ctrl
    let s := startSlot slot (s.put F.SEC_STATUS.FALLBACK (bit fallback))
    let s := startFirmware slot s
    if fallback then s.log 0x8E else s

/-- R351, R356: BOOT, once the management domain has left reset. `identity` is what the identity partition of the flash holds, which
nothing writes after manufacture. -/
def execBoot (identity : List Byte) (s : State) : Host.Outcome State Fault Refusal :=
  if s.sec.running || s.rst.mgtHeld || s.coreDown then .next s
  else
    let nor := norLoad s.sec.nor identityBase ((identity.take 0x4000).map (·.toNat))
    .next (bootRom (openIdentity { s with sec := { s.sec with nor } }))

/-! ### The end of a program or erase -/

/-- R360: a page of a FW_WRITE is done; the reply follows the last one. -/
def fwPageDone (n : Nat) (s : State) : State :=
  match s.sec.fw with
  | none => s
  | some (p, done) =>
    if s.sec.norOps.any (fun o => o.who == .fwWrite) then { s with sec := { s.sec with fw := some (p, done + n) } }
    else answer p { result := done + n } { s with sec := { s.sec with fw := none } }

/-- R352, R358, R359: BOOT_CTRL is written: the copy is the selected one; a recovery boots it. -/
def bootCtrlDone (s : State) : State :=
  let ctrl := bctlSelect s
  let s := { s with sec := { s.sec with ctrl, confirming := false } }.put F.SEC_BOOT.BCTL_SEQ ctrl.seq
  if s.flag F.SEC_STATUS.RECOVERY then
    let s := { s with sec := { s.sec with running := false } }.put F.SEC_STATUS.RECOVERY 0
    bootRom s
  else s

/-- R360: NOR_WRITE_COMPLETE: the operation under way takes its effect on the flash, and the next is issued. -/
def execNorWriteComplete (s : State) : Host.Outcome State Fault Refusal :=
  match s.sec.norOps with
  | [] => .next s
  | o :: rest =>
    if !s.sec.norBusy then .next s
    else
      let s := { s with sec := { s.sec with nor := norApply o s.sec.nor, norOps := rest, norBusy := false } }.put F.SEC_STATUS.FLASH_BUSY 0
      let s := if o.who = .fwWrite then fwPageDone o.bytes.length s else s
      let s := if o.who = .bootCtrl ∧ o.erase = 0 then bootCtrlDone s else s
      .next (issueNor s)

/-! ### Zero initialisation -/

/-- R282, R296: ZERO_INIT_COMPLETE: every line of the channel holds the all-zero codeword, and the marks of its modules return from
the logbook. -/
def execZeroInitComplete (chan : Fin 16) (s : State) : Host.Outcome State Fault Refusal :=
  let c := chan.val
  if s.get (F.DC_CFG.FRAMES c) = 0 ∨ s.flag (F.DC_CFG.CFG_ERR c) ∨ s.flag (F.DC_CFG.ENABLE c) ∨ s.flag (F.DC_TRN_CTRL.BUSY c)
      ∨ (s.chans.get c).trainer.isSome ∨ (s.chans.get c).trainFailed then .next s
  else
    let s := restoreMarks c s
    let s := { s with
      dram := s.dram.keep (fun k _ => k / 2 ^ 34 != c)
      chans := s.chans.upd c (fun ch => { ch with writebacks := [], zeroing := false }) }
    .next (s.put (F.DC_CFG.ZEROED c) 1)

end Sys2Proof.Machine
end

