-- ==== Sys2Proof/Machine/Executive.lean ====
section
/-!
DEFINITION. The frame executive (R334 to R337): its tasks and their order, the decision of any accepted packet, the ends of Long
commands, lease grants and timeouts (R209, R210), walks (R181, R182), and the host notices of error records (R427, R433, R481);
with the tunnel of R60 and packets of no defined command (R318).
-/

namespace Sys2Proof.Machine

/-! ### Any packet -/

/-- R319: the effect of an opcode. -/
def effectOf (op : Nat) : Effect :=
  match op with
  | 0x0101 => identify | 0x0102 => readReg | 0x0103 => readLogbook
  | 0x0201 => regionAlloc | 0x0202 => regionFree | 0x0203 => regionClass | 0x0204 => extentSet | 0x0205 => extentClear
  | 0x0206 => regionRekey
  | 0x0301 => tierPin | 0x0302 => channelEvacuate | 0x0303 => channelReturn
  | 0x0401 => keyLoad | 0x0402 => keyRetire
  | 0x0501 => leaseAnswer | 0x0502 => leaseClearOrphan
  | 0x0601 => qosConfig | 0x0701 => engineSet
  | 0x0801 => setPl | 0x0802 => sleepCmd | 0x0803 => slotPower
  | 0x0901 => memberJoin | 0x0902 => memberRemove
  | 0x0A01 => pmuConfig | 0x0A02 => pmuPlate | 0x0A03 => pmuUserPage
  | 0x0B01 => errRead | 0x0B02 => errClear
  | 0x0C01 => fwWrite | 0x0C02 => fwActivate
  | 0x0D01 => fuseProgram | 0x0E01 => debugUnlock | 0x0E02 => dbgWrite
  | _ => fun _ s => ({ status := 0x02 }, s)

/-- R318: the decision unit of an accepted packet. -/
def decidePacket (p : Packet) (s : State) : State := decideWith (effectOf p.opcode.toNat) p s

/-- R318: UNSUPPORTED_COMMAND: a packet of no defined class or command. -/
def execUnsupportedCommand (p : Packet) (s : State) : Host.Outcome State Fault Refusal :=
  if opDefined s p.opcode.toNat then .next s else .next (runCmd p.opcode.toNat (effectOf p.opcode.toNat) p s)

/-- R60, R313: AQ_COMMAND_TUNNEL: the packet in the payload arrives from a host mailbox of the LD's link. A payload that is shorter
than a packet's header carries none, and is answered as an invalid input (DESIGN CHOICE, log entry 138). -/
def execAqCommandTunnel (slot : Fin 64) (bytes : List Byte) (s : State) : Host.Outcome State Fault Refusal :=
  let p := packetOf (.tunnel slot) slot bytes
  if !(s.links.get (linkOfSlot slot)).up then .next s
  else if bytes.length < 16 then .next (s.emit (.mailbox slot .invalid []))
  else .next (runCmd p.opcode.toNat (effectOf p.opcode.toNat) p s)

/-! ### Tasks -/

/-- R335: a task unit of the frame executive. -/
inductive Task where
  | fatal
  | grant (region : Nat)
  | timeout (region : Nat)
  | walkStart
  | walkEnd
  | decide (p : Packet)
  | long (c : LongCmd)
  | sideband
  | train (chan : Nat)
  | marks (chan : Nat)
  | record (r : ErrRec)
deriving DecidableEq, Repr

/-- A number for a task, under which its slots of waiting are counted. -/
def Task.key : Task → Nat
  | .fatal => 0
  | .walkStart => 1
  | .walkEnd => 2
  | .grant r => 8 * r + 3
  | .timeout r => 8 * r + 4
  | .decide p => 8 * (packetKey p * 65536 + p.tag.toNat) + 5
  | .long c => 8 * (c.key * 65536 + c.tag) + 6
  | .record r => 8 * (r.seq * 256 + r.code) + 7
  | .train c => 8 * (c + 1)
  | .marks c => 8 * (c + 1) + 1
  | .sideband => 8 * 17

/-- R335, R336: the number of a task's kind, under which its unit's cost is declared. -/
def Task.kind : Task → Nat
  | .fatal => 0
  | .grant _ => 1
  | .timeout _ => 2
  | .walkStart => 3
  | .walkEnd => 4
  | .decide p => 0x10000 + p.opcode.toNat
  | .long c => 0x20000 + c.opcode
  | .train _ => 5
  | .sideband => 6
  | .marks _ => 7
  | .record _ => 8

/-- R336: the cycles that a task unit declares as its worst case: no unit declares more than 900. -/
def Task.cost (t : Task) : Nat := min 900 (Config.unitCost t.kind).toNat

/-- R209: the leased regions that are VACANT and have a request that waits, with that request's agent. -/
def grantable (s : State) : List Nat :=
  (s.reqs.filter (fun r => r.stage == .lease && r.agent.isSome && (s.region (regionOf r.page)).lease == 0
    && (s.region (regionOf r.page)).state == 1)).map (fun r => regionOf r.page) |>.eraseDups

/-- R209: LEASE_GRANT: the oldest request that waits takes the lease. -/
def grantLease (region : Nat) (s : State) : State :=
  match s.reqs.find? (fun r => r.stage == .lease && regionOf r.page == region && r.agent.isSome) with
  | none => s
  | some r =>
    let h := r.agent.getD 0
    settle (resumeLease region (s.writeRegion region (fun d => { d with
      lease := 1, holder := h, breaker := 0, epoch := if d.holder = h then d.epoch else (d.epoch + 1) % 2 ^ 32 })))

/-- R314: how a Long command ends: none while it goes on. MEMBER_REMOVE ends with its roster (R270). -/
def longOutcome (s : State) (c : LongCmd) : Option (Nat × Nat) :=
  let done (b : Bool) : Option (Nat × Nat) := if b then some (0, 0) else none
  match c.opcode with
  | 0x0202 => done ((s.region c.object).state == 0)
  | 0x0206 => done (!(s.region c.object).walk && !s.walkQueue.any (fun q => q.region == c.object))
  | 0x0302 => done (s.get (F.TIER_POOL_STATUS.EVAC c.object) == 2)
  | 0x0303 => match s.get (F.TIER_POOL_STATUS.EVAC c.object) with
    | 0 => some (0, 0)
    | 2 => some (0x0B, detail 1 c.object)
    | _ => none
  | 0x0402 => done (keyState s c.object == 0)
  | 0x0803 => slotOutcome s c
  | _ => none

/-- R335: the tasks that wait, in the order of their priorities. -/
def tasks (s : State) : List Task :=
  (if s.inFatal && !s.mgt.fatalTold then [.fatal] else [])
    ++ (grantable s).map .grant
    ++ ((s.regions.cells.filter (fun c => leaseOver s c.1)).map (fun c => .timeout c.1))
    ++ (if (freeContext s).isSome && s.walkQueue.any (fun q => !(s.region q.region).walk) then [.walkStart] else [])
    ++ (if s.walks.any (fun w => w.2.ptr.all (fun p => decide (16384 ≤ p))) then [.walkEnd] else [])
    ++ s.mgt.accepted.map .decide
    ++ (s.mgt.longs.filter (fun c => (longOutcome s c).isSome && eventRoom c s)).map .long
    ++ ((List.range 16).filter (trainDue s)).map .train
    ++ (if s.sb.rerun || s.sb.wr != s.sb.rd then [.sideband] else [])
    ++ ((List.range 16).filter (fun c => (s.chans.get c).saveMarks)).map .marks
    ++ s.err.copies.map .record

/-! ### What a task does -/

/-- R433: the fatal task: a notice on every bound channel and on the sideband. -/
def fatalTask (s : State) : State :=
  noticeAll (s.err.fatal.elim 0 (·.code)) true { s with mgt := { s.mgt with fatalTold := true } }

/-- R427, R481: the notice of a DRAM_UE: to the LDs that map its page, or to all where no page is known. -/
def dramNotice (r : ErrRec) (s : State) : State :=
  match r.known with
  | some cpa => eventLine .dram r.code cpa s
  | none => forAll slots (eventTo · { kind := .dram, code := r.code, dpa := 0, detail := r.inst + 256 * r.detail }) s

/-- R409: the marks of a channel as bytes. -/
def markBytes (s : State) (c : Nat) : List Nat :=
  ((List.range 8).map (fun k => toBytes 4 (regValue s (F.DC_MARK.SC0_DEV c k).addr))).flatten

/-- R282, R409: the marks of a channel are saved with its modules' serial numbers. -/
def saveMarks (c : Nat) (s : State) : State :=
  logRecord 4 c (serials s c ++ markBytes s c) { s with chans := s.chans.upd c (fun ch => { ch with saveMarks := false }) }

/-- R427, R481: what the firmware does with the copy of an entry: the host's notice of its class. A KEY_ZEROIZED was told by R177's own rule. -/
def recordTask (r : ErrRec) (s : State) : State :=
  let s := { s with err := { s.err with copies := eraseFirst (fun x => x == r) s.err.copies } }
  if r.cls = 2 then eventAll r.code r.detail s
  else if r.cls = 3 ∧ r.code ≠ 0x2D then
    (if r.code = 0x50 then dramNotice r s else eventLine .generalMedia r.code r.addr s)
  else s

/-- R181: the oldest walk that can start takes a context. -/
def walkTask (s : State) : State :=
  if s.stops 3 then s
  else
  match freeContext s, s.walkQueue.find? (fun q => !(s.region q.region).walk) with
  | some w, some q => startWalk w q s
  | _, _ => s

/-- R336: a task unit runs. -/
def runTask (t : Task) (s : State) : State :=
  match t with
  | .fatal => fatalTask s
  | .grant r => grantLease r s
  | .timeout r => if leaseOver s r then settle (keepLease r s) else s
  | .walkStart => walkTask s
  | .walkEnd => endWalks s
  | .decide p => decidePacket p { s with mgt := { s.mgt with accepted := eraseFirst (fun x => x == p) s.mgt.accepted } }
  | .long c => match longOutcome s c with
    | some (st, det) => completeLong c st det s
    | none => s
  | .sideband => sidebandUnit s
  | .train c => trainUnit c s
  | .marks c => saveMarks c s
  | .record r => recordTask r s

/-! ### A slot -/

/-- R337: the packet that a mailbox channel brings: one that waited before its IN message. In recovery the ROM takes no mailbox message
(R358). -/
def takeChannel (c : Nat) (s : State) : State :=
  if s.flag F.SEC_STATUS.RECOVERY then s
  else if s.mgt.arrivals.any (fun p => packetKey p == c) then takeArrival c s
  else takeIn c s

/-- R337: at most one packet of each path is accepted: of the channels from (transit mod 17) on, with the sideband as the 17th, then of
the other paths, oldest arrival first (DESIGN CHOICE, log entry 199). -/
def acceptScan (s : State) : State :=
  let s := forAll ((List.range 17).map (fun i => (s.transit + i) % 17)) (fun c s => if c < 16 then takeChannel c s else takeSideband s) s
  forAll ((s.mgt.arrivals.map packetKey).filter (fun k => decide (16 < k))).eraseDups takeArrival s

/-- R335: the next task: one that has waited 16 slots, else the first by priority. -/
def nextTask (waits : List (Nat × Nat)) (l : List Task) : Option Task :=
  match l.find? (fun t => decide (16 ≤ (cellFind t.key waits).getD 0)) with
  | some t => some t
  | none => l.head?

/-- R335, R336: up to `n` task units run, each counted, while the next one's declared cost fits in the rest of the 900 cycles; `took` gives
the cycles that each takes of it. The answer has the cycles used. -/
def runTasks (waits : List (Nat × Nat)) : Nat → Nat → List (BitVec 10) → State → Nat × State
  | 0, used, _, s => (used, s)
  | n + 1, used, took, s =>
    match nextTask waits (tasks s) with
    | some t =>
      if used + t.cost ≤ 900 then
        let c := match took with | x :: _ => min x.toNat t.cost | [] => t.cost
        runTasks waits n (used + c) (took.drop 1) ((runTask t s).bump F.MGT_FE_STATUS.UNITS)
      else (used, s)
    | none => (used, s)

/-- R335, R336: at the end of a slot the tasks left have waited one more, and the register shows the slot. -/
def endSlot (waits : List (Nat × Nat)) (cycles : Nat) (s : State) : State :=
  let left := tasks s
  let s := { s with mgt := { s.mgt with waits := left.map (fun (t : Task) => (t.key, (cellFind t.key waits).getD 0 + 1)) } }
  let s := s.put F.MGT_FE_STATUS.QUEUED (min 65535 left.length)
  let s := s.put F.MGT_FE_STATUS.MAX_CYCLES (max (s.get F.MGT_FE_STATUS.MAX_CYCLES) cycles)
  let s := if s.sec.applied && !s.inFatal then { s with sec := { s.sec with trialSlots := min 1000 (s.sec.trialSlots + 1) } } else s
  s.count 0x901 0 cycles

/-- R334 to R337: FRAME_EXECUTIVE_SLOT: job 0x0A runs at most `units` task units, which take `cycles` of its 900 cycles; it does not run in
SL2 and SL3 (R35), nor before the processor has booted. In fatal mode it runs without a release, for R433's fatal task (DEDUCED, log
entry 162). -/
def execFrameExecutiveSlot (units : BitVec 8) (cycles : List (BitVec 10)) (s : State) : Host.Outcome State Fault Refusal :=
  if s.asleep || !s.sec.running || !(s.inFatal || unitWaits s 0x0A 0) then .next s
  else
    let s := acceptScan (jobDone 0x0A 0 s)
    let waits := s.mgt.waits
    let (used, s) := runTasks waits units.toNat 0 cycles s
    .next (endSlot waits used s)

end Sys2Proof.Machine
end

