-- ==== Sys2Proof/Machine/Standard.lean ====
section
/-!
DEFINITION. The standard CXL memory-device commands of an LD's primary mailbox and the FM API commands (R50 to R52, R58, R59,
R320, R438). What the CXL standard lays down of their payloads is outside the spec; a reply gives the values the spec names.
-/

namespace Sys2Proof.Machine

/-! ### Who may send, and the reply -/

/-- The outcome of a standard command and the values it returns. -/
structure StdVerdict where
  code : MbxCode := .success
  data : List Nat := []
deriving DecidableEq, Repr


/-- R320, R358, R433: the checks of a standard command of a class, and its reply, while the management processor runs. -/
def stdServe (m : Nat) (sideband : Bool) (cls : Nat) (eff : State → StdVerdict × State) (s : State) : State :=
  let rep := if sideband then 64 else m
  if !s.sec.running then s
  else if s.flag F.SEC_STATUS.RECOVERY then s.emit (.mailbox rep .unsupported [])
  else if denied s cls (if sideband then 16 else m / 4) then s.emit (.mailbox rep .denied [])
  else if s.inFatal && cls != 1 && cls != 0x0B then s.emit (.mailbox rep .refused [])
  else
    let (v, s) := eff s
    s.emit (.mailbox rep v.code v.data)

/-- R381: a standard command of an LD's primary mailbox: an access by its path. -/
def stdCommand (m : Nat) (cls : Nat) (eff : State → StdVerdict × State) (s : State) : State := ioAccess m (stdServe m false cls eff) s

/-- R46, R333, R381: an FM API command of a row: of an LD's primary mailbox, or (`sideband`) over MCTP. -/
def fmCommand (row : Instr) (m : Nat) (sideband : Bool) (cls : Nat) (eff : State → StdVerdict × State) (s : State) : State :=
  if sideband then sidebandAccess row (stdServe m true cls eff) s else stdCommand m cls eff s

/-- A command of class INFO that changes nothing. -/
def stdInfo (m : Nat) (f : State → List Nat) (s : State) : State := stdCommand m 1 (fun s => ({ data := f s }, s)) s

/-- An outcome that leaves the state. -/
def stdFail (c : MbxCode) (s : State) : StdVerdict × State := ({ code := c }, s)

/-- R47: the bytes that an LD's extents map. -/
def ldBytes (s : State) (m : Nat) : Nat := sumOf ((s.lds.get m).extents.map (fun e => e.gib * 2 ^ 30))

/-! ### Information, events and time -/

/-- R58: IDENTIFY_MEMORY_DEVICE: the LD's capacity and the length of the poison list. -/
def execIdentifyMemoryDevice (slot : Fin 64) (s : State) : Host.Outcome State Fault Refusal :=
  .next (stdInfo slot (fun s => [ldBytes s slot, 256]) s)

/-- R58: GET_PARTITION_INFO: volatile capacity only. -/
def execGetPartitionInfo (slot : Fin 64) (s : State) : Host.Outcome State Fault Refusal :=
  .next (stdInfo slot (fun s => [ldBytes s slot, 0]) s)

/-- R58, R60: the opcodes the primary mailbox supports, which are the content of the one log it has, the Command Effects Log
(PRESUMED, log entry 140: CXL 3.1). -/
def supportedOpcodes : List Nat :=
  [0x0100, 0x0101, 0x0102, 0x0103, 0x0301, 0x0400, 0x0401, 0x4000, 0x4100, 0x4200, 0x4300, 0x4301, 0x4302, 0x4400, 0x4401, 0x4800,
   0x4801, 0x4802, 0x4803, 0x5400, 0x5401, 0x5402, 0xC000]

/-- R58: GET_SUPPORTED_LOGS: the bytes of each log; an entry of the Command Effects Log has 4. -/
def execGetSupportedLogs (slot : Fin 64) (s : State) : Host.Outcome State Fault Refusal :=
  .next (stdInfo slot (fun _ => [4 * supportedOpcodes.length]) s)

/-- R58: GET_LOG: the Command Effects Log. -/
def execGetLog (slot : Fin 64) (s : State) : Host.Outcome State Fault Refusal := .next (stdInfo slot (fun _ => supportedOpcodes) s)

/-- R58, R59: GET_EVENT_RECORDS. -/
def execGetEventRecords (slot : Fin 64) (s : State) : Host.Outcome State Fault Refusal :=
  .next (stdCommand slot 1 (fun s => ({}, s.emit (.eventRecords slot (s.lds.get slot).log))) s)

/-- R58: CLEAR_EVENT_RECORDS: the oldest `n` records. -/
def execClearEventRecords (slot : Fin 64) (n : BitVec 8) (s : State) : Host.Outcome State Fault Refusal :=
  .next (stdCommand slot 1 (fun s =>
    ({}, { s with lds := s.lds.upd slot (fun l => { l with log := l.log.drop n.toNat }) })) s)

/-- R58: GET_EVENT_INTERRUPT_POLICY. -/
def execGetEventInterruptPolicy (slot : Fin 64) (s : State) : Host.Outcome State Fault Refusal :=
  .next (stdInfo slot (fun s => [(s.lds.get slot).irqPolicy]) s)

/-- R58, R209: SET_EVENT_INTERRUPT_POLICY. -/
def execSetEventInterruptPolicy (slot : Fin 64) (vector : BitVec 5) (s : State) : Host.Outcome State Fault Refusal :=
  .next (stdCommand slot 1 (fun s =>
    ({}, { s with lds := s.lds.upd slot (fun l => { l with irqPolicy := vector.toNat }) })) s)

/-- R58: SET_TIMESTAMP. -/
def execSetTimestamp (slot : Fin 64) (ns : BitVec 64) (s : State) : Host.Outcome State Fault Refusal :=
  .next (stdCommand slot 1 (fun s =>
    ({}, { s with lds := s.lds.upd slot (fun l => { l with timestamp := ns.toNat, timestampTb := s.now }) })) s)

/-- R58: the health values the spec has: the hottest die sensor, and the corrected errors of the channels (PRESUMED, log entry
140). -/
def healthInfo (s : State) : List Nat :=
  [s.get F.THM_STATUS.TJ_MAX, sumOf ((List.range 16).map (fun c => s.get (F.DC_ECC_STATUS.CE c)))]

/-- R58: GET_HEALTH_INFO. -/
def execGetHealthInfo (slot : Fin 64) (s : State) : Host.Outcome State Fault Refusal := .next (stdInfo slot healthInfo s)

/-! ### Poison -/

/-- R438: the DPAs of listed lines of an LD in a range, oldest first. -/
def poisonOf (s : State) (m dpa len : Nat) : List Nat :=
  (s.err.poison.filterMap (dpaOf (s.lds.get m))).filter (fun d => decide (dpa ≤ d) && decide (d < dpa + len))

/-- R58, R438: GET_POISON_LIST: the overflow indication and the lines. Each is a full read of the list. -/
def execGetPoisonList (slot : Fin 64) (dpa len : BitVec 64) (s : State) : Host.Outcome State Fault Refusal :=
  .next (stdCommand slot 1 (fun s =>
    ({ data := bit (decide (256 < s.err.poisonNew)) :: poisonOf s slot dpa.toNat len.toNat },
      { s with err := { s.err with poisonNew := 0 } })) s)

/-- R438: a full-line write of an LD by its DPA: to this member's slice, or to the line's home member. -/
def writeDpa (m dpa : Nat) (d : BitVec 512) (poison : Bool) (s : State) : StdVerdict × State :=
  match extentAt (s.lds.get m) dpa with
  | none => stdFail .invalid s
  | some e =>
    let cpa := lineAddr (e.base + (dpa - e.dpa))
    if dpa % 64 ≠ 0 ∨ !backed s m cpa then stdFail .invalid s
    else
      let r : Req := { id := 0, src := .internal, intent := .wrNC, addr := lineAddr (homeAddr s cpa), master := hostMaster s m
                       agent := hanOf s m, input := m / 16, write := true, data := d, mask := BitVec.allOnes 64, poison, born := s.now }
      if homePath s cpa = s.path then ({}, addReq r s)
      else
        let id := s.nextId
        let g := mkMsg 0x02 (homePath s cpa) (han := msgHan s none (hanOf s m)) (code := 10) (addr := cpa) (mask := BitVec.allOnes 64)
          (beats := [{ data := d, poison, scode := 0 }])
        match originate g (.write id) (addReq { r with addr := cpa, stage := .away } s) with
        | (true, t) => ({}, t)
        | (false, _) => stdFail .refused s

/-- R160, R438: INJECT_POISON. -/
def execInjectPoison (slot : Fin 64) (dpa : BitVec 64) (s : State) : Host.Outcome State Fault Refusal :=
  .next (stdCommand slot 0x0B (writeDpa slot dpa.toNat 0 true) s)

/-- R438: CLEAR_POISON. -/
def execClearPoison (slot : Fin 64) (dpa : BitVec 64) (line : Line) (s : State) : Host.Outcome State Fault Refusal :=
  .next (stdCommand slot 0x0B (writeDpa slot dpa.toNat line false) s)

/-! ### Sanitize -/

/-- R47: the CPAs of the regions that an LD's extents map. -/
def mappedCpas (s : State) (m : Nat) : List Nat :=
  ((s.lds.get m).extents.map (fun e => (List.range e.gib).map (fun i => e.base + i * 2 ^ 30))).flatten

/-- R47: the regions of this member that an LD's extents map. -/
def regionsOf (s : State) (m : Nat) : List Nat :=
  ((mappedCpas s m).filter (fun cpa => homePath s cpa == s.path)).map (fun cpa => homeAddr s cpa / 2 ^ 30)

/-- Whether an LD other than `m`, of this device or another member, maps a region. -/
def mappedBesides (s : State) (m r : Nat) : Bool :=
  slots.any (fun x => x != m && ldMaps s x (cpaOf s (r * 2 ^ 30))) || mappedAway s (cpaOf s (r * 2 ^ 30))

/-- R59, R184: the regions that only this LD maps are freed, and the keys that no ALLOCATED region names any more retire. Another
member's regions are not reached and are answered for as those that stay are (DESIGN CHOICE, log entry 121). -/
def sanitizeLd (m : Nat) (s : State) : StdVerdict × State :=
  let all := (regionsOf s m).eraseDups
  let away := (mappedCpas s m).any (fun cpa => homePath s cpa != s.path)
  let mine := all.filter (fun r => !mappedBesides s m r && (s.region r).state == 1)
  let keys := (mine.map (fun r => (s.region r).key)).eraseDups
  let s' := forAll mine startFreeing s.farDrawn
  let s' := forAll keys (fun k t =>
    if keyState t k == 1 && !t.regions.cells.any (fun c => c.2.state == 1 && c.2.key == k) then retireKey k none t else t) s'
  ({ code := if away || all.any (mappedBesides s m) then .sanitizeNotSupported else .success }, s')

/-- R59: SANITIZE. -/
def execSanitize (slot : Fin 64) (s : State) : Host.Outcome State Fault Refusal :=
  .next (stdCommand slot 2 (sanitizeLd slot) s)

/-- R59: SECURE_ERASE. -/
def execSecureErase (slot : Fin 64) (s : State) : Host.Outcome State Fault Refusal :=
  .next (stdCommand slot 2 (sanitizeLd slot) s)

/-! ### Dynamic capacity -/

/-- R51: GET_DC_CONFIGURATION: 8 DC regions of blocks of 1 GiB. -/
def execGetDcConfiguration (slot : Fin 64) (s : State) : Host.Outcome State Fault Refusal :=
  .next (stdInfo slot (fun _ => [8, 2 ^ 30]) s)

/-- R51: GET_DC_EXTENT_LIST: region, DPA, length and tag of each DC extent. -/
def execGetDcExtentList (slot : Fin 64) (s : State) : Host.Outcome State Fault Refusal :=
  .next (stdInfo slot (fun s => ((s.lds.get slot).extents.map (fun e => match e.source with
    | some d => [d, e.dpa, e.gib * 2 ^ 30, e.tag]
    | none => [])).flatten) s)

/-- An accepted extent as an entry of the table. -/
def dcEntry (s : State) (x : DcExtent) : Extent :=
  { dpa := x.dpa.toNat, gib := x.gib.toNat, base := x.base.toNat, source := some x.region.val, tag := x.tag.toNat
    shared := sharedAway s x.base.toNat x.gib.toNat }

/-- R47, R49, R51: whether an entry may join an LD's table. Extents with one tag map one place, and it is no private region. -/
def dcFits (s : State) (m : Nat) (e : Extent) : Bool :=
  let g := 2 ^ 30
  e.dpa % g == 0 && e.base % g == 0 && decide (0 < e.gib) && decide (e.base + e.gib * g ≤ 2 ^ 51)
    && !(s.lds.get m).extents.any (fun x => decide (x.dpa < e.dpa + e.gib * g) && decide (e.dpa < x.dpa + x.gib * g))
    && (badRegion s m e.base e.gib).isNone
    && (e.tag == 0 || ((List.range e.gib).all (fun i => (regionKnown s (e.base + i * g)).2 != 0)
          && slots.all (fun x => (s.lds.get x).extents.all (fun y => y.tag != e.tag || (y.base == e.base && y.gib == e.gib)))))

/-- R51, R52: extents join one by one; none where one may not, or the table has 256 entries. -/
def addDc (m : Nat) : List Extent → State → Option State
  | [], s => some s
  | e :: r, s =>
    if dcFits s m e && decide ((s.lds.get m).extents.length < 256) then
      addDc m r { s with lds := s.lds.upd m (fun l => { l with extents := l.extents ++ [e] }) }
    else none

/-- R51, R52, R59: an Add of the fabric manager: an Add that would pass 256 entries, or break R49, is not offered to the host and
is reported as failed; an offered one raises a Dynamic Capacity event for each extent. -/
def offerDc (m : Nat) (extents : List DcExtent) (s : State) : State :=
  let l := s.lds.get m
  if 256 < l.extents.length + l.offers.length + extents.length then s.emit (.mailbox 64 .noResources [m])
  else if !extents.all (fun x => dcFits s m (dcEntry s x)) then s.farDrawn.emit (.mailbox 64 .refused [m])
  else
    forAll extents (fun x => eventTo m { kind := .dynamicCapacity, code := 0, dpa := x.dpa.toNat, detail := x.gib.toNat })
      { s.farDrawn with lds := s.lds.upd m (fun l => { l with offers := l.offers ++ extents }) }

/-- R51: the host's response: offered extents that it accepts join its table; the others are no longer offered. -/
def acceptDc (m : Nat) (extents : List DcExtent) (s : State) : StdVerdict × State :=
  if !extents.all (fun x => (s.lds.get m).offers.contains x) then stdFail .invalid s
  else if 256 < (s.lds.get m).extents.length + extents.length then stdFail .noResources s
  else
    match addDc m (extents.map (dcEntry s)) s with
    | some t => ({}, { t.farDrawn with lds := t.lds.upd m (fun l => { l with offers := [] }) })
    | none => stdFail .invalid s.farDrawn

/-- R51, R52: ADD_DC_RESPONSE, with the fabric manager's Add that comes before it. -/
def execAddDcResponse (slot : Fin 64) (dc : DcStep) (s : State) : Host.Outcome State Fault Refusal :=
  match dc with
  | .offer l => .next (if s.sec.running && !s.asleep then offerDc slot l s else s)
  | .accept l => .next (stdCommand slot 2 (acceptDc slot l) s)

/-- The table entry that a released extent names. -/
def dcFind (s : State) (m : Nat) (x : DcExtent) : Option Extent :=
  (s.lds.get m).extents.find? (fun e => e.source == some x.region.val && e.dpa == x.dpa.toNat && e.gib == x.gib.toNat)

/-- R51: a released extent leaves the table; its regions that no LD maps any more are freed. -/
def releaseExtent (m : Nat) (x : DcExtent) (s : State) : State :=
  match dcFind s m x with
  | none => s
  | some e =>
    let s := dropExtent m e s
    let own := ((List.range e.gib).map (fun i => e.base + i * 2 ^ 30)).filter (fun cpa => homePath s cpa == s.path)
    forAll (own.map (fun cpa => homeAddr s cpa / 2 ^ 30)) (fun r s =>
      if (s.region r).state == 1 && !regionMapped s r then startFreeing r s else s) s.farDrawn

/-- R51: RELEASE_DC. -/
def execReleaseDc (slot : Fin 64) (extents : List DcExtent) (s : State) : Host.Outcome State Fault Refusal :=
  .next (stdCommand slot 2 (fun s =>
    if extents.all (fun x => (dcFind s slot x).isSome) then ({}, forAll extents (releaseExtent slot) s) else stdFail .invalid s) s)

/-! ### FM API -/

/-- R50: the GiB of an LD's static entries. -/
def staticGib (s : State) (m : Nat) : Nat := sumOf (((s.lds.get m).extents.filter (fun e => e.source.isNone)).map (·.gib))

/-- R46: the local slots of the LDs of a slot's link. -/
def ldsOfLink (s : State) (m : Nat) : List Nat := (List.range (s.links.get (linkOfSlot m)).lds).map (· + m / 4 * 4)

/-- R58: GET_LD_INFO: the presented bytes and the number of LDs. -/
def execGetLdInfo (slot : Fin 64) (sideband : Bool) (s : State) : Host.Outcome State Fault Refusal :=
  .next (fmCommand (.getLdInfo slot sideband) slot sideband 1 (fun s => ({ data := [s.presented * 2 ^ 30, (ldsOfLink s slot).length] }, s)) s)

/-- R58: GET_LD_ALLOCATIONS: the static GiB of each LD of the link. -/
def execGetLdAllocations (slot : Fin 64) (sideband : Bool) (s : State) : Host.Outcome State Fault Refusal :=
  .next (fmCommand (.getLdAllocations slot sideband) slot sideband 1 (fun s => ({ data := (ldsOfLink s slot).map (staticGib s) }, s)) s)

/-- R50: the lowest ACTIVE key ID. -/
def firstKey (s : State) : Option Nat := (List.range 64).find? (fun k => keyState s k == 1)

/-- Runs of consecutive numbers of a rising list: first and length. -/
def runsOf : List Nat → List (Nat × Nat)
  | [] => []
  | a :: r => match runsOf r with
    | (b, n) :: q => if b = a + 1 then (a, n + 1) :: q else (a, 1) :: (b, n) :: q
    | [] => [(a, 1)]

/-- R50: an LD's static entries grow by `n` GiB, of the lowest FREE regions, as private regions under the lowest ACTIVE key
(DESIGN CHOICE, log entry 55), behind the LD's highest DPA. -/
def growLd (m n : Nat) (s : State) : Option State :=
  let free := ((List.range s.presented).filter (fun r => (s.region r).state == 0)).take n
  match firstKey s with
  | none => none
  | some k =>
    let top := (s.lds.get m).extents.foldl (fun t e => max t (e.dpa + e.gib * 2 ^ 30)) 0
    if free.length < n then none
    else
      let s := forAll free (fun r s => setClass r 0 (s.writeRegion r (fun d => { state := 1, key := k, gen := d.gen }))) s
      let (_, new) := (runsOf free).foldl (fun (acc : Nat × List Extent) x =>
        let e : Extent := { dpa := acc.1, gib := x.2, base := cpaOf s (x.1 * 2 ^ 30), source := none }
        (acc.1 + x.2 * 2 ^ 30, acc.2 ++ [e])) (top, [])
      let s := recountKeys { s with lds := s.lds.upd m (fun l => { l with extents := l.extents ++ new }) }
      if 256 < (s.lds.get m).extents.length then none else some s

/-- R50: an LD's static entries shrink by `n` GiB, the last entry first; none where a committed decoder covers one that changes. -/
def shrinkLd (m : Nat) : Nat → Nat → State → Option State
  | 0, _, s => some s
  | fuel + 1, n, s =>
    if n = 0 then some s else
    let l := s.lds.get m
    match l.extents.reverse.find? (fun e => e.source.isNone) with
    | none => some s
    | some e =>
      if hdmCovers l e then none
      else
        let cut := min n e.gib
        let s := dropExtent m e s
        let rest : List Extent := if cut < e.gib then [{ e with gib := e.gib - cut }] else []
        let s := { s with lds := s.lds.upd m (fun l => { l with extents := l.extents ++ rest }) }
        let gone := (List.range cut).map (fun i => e.base + (e.gib - cut + i) * 2 ^ 30)
        let own := (gone.filter (fun cpa => homePath s cpa == s.path)).map (fun cpa => homeAddr s cpa / 2 ^ 30)
        shrinkLd m fuel (n - cut) (forAll own (fun r s =>
          if (s.region r).state == 1 && !regionMapped s r then startFreeing r s else s) s.farDrawn)

/-- R50: each LD of the link gets its GiB, in order; all or nothing. -/
def allocLds : List (Nat × Nat) → State → StdVerdict × State
  | [], s => ({}, s)
  | (m, want) :: r, s =>
    let have_ := staticGib s m
    match (if have_ < want then growLd m (want - have_) s else shrinkLd m 257 (have_ - want) s) with
    | none => stdFail (if have_ < want then .noResources else .refused) s
    | some t => allocLds r t

/-- R50: SET_LD_ALLOCATIONS: the static GiB of each LD of the link, in LD order. -/
def execSetLdAllocations (slot : Fin 64) (sideband : Bool) (gib : List (BitVec 22)) (s : State) : Host.Outcome State Fault Refusal :=
  .next (fmCommand (.setLdAllocations slot sideband gib) slot sideband 2 (fun s =>
    if (ldsOfLink s slot).length < gib.length then stdFail .invalid s else
    let (v, t) := allocLds ((ldsOfLink s slot).zip (gib.map (·.toNat))) s
    (v, if v.code = .success then t else s)) s)

/-- R58: UNSUPPORTED_MAILBOX_OPCODE. -/
def execUnsupportedMailboxOpcode (slot : Fin 64) (opcode : BitVec 16) (s : State) : Host.Outcome State Fault Refusal :=
  if opcode = 0xC000 then .next s else .next (stdCommand slot 1 (stdFail .unsupported) s)

end Sys2Proof.Machine
end

