-- ==== Sys2Proof/Machine/Resets.lean ====
section
/-!
DEFINITION. Resets (R372, R401, R433, R434, R457, R458, R460, R468 to R471): what a reset of the management domain, of the core
domain and of the whole device leaves, the reset inputs, and the release of a domain.
-/

namespace Sys2Proof.Machine

/-! ### The management domain -/

/-- R350, R360: an SPI NOR operation under way ends in the flash, and none follows it; the bit the fuse sequencer blows is the last.
Fuse shadows are loaded again, and the boot ROM is to run. -/
def secAfterReset (s : State) : SecSt :=
  let nor := match s.sec.norOps with
    | o :: _ => if s.sec.norBusy then norApply o s.sec.nor else s.sec.nor
    | [] => s.sec.nor
  { nor, fuse := s.sec.fuse.map (fun j => { j with packet := none, left := j.left.take 1 }) }

/-- R379: a stop sequence ends with the processor that ran it: the blocks that had stopped restart. -/
def dropSequence (s : State) : State :=
  match s.pwr.sleep with
  | none => s
  | some x =>
    let s := { s with pwr := { s.pwr with sleep := none, latched := false, retained := none } }
    let s := if 8 < x.block then forAll (List.range 16) leaveSelfRefresh s else s
    settle (releaseIngress (s.put F.PWR_SL_STATUS.IN_ENTRY 0))

/-- R329, R457: the registers of the management domain and its SRAM: mailboxes, the sideband FIFO, tags, the logbook's queue, and
copies of records not yet told. -/
def clearMgmt (s : State) : State :=
  let s := mailboxMgtReset s
  let s := { s with
    regs := s.regs.filter (fun c => domainOfKey c.1 != Domain.mgmt)
    sec := secAfterReset s, fuseShadow := s.fuses
    mbx := {}, claim := none, sb := {}
    err := { s.err with copies := [] }
    hk := { s.hk with queue := [], dropTold := false }
    pwr := { s.pwr with pl := { s.pwr.pl with waiting := none } } }
  let s := s.put F.SEC_STATUS.FUSE_BUSY (bit s.sec.fuse.isSome)
  showLog (forAll (List.range 16) (fun c s => s.put (F.MBX_CH_STATUS.IN_ABORT c) 1) s)

/-- R457, R460: the management domain resets alone: 1 MGT_LOCKSTEP, 2 its request. -/
def managementReset (why : Nat) (s : State) : State :=
  let s := clearMgmt (dropSequence s)
  ((s.put F.PWR_RESET_CAUSE.MGT 1).put F.PWR_RESET_CAUSE.MGT_WHY why).put F.PWR_RESET_CAUSE.LAST 4

/-! ### The core domain -/

/-- R457: the domains that a core reset leaves. -/
def aboveCore (d : Domain) : Bool := d == .aon || d == .vaux

/-- The always-on part of power: a sleep state or a change of its level by command ends (R470); the level in force stays. -/
def pwrAfterCore (p : PwrSt) : PwrSt :=
  { p with
    sleep := none, exiting := none, retained := none, lowPower := false, railsOff := false, latched := false
    pl := { p.pl with waiting := none } }

/-- R45, R469: host ports are in reset; PERST is an input. -/
def portsAfterCore (s : State) : Tab PortSt {} :=
  (List.range 4).foldl (fun t p => t.set p { since := s.now, detect := (s.ports.get p).detect }) {}

/-- What a core reset leaves of the device: the always-on domain, the stored cells of the DIMMs, the fuses and the flash. Every
other field is as it is at reset. -/
def coreBlank (s : State) : State :=
  { pending := s.pending, out := s.out, tb := s.tb, freeCtr := s.freeCtr, useCtr := s.useCtr, nextId := s.nextId
    regs := s.regs.filter (fun c => aboveCore (domainOfKey c.1))
    err := { aonLast := s.err.aonLast }
    ports := portsAfterCore s
    dram := s.dram
    chans := (List.range 16).foldl (fun t c => t.set c { planTb := s.now }) {}
    lastTransit := s.lastTransit
    clu := { left := s.clu.left }
    fuses := s.fuses, fuseShadow := s.fuses
    pwr := { pwrAfterCore s.pwr with railsOff := s.pwr.railsOff && s.thm.tripped }
    time := s.time, thm := s.thm
    hk := { s.hk with queue := [], dropTold := false }
    spw := s.spw.mapCells (fun _ x => { x with enabled := false })
    spd := s.spd, pmu := s.pmu, sec := secAfterReset s, rst := s.rst }

/-- R434, R457, R460, R468: a core reset: 0 reset input, 1 thermal restart. Channels in service are noted; the crypto domain
draws its values anew. -/
def coreReset (why : Nat) (s : State) : State :=
  let chans := (List.range 16).foldl (fun n c => if serving s c then n ||| 2 ^ c else n) (s.get F.PWR_RESET_CAUSE.CHAN)
  let rails := s.pwr.railsOff && !s.thm.tripped
  let t := cryptoReset (coreBlank (if 2 ≤ sleepState s then s.count 0x002 0 (s.since s.pwr.entryTb) else s))
  let t := t.put F.SEC_STATUS.FUSE_BUSY (bit t.sec.fuse.isSome)
  let t := ((t.put F.PWR_SL_STATUS.STATE 0).put F.PWR_SL_STATUS.IN_ENTRY 0).put F.PWR_RESET_CAUSE.CHAN chans
  let t := ((t.put F.PWR_RESET_CAUSE.CORE 1).put F.PWR_RESET_CAUSE.MGT 1).put F.PWR_RESET_CAUSE.CORE_WHY why
  let t := (t.put F.PWR_RESET_CAUSE.MGT_WHY 0).put F.PWR_RESET_CAUSE.LAST 3
  let t := (showLog t).emit .transmittersIdle
  if rails then t.emit (.rails true) else t

/-- R469, R470: the core domain is held in reset. A device that is held already stays so. -/
def holdCore (s : State) : State :=
  if s.rst.coreHeld then s
  else
    let s := coreReset 0 s
    { s with rst := { s.rst with coreHeld := true, mgtHeld := true } }

/-- R469: with both of its inputs released, the core domain leaves reset 10 µs later. -/
def letCore (s : State) : State :=
  if s.rst.coreIn || s.rst.pwrLow then s
  else { s with rst := { s.rst with coreTb := s.now, mgtTb := if s.rst.mgtIn then s.rst.mgtTb else s.now } }

/-- R469: CORE_RST. -/
def execCoreRst (asserted : Bool) (s : State) : Host.Outcome State Fault Refusal :=
  if asserted == s.rst.coreIn then .next s
  else
    let s := { s with rst := { s.rst with coreIn := asserted } }
    .next (if asserted then holdCore s else letCore s)

/-- R469, R470: PWR_OK_LOW: the level of PWR_OK is low, or high again. The gates go off without DIMM_POWER_LOST. -/
def execPwrOkLow (low : Bool) (s : State) : Host.Outcome State Fault Refusal :=
  if low == s.rst.pwrLow then .next s
  else
    let s := { s with rst := { s.rst with pwrLow := low } }
    .next (if low then forAll (List.range 16) forceOff (holdCore s) else letCore s)

/-- R457, R469, R470: MGT_RST. While the core domain is held, it alone counts. -/
def execMgtRst (asserted : Bool) (s : State) : Host.Outcome State Fault Refusal :=
  if asserted == s.rst.mgtIn then .next s
  else
    let s := { s with rst := { s.rst with mgtIn := asserted } }
    if !asserted then .next { s with rst := { s.rst with mgtTb := s.now } }
    else if s.rst.coreHeld then .next s
    else
      let s := managementReset 2 s
      .next { s with rst := { s.rst with mgtHeld := true } }

/-- R433: MGT_LOCKSTEP: the fatal response, then a reset of the management domain. -/
def execMgtLockstep (s : State) : Host.Outcome State Fault Refusal :=
  if s.asleep || s.rst.mgtHeld then .next s
  else
    let s := managementReset 1 (s.log 0x05)
    .next { s with rst := { s.rst with mgtHeld := true, mgtTb := s.now } }

/-- R469: RESET_RELEASE: the core domain, or the management domain alone, leaves reset 10 µs after its input was released. The
management domain leaves with the core domain unless its own input is asserted. -/
def execResetRelease (s : State) : Host.Outcome State Fault Refusal :=
  let r := s.rst
  if r.coreHeld then
    if r.coreIn || r.pwrLow || r.off || decide (s.since r.coreTb < 10000) then .next s
    else
      let s := { s with rst := { r with coreHeld := false, mgtHeld := r.mgtIn } }
      .next (if (ptmLink s).isNone then s.put F.TB_STATUS.COARSE 0 else s)
  else if r.mgtHeld && !r.mgtIn && decide (10000 ≤ s.since r.mgtTb) then .next { s with rst := { r with mgtHeld := false } }
  else .next s

/-- R401, R460: THERMAL_RESTART: channel 0 has read at or below RESTART_C for 1 s, and the device was not to stay off. CAP starts at
128 W. -/
def execThermalRestart (s : State) : Host.Outcome State Fault Refusal :=
  let cool : Bool := match s.thm.coolSince with
    | some t => decide (1000000000 ≤ s.since t)
    | none => false
  if !s.thm.tripped || s.thm.stayOff || !cool then .next s
  else
    let s : State := { s with thm := { s.thm with tripped := false, coolSince := none } }
    let s := coreReset 1 s
    let s := (s.put F.THM_STATUS.CAP 16).put F.THM_STATUS.THROTTLED 1
    .next (letCore { s with rst := { s.rst with coreHeld := true, mgtHeld := true } })

/-! ### Power -/

/-- R457, R468: a power-on of the whole device: what is left is the fuses, the flash, and what has left the device. What the DIMMs'
cells read is open. -/
def blank (s : State) : State :=
  let s := forAll (List.range 16) loseContents s
  { pending := s.pending, out := s.out, freeCtr := s.freeCtr, useCtr := s.useCtr, nextId := s.nextId
    dram := s.dram, fuses := s.fuses, fuseShadow := s.fuses, sec := { nor := s.sec.nor }, rst := s.rst }

/-- R153, R154: a device out of power-on with the values its crypto domain draws. -/
def drawn (s : State) : State :=
  let (salt, s) := s.trng
  let (kint, s) := s.trng
  { s with salt, kint }

/-- R468, R471: POWER_ON: PWR_OK and CORE_RST_N are low. -/
def execPowerOn (s : State) : Host.Outcome State Fault Refusal :=
  let s := drawn (blank s)
  .next { s with rst := { coreIn := true, pwrLow := true, coreHeld := true, mgtHeld := true } }

/-- R372, R460: BROWN_OUT: as a power-on, with its flag kept in the VAUX domain. The inputs stay as they are. -/
def execBrownOut (s : State) : Host.Outcome State Fault Refusal :=
  let r := s.rst
  let s := drawn (blank s)
  let s := { s with rst := { r with coreHeld := true, mgtHeld := true, coreTb := 0, mgtTb := 0 } }
  .next (((s.put F.PWR_SL_STATUS.BROWNOUT 1).put F.PWR_RESET_CAUSE.BROWNOUT 1).put F.PWR_RESET_CAUSE.LAST 2)

/-- R457, R471: VAUX_1V8_LOSS: the VAUX domain resets, and every gate is off. Nothing runs until POWER_ON. -/
def execVaux1v8Loss (s : State) : Host.Outcome State Fault Refusal :=
  let s := blank s
  .next { s with rst := { coreIn := true, pwrLow := true, coreHeld := true, mgtHeld := true, off := true } }

end Sys2Proof.Machine
end

