-- ==== Sys2Proof/Machine/Jobs.lean ====
section
/-!
DEFINITION. Transits and periodic jobs (R29 to R35, R69, R388), and the hops of the spine (R17 to R20).
-/

namespace Sys2Proof.Machine

/-! ### Releases -/

/-- R31: transits that a unit of a job may take, its last included. -/
def jobSpan (job inst : Nat) : Nat :=
  if job = 0x0B then 12 else if job = 0x0C then 32 else if job = 0x0E then 3
  else if job = 0x10 then (if inst < 16 then 3200 else 200) else 1

/-- R31: every instance of a job. -/
def jobAll (job n : Nat) : List (Nat × Nat) := (List.range n).map (fun i => (job, i))

/-- R391: whether a survey channel is sampled in the present state; without the core rails as in SL2. -/
def surveyed (s : State) (k : Nat) : Bool :=
  if sleepState s = 3 then decide (k < s.get F.PWR_SL3_CFG.SURVEY) else !s.asleep || decide (k < 16)

/-- R31, R388: units of the survey and of the thermal model that are due in a transit. -/
def dueSurvey (s : State) (t : Nat) : List (Nat × Nat) :=
  let m := t % 1000
  (if m % 15 = 0 ∧ m / 15 < 64 ∧ surveyed s (m / 15) then [(0x0B, m / 15)] else []) ++ (if m = 960 then [(0x0C, 0)] else [])

/-- R391: a channel that its round does not sample keeps its value, with STALE set. -/
def missSurvey (t : Nat) (s : State) : State :=
  let k := t % 1000 / 15
  if t % 1000 % 15 = 0 ∧ k < 64 ∧ !surveyed s k then s.put (F.HK_SURVEY.STALE k) 1 else s

/-- R31, R404: units of the other jobs that are due in a transit. R31 and R86 give job 0x09 a period of 1024 transits and no phase:
it is released where the transit number is a multiple of 1024 (DESIGN CHOICE, log entry 136). -/
def dueWork (s : State) (t : Nat) : List (Nat × Nat) :=
  jobAll 0x04 16 ++ jobAll 0x05 16 ++ [(0x06, 0), (0x07, 0), (0x08, 0)]
    ++ (if t % 1024 = 0 then [(0x09, 0)] else []) ++ [(0x0A, 0), (0x0D, 0)]
    ++ (if t % 1000 = 0 then jobAll 0x0E 16 else [])
    ++ (if s.reclaim.agents.isEmpty then [] else [(0x0F, 0)])
    ++ (match s.hk.target with
      | some x => if unitWaits s 0x10 x || s.deferred.contains (0x10, x) then [] else [(0x10, x)]
      | none => [])

/-- R35, R433: what is due: in SL2 and SL3, without the core domain and in fatal mode, jobs 0x0B and 0x0C alone. -/
def dueUnits (s : State) (t : Nat) : List (Nat × Nat) :=
  (if s.asleep || s.inFatal then [] else dueWork s t) ++ dueSurvey s t

/-- R31, R32: a unit is released. -/
def releaseUnit (t : Nat) (u : Nat × Nat) (s : State) : State :=
  let x : JobUnit := { rel := t, deadline := t + jobSpan u.1 u.2 - 1 }
  { s with jobs := s.jobs.upd (jobKey u.1 u.2) (fun q => q ++ [x]) }

/-- R309, R374: fabric clocks of the transit reserved for a change of level. -/
def reserveClocks (s : State) : State :=
  if s.pwr.pl.reserved = some s.transit then
    { s with reservedK := some (min (plFreq (s.get F.PWR_PL_STATUS.CURRENT)) (plFreq s.pwr.pl.target)) }
  else { s with reservedK := none }

/-- R30, R34: the periodic jobs due are released; in a reserved transit they wait for the next one, and the units that run must
complete within it. -/
def releaseJobs (s : State) : State :=
  let t := s.transit
  let due := dueUnits s t
  if s.pwr.pl.reserved = some t then
    { s with
      deferred := s.deferred ++ due
      jobs := s.jobs.mapCells (fun _ q => q.map (fun u => { u with deadline := min u.deadline t })) }
  else forAll (s.deferred ++ due) (releaseUnit t) { s with deferred := [] }

/-- R69, R212: the checks of DOWN and RECLAIMING slots. -/
def agentChecks (s : State) : State :=
  forAll slots (fun m s =>
    if agentState s m == 3 && !s.flag (F.HP_HAN_MAP.ASSIGNED m) then ldDead m s else deadCheck m s) s

/-- R30: the actions that need the fabric clock, before the release of jobs. -/
def transitActions (ended : Nat) (s : State) : State :=
  let s := refill (reserveClocks (snapshotAll ended s))
  let s := forAll (List.range 16) (fun c s =>
    { s with chans := s.chans.upd c (fun ch => { ch with maint := 0, used := 0, live := s.flag (F.DC_CFG.ENABLE c) }) }) s
  beginPasses (agentChecks s)

/-- R29: TB goes on to the next transit boundary, unless it has reached one whose transit has not begun. -/
def toBoundary (s : State) : State :=
  if s.lastTransit = some s.transit then
    let s := elapse (1000 - s.now % 1000) s
    if s.asleep then s else forAll (List.range 4) fillSlots s
  else s

/-- R29, R30, R385, R416: TRANSIT_START. Slots whose request waits look at their conditions again. -/
def execTransitStart (s : State) : Host.Outcome State Fault Refusal :=
  if s.rst.off then .next s
  else
    let s := stepTb (toBoundary s)
    let ended := s.lastTransit.getD 0
    let s := { s with lastTransit := some s.transit, alarms := [] }.count 0x003 0
    let s := if s.asleep then publishMstat s else transitActions ended s
    let s := releaseJobs (missSurvey s.transit (forAll (List.range 16) tryStart s))
    .next (if s.asleep then s else pump (sendLevel (tryHeld (settle s))))

/-! ### Completion and overrun -/

/-- R32: the effect of a job's unit whose inputs are without error. Units that take a reading of the board or of a lane, and the
three jobs of a transit's first clock, have rows of their own. -/
def jobEffect (job inst : Nat) (s : State) : State :=
  match job with
  | 0x04 => runTo (execRefreshPlanning (Fin.ofNat 16 inst) s) s
  | 0x05 => runTo (execPatrolScrubQuantum (Fin.ofNat 16 inst) [] s) s
  | 0x06 => runTo (execDirectoryScrubQuantum [] [] s) s
  | 0x07 => runTo (execAlmanacEccScrubQuantum [] [] [] s) s
  | 0x08 => runTo (execDemotionSweepQuantum s) s
  | 0x09 => runTo (execHeatEpochAdvance s) s
  | 0x0A => runTo (execFrameExecutiveSlot 0 [] s) s
  | 0x0C => runTo (execThermalModelUpdate s) s
  | 0x0D => runTo (execRegulatorShortfallCheck s) s
  | 0x0F => runTo (execReclamationQuantum s) s
  | _ => s

/-- R32: PERIODIC_UNIT_COMPLETE: the unit at the head of a job's instance completes. -/
def execPeriodicUnitComplete (job inst : BitVec 8) (s : State) : Host.Outcome State Fault Refusal :=
  if unitWaits s job.toNat inst.toNat then .next (jobEffect job.toNat inst.toNat s) else .next s

/-- R36: TB_OVR_COUNT. -/
def countOverrun (s : State) : State :=
  if s.get F.TB_OVR_COUNT.COUNT = 0x7FFFFFFF then s.put F.TB_OVR_COUNT.SAT 1 else s.bump F.TB_OVR_COUNT.COUNT

/-- R36: TB_OVR_LAST. -/
def recordOverrun (job inst consec transit : Nat) (s : State) : State :=
  let s := ((s.put F.TB_OVR_LAST.JOB_ID job).put F.TB_OVR_LAST.INSTANCE inst).put F.TB_OVR_LAST.CONSEC (min 255 consec)
  (s.put F.TB_OVR_LAST.TRANSIT transit).put F.TB_OVR_LAST.VALID 1

/-- R33, R36, R390: a unit overran: it stays whole at the head of its queue, for the next transit. -/
def overrun (job inst shown : Nat) (u : JobUnit) (rest : List JobUnit) (s : State) : State :=
  let x : JobUnit := { u with deadline := s.transit + jobSpan job inst - 1, consec := u.consec + 1 }
  let s := { s with jobs := s.jobs.set (jobKey job inst) (x :: rest) }
  let s := recordOverrun job shown x.consec u.deadline (countOverrun s)
  let s := if job = 0x0B then s.put (F.HK_SURVEY.STALE inst) 1 else s
  let s := (s.count 0x004 0).log 0x03 shown 0 job
  if x.consec = 16 then s.log 0x04 shown 0 job else s

/-- R33, R35, R336: TRANSIT_OVERRUN of the unit at the head of a job's instance; for job 0x0A the instance shown is the priority of
the task, and a sideband unit is to run again from its mark (R340). In SL2 and SL3 overruns of the jobs that do not run are not counted. -/
def execTransitOverrun (job inst : BitVec 8) (s : State) : Host.Outcome State Fault Refusal :=
  let j := job.toNat
  let i := if j = 0x0A then 0 else inst.toNat
  if s.asleep && j != 0x0B && j != 0x0C then .next s
  else
    match s.jobs.get (jobKey j i) with
    | [] => .next s
    | u :: rest =>
      if s.transit ≤ u.deadline then .next s
      else .next (overrun j i inst.toNat u rest (if j = 0x0A ∧ inst = 5 then sbUndo s else s))

/-! ### Hops of the spine -/

/-- R16: the hop that a word takes on its way over the route of its message. -/
def crossedHop (x : Crossing) : Option Hop := (spineRoute 6 x.src.val x.dst.val)[x.leg.val]?

/-- A number for a hop. -/
def hopKey (h : Hop) : Nat := h.stop.val * 4 + h.dir.val

/-- A hop changed. -/
def setHop (h : Hop) (f : HopSt → HopSt) (s : State) : State := { s with spine := s.spine.upd (hopKey h) f }

/-- R17: whether a word has even parity. -/
def evenParity (w : BitVec 65) : Bool := ((List.range 65).filter (fun i => w.getLsbD i)).length % 2 == 0

/-- R18: the words from `seq` on, of which the last `later` + 1 - 8 × k were sent k fabric clocks before `now`, join the sender's
buffer, which keeps the last 32; a word it holds already keeps its time (DESIGN CHOICE, log entry 168). -/
def keepWords (seq later now clocks : Nat) (b : List (Nat × Nat)) : List (Nat × Nat) :=
  let new := (List.range (later + 1)).map (fun i => ((seq + i) % 32, now - (later - i) / 8 * 1000 / clocks))
  let all := b ++ new.filter (fun x => !(b.map (·.1)).contains x.1)
  all.drop (all.length - 32)

/-- R18, R20: word `n` fails its check on a hop whose sender holds `earlier` words before it and has sent `later` words behind it,
resent ones and new ones; those are discarded, and a replay request goes back. -/
def failWord (hop : Hop) (n earlier later : Nat) (s : State) : State :=
  let h := s.spine.get (hopKey hop)
  let again := h.await == some n
  let fails := if again then h.fails + 1 else 1
  let s := setHop hop (fun x => { x with
    buffer := if again then keepWords n later s.now (clocksPerTransit s) x.buffer
      else keepWords ((n + 32 - earlier) % 32) (earlier + later) s.now (clocksPerTransit s) x.buffer
    await := some n, asked := some n, fails }) s
  let s := s.log 0x02 hop.stop.val 0 hop.dir.val
  if fails = 4 then s.log 0x01 hop.stop.val 0 hop.dir.val else s

/-- R16 to R18: SPINE_PARITY_ERROR: a word of a message between two stops fails its check on a hop of its route. Until the replay
arrives, every word on the hop is discarded unseen. -/
def execSpineParityError (at_ : Crossing) (seq earlier later : BitVec 5) (word : BitVec 65) (s : State) :
    Host.Outcome State Fault Refusal :=
  match crossedHop at_ with
  | none => .next s
  | some hop =>
    if evenParity word || (s.spine.get (hopKey hop)).asked.isSome then .next s
    else .next (failWord hop seq.toNat earlier.toNat later.toNat s)

/-- R18, R19: SPINE_REPLAY_REQUEST: the sender resends from the named word, or from its oldest where the request's own parity is
bad, in the order of first sending. -/
def execSpineReplayRequest (hop : Hop) (parityOk : Bool) (s : State) : Host.Outcome State Fault Refusal :=
  let h := s.spine.get (hopKey hop)
  match h.asked with
  | none => .next s
  | some w =>
    let from_ := if parityOk then h.buffer.dropWhile (fun x => x.1 != w) else h.buffer
    let words := from_.map (·.1)
    let s := setHop hop (fun x => { x with
      asked := none, buffer := x.buffer.map (fun b => if words.contains b.1 then (b.1, s.now) else b) }) s
    .next (s.emit (.spineResend hop.stop.val hop.dir.val words))

/-- R18: SPINE_REPLAY_RELEASE: the oldest word leaves the buffer, 4 fabric clocks after it was last sent with no request naming
it. -/
def execSpineReplayRelease (hop : Hop) (s : State) : Host.Outcome State Fault Refusal :=
  let h := s.spine.get (hopKey hop)
  match h.buffer with
  | [] => .next s
  | (w, t) :: rest =>
    if h.asked.isSome || decide (s.since t * clocksPerTransit s < 4000) then .next s
    else
      let got := h.await == some w
      .next (setHop hop (fun x => { x with
        buffer := rest, await := if got then none else x.await, fails := if got then 0 else x.fails }) s)

end Sys2Proof.Machine
end

