-- ==== Sys2Proof/Machine/Dispatch.lean ====
section
/-!
DEFINITION. The meaning of every command: one arm per row of the table, each a direct call.
-/

namespace Sys2Proof.Machine

/-- The effect of a command on everything but the queue of waiting commands. -/
def exec (i : Instr) (s : State) : Host.Outcome State Fault Refusal :=
  match i with
  | .transitStart => Sys2Proof.Machine.execTransitStart s
  | .periodicPlate => Sys2Proof.Machine.execPeriodicPlate s
  | .periodicUnitComplete job inst => Sys2Proof.Machine.execPeriodicUnitComplete job inst s
  | .transitOverrun job inst => Sys2Proof.Machine.execTransitOverrun job inst s
  | .spineParityError at_ seq earlier later word => Sys2Proof.Machine.execSpineParityError at_ seq earlier later word s
  | .spineReplayRequest hop parityOk => Sys2Proof.Machine.execSpineReplayRequest hop parityOk s
  | .spineReplayRelease hop => Sys2Proof.Machine.execSpineReplayRelease hop s
  | .refreshPlanning chan => Sys2Proof.Machine.execRefreshPlanning chan s
  | .patrolScrubQuantum chan errs => Sys2Proof.Machine.execPatrolScrubQuantum chan errs s
  | .directoryScrubQuantum lines errs => Sys2Proof.Machine.execDirectoryScrubQuantum lines errs s
  | .almanacEccScrubQuantum corrected presenceBad tagBad => Sys2Proof.Machine.execAlmanacEccScrubQuantum corrected presenceBad tagBad s
  | .demotionSweepQuantum => Sys2Proof.Machine.execDemotionSweepQuantum s
  | .heatEpochAdvance => Sys2Proof.Machine.execHeatEpochAdvance s
  | .frameExecutiveSlot units cycles => Sys2Proof.Machine.execFrameExecutiveSlot units cycles s
  | .surveySubround chan value selfCheck => Sys2Proof.Machine.execSurveySubround chan value selfCheck s
  | .thermalModelUpdate => Sys2Proof.Machine.execThermalModelUpdate s
  | .regulatorShortfallCheck => Sys2Proof.Machine.execRegulatorShortfallCheck s
  | .dimmTemperatureRead chan sensors bands => Sys2Proof.Machine.execDimmTemperatureRead chan sensors bands s
  | .reclamationQuantum => Sys2Proof.Machine.execReclamationQuantum s
  | .remarginingQuantum eyes steps => Sys2Proof.Machine.execRemarginingQuantum eyes steps s
  | .remarginPassStart => Sys2Proof.Machine.execRemarginPassStart s
  | .memRd slot tag hpa mv data => Sys2Proof.Machine.execMemRd slot tag hpa mv data s
  | .memWr slot tag hpa mv line poison => Sys2Proof.Machine.execMemWr slot tag hpa mv line poison s
  | .memWrPtl slot tag hpa mv line mask poison => Sys2Proof.Machine.execMemWrPtl slot tag hpa mv line mask poison s
  | .memInv slot tag hpa mv => Sys2Proof.Machine.execMemInv slot tag hpa mv s
  | .memClnEvct slot tag hpa => Sys2Proof.Machine.execMemClnEvct slot tag hpa s
  | .memSpecRd slot tag hpa => Sys2Proof.Machine.execMemSpecRd slot tag hpa s
  | .memFwd slot tag hpa => Sys2Proof.Machine.execMemFwd slot tag hpa s
  | .unknownMemOpcode slot tag hpa data => Sys2Proof.Machine.execUnknownMemOpcode slot tag hpa data s
  | .arbiterAccept slice entry => Sys2Proof.Machine.execArbiterAccept slice entry s
  | .pinWaitGrant slice set => Sys2Proof.Machine.execPinWaitGrant slice set s
  | .admission => Sys2Proof.Machine.execAdmission s
  | .capacityStallRepeat => Sys2Proof.Machine.execCapacityStallRepeat s
  | .storageWaitResume slice => Sys2Proof.Machine.execStorageWaitResume slice s
  | .backingFetchComplete slice err => Sys2Proof.Machine.execBackingFetchComplete slice err s
  | .metadataFetchComplete slice found => Sys2Proof.Machine.execMetadataFetchComplete slice found s
  | .metadataEvictUpdate slice => Sys2Proof.Machine.execMetadataEvictUpdate slice s
  | .nodeRekeyComplete slice => Sys2Proof.Machine.execNodeRekeyComplete slice s
  | .keystreamReady engine => Sys2Proof.Machine.execKeystreamReady engine s
  | .dramCommandIssue chan sc blocked => Sys2Proof.Machine.execDramCommandIssue chan sc blocked s
  | .rowCloseTimeout chan sc => Sys2Proof.Machine.execRowCloseTimeout chan sc s
  | .powerDownEntry chan rank => Sys2Proof.Machine.execPowerDownEntry chan rank s
  | .refabIssue chan rank => Sys2Proof.Machine.execRefabIssue chan rank s
  | .dramReadComplete chan sc err => Sys2Proof.Machine.execDramReadComplete chan sc err s
  | .markWindowEnd => Sys2Proof.Machine.execMarkWindowEnd s
  | .cryptoReadUnit engine => Sys2Proof.Machine.execCryptoReadUnit engine s
  | .cryFault engine => Sys2Proof.Machine.execCryFault engine s
  | .mergeReadComplete slice err => Sys2Proof.Machine.execMergeReadComplete slice err s
  | .writeBufferDrain slice => Sys2Proof.Machine.execWriteBufferDrain slice s
  | .moveCommit page => Sys2Proof.Machine.execMoveCommit page s
  | .bandCopyComplete chan => Sys2Proof.Machine.execBandCopyComplete chan s
  | .encoderDispatch engine => Sys2Proof.Machine.execEncoderDispatch engine s
  | .encodeComplete engine fault => Sys2Proof.Machine.execEncodeComplete engine fault s
  | .decoderDispatch => Sys2Proof.Machine.execDecoderDispatch s
  | .decodeComplete engine lane => Sys2Proof.Machine.execDecodeComplete engine lane s
  | .decoderParityError engine lane => Sys2Proof.Machine.execDecoderParityError engine lane s
  | .recompressorDequeue => Sys2Proof.Machine.execRecompressorDequeue s
  | .recompressionTimeout page => Sys2Proof.Machine.execRecompressionTimeout page s
  | .engineDrained crypto engine => Sys2Proof.Machine.execEngineDrained crypto engine s
  | .cmpSelftestComplete engine pass => Sys2Proof.Machine.execCmpSelftestComplete engine pass s
  | .crySelftestComplete engine pass => Sys2Proof.Machine.execCrySelftestComplete engine pass s
  | .cmpEngOfflineWrite engine offline => Sys2Proof.Machine.execCmpEngOfflineWrite engine offline s
  | .cmpEngSelftestWrite engine => Sys2Proof.Machine.execCmpEngSelftestWrite engine s
  | .tierDisableWrite value => Sys2Proof.Machine.execTierDisableWrite value s
  | .cryEngOfflineWrite engine offline => Sys2Proof.Machine.execCryEngOfflineWrite engine offline s
  | .cryEngSelftestWrite engine => Sys2Proof.Machine.execCryEngSelftestWrite engine s
  | .cryCtrlWrite value => Sys2Proof.Machine.execCryCtrlWrite value s
  | .keyFlush key => Sys2Proof.Machine.execKeyFlush key s
  | .walkStart => Sys2Proof.Machine.execWalkStart s
  | .metadataInit => Sys2Proof.Machine.execMetadataInit s
  | .hostPortCtrlWrite port value => Sys2Proof.Machine.execHostPortCtrlWrite port value s
  | .portResetRelease port => Sys2Proof.Machine.execPortResetRelease port s
  | .hostPortCfgWrite port value => Sys2Proof.Machine.execHostPortCfgWrite port value s
  | .linkResetWrite link lostWrites => Sys2Proof.Machine.execLinkResetWrite link lostWrites s
  | .linkDisableWrite link disable lostWrites => Sys2Proof.Machine.execLinkDisableWrite link disable lostWrites s
  | .hanMapWrite slot value => Sys2Proof.Machine.execHanMapWrite slot value s
  | .linkUp link width speed flit68 lds ptm => Sys2Proof.Machine.execLinkUp link width speed flit68 lds ptm s
  | .memorySpaceEnable slot on => Sys2Proof.Machine.execMemorySpaceEnable slot on s
  | .linkDrop link lostWrites => Sys2Proof.Machine.execLinkDrop link lostWrites s
  | .dlUp link => Sys2Proof.Machine.execDlUp link s
  | .hotReset link ld => Sys2Proof.Machine.execHotReset link ld s
  | .perst port asserted => Sys2Proof.Machine.execPerst port asserted s
  | .hostDeadTimeout slot => Sys2Proof.Machine.execHostDeadTimeout slot s
  | .l0pChange link width => Sys2Proof.Machine.execL0pChange link width s
  | .biCreditReturn link n => Sys2Proof.Machine.execBiCreditReturn link n s
  | .birsp slot addr answer => Sys2Proof.Machine.execBirsp slot addr answer s
  | .biconflict slot addr => Sys2Proof.Machine.execBiconflict slot addr s
  | .ideKm link key containment => Sys2Proof.Machine.execIdeKm link key containment s
  | .ideIntegrityFailure link lostWrites => Sys2Proof.Machine.execIdeIntegrityFailure link lostWrites s
  | .globalPersistentFlush link phase => Sys2Proof.Machine.execGlobalPersistentFlush link phase s
  | .hdmDecoderCommit slot decoder base size ways gran dpa => Sys2Proof.Machine.execHdmDecoderCommit slot decoder base size ways gran dpa s
  | .streamCtrlWrite slot value => Sys2Proof.Machine.execStreamCtrlWrite slot value s
  | .tbLoRead slot read => Sys2Proof.Machine.execTbLoRead slot read s
  | .identifyMemoryDevice slot => Sys2Proof.Machine.execIdentifyMemoryDevice slot s
  | .getPartitionInfo slot => Sys2Proof.Machine.execGetPartitionInfo slot s
  | .getSupportedLogs slot => Sys2Proof.Machine.execGetSupportedLogs slot s
  | .getLog slot => Sys2Proof.Machine.execGetLog slot s
  | .getEventRecords slot => Sys2Proof.Machine.execGetEventRecords slot s
  | .clearEventRecords slot n => Sys2Proof.Machine.execClearEventRecords slot n s
  | .getEventInterruptPolicy slot => Sys2Proof.Machine.execGetEventInterruptPolicy slot s
  | .setEventInterruptPolicy slot vector => Sys2Proof.Machine.execSetEventInterruptPolicy slot vector s
  | .setTimestamp slot ns => Sys2Proof.Machine.execSetTimestamp slot ns s
  | .getHealthInfo slot => Sys2Proof.Machine.execGetHealthInfo slot s
  | .getPoisonList slot dpa len => Sys2Proof.Machine.execGetPoisonList slot dpa len s
  | .injectPoison slot dpa => Sys2Proof.Machine.execInjectPoison slot dpa s
  | .clearPoison slot dpa line => Sys2Proof.Machine.execClearPoison slot dpa line s
  | .sanitize slot => Sys2Proof.Machine.execSanitize slot s
  | .secureErase slot => Sys2Proof.Machine.execSecureErase slot s
  | .getDcConfiguration slot => Sys2Proof.Machine.execGetDcConfiguration slot s
  | .getDcExtentList slot => Sys2Proof.Machine.execGetDcExtentList slot s
  | .addDcResponse slot dc => Sys2Proof.Machine.execAddDcResponse slot dc s
  | .releaseDc slot extents => Sys2Proof.Machine.execReleaseDc slot extents s
  | .getLdInfo slot sideband => Sys2Proof.Machine.execGetLdInfo slot sideband s
  | .getLdAllocations slot sideband => Sys2Proof.Machine.execGetLdAllocations slot sideband s
  | .setLdAllocations slot sideband gib => Sys2Proof.Machine.execSetLdAllocations slot sideband gib s
  | .aqCommandTunnel slot bytes => Sys2Proof.Machine.execAqCommandTunnel slot bytes s
  | .unsupportedMailboxOpcode slot opcode => Sys2Proof.Machine.execUnsupportedMailboxOpcode slot opcode s
  | .identify p => Sys2Proof.Machine.execIdentify p s
  | .readReg p => Sys2Proof.Machine.execReadReg p s
  | .readLogbook p => Sys2Proof.Machine.execReadLogbook p s
  | .regionAlloc p => Sys2Proof.Machine.execRegionAlloc p s
  | .regionFree p => Sys2Proof.Machine.execRegionFree p s
  | .regionClass p => Sys2Proof.Machine.execRegionClass p s
  | .extentSet p => Sys2Proof.Machine.execExtentSet p s
  | .extentClear p => Sys2Proof.Machine.execExtentClear p s
  | .regionRekey p => Sys2Proof.Machine.execRegionRekey p s
  | .tierPin p => Sys2Proof.Machine.execTierPin p s
  | .tierUnpin p => Sys2Proof.Machine.execTierUnpin p s
  | .channelEvacuate p => Sys2Proof.Machine.execChannelEvacuate p s
  | .channelReturn p => Sys2Proof.Machine.execChannelReturn p s
  | .keyLoadGenerate p => Sys2Proof.Machine.execKeyLoadGenerate p s
  | .keyLoadImport p => Sys2Proof.Machine.execKeyLoadImport p s
  | .keyRetire p => Sys2Proof.Machine.execKeyRetire p s
  | .leaseRelease p => Sys2Proof.Machine.execLeaseRelease p s
  | .leaseKeep p => Sys2Proof.Machine.execLeaseKeep p s
  | .leaseTimeout region => Sys2Proof.Machine.execLeaseTimeout region s
  | .leaseClearOrphan p => Sys2Proof.Machine.execLeaseClearOrphan p s
  | .qosConfig p => Sys2Proof.Machine.execQosConfig p s
  | .engineSetOnline p => Sys2Proof.Machine.execEngineSetOnline p s
  | .engineSetOffline p => Sys2Proof.Machine.execEngineSetOffline p s
  | .engineSetSelftest p => Sys2Proof.Machine.execEngineSetSelftest p s
  | .setPl p => Sys2Proof.Machine.execSetPl p s
  | .sleep p => Sys2Proof.Machine.execSleep p s
  | .slotPowerOn p => Sys2Proof.Machine.execSlotPowerOn p s
  | .slotPowerOff p => Sys2Proof.Machine.execSlotPowerOff p s
  | .memberJoin p => Sys2Proof.Machine.execMemberJoin p s
  | .memberRemove p => Sys2Proof.Machine.execMemberRemove p s
  | .pmuConfig p => Sys2Proof.Machine.execPmuConfig p s
  | .pmuPlate p => Sys2Proof.Machine.execPmuPlate p s
  | .pmuUserPageOpen p => Sys2Proof.Machine.execPmuUserPageOpen p s
  | .pmuUserPageClose p => Sys2Proof.Machine.execPmuUserPageClose p s
  | .errRead p => Sys2Proof.Machine.execErrRead p s
  | .errClear p => Sys2Proof.Machine.execErrClear p s
  | .fwWrite p => Sys2Proof.Machine.execFwWrite p s
  | .fwActivate p => Sys2Proof.Machine.execFwActivate p s
  | .fuseProgram p => Sys2Proof.Machine.execFuseProgram p s
  | .debugUnlockChallenge p => Sys2Proof.Machine.execDebugUnlockChallenge p s
  | .debugUnlockAnswer p => Sys2Proof.Machine.execDebugUnlockAnswer p s
  | .dbgWrite p => Sys2Proof.Machine.execDbgWrite p s
  | .unsupportedCommand p => Sys2Proof.Machine.execUnsupportedCommand p s
  | .inPost chan slot mgt len bytes => Sys2Proof.Machine.execInPost chan slot mgt len bytes s
  | .inTaken chan mgt => Sys2Proof.Machine.execInTaken chan mgt s
  | .outPost chan mgt => Sys2Proof.Machine.execOutPost chan mgt s
  | .outTaken chan slot mgt => Sys2Proof.Machine.execOutTaken chan slot mgt s
  | .ch15Claim slot => Sys2Proof.Machine.execCh15Claim slot s
  | .ch15ClaimRevoke => Sys2Proof.Machine.execCh15ClaimRevoke s
  | .mbxBindWrite chan value => Sys2Proof.Machine.execMbxBindWrite chan value s
  | .farEndReset chan => Sys2Proof.Machine.execFarEndReset chan s
  | .sbItemStart => Sys2Proof.Machine.execSbItemStart s
  | .sbByte byte => Sys2Proof.Machine.execSbByte byte s
  | .sbItemEnd => Sys2Proof.Machine.execSbItemEnd s
  | .sbBusFault => Sys2Proof.Machine.execSbBusFault s
  | .sbDataRead corrected bad => Sys2Proof.Machine.execSbDataRead corrected bad s
  | .sbMark => Sys2Proof.Machine.execSbMark s
  | .sbRewind => Sys2Proof.Machine.execSbRewind s
  | .sbFlush => Sys2Proof.Machine.execSbFlush s
  | .uartFrame bytes => Sys2Proof.Machine.execUartFrame bytes s
  | .fuseBitProgram result => Sys2Proof.Machine.execFuseBitProgram result s
  | .norWriteComplete => Sys2Proof.Machine.execNorWriteComplete s
  | .boot identity => Sys2Proof.Machine.execBoot identity s
  | .trialConfirm => Sys2Proof.Machine.execTrialConfirm s
  | .spdmGetCertificate transport certSlot => Sys2Proof.Machine.execSpdmGetCertificate transport certSlot s
  | .spdmChallenge transport certSlot => Sys2Proof.Machine.execSpdmChallenge transport certSlot s
  | .spdmGetMeasurements transport index signed => Sys2Proof.Machine.execSpdmGetMeasurements transport index signed s
  | .spdmKeyExchange transport => Sys2Proof.Machine.execSpdmKeyExchange transport s
  | .spdmKeyUpdate transport session => Sys2Proof.Machine.execSpdmKeyUpdate transport session s
  | .spdmHeartbeat transport session => Sys2Proof.Machine.execSpdmHeartbeat transport session s
  | .plVoltageSettled => Sys2Proof.Machine.execPlVoltageSettled s
  | .plClockSwitch => Sys2Proof.Machine.execPlClockSwitch s
  | .blockStopComplete => Sys2Proof.Machine.execBlockStopComplete s
  | .wakePin pin => Sys2Proof.Machine.execWakePin pin s
  | .wakeTimer => Sys2Proof.Machine.execWakeTimer s
  | .wakeMaskClear src => Sys2Proof.Machine.execWakeMaskClear src s
  | .pllLock => Sys2Proof.Machine.execPllLock s
  | .slExitComplete retentionUe => Sys2Proof.Machine.execSlExitComplete retentionUe s
  | .brownOut => Sys2Proof.Machine.execBrownOut s
  | .ptmExchange offset => Sys2Proof.Machine.execPtmExchange offset s
  | .xtalTrimUpdate trim => Sys2Proof.Machine.execXtalTrimUpdate trim s
  | .refComparatorTrip temp => Sys2Proof.Machine.execRefComparatorTrip temp s
  | .thermalRestart => Sys2Proof.Machine.execThermalRestart s
  | .roDay ageing => Sys2Proof.Machine.execRoDay ageing s
  | .logbookWrite => Sys2Proof.Machine.execLogbookWrite s
  | .presenceChange slot prsnt0 prsnt1 => Sys2Proof.Machine.execPresenceChange slot prsnt0 prsnt1 s
  | .vinWindowChange slot vin => Sys2Proof.Machine.execVinWindowChange slot vin s
  | .insertionDelayExpiry slot => Sys2Proof.Machine.execInsertionDelayExpiry slot s
  | .slotFullyOn slot => Sys2Proof.Machine.execSlotFullyOn slot s
  | .rampTimeout slot => Sys2Proof.Machine.execRampTimeout slot s
  | .pgDelayExpiry slot => Sys2Proof.Machine.execPgDelayExpiry slot s
  | .currentLimitOnset slot => Sys2Proof.Machine.execCurrentLimitOnset slot s
  | .currentLimitRelease slot => Sys2Proof.Machine.execCurrentLimitRelease slot s
  | .faultTimerExpiry slot => Sys2Proof.Machine.execFaultTimerExpiry slot s
  | .slotDownEnd slot low => Sys2Proof.Machine.execSlotDownEnd slot low s
  | .meterUpdate slot current vout vin power energy => Sys2Proof.Machine.execMeterUpdate slot current vout vin power energy s
  | .spdReadStart slot => Sys2Proof.Machine.execSpdReadStart slot s
  | .spdReadComplete slot hub0 hub1 same => Sys2Proof.Machine.execSpdReadComplete slot hub0 hub1 same s
  | .dcCfgWrite chan value same maxFrames rated => Sys2Proof.Machine.execDcCfgWrite chan value same maxFrames rated s
  | .dcMarkWrite chan rank value => Sys2Proof.Machine.execDcMarkWrite chan rank value s
  | .zeroInitComplete chan => Sys2Proof.Machine.execZeroInitComplete chan s
  | .trainingGo chan value => Sys2Proof.Machine.execTrainingGo chan value s
  | .trainingStepComplete chan lanes => Sys2Proof.Machine.execTrainingStepComplete chan lanes s
  | .qosCtrlWrite value => Sys2Proof.Machine.execQosCtrlWrite value s
  | .dmrCtrlWrite ring value => Sys2Proof.Machine.execDmrCtrlWrite ring value s
  | .dmrDoorbell ring tail page => Sys2Proof.Machine.execDmrDoorbell ring tail page s
  | .descriptorFetch ring => Sys2Proof.Machine.execDescriptorFetch ring s
  | .dmCopy ring => Sys2Proof.Machine.execDmCopy ring s
  | .dmFill ring => Sys2Proof.Machine.execDmFill ring s
  | .dmZero ring => Sys2Proof.Machine.execDmZero ring s
  | .dmCompress ring => Sys2Proof.Machine.execDmCompress ring s
  | .dmDecompress ring => Sys2Proof.Machine.execDmDecompress ring s
  | .dmFence ring => Sys2Proof.Machine.execDmFence ring s
  | .dmNop ring => Sys2Proof.Machine.execDmNop ring s
  | .dmReservedOpcode ring => Sys2Proof.Machine.execDmReservedOpcode ring s
  | .dmOperationComplete ring => Sys2Proof.Machine.execDmOperationComplete ring s
  | .stRetrainWrite port => Sys2Proof.Machine.execStRetrainWrite port s
  | .stPortResetWrite port => Sys2Proof.Machine.execStPortResetWrite port s
  | .stDisableWrite port disable => Sys2Proof.Machine.execStDisableWrite port disable s
  | .trainingAttemptTimeout port => Sys2Proof.Machine.execTrainingAttemptTimeout port s
  | .trainingBlockReceived port lane detected block advance => Sys2Proof.Machine.execTrainingBlockReceived port lane detected block advance s
  | .syncSend port => Sys2Proof.Machine.execSyncSend port s
  | .linkActive port => Sys2Proof.Machine.execLinkActive port s
  | .flitReceived port flit copy => Sys2Proof.Machine.execFlitReceived port flit copy s
  | .ctrlFlitReceived port flit copy => Sys2Proof.Machine.execCtrlFlitReceived port flit copy s
  | .ackTimer port => Sys2Proof.Machine.execAckTimer port s
  | .nakResendTimer port => Sys2Proof.Machine.execNakResendTimer port s
  | .replayTimer port => Sys2Proof.Machine.execReplayTimer port s
  | .stitchDown port => Sys2Proof.Machine.execStitchDown port s
  | .spareWindowEnd port => Sys2Proof.Machine.execSpareWindowEnd port s
  | .laneLockLoss port lane => Sys2Proof.Machine.execLaneLockLoss port lane s
  | .spareReq port lane => Sys2Proof.Machine.execSpareReq port lane s
  | .spareAck port lane => Sys2Proof.Machine.execSpareAck port lane s
  | .spareReqRepeat port => Sys2Proof.Machine.execSpareReqRepeat port s
  | .stRd port => Sys2Proof.Machine.execStRd port s
  | .stWr port => Sys2Proof.Machine.execStWr port s
  | .stWrPtl port => Sys2Proof.Machine.execStWrPtl port s
  | .spillPut port => Sys2Proof.Machine.execSpillPut port s
  | .spillGet port => Sys2Proof.Machine.execSpillGet port s
  | .spillFree port => Sys2Proof.Machine.execSpillFree port s
  | .stCmd port => Sys2Proof.Machine.execStCmd port s
  | .stCmp port => Sys2Proof.Machine.execStCmp port s
  | .snpRsp port => Sys2Proof.Machine.execSnpRsp port s
  | .cmdRsp port => Sys2Proof.Machine.execCmdRsp port s
  | .snpInv port => Sys2Proof.Machine.execSnpInv port s
  | .snpData port => Sys2Proof.Machine.execSnpData port s
  | .stUndefinedOpcode port => Sys2Proof.Machine.execStUndefinedOpcode port s
  | .hello port => Sys2Proof.Machine.execHello port s
  | .helloTimer => Sys2Proof.Machine.execHelloTimer s
  | .roster port => Sys2Proof.Machine.execRoster port s
  | .rosterHeartbeat => Sys2Proof.Machine.execRosterHeartbeat s
  | .routeSet port => Sys2Proof.Machine.execRouteSet port s
  | .hold port => Sys2Proof.Machine.execHold port s
  | .held port => Sys2Proof.Machine.execHeld port s
  | .resume port => Sys2Proof.Machine.execResume port s
  | .linkDown port => Sys2Proof.Machine.execLinkDown port s
  | .claim port => Sys2Proof.Machine.execClaim port s
  | .level port => Sys2Proof.Machine.execLevel port s
  | .recallLeases port => Sys2Proof.Machine.execRecallLeases port s
  | .leave port => Sys2Proof.Machine.execLeave port s
  | .headElection => Sys2Proof.Machine.execHeadElection s
  | .formationDeadline => Sys2Proof.Machine.execFormationDeadline s
  | .heartbeatLoss => Sys2Proof.Machine.execHeartbeatLoss s
  | .claimSettle => Sys2Proof.Machine.execClaimSettle s
  | .failureDecision => Sys2Proof.Machine.execFailureDecision s
  | .errorRecord code inst fatal addr detail => Sys2Proof.Machine.execErrorRecord code inst fatal addr detail s
  | .mgtLockstep => Sys2Proof.Machine.execMgtLockstep s
  | .sramUe slice kind index => Sys2Proof.Machine.execSramUe slice kind index s
  | .sramScrubStep slice array corrected => Sys2Proof.Machine.execSramScrubStep slice array corrected s
  | .pmuValueWrite ctr value => Sys2Proof.Machine.execPmuValueWrite ctr value s
  | .pmuPlateWrite => Sys2Proof.Machine.execPmuPlateWrite s
  | .counterWrap ctr inc => Sys2Proof.Machine.execCounterWrap ctr inc s
  | .pmuUe ctr => Sys2Proof.Machine.execPmuUe ctr s
  | .powerOn => Sys2Proof.Machine.execPowerOn s
  | .coreRst asserted => Sys2Proof.Machine.execCoreRst asserted s
  | .mgtRst asserted => Sys2Proof.Machine.execMgtRst asserted s
  | .pwrOkLow low => Sys2Proof.Machine.execPwrOkLow low s
  | .resetRelease => Sys2Proof.Machine.execResetRelease s
  | .registerWrite addr wide access => Sys2Proof.Machine.execRegisterWrite addr wide access s
  | .stopBudgetExpiry => Sys2Proof.Machine.execStopBudgetExpiry s
  | .deferredClaimTimeout => Sys2Proof.Machine.execDeferredClaimTimeout s
  | .vaux1v8Loss => Sys2Proof.Machine.execVaux1v8Loss s
  | .spdmSessionEnd transport session => Sys2Proof.Machine.execSpdmSessionEnd transport session s

end Sys2Proof.Machine
end

