-- ==== Sys2Proof/Machine/Idle.lean ====
section
/-!
DEFINITION. What the device does by itself while nothing is commanded: a row of the sideband that waited for SL0 is served (R333); else
one step of the fine clock passes (log entry 56).
-/

namespace Sys2Proof.Machine

/-- R333: the oldest row of the sideband that waited in SL2 or SL3 takes its effect once SL0 is back; with none, the fine clock steps. -/
def idle (s : State) : Host.Outcome State Fault Refusal :=
  match s.mgt.rows with
  | i :: rest =>
    if s.asleep then .next (tick s)
    else
      match exec i { s with mgt := { s.mgt with rows := [] } } with
      | .next t => .next { t with mgt := { t.mgt with rows := rest ++ t.mgt.rows } }
      | o => o
  | [] => .next (tick s)

end Sys2Proof.Machine
end

