-- ==== Sys2Proof/Safety.lean ====
section
/-!
DEFINITION. What the claims speak of: the canonical form of the state, and a safe step.
-/

namespace Sys2Proof.Machine

/-- The state is in canonical form: the register file and every sparse table (those of the retention store too) list rising keys, and no table lists a cell equal to
what an unlisted key reads as. Equal contents are then equal data. -/
structure State.Canon (s : State) : Prop where
  regs : cellsRising s.regs = true
  lds : s.lds.wf = true
  links : s.links.wf = true
  ports : s.ports.wf = true
  almanac : s.almanac.wf = true
  near : s.near.wf = true
  dir : s.dir.wf = true
  stamps : s.stamps.wf = true
  slotStamps : s.slotStamps.wf = true
  regions : s.regions.wf = true
  frames : s.frames.wf = true
  spills : s.spills.wf = true
  levels : s.levels.wf = true
  hops : s.hops.wf = true
  metaSto : s.metaSto.wf = true
  roots : s.roots.wf = true
  keys : s.keys.wf = true
  dram : s.dram.wf = true
  chans : s.chans.wf = true
  masters : s.masters.wf = true
  quotas : s.quotas.wf = true
  rings : s.rings.wf = true
  mbx : s.mbx.wf = true
  jobs : s.jobs.wf = true
  stPorts : s.stPorts.wf = true
  spine : s.spine.wf = true
  spw : s.spw.wf = true
  spd : s.spd.wf = true
  sramAt : s.sramAt.wf = true
  sbRing : s.sb.ring.wf = true
  nor : s.sec.nor.wf = true
  sessions : s.sec.sessions.wf = true
  retained : s.pwr.retained.all (fun r => r.keys.wf && r.roots.wf) = true

/-- A step is safe if it answers a next state: no fault and no refusal. -/
def SafeStep (s : State) : Prop := ∃ t, step s = .next t

/-- R22, R47, R53, R248: a host LD whose requests this home serves: its link is up and its agent ALIVE, the ports run, the device is
neither in fatal mode nor FENCED, and the host address maps to a backed CPA whose home is this member. -/
structure HostServed (s : State) (slot hpa cpa : Nat) : Prop where
  link : (s.links.get (linkOfSlot slot)).up = true
  alive : agentState s slot = 1
  ports : portsStopped s = false
  fatal : s.inFatal = false
  fence : fenced s = false
  maps : mapHpa s slot hpa = some cpa
  back : backed s slot cpa = true
  home : homePath s cpa = s.get F.CLU_CFG.PATH

/-- R318, R445: the state in which an accepted packet is decided: its tag is outstanding and the command is counted. -/
def decidedIn (p : Packet) (s : State) : State := (holdTag p s).count 0x902 0

/-- R259, R315, R318, R333, R337: a packet that is decided as it arrives, here, and passes the checks that come before the command's
own: no packet waits before it and its channel has room for the reply, its tag is not outstanding, the processor runs, and the command
is neither for the top head nor for another member. -/
structure PacketRuns (s : State) (p : Packet) : Prop where
  now : decidesNow p s = true
  fresh : tagHeld p s = false
  header : headerFault p = false
  here : goesToHead p (decidedIn p s) = false
  checks : checkPacket p (decidedIn p s) = none
  own : relayTo p (decidedIn p s) = none

/-- The packet of a row with opcode `op`, as it arrives: its reply is not discarded. -/
def opForm (op : Nat) (p : Packet) : Packet := { p with opcode := BitVec.ofNat 16 op, muted := false }

/-- A row of command packets completes: where its packet is decided here and `pre` holds of the packet and of the state in which it
is decided, exec answers a next state, in which the packet has been answered (R316) and `post` holds of that state before it, of
the verdict and of the state after the command's own effect. -/
def RowAnswers (row : Packet → Instr) (form : Packet → Packet) (pre : Packet → State → Prop)
    (post : Packet → State → Verdict → State → Prop) : Prop :=
  ∀ (s : State) (p : Packet), PacketRuns s (form p) → pre (form p) (decidedIn (form p) s) →
    ∃ v t, exec (row p) s = .next (answer (form p) v t) ∧ post (form p) (decidedIn (form p) s) v t

/-- The command packet rows with the packet that each decides. -/
def packetRows : List ((Packet → Instr) × (Packet → Packet)) :=
  [(Instr.identify, opForm 0x0101), (Instr.readReg, opForm 0x0102), (Instr.readLogbook, opForm 0x0103), (Instr.regionAlloc, opForm 0x0201),
    (Instr.regionFree, opForm 0x0202), (Instr.regionClass, opForm 0x0203), (Instr.extentSet, opForm 0x0204), (Instr.extentClear, opForm 0x0205),
    (Instr.regionRekey, opForm 0x0206), (Instr.tierPin, fun p => opForm 0x0301 (p.withPar 0 1 1)),
    (Instr.tierUnpin, fun p => opForm 0x0301 (p.withPar 0 1 0)), (Instr.channelEvacuate, opForm 0x0302), (Instr.channelReturn, opForm 0x0303)] ++
  [(Instr.keyLoadGenerate, fun p => opForm 0x0401 (p.withPar 8 1 0)), (Instr.keyLoadImport, fun p => opForm 0x0401 (p.withPar 8 1 1)),
    (Instr.keyRetire, opForm 0x0402), (Instr.leaseRelease, fun p => opForm 0x0501 (p.withPar 16 1 1)),
    (Instr.leaseKeep, fun p => opForm 0x0501 (p.withPar 16 1 0)), (Instr.leaseClearOrphan, opForm 0x0502), (Instr.qosConfig, opForm 0x0601),
    (Instr.engineSetOnline, fun p => opForm 0x0701 (p.withPar 16 2 0)), (Instr.engineSetOffline, fun p => opForm 0x0701 (p.withPar 16 2 1)),
    (Instr.engineSetSelftest, fun p => opForm 0x0701 (p.withPar 16 2 2)), (Instr.setPl, opForm 0x0801), (Instr.sleep, opForm 0x0802),
    (Instr.slotPowerOn, fun p => opForm 0x0803 (p.withPar 8 1 1)), (Instr.slotPowerOff, fun p => opForm 0x0803 (p.withPar 8 1 0))] ++
  [(Instr.memberJoin, opForm 0x0901), (Instr.memberRemove, opForm 0x0902), (Instr.pmuConfig, opForm 0x0A01), (Instr.pmuPlate, opForm 0x0A02),
    (Instr.pmuUserPageOpen, fun p => opForm 0x0A03 (p.withPar 8 1 1)), (Instr.pmuUserPageClose, fun p => opForm 0x0A03 (p.withPar 8 1 0)),
    (Instr.errRead, opForm 0x0B01), (Instr.errClear, opForm 0x0B02), (Instr.fwWrite, opForm 0x0C01), (Instr.fwActivate, opForm 0x0C02),
    (Instr.fuseProgram, opForm 0x0D01), (Instr.debugUnlockChallenge, fun p => opForm 0x0E01 { p with length := 0, payload := [] }),
    (Instr.debugUnlockAnswer, opForm 0x0E01), (Instr.dbgWrite, opForm 0x0E02)]

/-- R381: the state in which a standard command is served: one over a host link is an access that fires wake source 0. -/
def stdArrived (s : State) (sideband : Bool) : State := if sideband then s else wakeRaw 0 s

/-- R58, R320, R323, R333, R358, R433: a standard command of a class is served: the device is awake, the processor runs, the LD is
reached (or the command comes over the sideband, with none waiting before it), and neither recovery, the port authority table nor fatal mode stands against it. -/
structure StdServed (s : State) (m : Nat) (sideband : Bool) (cls : Nat) : Prop where
  awake : s.asleep = false
  first : sideband = false ∨ s.mgt.rows = []
  reached : sideband = true ∨ ldReached s m = true
  booted : (stdArrived s sideband).sec.running = true
  normal : (stdArrived s sideband).flag F.SEC_STATUS.RECOVERY = false
  allowed : denied (stdArrived s sideband) cls (if sideband then 16 else m / 4) = false
  fatal : (stdArrived s sideband).inFatal = false ∨ cls = 1 ∨ cls = 0x0B

/-- R40, R106 to R109: the oldest operation of a ring with an opcode of `p` may start: its fields are in range for the state in
which it is started, the ring maps its ranges, and a management-owned ring touches no held lease. -/
structure MoverStarts (s : State) (ring : Nat) (p : Nat → Bool) (o : MoverOp) : Prop where
  oldest : startable p [] (s.rings.get ring).ops = some o
  known : o.desc.opcode ≤ 5 ∨ o.desc.opcode = 0x0F
  fits : descFits (setOp ring { o with started := true } s) o.desc = true
  maps : (opRanges o.desc).all (fun x => ringMaps (setOp ring { o with started := true } s) ring x.1 x.2) = true
  lease : ((setOp ring { o with started := true } s).flag (F.TIER_DMR_CTRL.OWNER_MGT ring) && (opRanges o.desc).any
    (fun x => leaseHeld (setOp ring { o with started := true } s) x.1 x.2)) = false

end Sys2Proof.Machine
end

