-- ==== Sys2Proof/Certificates/Slice0/Obligations.lean ====
section
/-!
DEFINITION. The statements for the provers.
-/

open Sys2Proof Sys2Proof.Machine

/-- IN_POST. When IN of a channel is empty and its far end posts a message of 16 to 4096 bytes, the command completes: FULL becomes 1, LEN the length, the bytes stand at the start of the buffer, over what it held, and are the message where there are LEN of them (on channel 15 byte 5, FLAGS.SENDER, reads 0x80 | slot), and every other channel, the accepted packets, the stored lines and the catalogue are unchanged. When FULL is 1, or the post is the management processor's, or not of the channel's far end, or not of 16 to 4096 bytes, the command completes too: IN_ERR becomes 1, and beside what the wake source of a far end's access does all but the register file is unchanged. (R326, R327, R330.) -/
def Obligations.MailboxInPosts : Prop :=
  (∀ (s : State) (c : Fin 16) (m : Fin 64) (len : BitVec 13) (bytes : List Byte),
    s.get (F.MBX_CH_STATUS.IN_FULL c) = 0 → 16 ≤ len.toNat → len.toNat ≤ 4096 → isFarEnd s c m = true →
    ∃ t, exec (.inPost c m false len bytes) s = .next t ∧
      t.get (F.MBX_CH_STATUS.IN_FULL c) = 1 ∧ t.get (F.MBX_CH_STATUS.IN_LEN c) = len.toNat ∧
      (t.mbx.get c).inSlot = m ∧
      (c ≠ 15 → (t.mbx.get c).inMsg = overwrite 0 (bytes.take len.toNat) (s.mbx.get c).inMsg) ∧
      (c ≠ 15 → len.toNat ≤ bytes.length → inBytes t c = bytes.take len.toNat) ∧
      (c = 15 → (t.mbx.get c).inMsg[5]? = some (BitVec.ofNat 8 (0x80 + m))) ∧
      (∀ d : Fin 16, d ≠ c → t.mbx.get d = s.mbx.get d ∧
        t.get (F.MBX_CH_STATUS.IN_FULL d) = s.get (F.MBX_CH_STATUS.IN_FULL d)) ∧
      t.mgt = s.mgt ∧ t.dram = s.dram ∧ t.frames = s.frames ∧ t.regions = s.regions) ∧
  (∀ (s : State) (c : Fin 16) (m : Fin 64) (len : BitVec 13) (bytes : List Byte),
    s.get (F.MBX_CH_STATUS.IN_FULL c) = 1 ∨ len.toNat < 16 ∨ 4096 < len.toNat ∨ isFarEnd s c m = false →
    ∃ t, exec (.inPost c m false len bytes) s = .next t ∧ t.get (F.MBX_CH_STATUS.IN_ERR c) = 1 ∧
      t.get (F.MBX_CH_STATUS.IN_FULL c) = s.get (F.MBX_CH_STATUS.IN_FULL c) ∧ t = { wakeRaw 0 s with regs := t.regs }) ∧
  (∀ (s : State) (c : Fin 16) (m : Fin 64) (len : BitVec 13) (bytes : List Byte),
    ∃ t, exec (.inPost c m true len bytes) s = .next t ∧ t.get (F.MBX_CH_STATUS.IN_ERR c) = 1 ∧
      t.get (F.MBX_CH_STATUS.IN_FULL c) = s.get (F.MBX_CH_STATUS.IN_FULL c) ∧ t = { s with regs := t.regs })

/-- IN_TAKEN. When IN of a channel is FULL, fewer than four replies of the channel wait for OUT or are still to come of its taken packets, and the management processor takes the message, the command completes and IN is empty with LEN 0; a packet whose tag is not outstanding is accepted for its decision with its tag outstanding, and one whose tag is outstanding is not accepted. While there is no room for another reply, nothing changes. A TAKEN while FULL is 0 is ignored. A TAKEN by the far end is an error that sets IN_ERR and changes the register file alone. (R315, R327, R328, R331.) -/
def Obligations.MailboxInTaken : Prop :=
  (∀ (s : State) (c : Fin 16), s.get (F.MBX_CH_STATUS.IN_FULL c) = 1 → replyRoom (.mbx c) s = true →
    ∃ t, exec (.inTaken c true) s = .next t ∧ t.get (F.MBX_CH_STATUS.IN_FULL c) = 0 ∧ t.get (F.MBX_CH_STATUS.IN_LEN c) = 0 ∧
      (tagHeld (packetOf (.mbx c) (s.mbx.get c).inSlot (inBytes s c)) s = false →
        t.mgt.accepted = s.mgt.accepted ++ [packetOf (.mbx c) (s.mbx.get c).inSlot (inBytes s c)] ∧
        tagHeld (packetOf (.mbx c) (s.mbx.get c).inSlot (inBytes s c)) t = true) ∧
      (tagHeld (packetOf (.mbx c) (s.mbx.get c).inSlot (inBytes s c)) s = true → t.mgt = s.mgt) ∧
      t.dram = s.dram ∧ t.regions = s.regions) ∧
  (∀ (s : State) (c : Fin 16), s.get (F.MBX_CH_STATUS.IN_FULL c) = 1 → 4 ≤ (s.mbx.get c).held.length →
    exec (.inTaken c true) s = .next s) ∧
  (∀ (s : State) (c : Fin 16), replyRoom (.mbx c) s = false → exec (.inTaken c true) s = .next s) ∧
  (∀ (s : State) (c : Fin 16) (mgt : Bool), s.get (F.MBX_CH_STATUS.IN_FULL c) = 0 → exec (.inTaken c mgt) s = .next s) ∧
  (∀ (s : State) (c : Fin 16), s.get (F.MBX_CH_STATUS.IN_FULL c) = 1 →
    ∃ t, exec (.inTaken c false) s = .next t ∧ t.get (F.MBX_CH_STATUS.IN_ERR c) = 1 ∧ t = { s with regs := t.regs })

/-- OUT_POST by the management processor on an empty OUT posts the oldest held reply (on channel 15 the destination named is the one the reply was held for, or else the one named before): it is the OUT message, leaves the held list, FULL is 1, the packet has left the device, and a tag that its reply ends is no longer outstanding. OUT_TAKEN by the far end of a FULL OUT empties it. The wrong end's POST or TAKEN, and a POST while FULL, set OUT_ERR; a TAKEN while FULL is 0 is ignored. Beside what the wake source of a far end's access does, no field that the clauses do not name changes. (R327, R328, R330.) -/
def Obligations.MailboxOut : Prop :=
  (∀ (s : State) (c : Fin 16) (h : HeldOut) (rest : List HeldOut), s.get (F.MBX_CH_STATUS.OUT_FULL c) = 0 →
    (c = 15 → h.dest.isSome = true ∨ s.get F.MBX_CH15_OUT_DEST.VALID = 1) → (s.mbx.get c).held = h :: rest →
    ∃ t, exec (.outPost c true) s = .next t ∧ t.get (F.MBX_CH_STATUS.OUT_FULL c) = 1 ∧
      (∀ m < 64, c = 15 → h.dest = some m → t.get F.MBX_CH15_OUT_DEST.SLOT = m) ∧
      (t.mbx.get c).outMsg = some h.out ∧ (t.mbx.get c).held = rest ∧ h.out ∈ t.out ∧ (∀ x ∈ s.out, x ∈ t.out) ∧
      (∀ k, h.tag = some k → k ∉ t.mgt.tags) ∧
      t = { s with regs := t.regs, mbx := t.mbx, out := t.out, mgt := (endTag h.tag s).mgt }) ∧
  (∀ (s : State) (c : Fin 16) (m : Fin 64), s.get (F.MBX_CH_STATUS.OUT_FULL c) = 1 → c ≠ 15 → isFarEnd s c m = true →
    ∃ t, exec (.outTaken c m false) s = .next t ∧ t.get (F.MBX_CH_STATUS.OUT_FULL c) = 0 ∧
      (t.mbx.get c).outMsg = none ∧ t = { wakeRaw 0 s with regs := t.regs, mbx := t.mbx }) ∧
  (∀ (s : State) (m : Fin 64), s.get (F.MBX_CH_STATUS.OUT_FULL 15) = 1 → s.get F.MBX_CH15_OUT_DEST.VALID = 1 →
    s.get F.MBX_CH15_OUT_DEST.SLOT = m →
    ∃ t, exec (.outTaken 15 m false) s = .next t ∧ t.get (F.MBX_CH_STATUS.OUT_FULL 15) = 0 ∧
      t = { wakeRaw 0 s with regs := t.regs, mbx := t.mbx }) ∧
  (∀ (s : State) (c : Fin 16) (m : Fin 64), s.get (F.MBX_CH_STATUS.OUT_FULL c) = 1 →
    (∃ t, exec (.outPost c true) s = .next t ∧ t.get (F.MBX_CH_STATUS.OUT_ERR c) = 1 ∧ t = { s with regs := t.regs }) ∧
    (∃ t, exec (.outTaken c m true) s = .next t ∧ t.get (F.MBX_CH_STATUS.OUT_ERR c) = 1 ∧ t = { s with regs := t.regs })) ∧
  (∀ (s : State) (c : Fin 16), s.get (F.MBX_CH_STATUS.OUT_FULL c) = 0 →
    ∃ t, exec (.outPost c false) s = .next t ∧ t.get (F.MBX_CH_STATUS.OUT_ERR c) = 1 ∧ t = { s with regs := t.regs }) ∧
  (∀ (s : State) (c : Fin 16) (m : Fin 64), s.get (F.MBX_CH_STATUS.OUT_FULL c) = 0 →
    exec (.outTaken c m true) s = .next s ∧ exec (.outTaken c m false) s = .next (wakeRaw 0 s))

/-- CH15_CLAIM, CH15_CLAIM_REVOKE, MBX_BIND_WRITE, FAR_END_RESET. A claim of channel 15 is granted if it is neither claimed nor FULL: HELD reads 1 to the claimer (the claim names its slot and time) and BUSY 1; while claimed the command changes nothing. A claim that is not followed by a post within 100 us is revoked and the buffer cleared. A binding write is accepted while both mailboxes of the channel are empty (channels 0 to 7: while SECURE_LOCK is 0) and sets SLOT, MSIX and, for a kind below 4 on channels below 15, KIND; a locked channel keeps its registers. A far-end reset empties IN and OUT, clears the held replies, sets OUT_ABORT, ends the channel's outstanding tags, drops the channel's packets not yet taken, and leaves the packets accepted from it to run, their replies to be discarded; no field besides the management unit's and what waits to answer a packet changes. (R329, R330, R331.) -/
def Obligations.MailboxClaimBindReset : Prop :=
  (∀ (s : State) (m : Fin 64), s.claim = none → s.get (F.MBX_CH_STATUS.IN_FULL 15) = 0 →
    ∃ t, exec (.ch15Claim m) s = .next t ∧ t.claim = some (m.val, s.now) ∧ t.get F.MBX_CH15_CLAIM.BUSY = 1 ∧
      t.get F.MBX_CH15_CLAIM.OWNER = m ∧ t = { s with regs := t.regs, claim := t.claim }) ∧
  (∀ (s : State) (m : Fin 64) (x : Nat × Nat), s.claim = some x → exec (.ch15Claim m) s = .next s) ∧
  (∀ (s : State) (m at_ : Nat), s.claim = some (m, at_) → s.get (F.MBX_CH_STATUS.IN_FULL 15) = 0 → at_ + 100000 ≤ s.now →
    ∃ t, exec .ch15ClaimRevoke s = .next t ∧ t.claim = none ∧ (t.mbx.get 15).inMsg = [] ∧
      t.get F.MBX_CH15_CLAIM.BUSY = 0 ∧ t = { s with regs := t.regs, claim := t.claim, mbx := t.mbx }) ∧
  (∀ (s : State) (c : Fin 16) (v : BitVec 32), s.get (F.MBX_CH_STATUS.IN_FULL c) = 0 →
    s.get (F.MBX_CH_STATUS.OUT_FULL c) = 0 → (c.val ≤ 7 → s.get F.MBX_CTRL.SECURE_LOCK = 0) →
    ∃ t, exec (.mbxBindWrite c v) s = .next t ∧ t.get (F.MBX_CH_BIND.SLOT c) = slice v.toNat 8 6 ∧
      t.get (F.MBX_CH_BIND.MSIX c) = slice v.toNat 16 8 ∧
      (c.val < 15 → slice v.toNat 0 3 < 4 → chanKind t c = slice v.toNat 0 3) ∧
      (c.val = 15 ∨ 4 ≤ slice v.toNat 0 3 → chanKind t c = chanKind s c) ∧ t = { s with regs := t.regs }) ∧
  (∀ (s : State) (c : Fin 16) (v : BitVec 32), c.val ≤ 7 → s.get F.MBX_CTRL.SECURE_LOCK = 1 →
    exec (.mbxBindWrite c v) s = .next s) ∧
  (∀ (s : State) (c : Fin 16), ∃ t, exec (.farEndReset c) s = .next t ∧ t.get (F.MBX_CH_STATUS.IN_FULL c) = 0 ∧
      t.get (F.MBX_CH_STATUS.OUT_FULL c) = 0 ∧ t.get (F.MBX_CH_STATUS.OUT_ABORT c) = 1 ∧ (t.mbx.get c).held = [] ∧
      (t.mbx.get c).inMsg = [] ∧ (t.mbx.get c).outMsg = none ∧ (∀ k ∈ t.mgt.tags, k.1 ≠ c) ∧
      t.mgt.accepted = s.mgt.accepted.map (fun p => if packetKey p = c then { p with muted := true } else p) ∧
      t.mgt.arrivals = s.mgt.arrivals.filter (fun p => packetKey p != c) ∧
      t = { s with regs := t.regs, mbx := t.mbx, mgt := t.mgt, claim := t.claim, sec := t.sec, pwr := t.pwr, stOpen := t.stOpen })

/-- SB_ITEM_START, SB_BYTE, SB_ITEM_END, SB_BUS_FAULT, SB_DATA_READ, SB_MARK, SB_REWIND, SB_FLUSH, UART_FRAME. A START opens an empty item (after the open one is committed). A byte extends the open item where its word has a place; where it has none the item is discarded whole and counted, with OVERFLOW, and on SMBus each further byte is NACKed. A byte outside an item changes no word. The end of an item leaves no item open. A bus fault during an item discards it whole and counts it. A read of MBX_SB_DATA pops the oldest word: it shows in WORD and the read position advances by one; on an empty FIFO UNDERRUN is set and the FIFO keeps its words. MARK saves the read position, REWIND returns to it while it is valid, and a REWIND without a valid mark sets MARK_LOST. FLUSH empties the committed words. None of them changes the stored lines or the accepted packets. A UART frame of at least 22 bytes that begins 0xA5 0x5A and ends with the CRC-32 of its packet brings that packet, which waits for a slot to accept it; a frame without this form changes nothing. (R315, R325, R338, R339, R340, R341.) -/
def Obligations.SidebandAndUart : Prop :=
  (∀ s : State, ∃ t, exec .sbItemStart s = .next t ∧ t.sb.item = some [] ∧ t.sb.discarding = false ∧ t.dram = s.dram ∧
      t.mgt = s.mgt) ∧
  (∀ (s : State) (b : Byte) (l : List Byte), s.sb.item = some l → (l.length % 8 = 0 → s.sb.wr + l.length / 8 - s.sb.rd < 512) →
    ∃ t, exec (.sbByte b) s = .next t ∧ t.sb.item = some (l ++ [b]) ∧ t.sb.rd = s.sb.rd ∧ t.sb.wr = s.sb.wr ∧
      t.sb.ring = s.sb.ring ∧ t = { s with regs := t.regs, sb := t.sb }) ∧
  (∀ (s : State) (b : Byte) (l : List Byte), s.sb.item = some l → l.length % 8 = 0 → 512 ≤ s.sb.wr + l.length / 8 - s.sb.rd →
    ∃ t, exec (.sbByte b) s = .next t ∧ t.sb.item = none ∧ t.sb.nack = !Config.sidebandI3c ∧
      t.get F.MBX_SB_STATUS.OVERFLOW = 1 ∧ t.get F.MBX_SB_COUNT.DROPPED = min 0xFFFF (s.get F.MBX_SB_COUNT.DROPPED + 1) ∧
      t.sb.rd = s.sb.rd ∧ t.sb.wr = s.sb.wr ∧ t.sb.ring = s.sb.ring ∧ t = { s with regs := t.regs, sb := t.sb }) ∧
  (∀ (s : State) (b : Byte), s.sb.item = none →
    exec (.sbByte b) s = .next (if s.sb.nack then s.emit .sbNack else s)) ∧
  (∀ (s : State) (l : List Byte), s.sb.item = some l → l ≠ [] →
    ∃ t, exec .sbItemEnd s = .next t ∧ t.sb.item = none ∧ t.sb.wr = s.sb.wr + (l.length + 7) / 8 ∧ t.sb.rd = s.sb.rd ∧
      t = { s with regs := t.regs, sb := t.sb }) ∧
  (∀ (s : State) (l : List Byte), s.sb.item = some l →
    ∃ t, exec .sbBusFault s = .next t ∧ t.sb.item = none ∧ t.sb.discarding = true ∧ t.get F.MBX_SB_STATUS.TORN = 1 ∧
      t.get F.MBX_SB_COUNT.DROPPED = min 0xFFFF (s.get F.MBX_SB_COUNT.DROPPED + 1) ∧
      t.sb.wr = s.sb.wr ∧ t.sb.rd = s.sb.rd ∧ t = { s with regs := t.regs, sb := t.sb }) ∧
  (∀ (s : State) (w : SbWord), s.sb.rd ≠ s.sb.wr → s.sb.ring.get (s.sb.rd % 512) = some w →
    ∃ t, exec (.sbDataRead false none) s = .next t ∧ t.get F.MBX_SB_DATA.WORD = w.word.toNat ∧ t.sb.rd = s.sb.rd + 1 ∧
      t.sb.wr = s.sb.wr ∧ t = { s with regs := t.regs, sb := t.sb }) ∧
  (∀ (s : State) (corrected : Bool) (bad : Option (BitVec 64)), s.sb.rd = s.sb.wr →
    ∃ t, exec (.sbDataRead corrected bad) s = .next t ∧ t.get F.MBX_SB_STATUS.UNDERRUN = 1 ∧ t = { s with regs := t.regs }) ∧
  (∀ s : State, ∃ t, exec .sbMark s = .next t ∧ t.sb.mark = some s.sb.rd ∧ t.sb.rd = s.sb.rd ∧ t.sb.wr = s.sb.wr ∧
      t.get F.MBX_SB_STATUS.MARK_VALID = 1 ∧ t = { s with regs := t.regs, sb := t.sb }) ∧
  (∀ (s : State) (m : Nat), s.sb.mark = some m → ∃ t, exec .sbRewind s = .next t ∧ t.sb.rd = m ∧ t.sb.wr = s.sb.wr ∧
      t = { s with regs := t.regs, sb := t.sb }) ∧
  (∀ s : State, s.sb.mark = none → ∃ t, exec .sbRewind s = .next t ∧ t.get F.MBX_SB_STATUS.MARK_LOST = 1 ∧
      t.sb.wr = s.sb.wr ∧ t = { s with regs := t.regs, sb := t.sb }) ∧
  (∀ s : State, ∃ t, exec .sbFlush s = .next t ∧ t.sb.rd = s.sb.wr ∧ t.sb.wr = s.sb.wr ∧ t.get F.MBX_SB_STATUS.EMPTY = 1 ∧
      t.sb.mark = none ∧ t = { s with regs := t.regs, sb := t.sb }) ∧
  (∀ (s : State) (pkt : List Byte), 16 ≤ pkt.length →
    ∃ t, exec (.uartFrame ([0xA5, 0x5A] ++ pkt ++
        (toBytes 4 (crc32 (pkt.map (·.toNat)))).map (BitVec.ofNat 8))) s = .next t ∧
      t.mgt.arrivals = s.mgt.arrivals ++ [packetOf .uart 0 pkt] ∧ t.mgt.accepted = s.mgt.accepted ∧
      t.mgt.tags = s.mgt.tags ∧ t = { s with mgt := t.mgt }) ∧
  (∀ (s : State) (bytes : List Byte), bytes.length < 22 ∨ bytes.take 2 ≠ [0xA5, 0x5A] → exec (.uartFrame bytes) s = .next s)

/-- MEM_RD, MEM_WR, MEM_WR_PTL, MEM_INV, MEM_CLN_EVCT. When a host LD is served (its link is up, its agent ALIVE, the ports run, the device is neither in fatal mode nor FENCED, the host address maps to a backed CPA whose home is this member) and its link has an ingress entry, MemRd, MemWr, MemWrPtl, MemInv and MemClnEvct each complete with one new request, last in the queue, with the intent that R192 gives its MetaValue, the presented line address, and the write's data, mask and poison; the stored lines, the write buffer, the almanac and the catalogue are unchanged. (R22, R26, R28, R47, R48, R192, R248, R376.) -/
def Obligations.HostRequestsQueue : Prop :=
  ∀ (s : State) (m : Fin 64) (tag : BitVec 16) (hpa : BitVec 64) (mv : Meta) (cpa : Nat), HostServed s m hpa.toNat cpa →
    let queued (r : Req) (t : State) : Prop :=
      t.reqs = s.reqs ++ [{ r with addr := lineAddr (homeAddr s cpa), hint := if r.write then ldHint s m else none,
                                   id := s.nextId, since := s.now }] ∧
      t.nextId = s.nextId + 1 ∧ t.dram = s.dram ∧ t.wb = s.wb ∧ t.almanac = s.almanac ∧ t.near = s.near ∧ t.frames = s.frames ∧
      t.regions = s.regions
    (ingressFull s m false = false →
      (∀ data, ∃ t, exec (.memRd m tag hpa mv data) s = .next t ∧
        queued (hostReq s m tag.toNat (readIntent mv data) 0 0 false) t) ∧
      (∃ t, exec (.memInv m tag hpa mv) s = .next t ∧
        queued (hostReq s m tag.toNat (match mv with | .a => .invA | .s => .downS | _ => .evict) 0 0 false) t) ∧
      (∃ t, exec (.memClnEvct m tag hpa) s = .next t ∧ queued (hostReq s m tag.toNat .evict 0 0 false) t)) ∧
    (ingressFull s m true = false → ∀ (line : Line) (mask : BitVec 64) (poison : Bool),
      (∃ t, exec (.memWr m tag hpa mv line poison) s = .next t ∧
        queued (hostReq s m tag.toNat (writeIntent s m mv) line (BitVec.allOnes 64) poison) t) ∧
      (∃ t, exec (.memWrPtl m tag hpa mv line mask poison) s = .next t ∧
        queued (hostReq s m tag.toNat (writeIntent s m mv) line mask poison) t))

/-- MEM_RD, MEM_WR. When a host LD's link is up, its agent ALIVE, the ports run, the device is neither fatal nor FENCED, and no committed decoder with an extent maps the host address, a read is answered at once with poisoned data and a write with its completion; no request is queued and no stored, buffered or cached line changes. (R47, R48, R480.) -/
def Obligations.HostUnbackedAccess : Prop :=
  ∀ (s : State) (m : Fin 64) (tag : BitVec 16) (hpa : BitVec 64) (mv : Meta), (s.links.get (linkOfSlot m)).up = true →
    agentState s m = 1 → portsStopped s = false → s.inFatal = false → fenced s = false → mapHpa s m hpa.toNat = none →
    let still (t : State) : Prop :=
      t.reqs = s.reqs ∧ t.dram = s.dram ∧ t.wb = s.wb ∧ t.near = s.near ∧ t.almanac = s.almanac ∧ t.frames = s.frames
    (∀ data, ingressFull s m false = false → ∃ t, exec (.memRd m tag hpa mv data) s = .next t ∧
      (∃ load, .memData m tag.toNat none load ∈ t.out) ∧ (∃ load, .cmp m tag.toNat 0 load ∈ t.out) ∧ still t) ∧
    (∀ line poison, ingressFull s m true = false → ∃ t, exec (.memWr m tag hpa mv line poison) s = .next t ∧
      (∃ load, .cmp m tag.toNat 0 load ∈ t.out) ∧ still t)

/-- MEM_SPEC_RD completes and changes nothing. MEM_FWD (MemRdFwd, MemWrFwd) is recorded as HOST_PROTOCOL with the agent's HAN, and change only what reporting changes. UNKNOWN_MEM_OPCODE, an opcode that no rule names, from a host whose link is up with an ingress entry and whose agent is not DOWN while the ports run, is answered with its completion, and with poisoned data first if it expects data; it changes no directory, catalogue or stored line. (R192, R480.) -/
def Obligations.HostOddOpcodes : Prop :=
  (∀ (s : State) (m : Fin 64) (tag : BitVec 16) (hpa : BitVec 64), exec (.memSpecRd m tag hpa) s = .next s) ∧
  (∀ (s : State) (m : Fin 64) (tag : BitVec 16) (hpa : BitVec 64), ∃ t, exec (.memFwd m tag hpa) s = .next t ∧
    t = s.log 0x11 m 0 (s.get (F.HP_HAN_MAP.HAN m)) ∧
    t = { s with regs := t.regs, err := t.err, out := t.out, pwr := t.pwr, pmu := t.pmu, rings := t.rings }) ∧
  (∀ (s : State) (m : Fin 64) (tag : BitVec 16) (hpa : BitVec 64) (data : Bool), (s.links.get (linkOfSlot m)).up = true →
    agentState s m ≠ 2 → ingressFull s m false = false → portsStopped s = false →
    ∃ t, exec (.unknownMemOpcode m tag hpa data) s = .next t ∧ (∃ load, .cmp m tag.toNat 0 load ∈ t.out) ∧
      (data = true → ∃ load, .memData m tag.toNat none load ∈ t.out) ∧ t.reqs = s.reqs ∧ t.almanac = s.almanac ∧
      t.dir = s.dir ∧ t.dram = s.dram ∧ t.frames = s.frames)

/-- ARBITER_ACCEPT takes the picked request to the back of the queue and dispatches it by its region's class, except a writeback of the line's owner, which is applied at once; then the line queues settle. What the access to the line's almanac entry finds (sound, corrected, either word bad) is counted or acted on first, and on a miss the error that the backing line has which it reads at once. PIN_WAIT_GRANT joins the oldest waiter of the set to its line's entry, now pinned, or fetches its entry into the way it keeps. With META's access to be had, BACKING_FETCH_COMPLETE reads and filters the backing line and joins the line's entry, installing it in the kept way where there is none; with neither the request waits for a way. METADATA_FETCH_COMPLETE serves the first waiting request whose page has room: its lines are fetched, and it is served where they then stand in the cache, else it ends with poison. METADATA_EVICT_UPDATE writes the oldest line that waits for eviction, and whose parent can be had, back. NODE_REKEY_COMPLETE rewrites the 64 children and leaves the list. STORAGE_WAIT_RESUME retries the slice's moves and queues its writes. CAPACITY_STALL_REPEAT raises CAPACITY_STALL at multiples of 1000 transits from the stall. (R87, R94, R95, R168, R194, R195, R199, R202, R203, R207.) -/
def Obligations.HomeSliceServes : Prop :=
  (∀ (s : State) (sl : Fin 16) (r : Req), arbiterTakes s sl = some r →
    let n := noteWrite r s
    (ownerWb n r = false → exec (.arbiterAccept sl .sound) s =
      .next (settle (dispatchReq r { n with reqs := n.reqs.filter (fun x => x.id != r.id) ++ [r] }))) ∧
    (ownerWb n r = true → exec (.arbiterAccept sl .sound) s = .next (settle (applyOwnerWb r n))) ∧
    (∀ (k : Nat) (e : SramCheck), (s.region (regionOf r.page)).cls = 1 → almFind s r.addr = some k →
      exec (.arbiterAccept sl e) s = .next (acceptNext sl (checkEntry e k s))) ∧
    (∀ (err : MemErr) (x : Nat × Nat × Nat), (s.region (regionOf r.page)).cls = 1 → almFind s r.addr = none → missReads s r = some x →
      exec (.arbiterAccept sl (.backing err)) s = .next (struck (regionBacking s x.1 x.2.1 x.2.2) err (acceptNext sl) s))) ∧
  (∀ (s : State) (k : Nat), checkEntry .corrected k s = s.bump (F.HA_SLICE_STATUS.CE (k / 2 ^ 18)) ∧
    checkEntry .word0 k s = losePresence k s ∧ checkEntry .word1 k s = loseTag (k / 2 ^ 18) s) ∧
  (∀ (s : State) (sl : Fin 16) (e : SramCheck), arbiterTakes s sl = none → exec (.arbiterAccept sl e) s = .next s) ∧
  (∀ (s : State) (sl : Fin 16) (set : BitVec 14) (r : Req),
    s.reqs.find? (fun r => r.stage == .pinWait && sliceOf r.addr == sl.val && almSet r.addr == set.toNat) = some r →
    let b := s.put F.HA_PIN_STALL.MAX_NS (min (2 ^ 32 - 1) (max (s.get F.HA_PIN_STALL.MAX_NS) (s.since r.since)))
    (∀ k, almFind s r.addr = some k → exec (.pinWaitGrant sl set) s = .next (settle (joinLine r k (almPin k true (dropWay r b))))) ∧
    (∀ k, almFind s r.addr = none → keptWay s r = some k →
      exec (.pinWaitGrant sl set) s = .next (setReq { r with stage := .backing } b)) ∧
    (∀ k, almFind s r.addr = none → keptWay s r = none → almVictim s r.addr = some k →
      exec (.pinWaitGrant sl set) s = .next (setReq { r with stage := .backing } (keepWay r k b))) ∧
    (almFind s r.addr = none → keptWay s r = none → almVictim s r.addr = none → exec (.pinWaitGrant sl set) s = .next s)) ∧
  (∀ (s : State) (sl : Fin 16) (set : BitVec 14),
    (∀ r ∈ s.reqs, r.stage ≠ .pinWait) → exec (.pinWaitGrant sl set) s = .next s) ∧
  (∀ (s : State) (sl : Fin 16) (err : MemErr) (r : Req), accessesIn s 67 = true →
    s.reqs.find? (fun r => r.stage == .backing && sliceOf r.addr == sl.val) = some r →
    let line := dirIndex r.addr / 8
    let b := struck (regionBacking s (regionOf r.page) sl line) err (fetchBacking (regionOf r.page) sl line) s
    (∀ k, almFind b r.addr = some k →
      exec (.backingFetchComplete sl err) s = .next (settle (joinLine r k (almPin k true (dropWay r b))))) ∧
    (∀ k, almFind b r.addr = none → keptWay b r = some k →
      exec (.backingFetchComplete sl err) s = .next (settle (joinLine r k (installEntry r k b)))) ∧
    (almFind b r.addr = none → keptWay b r = none →
      exec (.backingFetchComplete sl err) s = .next (setReq { r with stage := .pinWait, since := b.now } b))) ∧
  (∀ (s : State) (sl : Fin 16) (found : MetaFetch) (r : Req), accessesIn s 67 = true →
    let w := forAll (s.reqs.filter (fun r => r.stage == .metaWait && sliceOf r.addr == sl.val)) stallFetch s
    (w.reqs.filter (fun r => r.stage == .metaWait && sliceOf r.addr == sl.val)).find? (fun r => pageRoom w r.page) = some r →
    let b := if r.metaOk then
        w.put F.HA_PIN_STALL.MAX_NS (min (2 ^ 32 - 1) (max (w.get F.HA_PIN_STALL.MAX_NS) (w.since r.since))) else w
    let u := struck (metaPlace b sl found.kind (pathLine b r.page found.kind)) found.err (fun s => (pageFetch r.page s).2) b
    (metaReady u r.page = true → exec (.metadataFetchComplete sl found) s = .next (settle (serveData r u))) ∧
    (metaReady u r.page = false → exec (.metadataFetchComplete sl found) s = .next (settle (finish r none u)))) ∧
  (∀ (s : State) (sl : Fin 16), accessesIn s 67 = false →
    (∀ err, exec (.backingFetchComplete sl err) s = .next s) ∧ (∀ found, exec (.metadataFetchComplete sl found) s = .next s) ∧
    exec (.metadataEvictUpdate sl) s = .next s ∧ exec (.nodeRekeyComplete sl) s = .next s) ∧
  (∀ (s : State) (sl : Fin 16) (m : MetaLine), accessesIn s 67 = true →
    oldest (s.metaCache.filter (fun m => m.slice == sl.val && m.evicting && (parentKind m.kind == 7 ||
      pathRoom treeFuel s sl (parentKind m.kind) (parentIndex s m.kind m.index)))) = some m →
    exec (.metadataEvictUpdate sl) s = .next (metaWriteBack sl m.kind m.index s)) ∧
  (∀ (s : State) (sl : Fin 16) (r : NodeRekey), accessesIn s 67 = true → s.nodeRekeys.find? (fun r => r.slice == sl.val) = some r →
    let a := forAll (List.range 64) (rekeyChild r) s
    exec (.nodeRekeyComplete sl) s = .next { a with nodeRekeys := eraseFirst (fun x => x == r) a.nodeRekeys }) ∧
  (∀ (s : State) (sl : Fin 16), exec (.storageWaitResume sl) s = .next (pushWrites (retryMoves sl s))) ∧
  (∀ s : State, s.tier.level = 3 → s.tier.stallTransit < s.transit → (s.transit - s.tier.stallTransit) % 1000 = 0 →
    exec .capacityStallRepeat s = .next (raiseLevel 3 s))

/-- MERGE_READ_COMPLETE, WRITE_BUFFER_DRAIN. When a merge can run and its merge source decodes to the line o, the buffered line becomes o with the written bytes over it and full; where the source does not decode, the buffered line becomes full and poisoned, the near cache drops it and the line is entered in the poison list; the near cache then takes a hinted line that is full and sound. A drain of the slice's oldest issued line stores it at its frame under its reserved minor counter (a poisoned one as a marker), counts the unit of the engine that took it, drops the line from the buffer, and lets snoops and waiters go on. (R27, R156, R163, R175, R176.) -/
def Obligations.WriteBufferRows : Prop :=
  (∀ (s : State) (sl : Fin 16) (err : MemErr) (w : WbLine) (o : Line) (u : State), s.wb.find? (mergeable s sl) = some w →
    readUnit (pageChan s (pageOf w.addr)) (frameLine (pageFrame s (pageOf w.addr)) (lineIdx w.addr))
      (storedState s (pageOf w.addr) (lineIdx w.addr)) err true s = (some o, u) →
    exec (.mergeReadComplete sl err) s = .next (settle (resumeSlice sl (hintFill w.addr w.hint { u with
      wb := u.wb.map (fun x => if x.addr == w.addr then { w with data := mergeBytes w.mask o w.data, mask := BitVec.allOnes 64 }
        else x) })))) ∧
  (∀ (s : State) (sl : Fin 16) (err : MemErr) (w : WbLine) (u : State), s.wb.find? (mergeable s sl) = some w →
    readUnit (pageChan s (pageOf w.addr)) (frameLine (pageFrame s (pageOf w.addr)) (lineIdx w.addr))
      (storedState s (pageOf w.addr) (lineIdx w.addr)) err true s = (none, u) →
    exec (.mergeReadComplete sl err) s = .next (settle (resumeSlice sl (hintFill w.addr w.hint
      (let v := nearDrop w.addr (u.poisonAdd (cpaOf u w.addr / 64))
       { v with wb := v.wb.map (fun x => if x.addr == w.addr then { w with mask := BitVec.allOnes 64, poison := true } else x) }))))) ∧
  (∀ (s : State) (sl : Fin 16) (w : WbLine), s.wb.find? (fun w => sliceOf w.addr == sl.val && w.issued) = some w →
    exec (.writeBufferDrain sl) s =
      .next (settle (resumeSlice sl (retrySnoops (wbDrop w.addr
        (let u := storeUnit (pageChan s (pageOf w.addr)) (frameLine (pageFrame s (pageOf w.addr)) (lineIdx w.addr))
            { ctrStateOf s (pageOf w.addr) 1 (lineIdx w.addr) with minor := w.minor.getD 0 }
            (if w.poison then none else some w.data) s
         match pickEngine u sl 0 with
         | some e => u.bump (F.CRY_ENG_STATUS.UNITS e)
         | none => u))))))

/-- BIRSP, BICONFLICT, BI_CREDIT_RETURN. An answer from the agent of an LD for a snoop that is out there completes: a response that is not allowed for the snoop is first recorded as HOST_PROTOCOL; a snoop of this home is taken as answered and the line queues settle, and one made for another home is answered there. An answer, or a conflict, to no snoop of that agent is recorded as HOST_PROTOCOL. A conflict to a snoop that is out is acknowledged, and only that leaves. Returned BI credits add to the link's, up to 32, and the snoops that waited are tried again. (R54, R192, R205, R206, R257.) -/
def Obligations.SnoopAnswers : Prop :=
  (∀ (s : State) (m : Fin 64) (addr : BitVec 64) (n : Snoop) (a : BiAnswer),
    s.snoops.find? (fun n => n.sent && !n.remote && slotOfHan s n.han == some m.val
      && snoopCpa s n == lineAddr addr.toNat) = some n →
    let b := if (takeAnswer n.inv a).2 then logProtocol m s else s
    (n.home = none → exec (.birsp m addr a) s = .next (settle (answerSnoop n.req n.han (takeAnswer n.inv a).1 b))) ∧
    (n.home.isSome = true → exec (.birsp m addr a) s = .next (answerHome n (takeAnswer n.inv a).1 b))) ∧
  (∀ (s : State) (m : Fin 64) (addr : BitVec 64) (a : BiAnswer),
    (∀ n ∈ s.snoops, n.sent = true → n.remote = false → slotOfHan s n.han = some m.val → snoopCpa s n ≠ lineAddr addr.toNat) →
    exec (.birsp m addr a) s = .next (logProtocol m s) ∧ exec (.biconflict m addr) s = .next (logProtocol m s)) ∧
  (∀ (s : State) (m : Fin 64) (addr : BitVec 64),
    s.snoops.any (fun n => n.sent && !n.remote && slotOfHan s n.han == some m.val
      && snoopCpa s n == lineAddr addr.toNat) = true →
    ∃ t, exec (.biconflict m addr) s = .next t ∧ t.out = s.out ++ [.conflictAck m (lineAddr addr.toNat)] ∧
      t = { s with out := t.out }) ∧
  (∀ (s : State) (link : Fin 16) (n : BitVec 6), (∀ x ∈ s.snoops, x.sent = true) →
    ∃ t, exec (.biCreditReturn link n) s = .next t ∧
      (t.links.get link).credits = min 32 ((s.links.get link).credits + n.toNat) ∧
      (∀ l : Nat, l ≠ link → t.links.get l = s.links.get l) ∧ t = { s with links := t.links }) ∧
  (∀ (s : State) (link : Fin 16) (n : BitVec 6), exec (.biCreditReturn link n) s =
    .next (retrySnoops { s with links := s.links.upd link (fun l => { l with credits := min 32 (l.credits + n.toNat) }) }))

/-- DRAM_COMMAND_ISSUE. On a channel whose ENABLE acts, with the fabric running, an open row of a rank that is due for refresh closes first. Else, while the transit's maintenance count is below MNT_RES, a write-back of the subchannel is issued: the codeword is stored at its line. Otherwise the entry that the FR-FCFS choice takes from the candidates is advanced by one command: its rank leaves power-down, its open row of another page closes, its row is activated, or its column access runs where the transit has a slot left for it. With no candidate a write-back that waits is issued, and with none of these only the drain state follows the queue. On a channel that does not serve, or asleep, nothing changes. ROW_CLOSE_TIMEOUT: an open row of the subchannel with no queued hit and 60 ns without an access closes. (R284, R285, R286, R287, R290, R291.) -/
def Obligations.DramSchedulerRows : Prop :=
  (∀ (s : State) (c : Fin 16) (sc : Fin 2) (bl : List Nat), (s.chans.get c).live = true → s.asleep = false →
    (∀ r, dueRow s c sc = some r → exec (.dramCommandIssue c sc bl) s = .next (closeRow c r s)) ∧
    (∀ w, dueRow s c sc = none → reservedFix s c sc = some w → exec (.dramCommandIssue c sc bl) s = .next (issueFix c w s))) ∧
  (∀ (s : State) (c : Fin 16) (w : Nat × BitVec 640), (issueFix c w s).dram = s.dram.set (dramKey c w.1) w.2 ∧
    ((issueFix c w s).chans.get c).writebacks = eraseFirst (fun x => x.1 == w.1) (s.chans.get c).writebacks) ∧
  (∀ (s : State) (c : Fin 16) (sc : Fin 2) (bl : List Nat), (s.chans.get c).live = true → s.asleep = false →
    dueRow s c sc = none → reservedFix s c sc = none →
    choose (updateDrain c sc s) c (candidates (updateDrain c sc s) c sc bl) = none →
    (∀ w, waitingFix (updateDrain c sc s) c sc = some w →
      exec (.dramCommandIssue c sc bl) s = .next (issueFix c w (updateDrain c sc s))) ∧
    (waitingFix (updateDrain c sc s) c sc = none → exec (.dramCommandIssue c sc bl) s = .next (updateDrain c sc s))) ∧
  (∀ (s : State) (c : Fin 16) (sc : Fin 2) (bl : List Nat), (s.chans.get c).live = true → s.asleep = false →
    dueRow s c sc = none → reservedFix s c sc = none →
    ∀ d, choose (updateDrain c sc s) c (candidates (updateDrain c sc s) c sc bl) = some d →
    let u := updateDrain c sc s
    let p := entryPlace u c d
    ((rankAt u c p.rank).powerDown = true → exec (.dramCommandIssue c sc bl) s =
      .next (sendDram c sc (.pdx p.rank) (setRank c p.rank (fun k => { k with powerDown := false }) u))) ∧
    (∀ r, (rankAt u c p.rank).powerDown = false → openRowOf u c p = some r → r.row = p.row → slotLeft u c = true →
      exec (.dramCommandIssue c sc bl) s = .next (pushWrites (updateDrain c sc (columnAccess c sc d p u)))) ∧
    (∀ r, (rankAt u c p.rank).powerDown = false → openRowOf u c p = some r → r.row = p.row → slotLeft u c = false →
      exec (.dramCommandIssue c sc bl) s = .next u) ∧
    (∀ r, (rankAt u c p.rank).powerDown = false → openRowOf u c p = some r → r.row ≠ p.row →
      exec (.dramCommandIssue c sc bl) s = .next (closeRow c r u)) ∧
    ((rankAt u c p.rank).powerDown = false → openRowOf u c p = none → exec (.dramCommandIssue c sc bl) s =
      .next (sendDram c sc (.act p.rank p.bg p.ba p.row) ((openRow c p u).count 0x703 c)))) ∧
  (∀ (s : State) (c : Fin 16) (sc : Fin 2) (bl : List Nat), (s.chans.get c).live = false ∨ s.asleep = true →
    exec (.dramCommandIssue c sc bl) s = .next s) ∧
  (∀ (s : State) (c : Fin 16) (sc : Fin 2) (r : OpenRow),
    (s.chans.get c).rows.find? (fun r => r.sc == sc.val && !queuedHit s c r && decide (60 ≤ s.since r.last)) = some r →
    exec (.rowCloseTimeout c sc) s = .next (closeRow c r s))

/-- POWER_DOWN_ENTRY, REFAB_ISSUE, REFRESH_PLANNING, DIMM_TEMPERATURE_READ, MARK_WINDOW_END. A rank with nothing queued or open, awake, owing no refresh and idle for 100 ns enters power-down: the command leaves on both subchannels. A REFab goes to a rank that owes one, has no open bank, is past its tRFC and either has nothing queued or is held for refresh. Refresh planning adds the time since the last plan to every rank's accumulator, raises OWED by the whole tREFI_eff in it while OWED stays at most 8, and takes now as the plan's time; a temperature read of two sensors and eight bands takes a maintenance slot for each rank and subchannel that it reads and notes whether any DIMM is over temperature; both act on a released unit of their job and end it. The end of a mark window of 2^24 transits clears every channel's per-device counts and notes the window; before it nothing changes. (R281, R284, R285, R289, R290, R291, R292.) -/
def Obligations.DramRankRows : Prop :=
  (∀ (s : State) (c : Fin 16) (k : Fin 8), rankQueued s c k = false → rankOpen s c k = false → (rankAt s c k).powerDown = false →
    (rankAt s c k).selfRefresh = false → s.get (F.DC_REF_STATUS.OWED c k) = 0 → 100 ≤ s.since (rankAt s c k).idleSince →
    exec (.powerDownEntry c k) s =
      .next (sendDram c 1 (.pde k) (sendDram c 0 (.pde k) (setRank c k (fun r => { r with powerDown := true }) s)))) ∧
  (∀ (s : State) (c : Fin 16) (k : Fin 8), 1 ≤ s.get (F.DC_REF_STATUS.OWED c k) → rankOpen s c k = false →
    (∀ t, (rankAt s c k).lastRef = some t → s.get (F.DC_TIMING1.TRFC_NS c) ≤ s.since t) → (rankAt s c k).selfRefresh = false →
    (rankQueued s c k = false ∨ noAct s c k = true) → exec (.refabIssue c k) s = .next (issueRefab c k s)) ∧
  (∀ (s : State) (c : Fin 16), unitWaits s 0x04 c = true → ∃ t, exec (.refreshPlanning c) s = .next t ∧ (t.chans.get c).planTb = s.now ∧
    t.jobs.get (jobKey 0x04 c) = (s.jobs.get (jobKey 0x04 c)).tail ∧
    (∀ k : Fin 8, k.val < ranksOf s c → t.get (F.DC_REF_STATUS.OWED c k) = (s.get (F.DC_REF_STATUS.OWED c k) +
      min ((s.get (F.DC_REF_STATUS.ACC c k) + s.since (s.chans.get c).planTb) / trefiOf s c k)
        (8 - s.get (F.DC_REF_STATUS.OWED c k))) % 2 ^ (F.DC_REF_STATUS.OWED c k).width) ∧
    t = { s with regs := t.regs, chans := t.chans, jobs := t.jobs }) ∧
  (∀ (s : State) (c : Fin 16) (sensors : Vector (Option Int) 2) (bands : Vector (Fin 3) 8), unitWaits s 0x0E c = true →
    let a := readDimm c 0 (sensors.toList.getD 0 none) bands.toList s
    let b := readDimm c 1 (sensors.toList.getD 1 none) bands.toList a.2
    let reads (u : State) : Nat := if s.get (F.DC_CFG.DPC c) = 0 then 0 else 2 * ranksOf u c
    let slots (u : State) : State := takeMaint c (reads u) (forAll (List.range (reads u)) (fun _ s => burst c 2 s) u)
    let ends (hot : Bool) (u : State) : Prop := exec (.dimmTemperatureRead c sensors bands) s =
      .next (jobDone 0x0E c { slots u with chans := (slots u).chans.upd c (fun ch => { ch with overTemp := hot }) })
    (s.get (F.DC_CFG.DPC c) = 0 → ends false s) ∧ (s.get (F.DC_CFG.DPC c) = 1 → ends a.1 a.2) ∧
    (s.get (F.DC_CFG.DPC c) = 2 → ends (a.1 || b.1) b.2)) ∧
  (∀ s : State, s.markWindow < s.transit / 2 ^ 24 → ∃ t, exec .markWindowEnd s = .next t ∧ t.markWindow = s.transit / 2 ^ 24 ∧
      (∀ c : Fin 16, (t.chans.get c).counts = [] ∧
        (t.chans.get c).rows = (s.chans.get c).rows ∧ (t.chans.get c).writebacks = (s.chans.get c).writebacks) ∧
      t = { s with chans := t.chans, markWindow := t.markWindow }) ∧
  (∀ s : State, s.transit / 2 ^ 24 ≤ s.markWindow → exec .markWindowEnd s = .next s)

/-- DRAM_READ_COMPLETE, KEYSTREAM_READY, CRYPTO_READ_UNIT, PATROL_SCRUB_QUANTUM. When the oldest read on its way in a subchannel belongs to a request and decodes under the mark in force at its issue, its symbols are noted in the request's unit and the unit queues at the request's engine; where it does not decode, the line is entered in the poison list and the unit ends without data. With nothing on its way, nothing changes. The first keystream of an engine that is not ready becomes ready, and nothing else changes. The first queued unit of an engine that it can check is counted, checked and handed to its request. A patrol scrub quantum with a released unit of a channel whose ENABLE acts, none of whose ranks holds it up, scrubs DCn_SCRUB.LINES lines; on a channel that does not serve it reads none; both end the job unit. Held up by a rank, it stays whole in its queue. (R161, R169, R279, R280, R281, R284, R295.) -/
def Obligations.DramReturnAndScrub : Prop :=
  (∀ (s : State) (c : Fin 16) (sc : Fin 2) (err : MemErr), (∀ f ∈ (subOf s c sc).inflight, f.write = true) →
    exec (.dramReadComplete c sc err) s = .next s) ∧
  (∀ (s : State) (c : Fin 16) (sc : Fin 2) (err : MemErr) (f : Inflight) (r : Req) (o : ReadOut) (v : State),
    (subOf s c sc).inflight.find? (fun f => !f.write) = some f →
    let u := setSub c sc (fun q => { q with inflight := eraseFirst (fun x => x == f) q.inflight }) s
    reqAt u f.req = some r →
    let cpa := cpaOf u (if r.code = 15 then r.addr else r.page * 4096 + 1024 * r.seg)
    let w := dramSense c f.line err u
    dramDecode c f.line w.1 f.mark (some cpa) w.2 = (o, v) →
    (∀ sym, o.data = some sym → ∃ t, exec (.dramReadComplete c sc err) s = .next t ∧
      t.cryptoQ = (scheduleFix c f.line o v).cryptoQ ++ [(r.engine, r.id, f.unit)]) ∧
    (o.data = none → exec (.dramReadComplete c sc err) s = .next (settle (unitsDone (unitGot r f.unit none)
      (dropKeystream r.id f.unit ((scheduleFix c f.line o v).poisonAdd (cpa / 64))))))) ∧
  (∀ (s : State) (e : Fin 8), (∀ k ∈ s.keystreams, k.1 = e.val → k.2.ready = true) → exec (.keystreamReady e) s = .next s) ∧
  (∀ (s : State) (e : Fin 8) (a b : List (Nat × Keystream)) (k : Keystream), s.keystreams = a ++ (e.val, k) :: b →
    k.ready = false → (∀ x ∈ a, x.1 = e.val → x.2.ready = true) →
    ∃ t, exec (.keystreamReady e) s = .next t ∧ t.keystreams = a ++ (e.val, { k with ready := true }) :: b ∧
      t = { s with keystreams := t.keystreams }) ∧
  (∀ (s : State) (e : Fin 8) (q : Nat × Nat × Nat) (r : Req) (u : UnitRead),
    s.cryptoQ.find? (fun q => q.1 == e.val && unitReady s q) = some q →
    reqAt s q.2.1 = some r → r.units[q.2.2]? = some u →
    let v := checkUnit r u ((State.bump (dropKeystream r.id q.2.2 { s with cryptoQ := eraseFirst (fun x => x == q) s.cryptoQ })
      (F.CRY_ENG_STATUS.UNITS e)).count 0x601 e)
    exec (.cryptoReadUnit e) s = .next (settle (unitsDone (unitGot r q.2.2 v.1) v.2))) ∧
  (∀ (s : State) (c : Fin 16) (errs : List MemErr), unitWaits s 0x05 c = true → (s.chans.get c).live = true →
    scrubHeld s c = false →
    exec (.patrolScrubQuantum c errs) s = .next (forAll (List.range ((jobDone 0x05 c s).get (F.DC_SCRUB.LINES c)))
      (fun i s => scrubLine c (errs.getD i noErr) s) (jobDone 0x05 c s))) ∧
  (∀ (s : State) (c : Fin 16) (errs : List MemErr), (s.chans.get c).live = true → scrubHeld s c = true →
    exec (.patrolScrubQuantum c errs) s = .next s) ∧
  (∀ (s : State) (c : Fin 16) (errs : List MemErr), unitWaits s 0x05 c = true → (s.chans.get c).live = false →
    exec (.patrolScrubQuantum c errs) s = .next (jobDone 0x05 c s))

/-- DC_CFG_WRITE, DC_MARK_WRITE, ZERO_INIT_COMPLETE, TRAINING_GO, TRAINING_STEP_COMPLETE. A device mark write on an x4 channel sets both subchannels' marks; on an x8 channel it changes nothing. Setting ENABLE on a channel whose lines are zeroed enables it, unless its configuration was refused. Setting LOCK on an unlocked channel locks it and leaves the fields that it locks (that they are not taken from the same write is DEDUCED, log entry 137); where the configuration is not one the channel accepts CFG_ERR is set. Zero initialisation of a channel that has frames, no configuration error, no training under way or failed, and is not enabled sets ZEROED, keeps no stored line of the channel, and keeps every other channel's. GO on an idle trainer sets BUSY and takes the step and subchannel (a step other than 8 on an enabled channel, or on one whose configuration was refused, sets BAD_REQ instead); a finished step of 40 lanes clears BUSY, sets DONE, shows each lane's edges and errors at the subchannel that GO took (RIGHT is 0xFF where LEFT is), and of steps 4, 5 and 6 sets each lane that has an eye to its centre. (R272, R281, R282, R296, R297, R299.) -/
def Obligations.DramConfiguration : Prop :=
  (∀ (s : State) (c : Fin 16) (k : Fin 8) (v : BitVec 32), s.flag (F.DC_CFG.X8 c) = false → exec (.dcMarkWrite c k v) s =
    .next (markWrite c k 1 (slice v.toNat 16 1) (slice v.toNat 12 4) (markWrite c k 0 (slice v.toNat 4 1) (slice v.toNat 0 4) s))) ∧
  (∀ (s : State) (c : Fin 16) (k : Fin 8) (v : BitVec 32), s.flag (F.DC_CFG.X8 c) = true →
    exec (.dcMarkWrite c k v) s = .next s) ∧
  (∀ (s : State) (c : Fin 16) (same : Bool) (max : BitVec 28) (rated : Fin 5), s.flag (F.DC_CFG.ZEROED c) = true →
    ∃ t, exec (.dcCfgWrite c (BitVec.ofNat 64 (2 ^ 30)) same max rated) s = .next t ∧
      (s.flag (F.DC_CFG.CFG_ERR c) = false → t.get (F.DC_CFG.ENABLE c) = 1) ∧
      (s.flag (F.DC_CFG.CFG_ERR c) = true → t.get (F.DC_CFG.ENABLE c) = s.get (F.DC_CFG.ENABLE c)) ∧ t.dram = s.dram) ∧
  (∀ (s : State) (c : Fin 16) (v : Word) (same : Bool) (max : BitVec 28) (rated : Fin 5), s.flag (F.DC_CFG.LOCK c) = false →
    slice v.toNat 31 1 = 1 → slice v.toNat 30 1 = 0 → ∃ t, exec (.dcCfgWrite c v same max rated) s = .next t ∧
      t.get (F.DC_CFG.LOCK c) = 1 ∧ (t.chans.get c).rated = rated ∧ t.get (F.DC_CFG.FRAMES c) = s.get (F.DC_CFG.FRAMES c) ∧
      t.get (F.DC_CFG.SPEED c) = s.get (F.DC_CFG.SPEED c) ∧ t.get (F.DC_CFG.DPC c) = s.get (F.DC_CFG.DPC c) ∧
      (cfgAccepted s c same max.toNat = true → t.get (F.DC_CFG.CFG_ERR c) = s.get (F.DC_CFG.CFG_ERR c)) ∧
      (cfgAccepted s c same max.toNat = false → t.get (F.DC_CFG.CFG_ERR c) = 1)) ∧
  (∀ (s : State) (c : Fin 16), s.get (F.DC_CFG.FRAMES c) ≠ 0 → s.flag (F.DC_CFG.CFG_ERR c) = false →
    s.flag (F.DC_CFG.ENABLE c) = false → s.flag (F.DC_TRN_CTRL.BUSY c) = false →
    (s.chans.get c).trainer = none → (s.chans.get c).trainFailed = false → ∃ t, exec (.zeroInitComplete c) s = .next t ∧ t.get (F.DC_CFG.ZEROED c) = 1 ∧
      (∀ line, line < 2 ^ 34 → t.dram.get (dramKey c line) = 0) ∧
      (∀ (d : Fin 16) line, d ≠ c → line < 2 ^ 34 → t.dram.get (dramKey d line) = s.dram.get (dramKey d line)) ∧
      t.frames = s.frames ∧ t.regions = s.regions) ∧
  (∀ (s : State) (c : Fin 16) (step : Nat), step < 8 → s.flag (F.DC_TRN_CTRL.BUSY c) = false →
    ∃ t, exec (.trainingGo c (BitVec.ofNat 32 (step * 4096 + 1))) s = .next t ∧ t.get (F.DC_TRN_CTRL.STEP c) = step ∧
      (s.flag (F.DC_CFG.ENABLE c) = false → s.flag (F.DC_CFG.CFG_ERR c) = false → t.get (F.DC_TRN_CTRL.BUSY c) = 1 ∧
        (t.chans.get c).trn = (step, 0, 0)) ∧
      (s.flag (F.DC_CFG.ENABLE c) = true ∨ s.flag (F.DC_CFG.CFG_ERR c) = true → t.get (F.DC_TRN_CTRL.BAD_REQ c) = 1 ∧ t.get (F.DC_TRN_CTRL.BUSY c) = 0) ∧
      t = { s with regs := t.regs, chans := t.chans }) ∧
  (∀ (s : State) (c : Fin 16) (lanes : Vector LaneEye 40) (step sc rank : Nat), s.flag (F.DC_TRN_CTRL.BUSY c) = true →
    (s.chans.get c).trn = (step, sc, rank) → sc < 2 → rank < 8 →
    ∃ t, exec (.trainingStepComplete c lanes) s = .next t ∧ t.get (F.DC_TRN_CTRL.BUSY c) = 0 ∧ t.get (F.DC_TRN_CTRL.DONE c) = 1 ∧
      (∀ (l : Nat) (e : LaneEye), lanes.toList[l]? = some e →
        t.get (F.DC_TRN_RESULT.LEFT c (40 * sc + l)) = e.left.toNat ∧
        t.get (F.DC_TRN_RESULT.RIGHT c (40 * sc + l)) = (if e.left = 0xFF then 0xFF else e.right.toNat) ∧
        t.get (F.DC_TRN_RESULT.ERRORS c (40 * sc + l)) = e.errors.toNat ∧
        (step = 4 → e.left ≠ 0xFF → t.get (F.DC_DLY.RD_DLY c (40 * sc + l)) = (e.left.toNat + e.right.toNat) / 2) ∧
        (step = 5 → e.left ≠ 0xFF → t.get (F.DC_DLY.WR_DLY c (40 * sc + l)) = (e.left.toNat + e.right.toNat) / 2) ∧
        (step = 6 → e.left ≠ 0xFF → t.get (F.DC_DLY.RD_VREF c (40 * sc + l)) = (e.left.toNat + e.right.toNat) / 2)) ∧
      t.dram = s.dram ∧ t.frames = s.frames ∧ t.regions = s.regions ∧ t.reqs = s.reqs)

/-- ADMISSION, REGULATOR_SHORTFALL_CHECK, QOS_CTRL_WRITE. In each fabric clock that runs, admission runs the admission passes, marks the masters it throttled and settles; asleep it changes nothing. The shortfall check, on a released unit, ends it; with SCALE below 65,536 it counts the transit, notes it in LAST and records GUARANTEE_SHORTFALL. A QOS_CTRL write sets ENABLE; water marks with 1 <= LOW < HIGH, 2 <= HIGH <= 63 are taken, others leave the marks and set BAD_WM; a TURN up to 128 is taken. (R303, R304, R311.) -/
def Obligations.RegulatorRows : Prop :=
  (∀ s : State, s.asleep = false → exec .admission s = .next (settle (markThrottled (admitLoop 16 s)))) ∧
  (∀ s : State, s.asleep = true → exec .admission s = .next s) ∧
  (∀ s : State, unitWaits s 0x0D 0 = true → s.get F.QOS_SCALE.SCALE < 65536 → ∃ t, exec .regulatorShortfallCheck s = .next t ∧
    t.get F.QOS_SHORTFALL.LAST = s.transit % 2 ^ F.QOS_SHORTFALL.LAST.width ∧
    t.get F.QOS_SHORTFALL.TRANSITS = min (2 ^ F.QOS_SHORTFALL.TRANSITS.width - 1) (s.get F.QOS_SHORTFALL.TRANSITS + 1) ∧
    t.jobs.get (jobKey 0x0D 0) = (s.jobs.get (jobKey 0x0D 0)).tail ∧ t.dram = s.dram ∧ t.reqs = s.reqs) ∧
  (∀ s : State, unitWaits s 0x0D 0 = true → 65536 ≤ s.get F.QOS_SCALE.SCALE →
    exec .regulatorShortfallCheck s = .next (jobDone 0x0D 0 s)) ∧
  (∀ (s : State) (v : BitVec 32), 2 ≤ slice v.toNat 8 8 → slice v.toNat 8 8 ≤ 63 → 1 ≤ slice v.toNat 0 8 →
    slice v.toNat 0 8 < slice v.toNat 8 8 → ∃ t, exec (.qosCtrlWrite v) s = .next t ∧
      t.get F.QOS_CTRL.HIGH_WM = slice v.toNat 8 8 ∧ t.get F.QOS_CTRL.LOW_WM = slice v.toNat 0 8 ∧
      t.get F.QOS_CTRL.ENABLE = slice v.toNat 31 1 ∧ (slice v.toNat 16 8 ≤ 128 → t.get F.QOS_CTRL.TURN = slice v.toNat 16 8) ∧
      t = { s with regs := t.regs }) ∧
  (∀ (s : State) (v : BitVec 32), slice v.toNat 8 8 ≤ slice v.toNat 0 8 → ∃ t, exec (.qosCtrlWrite v) s = .next t ∧
      t.get F.QOS_CTRL.HIGH_WM = s.get F.QOS_CTRL.HIGH_WM ∧ t.get F.QOS_CTRL.LOW_WM = s.get F.QOS_CTRL.LOW_WM ∧
      t.get F.QOS_CTRL.BAD_WM = 1 ∧ t = { s with regs := t.regs })

/-- ENCODER_DISPATCH, ENCODE_COMPLETE, DECODER_DISPATCH, DECODE_COMPLETE, DECODER_PARITY_ERROR, RECOMPRESSOR_DEQUEUE, RECOMPRESSION_TIMEOUT. An idle encoder in service takes the job that R134 picks, which is then listed at that engine with its level shown. A finished encode is counted, its output (none where nothing was gained) delivered to its owner, and the encoder is free; an output that the shadow decoder refuses is recorded, fails the engine, and goes once to another encoder that is online, else its segment ends without an output. A decoder job that a lane of its stop can take, partial jobs first, moves from the waiting jobs to that lane. A finished decode whose bytes have come is counted and its result delivered. A window parity error gives a job that has not failed before back to the front of the waiting jobs, barred from the lane; a second one ends the job with fault 0xF. The recompressor takes a cold T1 page of the next slice's queue that is not moving and whose metadata came, charges its sectors and starts the move (a page whose major counter is full asks for a rekey of its region). A recompression past the MAX_TRANSITS it started with aborts and is counted. (R122, R134, R135, R141, R142, R144, R145, R146.) -/
def Obligations.CompressionJobs : Prop :=
  (∀ (s : State) (e : Fin 8) (j : EncJob), cmpState s e = 0 → (∀ x ∈ s.cmp.encoders, x.1 ≠ e.val) → pickJob s e = some j →
    ∃ t, exec (.encoderDispatch e) s = .next t ∧ t.cmp.encoders = s.cmp.encoders ++ [(e.val, j)] ∧
      t.get (F.CMP_ENG_STATUS.LEVEL e) = j.level % 2 ^ (F.CMP_ENG_STATUS.LEVEL e).width ∧
      t = { s with regs := t.regs, cmp := t.cmp }) ∧
  (∀ (s : State) (e : Fin 8) (j : EncJob), s.cmp.encoders.find? (fun x => x.1 == e.val) = some (e.val, j) →
    let u := ((State.put { s with cmp := { s.cmp with encoders := s.cmp.encoders.filter (fun x => x.1 != e.val) } }
      (F.CMP_ENG_STATUS.LEVEL e) 0).bump (F.CMP_ENG_STATUS.SEGMENTS e)).count 0x501 e
    exec (.encodeComplete e none) s = .next (deliverEncode j (aqzEncode j.input j.level)
      (if (aqzEncode j.input j.level).isNone then u.count 0x502 e else u))) ∧
  (∀ (s : State) (e : Fin 8) (j : EncJob) (f : BitVec 4), s.cmp.encoders.find? (fun x => x.1 == e.val) = some (e.val, j) →
    let a := State.put { s with cmp := { s.cmp with encoders := s.cmp.encoders.filter (fun x => x.1 != e.val) } }
      (F.CMP_ENG_STATUS.LEVEL e) 0
    let p := ownerPlace a j.owner
    let b := failEngine e e (cmpErr f.toNat 4 e p.1 p.2 ((a.log 0x21 e 0 f.toNat).bump (F.CMP_ENG_STATUS.FAULTS e)))
    (j.failedOn.isSome = true ∨ (∀ x ∈ encodersOnline b, x = e.val) →
      exec (.encodeComplete e (some f)) s = .next (deliverEncode j none b)) ∧
    (j.failedOn = none → (∃ x ∈ encodersOnline b, x ≠ e.val) → let k : EncJob := { j with failedOn := some e.val }
      ∃ t, exec (.encodeComplete e (some f)) s = .next t ∧ t = { b with cmp := t.cmp } ∧
        (isMoverJob j.owner = true → t.cmp = { b.cmp with moverQ := k :: b.cmp.moverQ }) ∧
        (isMoverJob j.owner = false → isRecompJob b j.owner = true → t.cmp = { b.cmp with recompQ := k :: b.cmp.recompQ }) ∧
        (isMoverJob j.owner = false → isRecompJob b j.owner = false → t.cmp = { b.cmp with demoteQ := k :: b.cmp.demoteQ }))) ∧
  (∀ (s : State) (j : DecJob) (k : Nat), let b := placeDecodes s
    (b.cmp.waitDec.filter (fun j => !isFull j) ++ b.cmp.waitDec.filter isFull).find? (fun j => (stopLane b j).isSome) = some j →
    stopLane b j = some k → exec .decoderDispatch s = .next (resumeHeld (placeDecodes { b with cmp := { b.cmp with
      waitDec := eraseFirst (fun x => x == j) b.cmp.waitDec, decoders := b.cmp.decoders ++ [(k, j)] } }))) ∧
  (∀ (s : State) (e : Fin 24) (lane : Fin 4) (k : Nat) (j : DecJob) (bytes : List Nat),
    s.cmp.decoders.find? (fun d => d.1 == (e.val + 8) * 4 + lane.val) = some (k, j) → decodeInput s j = some bytes →
    let u : State := { s with cmp := { s.cmp with decoders := s.cmp.decoders.filter (fun d => d.1 != k) } }
    exec (.decodeComplete e lane) s = .next (settle (deliverDecode j (e.val + 8) (ownerPath u j.owner)
      (aqzDecode bytes j.code j.want) ((u.bump (F.CMP_ENG_STATUS.SEGMENTS (e.val + 8))).count 0x501 (e.val + 8))))) ∧
  (∀ (s : State) (e : Fin 24) (lane : Fin 4) (k : Nat) (j : DecJob),
    s.cmp.decoders.find? (fun d => d.1 == (e.val + 8) * 4 + lane.val) = some (k, j) → j.failedLane = none →
    ∃ t rest, exec (.decoderParityError e lane) s = .next t ∧
      t.cmp.waitDec = { j with failedLane := some ((e.val + 8) * 4 + lane.val) } :: rest) ∧
  (∀ (s : State) (e : Fin 24) (lane : Fin 4) (k : Nat) (j : DecJob),
    s.cmp.decoders.find? (fun d => d.1 == (e.val + 8) * 4 + lane.val) = some (k, j) → j.failedLane.isSome = true →
    let u : State := { s with cmp := { s.cmp with
      decoders := s.cmp.decoders.filter (fun d => d.1 != (e.val + 8) * 4 + lane.val) } }
    exec (.decoderParityError e lane) s = .next (settle (deliverDecode j (e.val + 8) 5 (.error 0xF)
      (failEngine (e.val + 8) (100 + ((e.val + 8) * 4 + lane.val)) (u.bump (F.CMP_ENG_STATUS.FAULTS (e.val + 8))))))) ∧
  (∀ (s : State) (sl : Nat) (p : Nat × Nat), encNone s = false → s.stops 3 = false → decodeHeld s true = false → accessesIn s 64 = true →
    recompSlice s = some sl → s.cmp.pages.find? (fun p => p.1 == sl) = some p →
    let u : State := { s with cmp := { s.cmp with turn := (sl + 1) % 16 } }
    let v := (pageFetch p.2 u).2
    let w : State := { v with cmp := { v.cmp with pages := eraseFirst (fun x => x == p) v.cmp.pages } }
    pageRoom u p.2 = true → (pageFetch p.2 u).1 = true → pageKind v p.2 = 2 → pageMoving v p.2 = false → effHeat v p.2 ≤ v.get F.TIER_POLICY.COLD →
    (majorFull v p.2 = false → exec .recompressorDequeue s =
      .next (startRecompression p.2 (chargeInternal 64 (secStart (pageSecs v p.2) 4) w))) ∧
    (majorFull v p.2 = true → exec .recompressorDequeue s = .next (askRekey p.2 v))) ∧
  (∀ (s : State) (page : BitVec 39) (m : Move), moveOf s page.toNat = some m → m.kind = .recompress →
    m.start + m.limit ≤ s.transit → exec (.recompressionTimeout page) s =
      .next (settle (abortMove m (s.bump F.CMP_RECOMP_STATUS.TIMEOUTS))))

/-- CMP_ENG_OFFLINE_WRITE, CMP_ENG_SELFTEST_WRITE, CMP_SELFTEST_COMPLETE, CRY_SELFTEST_COMPLETE, ENGINE_DRAINED, TIER_DISABLE_WRITE. A write of OFFLINE 1 to an ONLINE compression engine makes it DRAINING, while enough others are in service, and sets BAD_REQ alone otherwise; a write of 0 to an OFFLINE engine returns it, and to a FAILED one sets BAD_REQ alone. A self-test starts in OFFLINE or FAILED. A self-test of a compression engine in SELFTEST ends OFFLINE when it passes and FAILED when not, with the result shown; one of a crypto engine likewise. A DRAINING engine with no job left becomes OFFLINE. A write to CMP_CTRL sets TIER_DISABLE. These change the register file alone, and one engine's completion no other engine's state. (R147, R148, R149, R188, R189.) -/
def Obligations.EngineService : Prop :=
  (∀ (s : State) (e : Fin 32), cmpState s e = 0 → (if e.val < 8 then 1 else 4) ≤ othersInService s e →
    exec (.cmpEngOfflineWrite e true) s =
      .next (endBarred ((s.put (F.CMP_ENG_STATUS.STATE e) 1).put (F.CMP_ENG_CTRL.OFFLINE e) 1))) ∧
  (∀ (s : State) (e : Fin 32), cmpState s e = 0 → othersInService s e < (if e.val < 8 then 1 else 4) →
    exec (.cmpEngOfflineWrite e true) s = .next (s.put F.CMP_CTRL.BAD_REQ 1)) ∧
  (∀ (s : State) (e : Fin 32), cmpState s e = 2 → ∃ t, exec (.cmpEngOfflineWrite e false) s = .next t ∧ cmpState t e = 0 ∧
    t.get (F.CMP_ENG_CTRL.OFFLINE e) = 0 ∧ (∀ d : Fin 32, d ≠ e → cmpState t d = cmpState s d) ∧ t = { s with regs := t.regs }) ∧
  (∀ (s : State) (e : Fin 32), cmpState s e = 4 → exec (.cmpEngOfflineWrite e false) s = .next (s.put F.CMP_CTRL.BAD_REQ 1)) ∧
  (∀ (s : State) (e : Fin 32), cmpState s e = 2 ∨ cmpState s e = 4 → ∃ t, exec (.cmpEngSelftestWrite e) s = .next t ∧
    cmpState t e = 3 ∧ (∀ d : Fin 32, d ≠ e → cmpState t d = cmpState s d) ∧ t = { s with regs := t.regs }) ∧
  (∀ (s : State) (e : Fin 32) (pass : Bool), cmpState s e = 3 → ∃ t, exec (.cmpSelftestComplete e pass) s = .next t ∧
    cmpState t e = (if pass then 2 else 4) ∧ t.get (F.CMP_ENG_STATUS.SELFTEST_RESULT e) = (if pass then 1 else 2) ∧
    (∀ d : Fin 32, d ≠ e → cmpState t d = cmpState s d) ∧ t = { s with regs := t.regs }) ∧
  (∀ (s : State) (e : Fin 8) (pass : Bool), s.get (F.CRY_ENG_STATUS.STATE e) = 3 →
    ∃ t, exec (.crySelftestComplete e pass) s = .next t ∧ t.get (F.CRY_ENG_STATUS.STATE e) = (if pass then 2 else 4)) ∧
  (∀ (s : State) (e : Fin 32), cmpState s e = 1 → cmpBusy s e = false → ∃ t, exec (.engineDrained false e) s = .next t ∧
    cmpState t e = 2 ∧ (∀ d : Fin 32, d ≠ e → cmpState t d = cmpState s d) ∧ t = { s with regs := t.regs }) ∧
  (∀ (s : State) (e : Fin 8), s.get (F.CRY_ENG_STATUS.STATE e) = 1 → (∀ k ∈ s.keystreams, k.1 ≠ e.val) →
    ∃ t, exec (.engineDrained true (e.castLE (by decide))) s = .next t ∧ t.get (F.CRY_ENG_STATUS.STATE e) = 2 ∧
      t = { s with regs := t.regs }) ∧
  (∀ (s : State) (v : BitVec 32), ∃ t, exec (.tierDisableWrite v) s = .next t ∧
    t.get F.CMP_CTRL.TIER_DISABLE = slice v.toNat 0 1 ∧
    (1 ≤ slice v.toNat 4 4 → slice v.toNat 4 4 ≤ 8 → t.get F.CMP_CTRL.DM_ENC_MAX = slice v.toNat 4 4) ∧
    (slice v.toNat 4 4 = 0 → t.get F.CMP_CTRL.DM_ENC_MAX = s.get F.CMP_CTRL.DM_ENC_MAX) ∧ t = { s with regs := t.regs })

/-- KEY_FLUSH, WALK_START, CRY_FAULT, CRY_ENG_OFFLINE_WRITE, CRY_ENG_SELFTEST_WRITE, CRY_CTRL_WRITE. The flush of a RETIRING slot that is not zeroized, has no region and is in no use zeroizes the key, leaves no near-cache line of it, makes the slot EMPTY with IMPORTED 0, and leaves every other key. A waiting walk of a region without one starts on a free context. A parity mismatch records CRY_FAULT, counts it, and notes it with its transit; with fewer than four faults in the window and nothing queued at the engine nothing else happens. A write of OFFLINE 1 to an ONLINE engine brings the spare into service and makes it DRAINING, or with no spare sets BAD_REQ alone; a write of 0 to an OFFLINE engine returns it, as the spare if seven are online; a self-test starts in OFFLINE or FAILED. A CRY_CTRL write sets ALARM_LIMIT, and a change of limit or zeroize policy checks the alarm count at once. (R174, R181, R186, R187, R188, R189.) -/
def Obligations.KeyRows : Prop :=
  (∀ (s : State) (k : Fin 64), keyState s k = 2 → s.flag (F.CRY_KEY_STATUS.ZEROIZED k) = false →
    s.get (F.CRY_KEY_STATUS.REGIONS k) = 0 → keyInUse s k = false → ∃ t, exec (.keyFlush k) s = .next t ∧
      keyState t k = 0 ∧ t.get (F.CRY_KEY_STATUS.IMPORTED k) = 0 ∧ t.keys.get k = {} ∧ (∀ j : Nat, j ≠ k → t.keys.get j = s.keys.get j) ∧
      t.near = s.near.keep (fun _ e => !(e.valid && e.key == k)) ∧ t.dram = s.dram ∧ t.regions = s.regions) ∧
  (∀ (s : State) (w : Nat) (q : WalkReq), freeContext s = some w →
    s.walkQueue.find? (fun q => !(s.region q.region).walk) = some q → exec .walkStart s = .next (startWalk w q s)) ∧
  (∀ s : State, s.walkQueue = [] → exec .walkStart s = .next s) ∧
  (∀ (s : State) (e : Fin 8), unitAt { s.log 0x28 e with cryFaults := (e.val, s.transit) :: s.cryFaults } e = none → recentFaults s ((e.val, s.transit) :: s.cryFaults) e < 4 →
    ∃ t, exec (.cryFault e) s = .next t ∧ t.cryFaults = (e.val, s.transit) :: s.cryFaults ∧
      t.get (F.CRY_ENG_STATUS.FAULTS e) = min (2 ^ (F.CRY_ENG_STATUS.FAULTS e).width - 1)
        (s.get (F.CRY_ENG_STATUS.FAULTS e) + 1) ∧
      t.reqs = s.reqs ∧ t.dram = s.dram ∧ t.keys = s.keys) ∧
  (∀ (s : State) (e : Fin 8), cryState s e = 0 → (spareEngine s).isSome = true → exec (.cryEngOfflineWrite e true) s =
    .next (((useSpare s).put (F.CRY_ENG_STATUS.STATE e) 1).put (F.CRY_ENG_CTRL.OFFLINE e) 1)) ∧
  (∀ (s : State) (e : Fin 8), cryState s e = 0 → spareEngine s = none →
    exec (.cryEngOfflineWrite e true) s = .next (s.put F.CRY_CTRL.BAD_REQ 1)) ∧
  (∀ (s : State) (e : Fin 8), cryState s e = 2 → ∃ t, exec (.cryEngOfflineWrite e false) s = .next t ∧
    cryState t e = (if ((List.range 8).filter (cryOnline s)).length < 7 then 0 else 5) ∧
    t.get (F.CRY_ENG_CTRL.OFFLINE e) = 0 ∧ t = { s with regs := t.regs }) ∧
  (∀ (s : State) (e : Fin 8), cryState s e = 2 ∨ cryState s e = 4 → ∃ t, exec (.cryEngSelftestWrite e) s = .next t ∧
    cryState t e = 3 ∧ (∀ d : Fin 8, d ≠ e → cryState t d = cryState s d) ∧ t = { s with regs := t.regs }) ∧
  (∀ (s : State) (v : BitVec 32), s.get F.CRY_CTRL.ALARM_LIMIT = slice v.toNat 16 8 →
    s.get F.CRY_CTRL.ALARM_ZEROIZE = slice v.toNat 9 1 → ∃ t, exec (.cryCtrlWrite v) s = .next t ∧
      t.get F.CRY_CTRL.ALARM_LIMIT = slice v.toNat 16 8 ∧ t = { s with regs := t.regs }) ∧
  (∀ (s : State) (v : BitVec 32), s.get F.CRY_CTRL.ALARM_LIMIT ≠ slice v.toNat 16 8 → slice v.toNat 8 1 = 0 →
    zeroizeForced (s.put F.CRY_CTRL.ALARM_LIMIT (slice v.toNat 16 8)) = true →
    exec (.cryCtrlWrite v) s = .next (checkAlarmLimit (s.put F.CRY_CTRL.ALARM_LIMIT (slice v.toNat 16 8))))

/-- METADATA_INIT, DEMOTION_SWEEP_QUANTUM, HEAT_EPOCH_ADVANCE, BAND_COPY_COMPLETE, MOVE_COMMIT. Metadata initialisation of an accepted configuration empties the metadata cache and its stored lines and trees, writes every line of the bands, lets the slices go and reports the pool; an unaccepted one sets TIER_CAP_CFG.ERR alone; with PRESENTED_REGIONS 0, or once done, nothing happens. With META's accesses admitted, the sweep quantum of a released unit, of a ready tier engine that does not stop, serves FREEING entries first and then sweeps with the visits that are left. The heat epoch of a released unit advances by one, modulo its width, and ends its job unit. A finished band copy, once the accesses before it are admitted, charges the band's lines and moves them: of an evacuating channel it sets METAMOVED; of a returning channel whose lines are zero it enables the channel and ends its evacuation. A move with no open read, its output ready, no peer awaited and its master's accesses admitted commits, its units charged before and, where the page has moved, after, and the slice's waiters go on. (R78, R86, R87, R90, R100, R101, R154.) -/
def Obligations.TierRows : Prop :=
  (∀ s : State, s.tier.metaReady = false → s.presented ≠ 0 → capAccepted s = true →
    let u : State := { s.put F.TIER_CAP_CFG.ERR 0 with
      metaCache := [], metaSto := {}, roots := {}, quarantine := [], nodeRekeys := [] }
    let v := clearBands (if u.tier.held then sizePools u else u)
    exec .metadataInit s = .next (poolChanged { v with tier := { v.tier with held := false, metaReady := true, bandLost := [] } })) ∧
  (∀ s : State, s.tier.metaReady = false → s.presented ≠ 0 → capAccepted s = false → ∃ t, exec .metadataInit s = .next t ∧
    t.get F.TIER_CAP_CFG.ERR = 1 ∧ t = { s with regs := t.regs }) ∧
  (∀ s : State, s.presented = 0 ∨ s.tier.metaReady = true → exec .metadataInit s = .next s) ∧
  (∀ s : State, unitWaits s 0x08 0 = true → accessesIn s 67 = true → s.tier.metaReady = true → s.stops 3 = false →
    let sl := unitTransit s 0x08 0 % 16
    let w := freeingWork sl 64 (jobDone 0x08 0 s)
    exec .demotionSweepQuantum s = .next (settle (endEvacuations (sweepWork sl w.1 (resumeMoves sl (walksAt sl w.2)))))) ∧
  (∀ s : State, unitWaits s 0x09 0 = true → ∃ t, exec .heatEpochAdvance s = .next t ∧
    t.get F.TIER_EPOCH.EPOCH = (s.get F.TIER_EPOCH.EPOCH + 1) % 2 ^ F.TIER_EPOCH.EPOCH.width ∧
    t.jobs.get (jobKey 0x09 0) = (s.jobs.get (jobKey 0x09 0)).tail ∧ t = { s with regs := t.regs, jobs := t.jobs }) ∧
  (∀ (s : State) (c : Fin 16), accessesIn s 67 = true → s.get (F.TIER_POOL_STATUS.EVAC c) = 1 → ∃ t, exec (.bandCopyComplete c) s = .next t ∧
    t.get (F.TIER_POOL_STATUS.METAMOVED c) = 1 ∧ (∀ x ∈ t.tier.bandCopy, x ≠ c.val) ∧
    t = { s with regs := t.regs, tier := t.tier, dram := t.dram, chans := t.chans, masters := t.masters }) ∧
  (∀ (s : State) (c : Fin 16), accessesIn s 67 = true → s.get (F.TIER_POOL_STATUS.EVAC c) = 3 → s.flag (F.DC_CFG.ZEROED c) = true →
    ∃ t, exec (.bandCopyComplete c) s = .next t ∧ t.get (F.TIER_POOL_STATUS.EVAC c) = 0 ∧
      t.get (F.TIER_POOL_STATUS.METAMOVED c) = 0 ∧ t.get (F.DC_CFG.ENABLE c) = 1 ∧ t.regions = s.regions) ∧
  (∀ (s : State) (page : BitVec 39) (m : Move), moveOf s page.toNat = some m → readsOpen s page.toNat = false →
    allReady m = true → m.waitPeer = false → accessesIn s (moveMaster m) = true →
    let u := commitMove m (chargeInternal (moveMaster m) (moveUnits s m) s)
    let v := if pageLoc u m.page = pageLoc s m.page then u else chargeInternal (moveMaster m) (moveUnits u m) u
    let sl := pageSlice page.toNat
    exec (.moveCommit page) s = .next (settle (resumeSlice sl (resumeMoves sl (retryMoves sl (walksAt sl v)))))) ∧
  (∀ s : State, accessesIn s 67 = false → exec .demotionSweepQuantum s = .next s ∧
    ∀ c : Fin 16, exec (.bandCopyComplete c) s = .next s)

/-- LEASE_TIMEOUT, RECLAMATION_QUANTUM, DIRECTORY_SCRUB_QUANTUM, ALMANAC_ECC_SCRUB_QUANTUM. A lease break that is over is treated as KEEP and the line queues settle; another changes nothing. Each background quantum acts on a released unit of its job and ends it; a reclamation or directory scrub quantum waits while accesses of SCRUB are not admitted. With no agent to reclaim, a reclamation quantum does only that; with agents, it clears the dead agents' bits in the 64 sets from the cursor, counts the quantum and moves the cursor. A directory scrub quantum of a slice with shared slots charges 512 lines and scrubs them, each with the memory error that the command gives its read. The almanac ECC quantum adds the corrected words to the slice's CE count and moves its position by 256 entries. (R200, R210, R212, R440.) -/
def Obligations.DirectoryRows : Prop :=
  (∀ (s : State) (r : BitVec 21), leaseOver s r.toNat = true → exec (.leaseTimeout r) s = .next (settle (keepLease r.toNat s))) ∧
  (∀ (s : State) (r : BitVec 21), leaseOver s r.toNat = false → exec (.leaseTimeout r) s = .next s) ∧
  (∀ s : State, unitWaits s 0x0F 0 = true → accessesIn s 66 = true → s.reclaim.agents = [] → exec .reclamationQuantum s = .next (jobDone 0x0F 0 s)) ∧
  (∀ s : State, unitWaits s 0x0F 0 = true → accessesIn s 66 = true → s.reclaim.agents ≠ [] → (∀ a ∈ s.reclaim.agents, a.begun = true) →
    let u := jobDone 0x0F 0 s
    let keys := (u.almanac.cells.map (·.1)).filter (fun k =>
      decide (u.reclaim.cursor ≤ k % 2 ^ 18) && decide (k % 2 ^ 18 < u.reclaim.cursor + 64))
    let v := (forAll keys (reclaimEntry (u.reclaim.agents.map (·.han))) u).bump F.HA_RECLAIM.QUANTA
    exec .reclamationQuantum s = .next (endReclaim { v with reclaim := { v.reclaim with
      cursor := (u.reclaim.cursor + 64) % 2 ^ 18
      agents := v.reclaim.agents.map (fun a => { a with begun := true, quanta := a.quanta + 1 }) } })) ∧
  (∀ s : State, accessesIn s 66 = false → exec .reclamationQuantum s = .next s ∧
    ∀ lines errs, exec (.directoryScrubQuantum lines errs) s = .next s) ∧
  (∀ (s : State) (lines : List Nat) (errs : List MemErr) (x : Nat × Nat × Nat), unitWaits s 0x06 0 = true →
    accessesIn s 66 = true → scrubSlot (jobDone 0x06 0 s) (unitTransit s 0x06 0 % 16) = some x →
    let n := unitTransit s 0x06 0
    let u := forAll (List.range 512) (fun i s => scrubStruck x.2.1 (n % 16) (x.2.2 + i) (cellFind i (lines.zip errs)) s)
      (chargeInternal 66 512 (jobDone 0x06 0 s))
    exec (.directoryScrubQuantum lines errs) s = .next (settle (endPasses { u with reclaim := { u.reclaim with
      scrubAt := u.reclaim.scrubAt.set (n % 16) (if x.2.2 + 512 < 131072 then (x.1, x.2.2 + 512) else (x.1 + 1, 0))
      passes := u.reclaim.passes.map (fun p => if p.from_ ≤ n then countScrub (n % 16) (some x.1) p else p) } }))) ∧
  (∀ (s : State) (corrected : List Nat), unitWaits s 0x07 0 = true → ∃ t, exec (.almanacEccScrubQuantum corrected [] []) s = .next (settle t) ∧
    t.get (F.HA_SLICE_STATUS.CE (unitTransit s 0x07 0 % 16)) =
      min (2 ^ (F.HA_SLICE_STATUS.CE (unitTransit s 0x07 0 % 16)).width - 1)
        (s.get (F.HA_SLICE_STATUS.CE (unitTransit s 0x07 0 % 16)) + corrected.length) ∧
    t.reclaim.eccAt = s.reclaim.eccAt.set (unitTransit s 0x07 0 % 16)
      ((s.reclaim.eccAt.getD (unitTransit s 0x07 0 % 16) 0 + 256) % 2 ^ 18) ∧ t.almanac = s.almanac)

/-- HOST_PORT_CTRL_WRITE, PORT_RESET_RELEASE, HOST_PORT_CFG_WRITE, PERST. A PORT_RESET, or HOLD set on a port out of reset, resets the port: it is in reset from now on and none of its links is up; HOLD shows the written bit. A port in reset for 10 us and not held leaves reset with BIFURC, MAX_SPEED and LANE_REV as its configuration then stands. A configuration write without LOCK while LOCK is 0 takes LANE_REV, and BIFURC (unless 3) and MAX_SPEED (2 to 5), and flags a reserved encoding in BAD_ENC; one that sets LOCK leaves the other fields (DEDUCED, log entry 137); while LOCK is 1 BIFURC, MAX_SPEED and LANE_REV keep their values. PERST holds the port's links in detect while it is asserted, and its assertion takes every link of the port down. (R45, R458, R469.) -/
def Obligations.HostPortRows : Prop :=
  (∀ (s : State) (p : Fin 4) (v : BitVec 32), bitOf v.toNat 0 = true → ∃ t, exec (.hostPortCtrlWrite p v) s = .next t ∧
    (t.ports.get p).inReset = true ∧ (∀ k : Fin 4, (t.links.get (4 * p + k)).up = false) ∧
    t.get (F.HP_PORT_CTRL.HOLD p) = slice v.toNat 1 1 ∧ t.dram = s.dram) ∧
  (∀ (s : State) (p : Fin 4) (v : BitVec 32), bitOf v.toNat 0 = false → bitOf v.toNat 1 = false →
    ∃ t, exec (.hostPortCtrlWrite p v) s = .next t ∧ t.get (F.HP_PORT_CTRL.HOLD p) = 0 ∧ t = { s with regs := t.regs }) ∧
  (∀ (s : State) (p : Fin 4), (s.ports.get p).inReset = true → s.flag (F.HP_PORT_CTRL.HOLD p) = false →
    10000 ≤ s.since (s.ports.get p).since → ∃ t, exec (.portResetRelease p) s = .next t ∧ (t.ports.get p).inReset = false ∧
      (t.ports.get p).bifurc = s.get (F.HP_PORT_CFG.BIFURC p) ∧ (t.ports.get p).maxSpeed = s.get (F.HP_PORT_CFG.MAX_SPEED p) ∧
      (t.ports.get p).laneRev = s.flag (F.HP_PORT_CFG.LANE_REV p) ∧
      (∀ q : Fin 4, q ≠ p → t.ports.get q = s.ports.get q) ∧ t = { s with ports := t.ports }) ∧
  (∀ (s : State) (p : Fin 4) (v : BitVec 32), s.flag (F.HP_PORT_CFG.LOCK p) = false → bitOf v.toNat 31 = false →
    let good := decide (2 ≤ slice v.toNat 2 3) && decide (slice v.toNat 2 3 ≤ 5)
    ∃ t, exec (.hostPortCfgWrite p v) s = .next t ∧
      t.get (F.HP_PORT_CFG.BIFURC p) = (if slice v.toNat 0 2 = 3 then s.get (F.HP_PORT_CFG.BIFURC p) else slice v.toNat 0 2) ∧
      t.get (F.HP_PORT_CFG.MAX_SPEED p) = (if good then slice v.toNat 2 3 else s.get (F.HP_PORT_CFG.MAX_SPEED p)) ∧
      t.get (F.HP_PORT_CFG.LANE_REV p) = slice v.toNat 8 1 ∧
      (slice v.toNat 0 2 = 3 ∨ good = false → t.get (F.HP_PORT_CFG.BAD_ENC p) = 1) ∧
      t.get (F.HP_PORT_CFG.LOCK p) = 0 ∧ t = { s with regs := t.regs }) ∧
  (∀ (s : State) (p : Fin 4) (v : BitVec 32), s.flag (F.HP_PORT_CFG.LOCK p) = false → bitOf v.toNat 31 = true →
    ∃ t, exec (.hostPortCfgWrite p v) s = .next t ∧ t.get (F.HP_PORT_CFG.LOCK p) = 1 ∧
      t.get (F.HP_PORT_CFG.BIFURC p) = s.get (F.HP_PORT_CFG.BIFURC p) ∧
      t.get (F.HP_PORT_CFG.MAX_SPEED p) = s.get (F.HP_PORT_CFG.MAX_SPEED p) ∧
      t.get (F.HP_PORT_CFG.LANE_REV p) = s.get (F.HP_PORT_CFG.LANE_REV p) ∧ t = { s with regs := t.regs }) ∧
  (∀ (s : State) (p : Fin 4) (v : BitVec 32), s.flag (F.HP_PORT_CFG.LOCK p) = true →
    ∃ t, exec (.hostPortCfgWrite p v) s = .next t ∧ t.get (F.HP_PORT_CFG.BIFURC p) = s.get (F.HP_PORT_CFG.BIFURC p) ∧
      t.get (F.HP_PORT_CFG.MAX_SPEED p) = s.get (F.HP_PORT_CFG.MAX_SPEED p) ∧
      t.get (F.HP_PORT_CFG.LANE_REV p) = s.get (F.HP_PORT_CFG.LANE_REV p) ∧ t = { s with regs := t.regs }) ∧
  (∀ (s : State) (p : Fin 4), ∃ t, exec (.perst p true) s = .next t ∧ (t.ports.get p).detect = true ∧
    (∀ k : Fin 4, (t.links.get (4 * p + k)).up = false)) ∧
  (∀ (s : State) (p : Fin 4), ∃ t, exec (.perst p false) s = .next t ∧ (t.ports.get p).detect = false ∧
    t = { s with ports := t.ports })

/-- LINK_DROP, LINK_RESET_WRITE, LINK_DISABLE_WRITE, IDE_INTEGRITY_FAILURE, HOST_DEAD_TIMEOUT. When a link that is up drops (a drop, a reset write or a disable on a link that exists, or a failed IDE integrity check on a protected link), the command completes: the link is not up, every LD bound on it that was ALIVE is DOWN; stored lines and the catalogue are unchanged. A disable shows in HP_LINKn_CTRL. In the first clock of a transit an agent DOWN for its timeout is recorded HOST_DEAD and enters RECLAIMING; at other times the check does nothing. (R55, R66, R67, R69.) -/
def Obligations.LinkDrops : Prop :=
  (∀ (s : State) (l : Fin 16) (lost : BitVec 8), (s.links.get l).up = true →
    let dropped (t : State) : Prop :=
      (t.links.get l).up = false ∧
      (∀ d : Fin 4, d.val < (s.links.get l).lds →
        agentState s (4 * l + d) = 1 → agentState t (4 * l + d) = 2) ∧
      t.dram = s.dram ∧ t.frames = s.frames ∧ t.regions = s.regions ∧ t.almanac = s.almanac
    (∃ t, exec (.linkDrop l lost) s = .next t ∧ dropped t) ∧
    (linkExists s l = true → ∃ t, exec (.linkResetWrite l lost) s = .next t ∧ dropped t) ∧
    (linkExists s l = true → ∃ t, exec (.linkDisableWrite l true lost) s = .next t ∧ dropped t ∧
      t.get (F.HP_LINK_CTRL.DISABLE l) = 1) ∧
    ((s.links.get l).ide = true → ∃ t, exec (.ideIntegrityFailure l lost) s = .next t ∧ dropped t)) ∧
  (∀ (s : State) (l : Fin 16) (lost : BitVec 8), linkExists s l = true →
    ∃ t, exec (.linkDisableWrite l false lost) s = .next t ∧ t.get (F.HP_LINK_CTRL.DISABLE l) = 0 ∧ t = { s with regs := t.regs }) ∧
  (∀ (s : State) (m : Fin 64), agentState s m = 2 → (s.lds.get m).dropTimeout * 1000000 ≤ s.since (s.lds.get m).dropTb →
    s.now % 1000 = 0 → exec (.hostDeadTimeout m) s = .next (enterReclaiming m (s.log 0x10 m 0 (s.get (F.HP_HAN_MAP.HAN m))))) ∧
  (∀ (s : State) (m : Fin 64), s.now % 1000 ≠ 0 ∨ agentState s m ≠ 2 ∨
    s.since (s.lds.get m).dropTb < (s.lds.get m).dropTimeout * 1000000 → exec (.hostDeadTimeout m) s = .next s)

/-- LINK_UP, DL_UP, MEMORY_SPACE_ENABLE, HOT_RESET, L0P_CHANGE, GLOBAL_PERSISTENT_FLUSH. A link that can train and is offered a width and speed it supports comes up with them and its LDs bound, and returns or starts its LDs; a dropped link's data link layer returns at the trained width likewise; both after the timeout check where that falls in the same clock. Setting Memory Space Enable of an LD shows in it, and on a link that is up and not insecure makes an IDLE or DEAD LD ALIVE. A hot reset of a link takes it down after resetting each LD; the reset of one LD resets that one, its decoders, STREAM_BITS and drop log among it. An L0p change to a legal width up to the trained one is taken, and nothing else changes. A flush phase is acknowledged on a link that is up. (R41, R46, R53, R57, R66, R68.) -/
def Obligations.LinkUps : Prop :=
  (∀ (s : State) (l : Fin 16) (w : BitVec 5) (v : BitVec 3) (f : Bool) (lds : Fin 4) (ptm : Bool), canTrain s l = true →
    w.toNat ∈ [1, 2, 4, 8, 16] → w.toNat ≤ laneGroup s l → 2 ≤ v.toNat → v.toNat ≤ (s.ports.get (l.val / 4)).maxSpeed →
    (f = true → v.toNat ≤ 4) → ∃ t u, exec (.linkUp l w v f lds ptm) s = .next t ∧
      t = wakeFrom 9 (settle (retrySnoops (ldsUp l u))) ∧ (u.links.get l).up = true ∧
      (u.links.get l).width = w.toNat ∧ (u.links.get l).trained = w.toNat ∧ (u.links.get l).speed = v.toNat ∧
      (u.links.get l).lds = lds.val + 1 ∧ (∀ k : Nat, k ≠ l → u.links.get k = (deadFirst l s).links.get k) ∧
      u = { deadFirst l s with regs := u.regs, links := u.links }) ∧
  (∀ (s : State) (l : Fin 16), canTrain s l = true → (s.links.get l).trained ≠ 0 →
    let b := deadFirst l s
    ∃ t u, exec (.dlUp l) s = .next t ∧ t = settle (retrySnoops (ldsUp l u)) ∧ (u.links.get l).up = true ∧
      (u.links.get l).width = (b.links.get l).trained ∧ u = { b with links := u.links, regs := u.regs }) ∧
  (∀ (s : State) (m : Fin 64) (on : Bool), ∃ t, exec (.memorySpaceEnable m on) s = .next t ∧
    (on = false → (t.lds.get m).mse = false ∧ t = { s with lds := t.lds }) ∧
    (on = true → (s.links.get (linkOfSlot m)).up = true → (s.links.get (linkOfSlot m)).ideInsecure = false →
      m.val ∈ linkSlots s (linkOfSlot m) →
      agentState s m = 0 ∨ agentState s m = 4 → agentState t m = 1)) ∧
  (∀ (s : State) (l : Fin 16), ∃ t, exec (.hotReset l none) s = .next t ∧ (t.links.get l).up = false ∧
    (t.links.get l).ide = false ∧ (t.links.get l).ideKey = none) ∧
  (∀ (s : State) (l : Fin 16) (d : Fin 4), ∃ t, exec (.hotReset l (some d)) s = .next t ∧
    (t.lds.get (4 * l.val + d.val)).hdm = List.replicate 4 {} ∧ (t.lds.get (4 * l.val + d.val)).tbLatch = none ∧
    t.get (F.AQ_STREAM_CTRL.STREAM_BITS (4 * l.val + d.val)) = 0 ∧ t.get (F.AQ_DROP_LOG.DROPS (4 * l.val + d.val)) = 0) ∧
  (∀ (s : State) (l : Fin 16) (w : BitVec 5), (s.links.get l).up = true → w.toNat ∈ [1, 2, 4, 8, 16] →
    w.toNat ≤ (s.links.get l).trained → ∃ t, exec (.l0pChange l w) s = .next t ∧ (t.links.get l).width = w.toNat ∧
      (∀ k : Nat, k ≠ l → t.links.get k = s.links.get k) ∧ t = { s with links := t.links }) ∧
  (∀ (s : State) (l : Fin 16) (ph : Fin 2), (s.links.get l).up = true → ∃ t, exec (.globalPersistentFlush l ph) s = .next t ∧
    t.out = s.out ++ [.gpfAck l ph] ∧ t = { s with out := t.out })

/-- HAN_MAP_WRITE, HDM_DECODER_COMMIT, STREAM_CTRL_WRITE, TB_LO_READ. In a standalone device a HAN map write to an IDLE or DEAD slot of an unlocked port takes VALID and HAN, unless another slot holds that HAN, which is recorded; for another agent state nothing changes. A decoder commit completes on every state and operands: a well-shaped range that the LD's static extents cover and no other committed decoder overlaps is taken as it is given, any other is marked not committed; only that LD changes. STREAM_BITS takes 0 to 4. Of an LD that is reached, a read of AQ_TB_LO answers the low half of TB and latches the high half of the same instant; one of AQ_TB_HI answers the latched half, or the current one where none is latched, and empties the latch; one of AQ_DROP_LOG clears its counts; a word of the mailbox page is read or written; a read of a data-mover page, of Memory_Active, of a user page, of an optional capability or of the CDAT is answered while awake (that these accesses ride on the row TB_LO_READ is the model's choice, log entry 64). (R44, R48, R63, R64, R66.) -/
def Obligations.HostRegisters : Prop :=
  (∀ (s : State) (m : Fin 64) (v : BitVec 32), s.flag (F.HP_PORT_CFG.LOCK (m.val / 16)) = false →
    agentState s m = 0 ∨ agentState s m = 4 → s.inClutch = false →
    (∀ x : Fin 64, x ≠ m → s.flag (F.HP_HAN_MAP.ASSIGNED x) = true → s.get (F.HP_HAN_MAP.HAN x) ≠ slice v.toNat 0 6) →
    ∃ t, exec (.hanMapWrite m v) s = .next t ∧ t.get (F.HP_HAN_MAP.VALID m) = slice v.toNat 7 1 ∧
      t.get (F.HP_HAN_MAP.HAN m) = slice v.toNat 0 6 ∧ t = { s with regs := t.regs }) ∧
  (∀ (s : State) (m : Fin 64) (v : BitVec 32), agentState s m ≠ 0 → agentState s m ≠ 4 → exec (.hanMapWrite m v) s = .next s) ∧
  (∀ (s : State) (m : Fin 64) (k : Fin 4) (base size : BitVec 64) (ways : BitVec 5) (gran : BitVec 15) (dpa : BitVec 64),
    (s.lds.get m).hdm.length = 4 → ∃ t d, exec (.hdmDecoderCommit m k base size ways gran dpa) s = .next t ∧
      (t.lds.get m).hdm[k.val]? = some d ∧ d.base = base.toNat ∧ d.size = size.toNat ∧ d.dpa = dpa.toNat ∧
      (d.committed = true → base.toNat % 2 ^ 28 = 0 ∧ size.toNat % 2 ^ 28 = 0 ∧ size ≠ 0) ∧ d.notCommitted = !d.committed ∧
      (∀ j : Nat, j ≠ m → t.lds.get j = s.lds.get j) ∧ t = { s with lds := t.lds }) ∧
  (∀ (s : State) (m : Fin 64) (k : Fin 4) (base size : BitVec 64) (ways : BitVec 5) (gran : BitVec 15) (dpa : BitVec 64),
    let d : Hdm := { base := base.toNat, size := size.toNat, ways := ways.toNat, gran := gran.toNat, dpa := dpa.toNat, committed := true }
    let l := s.lds.get m
    let free (o : Hdm) : Bool := !o.committed || (!overlaps d.dpa (hdmDpaLen d) o.dpa (hdmDpaLen o) && !overlaps d.base d.size o.base o.size)
    let shaped : Prop := d.ways ∈ [1, 2, 3, 4, 6, 8, 12, 16] ∧ d.gran ∈ [256, 512, 1024, 2048, 4096, 8192, 16384] ∧ d.base % 2 ^ 28 = 0 ∧ d.size % 2 ^ 28 = 0 ∧ d.size ≠ 0
    let taken : Prop := shaped ∧ staticCovers l d.dpa (hdmDpaLen d) = true ∧ ∀ j : Fin 4, j ≠ k → free (l.hdm.getD j.val {}) = true
    (taken → exec (.hdmDecoderCommit m k base size ways gran dpa) s =
      .next { s with lds := s.lds.set m { l with hdm := l.hdm.set k d } }) ∧
    (¬taken → exec (.hdmDecoderCommit m k base size ways gran dpa) s =
      .next { s with lds := s.lds.set m { l with hdm := l.hdm.set k { d with committed := false, notCommitted := true } } })) ∧
  (∀ (s : State) (m : Fin 64) (v : BitVec 32), ∃ t, exec (.streamCtrlWrite m v) s = .next t ∧
    t.get (F.AQ_STREAM_CTRL.STREAM_BITS m) =
      (if slice v.toNat 0 3 ≤ 4 then slice v.toNat 0 3 else s.get (F.AQ_STREAM_CTRL.STREAM_BITS m)) ∧
    t = { s with regs := t.regs }) ∧
  (∀ (s : State) (m : Fin 64), s.coreDown = false → ldReached s m = true →
    (∃ t, exec (.tbLoRead m (.dvsec 0x20)) s = .next t ∧ (t.lds.get m).tbLatch = some (s.now / 2 ^ 32) ∧
      t.out = s.out ++ [.dvsec m 0x20 (s.now % 2 ^ 32)] ∧ t = { s with lds := t.lds, out := t.out }) ∧
    (∃ t, exec (.tbLoRead m (.dvsec 0x24)) s = .next t ∧ (t.lds.get m).tbLatch = none ∧
      t.out = s.out ++ [.dvsec m 0x24 ((s.lds.get m).tbLatch.getD (s.now / 2 ^ 32))] ∧ t = { s with lds := t.lds, out := t.out }) ∧
    (∃ t, exec (.tbLoRead m (.dvsec 0x1C)) s = .next t ∧ t.get (F.AQ_DROP_LOG.DROPS m) = 0 ∧
      t.get (F.AQ_DROP_LOG.LOST_READS m) = 0 ∧ t.get (F.AQ_DROP_LOG.LOST_WRITES m) = 0 ∧
      t.out = s.out ++ [.dvsec m 0x1C (dvsecValue s m 0x1C)] ∧ t = { s with regs := t.regs, out := t.out }) ∧
    (∀ (c : Fin 16) (o : Fin 0x3000) (v : BitVec 64),
      exec (.tbLoRead m (.mailbox c o)) s = .next (s.emit (.mailboxPage m c (o.val / 8 * 8) (mailboxWord s m c (o.val / 8 * 8)))) ∧
      exec (.tbLoRead m (.mailboxStore c o v)) s = .next (mailboxStore m c (o.val / 8 * 8) v (wakeRaw 0 s))) ∧
    (s.asleep = false → let w := wakeRaw 0 s
      exec (.tbLoRead m .memoryActive) s = .next (w.emit (.memoryActive m (agentState w m != 3 && !fenced w))) ∧
      (∀ o : BitVec 12, exec (.tbLoRead m (.dmrPage o)) s = .next (w.emit (.dmrPage m (o.toNat / 8 * 8) (dmrPageWord w m o.toNat))) ∧
        exec (.tbLoRead m (.userPage o)) s =
          .next (w.emit (.userPage m (o.toNat / 8 * 8) (userPageWord w m (o.toNat / 8 * 8))))) ∧
      exec (.tbLoRead m .cdat) s = .next (w.emit (.cdat m ((w.lds.get m).extents.map (fun e => (e.dpa, e.gib * 2 ^ 30))))) ∧
      (∀ o, exec (.tbLoRead m (.capability o)) s = .next (w.emit (.capability m o (cxlSupported o))))))

/-- DMR_CTRL_WRITE, DMR_DOORBELL, DESCRIPTOR_FETCH, DM_OPERATION_COMPLETE. Clearing ENABLE of a running ring stops it (STOPPED 1, ENABLE 0, unstarted operations aborted); setting it on a stopped ring starts it from its next slot. A doorbell of software, or through the data-mover page of the LD that owns the ring, sets TAIL and the ring fetches up to it; one through the page of an LD that does not own it only is a wake source. A fetched descriptor that arrived whole becomes the ring's youngest operation; a poisoned one stops the ring. The oldest ended operation with no line outstanding is written back with DONE and HEAD passes what is done. (R62, R105, R109.) -/
def Obligations.DataMoverRings : Prop :=
  (∀ (s : State) (r : Fin 32) (v : BitVec 32), s.flag (F.TIER_DMR_CTRL.ENABLE r) = true → bitOf v.toNat 0 = false →
    bitOf v.toNat 15 = false → ∃ t, exec (.dmrCtrlWrite r v) s = .next t ∧ t.get (F.TIER_DMR_CTRL.ENABLE r) = 0 ∧
      t.get (F.TIER_DMR_CTRL.STOPPED r) = 1 ∧ (∀ o ∈ (t.rings.get r).ops, o.started = true) ∧
      t = { s with regs := t.regs, rings := t.rings }) ∧
  (∀ (s : State) (r : Fin 32) (v : BitVec 32), s.flag (F.TIER_DMR_CTRL.ENABLE r) = false → bitOf v.toNat 0 = true →
    ∃ t u, exec (.dmrCtrlWrite r v) s = .next t ∧ t = fetchRing r (ringSize u r) u ∧ u.get (F.TIER_DMR_CTRL.ENABLE r) = 1 ∧
      u.get (F.TIER_DMR_CTRL.OWNER r) = slice v.toNat 8 6 ∧ u.get (F.TIER_DMR_CTRL.OWNER_MGT r) = slice v.toNat 14 1 ∧
      u = { s with regs := u.regs, rings := u.rings }) ∧
  (∀ (s : State) (r : Fin 32) (tail : BitVec 15), exec (.dmrDoorbell r tail none) s =
    .next (fetchRing r (ringSize (s.put (F.TIER_DMR_TAIL.TAIL r) tail.toNat) r) (s.put (F.TIER_DMR_TAIL.TAIL r) tail.toNat))) ∧
  (∀ (s : State) (r : Fin 32) (tail : BitVec 15) (m : Fin 64), s.coreDown = false → s.asleep = false → ldReached s m = true →
    let w := wakeRaw 0 s
    (ownsRing w m r = true → exec (.dmrDoorbell r tail (some m)) s =
      .next (fetchRing r (ringSize (w.put (F.TIER_DMR_TAIL.TAIL r) tail.toNat) r) (w.put (F.TIER_DMR_TAIL.TAIL r) tail.toNat))) ∧
    (ownsRing w m r = false → exec (.dmrDoorbell r tail (some m)) s = .next w)) ∧
  (∀ (s : State) (r : Fin 32) (d : BitVec 512), (s.rings.get r).got.find? (fun g => g.1 == nextSlot s r) =
      some (nextSlot s r, some d) → ∃ t, exec (.descriptorFetch r) s = .next t ∧
      (t.rings.get r).ops = (s.rings.get r).ops ++ [{ slot := nextSlot s r, desc := descOf d }] ∧ t = { s with rings := t.rings }) ∧
  (∀ (s : State) (r : Fin 32), (s.rings.get r).got.find? (fun g => g.1 == nextSlot s r) = some (nextSlot s r, none) →
    exec (.descriptorFetch r) s = .next (stopRing r s)) ∧
  (∀ (s : State) (r : Fin 32) (o : MoverOp), (s.rings.get r).ops.find? (fun o => o.status.isSome && o.pendingLines == 0 && !o.done)
      = some o → slice o.desc.flags 1 1 = 0 → (∀ p ∈ zeroedPages r o s, pageRoom s p = true) →
    let u := (writeBack r o (setOp r { o with done := true }
      (forAll (zeroedPages r o s) freePage s))).count 0x406 r
    exec (.dmOperationComplete r) s = .next (advanceHead r (u.rings.get r).ops.length u))

/-- DM_COPY, DM_FILL, DM_ZERO, DM_COMPRESS, DM_DECOMPRESS, DM_FENCE, DM_NOP, DM_RESERVED_OPCODE. For each of COPY, FILL, ZERO, COMPRESS, DECOMPRESS, FENCE and NOP: when the oldest operation of the ring that may start has that opcode, fields in range, ranges that the ring maps and no held lease under a management-owned ring, it is marked started and its work begins. An operation with a reserved opcode that may start ends with status REFUSED. With no such operation, nothing changes. (R40, R106, R107, R108, R128, R138.) -/
def Obligations.DataMoverOperations : Prop :=
  (∀ (s : State) (r : Fin 32) (o : MoverOp),
    (MoverStarts s r (· == 1) o → exec (.dmCopy r) s = .next (runOp r o.slot o.desc (setOp r { o with started := true } s))) ∧
    (MoverStarts s r (· == 2) o → exec (.dmFill r) s = .next (runOp r o.slot o.desc (setOp r { o with started := true } s))) ∧
    (MoverStarts s r (· == 3) o → exec (.dmZero r) s = .next (runOp r o.slot o.desc (setOp r { o with started := true } s))) ∧
    (MoverStarts s r (· == 4) o → exec (.dmCompress r) s = .next (runOp r o.slot o.desc (setOp r { o with started := true } s))) ∧
    (MoverStarts s r (· == 5) o → exec (.dmDecompress r) s = .next (runOp r o.slot o.desc (setOp r { o with started := true } s))) ∧
    (MoverStarts s r (· == 0x0F) o → exec (.dmFence r) s = .next (runOp r o.slot o.desc (setOp r { o with started := true } s))) ∧
    (MoverStarts s r (· == 0) o → exec (.dmNop r) s = .next (runOp r o.slot o.desc (setOp r { o with started := true } s)))) ∧
  (∀ (s : State) (r : Fin 32) (o : MoverOp), startable (fun n => decide (5 < n) && n != 0x0F) [] (s.rings.get r).ops = some o →
    5 < o.desc.opcode → o.desc.opcode ≠ 0x0F →
    exec (.dmReservedOpcode r) s = .next (endOp r o.slot 0x0B 0 (setOp r { o with started := true } s))) ∧
  (∀ (s : State) (r : Fin 32), (s.rings.get r).ops = [] → exec (.dmCopy r) s = .next s ∧ exec (.dmFill r) s = .next s ∧
    exec (.dmZero r) s = .next s ∧ exec (.dmCompress r) s = .next s ∧ exec (.dmDecompress r) s = .next s ∧
    exec (.dmFence r) s = .next s ∧ exec (.dmNop r) s = .next s ∧ exec (.dmReservedOpcode r) s = .next s)

/-- For the packet rows (one form for each opcode): a packet that arrives in SL2 or SL3, before the processor runs, behind a packet that came before it or where its channel has no room for another reply waits to be accepted, the last in the order of arrival, with no reply sent and its tag not yet outstanding; in SL2 and SL3 it wakes the device by its path's source. One that can be accepted as it arrives and whose tag is outstanding is answered with BUSY and nothing else; and one that is to be decided here and fails a check of R318 is counted and answered with that check's status, without any effect of its command. (R315, R318, R333, R336, R337.) -/
def Obligations.PacketsTurnedAway : Prop :=
  ∀ r ∈ packetRows, ∀ (s : State) (p : Packet), let q := r.2 p
    (decidesNow q s = false → ∃ t, exec (r.1 p) s = .next t ∧ t = { wakeArrival q s with mgt := t.mgt } ∧
      t.mgt = { s.mgt with arrivals := s.mgt.arrivals ++ [q] } ∧ (s.asleep = false → t = { s with mgt := t.mgt })) ∧
    (decidesNow q s = true → tagHeld q s = true → exec (r.1 p) s =
      .next (sendOn q.path (some q.slot) (.reply q.path q.opcode.toNat q.tag.toNat 0x0D 0 0 []) none s)) ∧
    (∀ v, decidesNow q s = true → tagHeld q s = false → headerFault q = false →
      goesToHead q (decidedIn q s) = false → checkPacket q (decidedIn q s) = some v →
      exec (r.1 p) s = .next (answer q v (decidedIn q s))) ∧
    (decidesNow q s = true → tagHeld q s = false → headerFault q = true →
      exec (r.1 p) s = .next (answer q { status := 0x03 } (decidedIn q s)))

/-- REGION_ALLOC of n regions of class 0 to 2 under an ACTIVE key, with a directory slot for each where the class is shared and the first run of n FREE regions starting at r, is answered OK with r and the member as its result: each region of the run is ALLOCATED, of the class and under the key asked for, with its GEN kept and no walk; every other region's descriptor is unchanged, and so are the frames, and DRAM where no directory slot is zeroed. (R72, R74, R150, R319.) -/
def Obligations.RegionAllocRow : Prop :=
  RowAnswers .regionAlloc (opForm 0x0201)
    (fun p u => p.par 0 2 ≠ 3 ∧ p.par 8 16 ≠ 0 ∧ keyState u (p.par 2 6) = 1 ∧
      (p.par 0 2 = 1 → p.par 8 16 ≤ (slotsFree u).length) ∧
      ∃ r, (List.range u.presented).find? (fun r => runFree u r (p.par 8 16)) = some r)
    (fun p u v t => ∃ r, (List.range u.presented).find? (fun r => runFree u r (p.par 8 16)) = some r ∧
      v = { result := r + ownPath u * 2 ^ 16 } ∧
      (∀ i < p.par 8 16, (t.region (r + i)).state = 1 ∧ (t.region (r + i)).cls = p.par 0 2 ∧
        (t.region (r + i)).key = p.par 2 6 ∧ (t.region (r + i)).gen = (u.region (r + i)).gen ∧
        (t.region (r + i)).walk = false) ∧
      (∀ x, x < r ∨ r + p.par 8 16 ≤ x → t.region x = u.region x) ∧ t.frames = u.frames ∧
      (p.par 0 2 ≠ 1 → t.dram = u.dram))

/-- IDENTIFY, REGION_FREE, REGION_REKEY, REGION_CLASS, EXTENT_SET, EXTENT_CLEAR. IDENTIFY is answered with its values and changes nothing. REGION_FREE of an ALLOCATED region that no extent table maps, with no REGION_FREE or REGION_REKEY running on it, is answered ACCEPTED, and the region is FREEING with its sweep at the start; REGION_REKEY of an ALLOCATED region with GEN below 127, no walk and none waiting is ACCEPTED and its walk waits last. REGION_CLASS of such an ALLOCATED region gives it the class, other regions as before. EXTENT_SET with fields in range, free of overlap and room in the table appends the extent; EXTENT_CLEAR of an extent that no committed decoder covers removes it. (R49, R73, R75, R179, R319, R482.) -/
def Obligations.RegionRows : Prop :=
  RowAnswers .identify (opForm 0x0101) (fun _ _ => True) (fun p u v t => t = u ∧ v.status = 0 ∧ v.later = false ∧
    v.payload = ((Config.identifyLayout (identifyValues p u)).take 4080).map (·.toNat)) ∧
  RowAnswers .regionFree (opForm 0x0202)
    (fun p u => regionHeld u (p.par 0 15) = false ∧ (u.region (p.par 0 15)).state = 1 ∧ regionMapped u (p.par 0 15) = false)
    (fun p u v t => let r := p.par 0 15
      v = { status := 1 } ∧ (t.region r).state = 2 ∧ t.tier.freeing = u.tier.freeing ++ [(r, List.replicate 16 0)] ∧
      (∀ x, x ≠ r → (t.region x).state = (u.region x).state) ∧
      (∃ c, t.mgt.longs = u.mgt.longs ++ [c] ∧ c.opcode = 0x0202 ∧ c.object = r) ∧ t.dram = u.dram) ∧
  RowAnswers .regionRekey (opForm 0x0206)
    (fun p u => let r := p.par 0 15
      regionHeld u r = false ∧ (u.region r).state = 1 ∧ (u.region r).gen ≠ 127 ∧ (u.region r).walk = false ∧
      u.walkQueue.any (fun q => q.region == r) = false)
    (fun p u v t => v = { status := 1 } ∧ t.walkQueue = u.walkQueue ++ [{ region := p.par 0 15, toKey := none }] ∧
      (∃ c, t.mgt.longs = u.mgt.longs ++ [c] ∧ c.opcode = 0x0206 ∧ c.object = p.par 0 15) ∧
      t = { u with walkQueue := t.walkQueue, mgt := t.mgt }) ∧
  RowAnswers .regionClass (opForm 0x0203)
    (fun p u => p.par 16 2 ≠ 3 ∧ regionHeld u (p.par 0 15) = false ∧ (u.region (p.par 0 15)).state = 1 ∧ regionMapped u (p.par 0 15) = false ∧
      (p.par 16 2 = 1 → (slotsFree u).isEmpty = false))
    (fun p u v t => v = {} ∧ (t.region (p.par 0 15)).cls = p.par 16 2 ∧ (t.region (p.par 0 15)).state = 1 ∧
      (t.region (p.par 0 15)).key = (u.region (p.par 0 15)).key ∧ (∀ x, x ≠ p.par 0 15 → t.region x = u.region x) ∧
      ((u.region (p.par 0 15)).cls ≠ 1 → p.par 16 2 ≠ 1 → t.dram = u.dram) ∧ t.frames = u.frames ∧ t.lds = u.lds) ∧
  RowAnswers .extentSet (opForm 0x0204)
    (fun p u => let b := p.bytes; let g := 2 ^ 30
      p.length = 32 ∧ fieldLE b 0 8 < 64 ∧ fieldLE b 8 8 % g = 0 ∧ fieldLE b 16 8 % g = 0 ∧ 0 < fieldLE b 16 8 ∧
      fieldLE b 16 8 ≤ 2 ^ 51 ∧ fieldLE b 24 8 % g = 0 ∧ fieldLE b 24 8 < 2 ^ 51 ∧
      (u.lds.get (fieldLE b 0 8)).extents.any (fun e =>
        decide (e.dpa < fieldLE b 8 8 + fieldLE b 16 8) && decide (fieldLE b 8 8 < e.dpa + e.gib * g)) = false ∧
      (u.lds.get (fieldLE b 0 8)).extents.length < 256 ∧
      badRegion u (fieldLE b 0 8) (fieldLE b 24 8) (fieldLE b 16 8 / g) = none)
    (fun p u v t => let b := p.bytes
      v = {} ∧ (t.lds.get (fieldLE b 0 8)).extents = (u.lds.get (fieldLE b 0 8)).extents ++
        [{ dpa := fieldLE b 8 8, gib := fieldLE b 16 8 / 2 ^ 30, base := fieldLE b 24 8, source := none
           shared := sharedAway u (fieldLE b 24 8) (fieldLE b 16 8 / 2 ^ 30) }] ∧
      (∀ m, m ≠ fieldLE b 0 8 → t.lds.get m = u.lds.get m) ∧ t = { u.farDrawn with lds := t.lds }) ∧
  RowAnswers .extentClear (opForm 0x0205)
    (fun p u => p.length = 8 ∧ ∃ e, (u.lds.get (p.par 0 6)).extents.find? (fun e => e.dpa == fieldLE p.bytes 0 8) = some e ∧
      hdmCovers (u.lds.get (p.par 0 6)) e = false)
    (fun p u v t => v = {} ∧ (∃ e, (u.lds.get (p.par 0 6)).extents.find? (fun e => e.dpa == fieldLE p.bytes 0 8) = some e ∧
        (t.lds.get (p.par 0 6)).extents = eraseFirst (fun x => x == e) (u.lds.get (p.par 0 6)).extents) ∧
      (∀ m, m ≠ p.par 0 6 → t.lds.get m = u.lds.get m) ∧ t = { u with lds := t.lds })

/-- The class of a region is set when the region becomes ALLOCATED: a REGION_ALLOC that is answered OK takes FREE regions to ALLOCATED with the class asked for. A REGION_CLASS that is decided while an extent table of some LD maps the region, with a class in range, is answered with REFUSED and has no effect; one that changes a region's class is answered OK and found the region in no extent table. (R73.) -/
def Obligations.ClassChangeRefused : Prop :=
  (∀ (s : State) (p : Packet), let q := opForm 0x0203 p; let u := decidedIn q s
    PacketRuns s q → q.par 16 2 ≠ 3 → regionMapped u (q.par 0 15) = true →
      exec (.regionClass p) s = .next (if regionHeld u (q.par 0 15) = true then answer q { status := 0x0B, det := detail 4 (q.par 0 15) } u
        else answer q { status := 0x0B, det := detail 1 (q.par 0 15) } u.farDrawn)) ∧
  (∀ (s : State) (p : Packet), let q := opForm 0x0203 p; let u := decidedIn q s
    PacketRuns s q → ∃ v t, exec (.regionClass p) s = .next (answer q v t) ∧
      ((∃ x, (t.region x).cls ≠ (u.region x).cls) → v.status = 0 ∧ regionMapped u (q.par 0 15) = false)) ∧
  (∀ (s : State) (p : Packet), let q := opForm 0x0201 p; let u := decidedIn q s
    PacketRuns s q → ∃ v t, exec (.regionAlloc p) s = .next (answer q v t) ∧
      (v.status = 0 → ∃ r, ∀ i < q.par 8 16, (u.region (r + i)).state = 0 ∧ (t.region (r + i)).state = 1 ∧
        (t.region (r + i)).cls = q.par 0 2))

/-- TIER_PIN of n pages from a 4 KiB aligned base inside the window, all of ALLOCATED regions and within half the T0 budget, sets each page's PIN bit in order and is answered OK; TIER_UNPIN clears them. CHANNEL_EVACUATE of a channel in service whose partner is too, with room for its frames, is ACCEPTED and the evacuation starts; CHANNEL_RETURN of an evacuated channel with the same sound modules is ACCEPTED and the return starts, with the channel out of service and its training and zero-initialisation due again. (R93, R99, R100, R101, R425, R482.) -/
def Obligations.TierPinRows : Prop :=
  (∀ on : Bool, RowAnswers (if on then .tierPin else .tierUnpin) (fun p => opForm 0x0301 (p.withPar 0 1 (bit on)))
    (fun p u => let base := fieldLE p.bytes 0 8; let n := fieldLE p.bytes 8 8
      let w := if u.inClutch then 2 ^ 45 else 2 ^ 51; let first := pageOf (homeAddr u base)
      p.length = 16 ∧ base % 4096 = 0 ∧ base < 2 ^ 51 ∧ n ≠ 0 ∧ base % w + n * 4096 ≤ w ∧
      (∀ r, regionOf first ≤ r → r ≤ regionOf (first + n - 1) → (u.region r).state = 1) ∧
      (on = true → 2 * (u.tier.pinned.length + n) ≤ t0Budget u))
    (fun p u v t => let first := pageOf (homeAddr u (fieldLE p.bytes 0 8))
      v = {} ∧ t = poolChanged (forAll (List.range (fieldLE p.bytes 8 8)) (fun i s => pinPage on (first + i) s) u))) ∧
  RowAnswers .channelEvacuate (opForm 0x0302)
    (fun p u => let c := p.par 0 4
      longRuns u p c = false ∧ channelHeld u 0x0302 c = false ∧ u.get (F.TIER_POOL_STATUS.EVAC c) = 0 ∧
      u.get (F.TIER_POOL_STATUS.EVAC (partner c)) = 0 ∧ evacAllowed u c = true)
    (fun p u v t => let e := startEvacuation (p.par 0 4) u
      v = { status := 1 } ∧ t = (startLong p (p.par 0 4) 0 (if isHead e && 0 < heldSlots e then recallAll (ownPath e) e else e)).2) ∧
  RowAnswers .channelReturn (opForm 0x0303)
    (fun p u => let c := p.par 0 4
      longRuns u p c = false ∧ channelHeld u 0x0303 c = false ∧ u.get (F.TIER_POOL_STATUS.EVAC c) = 2 ∧
      (u.spw.get c).samePart = true ∧ u.flag (F.SPW_SLOT_STATUS.SPD_ERR c) = false)
    (fun p u v t => v = { status := 1 } ∧ t.get (F.TIER_POOL_STATUS.EVAC (p.par 0 4)) = 3 ∧
      t.get (F.DC_CFG.ZEROED (p.par 0 4)) = 0 ∧ t.get (F.DC_CFG.ENABLE (p.par 0 4)) = 0 ∧
      t = (startLong p (p.par 0 4) 0 (startReturn (p.par 0 4) u)).2 ∧ t.dram = u.dram ∧ t.frames = u.frames ∧
      (∀ x, x ≠ p.par 0 4 → t.chans.get x = u.chans.get x))

/-- KEY_LOAD_GENERATE (KEY_LOAD with GENERATE) into an EMPTY slot takes 256 bits of the TRNG; KEY_LOAD_IMPORT, inside an open SPDM session and where KEY_POLICY does not forbid it, it takes the payload's 32 bytes: the slot is ACTIVE with the working key derived for that load, IMPORTED shows which, and the command is answered OK. KEY_RETIRE of an ACTIVE slot to another ACTIVE slot is ACCEPTED: the slot is RETIRING and a key-move walk waits for each ALLOCATED region that names it; with NONE it is accepted where no ALLOCATED region names the slot. The TRNG's values are free values of the model. (R151, R152, R154, R184, R185, R346.) -/
def Obligations.KeyCommands : Prop :=
  RowAnswers .keyLoadGenerate (fun p => opForm 0x0401 (p.withPar 8 1 0))
    (fun p u => p.length = 0 ∧ keyState u (p.par 0 6) = 0)
    (fun p u v t => let k := p.par 0 6
      v = {} ∧ keyState t k = 1 ∧ t.get (F.CRY_KEY_STATUS.IMPORTED k) = 0 ∧
      t = loadKey k (Config.trng u.freeCtr) false u.drawn) ∧
  RowAnswers .keyLoadImport (fun p => opForm 0x0401 (p.withPar 8 1 1))
    (fun p u => p.length = 32 ∧ keyState u (p.par 0 6) = 0 ∧ sessioned p u = true ∧ u.fuseBits 906 1 = 0)
    (fun p u v t => let k := p.par 0 6
      v = {} ∧ keyState t k = 1 ∧ t.get (F.CRY_KEY_STATUS.IMPORTED k) = 1 ∧
      t = loadKey k (BitVec.ofNat 256 (ofBytes p.bytes)) true u) ∧
  RowAnswers .keyRetire (opForm 0x0402)
    (fun p u => let k := p.par 0 6; let j := p.par 8 6
      longRuns u p k = false ∧ keyState u k = 1 ∧ p.par 14 1 = 0 ∧ j ≠ k ∧ keyState u j = 1)
    (fun p u v t => let k := p.par 0 6
      v = { status := 1 } ∧ keyState t k = 2 ∧
      t.walkQueue = u.walkQueue ++ ((u.regions.cells.filter (fun c => c.2.state == 1 && c.2.key == k)).map (·.1)).map
        (fun r => { region := r, toKey := some (p.par 8 6) }) ∧ t = { u with regs := t.regs, walkQueue := t.walkQueue, mgt := t.mgt }) ∧
  RowAnswers .keyRetire (opForm 0x0402)
    (fun p u => let k := p.par 0 6
      longRuns u p k = false ∧ keyState u k = 1 ∧ p.par 14 1 = 1 ∧
      u.regions.cells.any (fun c => c.2.state == 1 && c.2.key == k) = false)
    (fun p u v t => v = { status := 1 } ∧ keyState t (p.par 0 6) = 2 ∧ t = { u with regs := t.regs, mgt := t.mgt })

/-- LEASE_RELEASE, LEASE_KEEP, LEASE_CLEAR_ORPHAN, QOS_CONFIG, ENGINE_SET_ONLINE, ENGINE_SET_OFFLINE, ENGINE_SET_SELFTEST. For a held or breaking lease whose holder the packet may act for, RELEASE releases the lease (a break's holder becomes the breaker, with a new epoch) and KEEP ends a break for the holder; requests that waited go on. LEASE_CLEAR_ORPHAN makes an ORPHANED lease VACANT; the access to the region table is charged. QOS_CONFIG with valid entries that do not raise guarantees past C_CERT queues them for the next refill. ENGINE_SET takes an engine online or offline or starts its self-test, by the operation that the engine's own control register has, where that grants it. (R147, R148, R188, R189, R210, R211, R310.) -/
def Obligations.LeaseQosEngineRows : Prop :=
  (∀ rel : Bool, RowAnswers (if rel then .leaseRelease else .leaseKeep) (fun p => opForm 0x0501 (p.withPar 16 1 (bit rel)))
    (fun p u => let d := u.region (p.par 0 15)
      d.state = 1 ∧ d.cls = 2 ∧ (d.lease = 1 ∨ d.lease = 2) ∧ actsForHolder p u d.holder = true)
    (fun p u v t => let r := p.par 0 15
      v = {} ∧ t = settle (if rel then releaseLease r u else if (u.region r).lease = 2 then keepLease r u else u))) ∧
  RowAnswers .leaseClearOrphan (opForm 0x0502)
    (fun p u => let d := u.region (p.par 0 15); d.state = 1 ∧ d.cls = 2 ∧ d.lease = 3)
    (fun p u v t => let r := p.par 0 15
      v = {} ∧ t.region r = { u.region r with lease := 0, breaker := 0 } ∧ (∀ x, x ≠ r → t.region x = u.region x) ∧
      t = { u with regions := t.regions, masters := t.masters }) ∧
  RowAnswers .qosConfig (opForm 0x0601)
    (fun p u => let l := (chunks 8 510 p.bytes).map qosEntry
      let new (m : Nat) : QosEntry := match l.find? (fun e => e.master == m) with | some e => e | none => qosNow u m
      p.length.toNat % 8 = 0 ∧ qosFaults (chunks 8 510 p.bytes) [] 0x10 = none ∧
      ((∃ m ∈ allMasters, (qosNow u m).g < (new m).g) → sumOf (allMasters.map (fun m => (new m).g)) ≤ u.get F.QOS_CAP.C_CERT) ∧
      64 * sumOf ((List.range 64 ++ [70]).map (fun m => (new m).ncmin)) ≤ 65536)
    (fun p u v t => v = {} ∧ t = { u with qosPending := u.qosPending ++ (chunks 8 510 p.bytes).map qosEntry }) ∧
  (∀ off : Bool, RowAnswers (if off then .engineSetOffline else .engineSetOnline) (fun p => opForm 0x0701 (p.withPar 16 2 (bit off)))
    (fun p u => let n := p.par 8 5
      (p.par 0 1 = 1 → n < 8 ∧ (cryOffline n off u).1 = true) ∧ (p.par 0 1 ≠ 1 → (cmpOffline n off u).1 = true))
    (fun p u v t => v = {} ∧ t = if p.par 0 1 = 1 then (cryOffline (p.par 8 5) off u).2 else (cmpOffline (p.par 8 5) off u).2)) ∧
  RowAnswers .engineSetSelftest (fun p => opForm 0x0701 (p.withPar 16 2 2))
    (fun p u => let n := p.par 8 5
      (p.par 0 1 = 1 → n < 8 ∧ (cryState u n = 2 ∨ cryState u n = 4)) ∧
      (p.par 0 1 ≠ 1 → cmpState u n = 2 ∨ cmpState u n = 4))
    (fun p u v t => let n := p.par 8 5
      v = {} ∧ (p.par 0 1 = 1 → cryState t n = 3) ∧ (p.par 0 1 ≠ 1 → cmpState t n = 3) ∧ t = { u with regs := t.regs })

/-- READ_REG, READ_LOGBOOK, ERR_READ, ERR_CLEAR, PMU_CONFIG, PMU_PLATE, PMU_USER_PAGE_OPEN, PMU_USER_PAGE_CLOSE, MEMBER_JOIN, MEMBER_REMOVE. READ_REG of 1 to 64 words of a block outside the debug window answers the words, and READ_LOGBOOK its bytes, without any change. ERR_READ answers the two latched records and the queue in order and empties the queue; ERR_CLEAR clears the first-error latch, FIRST_VALID and OVERFLOW. PMU_CONFIG with valid entries sets each counter in order; PMU_PLATE takes a plate and answers its number; PMU_USER_PAGE_OPEN and _CLOSE open and close a slot's page. At the top head MEMBER_JOIN sets the member's bit of EXPECT, and MEMBER_REMOVE of a member that may leave is ACCEPTED with the member marked as leaving. (R268, R270, R319, R408, R432, R450, R452, R454.) -/
def Obligations.ReadCommands : Prop :=
  RowAnswers .readReg (opForm 0x0102)
    (fun p _ => let a := p.par 0 32; let n := p.par 32 8
      inDebug a = false ∧ a % 8 = 0 ∧ inBlock a = true ∧ 0 < n ∧ n ≤ 64 ∧ a % 0x10000 + 8 * n ≤ 0x10000)
    (fun p u v t => t = u ∧ v = { payload :=
      ((List.range (p.par 32 8)).map (fun i => toBytes 8 (wordAt u (p.par 0 32 + 8 * i)))).flatten }) ∧
  RowAnswers .readLogbook (opForm 0x0103)
    (fun p _ => p.par 0 32 < 0x100000 ∧ p.par 32 16 ≤ 4080 ∧ p.par 0 32 + p.par 32 16 ≤ 0x100000)
    (fun p u v t => t = u ∧ v = { payload := norRead u (logBase + p.par 0 32) (p.par 32 16) }) ∧
  RowAnswers .errRead (opForm 0x0B01) (fun _ _ => True)
    (fun _ u v t => t.err.queue = [] ∧ t = { u with err := { u.err with queue := [] } } ∧ v.result = u.err.queue.length ∧
      v.payload = errBytes u.err.first ++ errBytes u.err.fatal ++ (u.err.queue.map (fun r => errBytes (some r))).flatten) ∧
  RowAnswers .errClear (opForm 0x0B02) (fun _ _ => True)
    (fun _ u v t => v = {} ∧ t.err = { u.err with first := none } ∧ t.get F.ERR_STATUS.FIRST_VALID = 0 ∧
      t.get F.ERR_STATUS.OVERFLOW = 0 ∧ t = { u with regs := t.regs, err := t.err }) ∧
  RowAnswers .pmuConfig (opForm 0x0A01)
    (fun p _ => p.length.toNat % 16 = 0 ∧ p.length ≠ 0 ∧ pmuFaults (chunks 16 256 p.bytes) [] 0x10 = none)
    (fun p u v t => v = {} ∧
      t = forAll (chunks 16 256 p.bytes) (fun b s => setCounter (fieldLE b 0 2) (fieldLE b 8 8) s) u) ∧
  RowAnswers .pmuPlate (opForm 0x0A02) (fun _ _ => True)
    (fun _ u v t => t = takePlate 1 0 u ∧ v = { result := t.get F.PMU_STATUS.PLATE_NO }) ∧
  (∀ on : Bool, RowAnswers (if on then .pmuUserPageOpen else .pmuUserPageClose) (fun p => opForm 0x0A03 (p.withPar 8 1 (bit on)))
    (fun _ _ => True)
    (fun p u v t => let m := p.par 0 6
      v = {} ∧ (t.lds.get m).userPage = on ∧ t.get (F.AQ_PMU_LOC.OPEN m) = bit on ∧
      (∀ x, x ≠ m → t.lds.get x = u.lds.get x) ∧ t = { u with lds := t.lds, regs := t.regs })) ∧
  RowAnswers .memberJoin (opForm 0x0901) (fun _ u => isHead u = true)
    (fun p u v t => v = {} ∧ t = { u with regs := t.regs } ∧
      t.get F.CLU_EXPECT.EXPECT = setSlice (u.get F.CLU_EXPECT.EXPECT) (p.par 0 6) 1 1 % 2 ^ F.CLU_EXPECT.EXPECT.width) ∧
  RowAnswers .memberRemove (opForm 0x0902)
    (fun p u => longRuns u p (p.par 0 6) = false ∧ isHead u = true ∧ mayRemove u (p.par 0 6) = true)
    (fun p u v t => let m := p.par 0 6
      v = { status := 1 } ∧ t = checkLeaving (recallAll m
        (startLong p m 0 { u.drawn with clu := { u.clu with leaving := u.clu.leaving ++ [m] } }).2))

/-- SET_PL, SLEEP, SLOT_POWER_ON, SLOT_POWER_OFF. SET_PL to the level in force, with no change running, records the request and answers the level; to a faster level it starts the change by raising the voltage, and to a slower one by reserving the next transit: BUSY is set and the reply waits. SLEEP to SL1 takes effect at once; to SL2 in a standalone device with no level change running it shows IN_ENTRY and asks the first block, and its reply waits. SLOT_POWER on of an OFF slot arms it; off of a LATCHED slot returns it to OFF, and of a slot whose channel is evacuated drives its gate off: each is ACCEPTED. (R374, R375, R376, R377, R378, R416, R420.) -/
def Obligations.PowerCommands : Prop :=
  RowAnswers .setPl (opForm 0x0801)
    (fun p u => let n := p.par 0 3
      n ≤ 5 ∧ u.flag F.PWR_PL_STATUS.BUSY = false ∧ max n (u.get F.PWR_PL_STATUS.THERMAL_MIN) = u.get F.PWR_PL_STATUS.CURRENT)
    (fun p u v t => v = { result := u.get F.PWR_PL_STATUS.CURRENT } ∧ t = u.put F.PWR_PL_STATUS.REQUESTED (p.par 0 3)) ∧
  RowAnswers .setPl (opForm 0x0801)
    (fun p u => let w := max (p.par 0 3) (u.get F.PWR_PL_STATUS.THERMAL_MIN)
      p.par 0 3 ≤ 5 ∧ u.flag F.PWR_PL_STATUS.BUSY = false ∧ u.pwr.pl.stage = .idle ∧ u.asleep = false ∧
      w ≠ u.get F.PWR_PL_STATUS.CURRENT)
    (fun p u v t => let w := max (p.par 0 3) (u.get F.PWR_PL_STATUS.THERMAL_MIN)
      v.later = true ∧ t.get F.PWR_PL_STATUS.BUSY = 1 ∧ t.get F.PWR_PL_STATUS.REQUESTED = p.par 0 3 ∧
      t.pwr.pl.target = w ∧ t.pwr.pl.waiting = some p ∧ t.get F.PWR_PL_STATUS.CURRENT = u.get F.PWR_PL_STATUS.CURRENT ∧
      (w < u.get F.PWR_PL_STATUS.CURRENT → t.pwr.pl.stage = .raising ∧ t.out = u.out ++ [.coreVoltage (u.get (F.PWR_PL_CFG.VOLT_MV w))]) ∧
      (u.get F.PWR_PL_STATUS.CURRENT < w → t.pwr.pl.stage = .switching ∧ t.pwr.pl.reserved = some (u.transit + 1) ∧ t.out = u.out)) ∧
  RowAnswers .sleep (opForm 0x0802)
    (fun p u => u.pwr.sleep = none ∧ p.par 0 2 = 1 ∧ u.flag F.PWR_PL_STATUS.BUSY = false)
    (fun _ u v t => v = {} ∧ t = u.put F.PWR_SL_STATUS.STATE 1) ∧
  RowAnswers .sleep (opForm 0x0802)
    (fun p u => u.pwr.sleep = none ∧ p.par 0 2 = 2 ∧ u.get F.CLU_STATUS.STATE = 0 ∧ u.flag F.PWR_PL_STATUS.BUSY = false)
    (fun p u v t => v.later = true ∧ t.get F.PWR_SL_STATUS.IN_ENTRY = 1 ∧
      t.pwr.sleep = some { packet := p, target := 2, from1 := sleepState u == 1, block := 1, since := u.now } ∧
      t = { u with regs := t.regs, pwr := t.pwr }) ∧
  RowAnswers .slotPowerOn (fun p => opForm 0x0803 (p.withPar 8 1 1))
    (fun p u => longRuns u p (p.par 0 4) = false ∧ channelHeld u 0x0803 (p.par 0 4) = false ∧ slotState u (p.par 0 4) = 0)
    (fun p u v t => let c := p.par 0 4
      v = { status := 1 } ∧ (t.spw.get c).armed = true ∧
      t = (startLong p c 1 (tryStart c (setSlot c (fun x => { x with armed := true }) u))).2) ∧
  RowAnswers .slotPowerOff (fun p => opForm 0x0803 (p.withPar 8 1 0))
    (fun p u => longRuns u p (p.par 0 4) = false ∧ channelHeld u 0x0803 (p.par 0 4) = false ∧ slotState u (p.par 0 4) = 6)
    (fun p u v t => v = { status := 1 } ∧ t = (startLong p (p.par 0 4) 0 (slotGo (p.par 0 4) 0 u)).2) ∧
  RowAnswers .slotPowerOff (fun p => opForm 0x0803 (p.withPar 8 1 0))
    (fun p u => let c := p.par 0 4
      longRuns u p c = false ∧ channelHeld u 0x0803 c = false ∧ slotState u c = 4 ∧ u.get (F.TIER_POOL_STATUS.EVAC c) = 2)
    (fun p u v t => let c := p.par 0 4
      v = { status := 1 } ∧ slotState t c = 5 ∧ t.get (F.SPW_SLOT_STATUS.PG c) = 0 ∧ (t.spw.get c).timer = (u.spw.get c).timer)

/-- FW_WRITE, FW_ACTIVATE, FUSE_PROGRAM, DEBUG_UNLOCK_CHALLENGE, DEBUG_UNLOCK_ANSWER, DBG_WRITE. FW_WRITE within the inactive slot, with none running and nothing pending, is queued with the erases of sectors not touched yet, and its reply waits. FW_ACTIVATE of a slot that passes verification writes BOOT_CTRL with the slot pending (or none, for the running slot; in recovery, as the active slot), and is refused for any other. FUSE_PROGRAM of allowed bits, some still 0, hands them to the sequencer with FUSE_BUSY set. A DEBUG_UNLOCK challenge answers a fresh nonce and DEVICE_ID and keeps the nonce; an answer drops the nonce, and one that unlocks zeroizes the keys, resets the crypto block, drops the DIK and opens the lock, where any other is refused and counted. A DBG_WRITE on the open lock writes the register. No fuse changes. (R343, R347, R348, R354, R360, R361, R367, R368, R454.) -/
def Obligations.SecurityCommands : Prop :=
  RowAnswers .fwWrite (opForm 0x0C01)
    (fun p u => u.sec.fw = none ∧ p.par 0 32 + p.bytes.length ≤ 0x800000 ∧ u.sec.ctrl.pending = 0xFF ∧ p.bytes ≠ [])
    (fun p u v t => let a := slotBase (inactiveSlot u) + p.par 0 32
      let touched := (List.range ((a + p.bytes.length - 1) / 0x10000 + 1 - a / 0x10000)).map (· + a / 0x10000)
      let fresh := touched.filter (fun k => !u.sec.erased.contains k)
      v.later = true ∧ t = norQueue
        (fresh.map (fun k => { who := .fwWrite, addr := k * 0x10000, erase := 0x10000 }) ++ pages 18 a p.bytes)
        { u with sec := { u.sec with fw := some (p, 0), erased := u.sec.erased ++ fresh } }) ∧
  RowAnswers .fwActivate (opForm 0x0C02)
    (fun _ u => u.sec.norOps.any (fun o => o.who == .bootCtrl) = false)
    (fun p u v t => if slotPasses u (p.par 0 1) then v = {} ∧ t =
        (if u.flag F.SEC_STATUS.RECOVERY then bctlWrite (p.par 0 1) 0xFF { u with sec := { u.sec with erased := [] } }
         else bctlWrite u.sec.ctrl.active (if p.par 0 1 = u.get F.SEC_STATUS.RUN_SLOT then 0xFF else p.par 0 1)
           { u with sec := { u.sec with erased := [] } })
      else v = (refuseState (p.par 0 1) u).1 ∧ t = u) ∧
  RowAnswers .fuseProgram (opForm 0x0D01)
    (fun p u => u.flag F.SEC_STATUS.FUSE_BUSY = false ∧ p.length ≠ 0 ∧ p.length.toNat % 2 = 0 ∧ p.length.toNat ≤ 128 ∧
      fuseRange u (fuseEntries p) = none ∧ fuseForbidden u (fuseEntries p) = false ∧
      ∃ b ∈ fuseEntries p, u.fuseBits b 1 = 0)
    (fun p u v t => v.later = true ∧ t.get F.SEC_STATUS.FUSE_BUSY = 1 ∧ t.fuses = u.fuses ∧ t.fuseShadow = u.fuseShadow ∧
      (∃ j, t.sec.fuse = some j ∧ j.packet = some p ∧ j.bits = fuseEntries p ∧
        j.left = (fuseEntries p).eraseDups.filter (fun b => u.fuseBits b 1 == 0)) ∧ t = { u with regs := t.regs, sec := t.sec }) ∧
  RowAnswers .debugUnlockChallenge (fun p => opForm 0x0E01 { p with length := 0, payload := [] })
    (fun _ u => u.get F.SEC_STATUS.UNLOCK_FAILS ≠ 3)
    (fun _ u v t => v = { payload := keyBytes (Config.trng u.freeCtr) ++ toBytes 6 (deviceId u) } ∧
      t.sec.challenge = some (Config.trng u.freeCtr, u.now) ∧ t.regs = u.regs ∧ t.fuses = u.fuses) ∧
  RowAnswers .debugUnlockAnswer (opForm 0x0E01)
    (fun p u => u.get F.SEC_STATUS.UNLOCK_FAILS ≠ 3 ∧ p.length = 772)
    (fun p u v t => t.sec.challenge = none ∧ t.fuses = u.fuses ∧
      if unlocks u p.bytes then v = {} ∧ t.get F.SEC_STATUS.DEBUG_OPEN = 1 ∧ t.sec.dik = false ∧ t.keys = {}
      else v = (refuseState 0 u).1 ∧ t.keys = u.keys ∧ t.dram = u.dram ∧
        t.get F.SEC_STATUS.UNLOCK_FAILS = u.get F.SEC_STATUS.UNLOCK_FAILS + 1) ∧
  RowAnswers .dbgWrite (opForm 0x0E02)
    (fun p u => debugOpen p u = true ∧ p.par 0 32 % 4 = 0 ∧ inBlock (p.par 0 32) = true ∧ inDebug (p.par 0 32) = false ∧
      ∃ r i j, regAt (p.par 0 32) = some (r, i, j) ∧ 8 * p.bytes.length = r.width ∧ (r.width = 32 ∨ r.width = 64))
    (fun p u v t => v = {} ∧ t = writeWord (p.par 0 32) (8 * p.bytes.length == 64) (ofBytes p.bytes) u)

/-- For a logical device whose standard commands are served (a command over the host link is an access of wake source 0 first): IDENTIFY_MEMORY_DEVICE, GET_PARTITION_INFO, GET_SUPPORTED_LOGS, GET_LOG, GET_EVENT_INTERRUPT_POLICY, GET_HEALTH_INFO, GET_DC_CONFIGURATION, GET_DC_EXTENT_LIST, GET_LD_INFO and GET_LD_ALLOCATIONS reply with the values the spec names (the payload layouts, the one log and the health values are the CXL standard's: PRESUMED, log entry 140) and change nothing but the reply sent; GET_EVENT_RECORDS delivers the records, CLEAR_EVENT_RECORDS clears the oldest n, SET_EVENT_INTERRUPT_POLICY and SET_TIMESTAMP record their value; SANITIZE and SECURE_ERASE free the regions that only this LD maps; an Add that fits is offered with an event for each extent, one past 256 entries is reported for lack of resources (the offer rides on ADD_DC_RESPONSE: log entry 64), ADD_DC_RESPONSE of offered extents appends them and one of others is answered as invalid, RELEASE_DC of listed extents drops them, and SET_LD_ALLOCATIONS that can be met takes effect. UNSUPPORTED_MAILBOX_OPCODE is answered as unsupported. An FM API command over the sideband in SL2 or SL3 waits. (R47, R50, R51, R58, R59, R320, R333.) -/
def Obligations.StandardCommands : Prop :=
  (∀ (s : State) (m : Fin 64), StdServed s m false 1 → let a := stdArrived s false
    let info (i : Instr) (d : List Nat) : Prop := exec i s = .next (a.emit (.mailbox m .success d))
    info (.identifyMemoryDevice m) [ldBytes a m, 256] ∧ info (.getPartitionInfo m) [ldBytes a m, 0] ∧
    info (.getSupportedLogs m) [4 * supportedOpcodes.length] ∧ info (.getLog m) supportedOpcodes ∧
    info (.getEventInterruptPolicy m) [(a.lds.get m).irqPolicy] ∧ info (.getHealthInfo m) (healthInfo a) ∧
    info (.getDcConfiguration m) [8, 2 ^ 30] ∧
    info (.getDcExtentList m) (((a.lds.get m).extents.map (fun e => match e.source with
      | some d => [d, e.dpa, e.gib * 2 ^ 30, e.tag]
      | none => [])).flatten) ∧
    exec (.getEventRecords m) s =
      .next ((a.emit (.eventRecords m (a.lds.get m).log)).emit (.mailbox m .success [])) ∧
    (∀ n, ∃ t, exec (.clearEventRecords m n) s = .next t ∧ (t.lds.get m).log = (a.lds.get m).log.drop n.toNat ∧
      t = { a with lds := t.lds, out := a.out ++ [.mailbox m .success []] }) ∧
    (∀ v, ∃ t, exec (.setEventInterruptPolicy m v) s = .next t ∧ (t.lds.get m).irqPolicy = v.toNat ∧
      t = { a with lds := t.lds, out := a.out ++ [.mailbox m .success []] }) ∧
    (∀ ns, ∃ t, exec (.setTimestamp m ns) s = .next t ∧ (t.lds.get m).timestamp = ns.toNat ∧ (t.lds.get m).timestampTb = a.now ∧
      t = { a with lds := t.lds, out := a.out ++ [.mailbox m .success []] }) ∧
    (∀ op, op ≠ 0xC000 → exec (.unsupportedMailboxOpcode m op) s = .next (a.emit (.mailbox m .unsupported [])))) ∧
  (∀ (s : State) (m : Fin 64) (sb : Bool), StdServed s m sb 1 → let a := stdArrived s sb; let rep := if sb then 64 else m.val
    exec (.getLdInfo m sb) s = .next (a.emit (.mailbox rep .success [a.presented * 2 ^ 30, (ldsOfLink a m).length])) ∧
    exec (.getLdAllocations m sb) s = .next (a.emit (.mailbox rep .success ((ldsOfLink a m).map (staticGib a))))) ∧
  (∀ (s : State) (m : Fin 64), StdServed s m false 2 →
    let r := sanitizeLd m (stdArrived s false)
    exec (.sanitize m) s = .next (r.2.emit (.mailbox m r.1.code r.1.data)) ∧
    exec (.secureErase m) s = .next (r.2.emit (.mailbox m r.1.code r.1.data))) ∧
  (∀ (s : State) (m : Fin 64) (l : List DcExtent), s.sec.running = true → s.asleep = false →
    let n := (s.lds.get m).extents.length + (s.lds.get m).offers.length + l.length
    (256 < n → exec (.addDcResponse m (.offer l)) s = .next (s.emit (.mailbox 64 .noResources [m]))) ∧
    (n ≤ 256 → l.all (fun x => dcFits s m (dcEntry s x)) = true → exec (.addDcResponse m (.offer l)) s = .next (forAll l
      (fun x => eventTo m { kind := .dynamicCapacity, code := 0, dpa := x.dpa.toNat, detail := x.gib.toNat })
      { s.farDrawn with lds := s.lds.upd m (fun y => { y with offers := y.offers ++ l }) })) ∧
    (n ≤ 256 → l.all (fun x => dcFits s m (dcEntry s x)) = false →
      exec (.addDcResponse m (.offer l)) s = .next (s.farDrawn.emit (.mailbox 64 .refused [m])))) ∧
  (∀ (s t : State) (m : Fin 64) (l : List DcExtent), StdServed s m false 2 → let a := stdArrived s false
    l.all (fun x => (a.lds.get m).offers.contains x) = true → addDc m (l.map (dcEntry a)) a = some t →
    (a.lds.get m).extents.length + l.length ≤ 256 →
    ∃ u, exec (.addDcResponse m (.accept l)) s = .next u ∧ (u.lds.get m).offers = [] ∧
      (u.lds.get m).extents = (a.lds.get m).extents ++ l.map (dcEntry a) ∧ (∀ x : Nat, x ≠ m → u.lds.get x = a.lds.get x) ∧
      u = { a.farDrawn with lds := u.lds, out := a.out ++ [.mailbox m .success []] }) ∧
  (∀ (s : State) (m : Fin 64) (l : List DcExtent), StdServed s m false 2 → let a := stdArrived s false
    l.all (fun x => (a.lds.get m).offers.contains x) = false →
    exec (.addDcResponse m (.accept l)) s = .next (a.emit (.mailbox m .invalid []))) ∧
  (∀ (s : State) (m : Fin 64) (l : List DcExtent), StdServed s m false 2 → let a := stdArrived s false
    (∀ x ∈ l, (dcFind a m x).isSome) →
    exec (.releaseDc m l) s = .next ((forAll l (releaseExtent m) a).emit (.mailbox m .success []))) ∧
  (∀ (s t : State) (m : Fin 64) (sb : Bool) (gib : List (BitVec 22)), StdServed s m sb 2 → let a := stdArrived s sb
    gib.length ≤ (ldsOfLink a m).length → allocLds ((ldsOfLink a m).zip (gib.map (·.toNat))) a = ({}, t) →
    exec (.setLdAllocations m sb gib) s = .next (t.emit (.mailbox (if sb then 64 else m.val) .success []))) ∧
  (∀ (s : State) (m : Fin 64) (gib : List (BitVec 22)), s.asleep = true →
    let waits (i : Instr) : Prop := exec i s = .next { s with mgt := { s.mgt with rows := s.mgt.rows ++ [i] } }
    waits (.getLdInfo m true) ∧ waits (.getLdAllocations m true) ∧ waits (.setLdAllocations m true gib))

/-- GET_POISON_LIST of an LD answers the overflow indication and the listed lines of the range by DPA, and starts the count of new ones again. INJECT_POISON and CLEAR_POISON of an aligned, backed line of an extent whose home this member is enter a full-line write of a poisoned line, or of the line given, as an internal request, and are answered with success. A command that the port authority table denies is answered as denied, and in boot recovery mode every one as unsupported, without any other effect. (R58, R160, R323, R438.) -/
def Obligations.PoisonCommands : Prop :=
  (∀ (s : State) (m : Fin 64) (dpa len : BitVec 64), StdServed s m false 1 → let a := stdArrived s false
    ∃ t, exec (.getPoisonList m dpa len) s = .next t ∧ t.err = { a.err with poisonNew := 0 } ∧
      t = { a with err := t.err, out := a.out ++ [.mailbox m .success
        (bit (decide (256 < a.err.poisonNew)) :: poisonOf a m dpa.toNat len.toNat)] }) ∧
  (∀ (s : State) (m : Fin 64) (dpa : BitVec 64) (line : Line) (e : Extent), StdServed s m false 0x0B → let a := stdArrived s false
    extentAt (a.lds.get m) dpa.toNat = some e → dpa.toNat % 64 = 0 →
    let cpa := lineAddr (e.base + (dpa.toNat - e.dpa))
    backed a m cpa = true → homePath a cpa = a.path →
    let r (d : BitVec 512) (poison : Bool) : Req :=
      { id := 0, src := .internal, intent := .wrNC, addr := lineAddr (homeAddr a cpa), master := hostMaster a m, agent := hanOf a m,
        input := m.val / 16, write := true, data := d, mask := BitVec.allOnes 64, poison := poison, born := a.now }
    exec (.injectPoison m dpa) s = .next ((addReq (r 0 true) a).emit (.mailbox m .success [])) ∧
    exec (.clearPoison m dpa line) s = .next ((addReq (r line false) a).emit (.mailbox m .success []))) ∧
  (∀ (s : State) (m : Fin 64) (dpa : BitVec 64), s.asleep = false → ldReached s m = true → let a := stdArrived s false
    a.sec.running = true →
    (a.flag F.SEC_STATUS.RECOVERY = true → exec (.injectPoison m dpa) s = .next (a.emit (.mailbox m .unsupported [])) ∧
      exec (.sanitize m) s = .next (a.emit (.mailbox m .unsupported [])) ∧
      exec (.identifyMemoryDevice m) s = .next (a.emit (.mailbox m .unsupported []))) ∧
    (a.flag F.SEC_STATUS.RECOVERY = false → denied a 0x0B (m.val / 4) = true →
      exec (.injectPoison m dpa) s = .next (a.emit (.mailbox m .denied []))) ∧
    (a.flag F.SEC_STATUS.RECOVERY = false → denied a 2 (m.val / 4) = true →
      exec (.sanitize m) s = .next (a.emit (.mailbox m .denied []))))

/-- ERROR_RECORD, SRAM_UE, SRAM_SCRUB_STEP, PMU_VALUE_WRITE, PMU_PLATE_WRITE, PERIODIC_PLATE, PMU_UE, COUNTER_WRAP. A record of a defined code reaches the error block with its class and source. An uncorrectable word of a clean metadata line drops the line and logs it; one of a valid near-cache way empties the way. An SRAM scrub step moves the array's pointer on and counts a correction in the slice's CE. PMU_VALUE_WRITE sets the value, VALID and clears OVF; a plate write or a due periodic plate takes a plate; an uncorrectable counter word clears VALID, counts in UE and is logged; an increment past 2^48 of an enabled, unchained counter wraps it and sets OVF. (R428, R429, R430, R433, R439, R440, R446, R447, R450, R443.) -/
def Obligations.ErrorRows : Prop :=
  (∀ (s : State) (code inst : BitVec 8) (f : Bool) (a : BitVec 64) (d : BitVec 32), definedCode code.toNat = true →
    exec (.errorRecord code inst f a d) s = .next (s.logAs (if code.toNat = 0x30 ∧ f = true then 5 else classOf code.toNat)
      (sourceOf code.toNat) code.toNat inst.toNat a.toNat d.toNat)) ∧
  (∀ (s : State) (sl : Fin 16) (kind : Fin 8) (i : BitVec 40) (m : MetaLine), kind.val ≠ 7 →
    metaCached s sl kind i.toNat = some m → m.dirty = false →
    exec (.sramUe sl kind i) s = .next ((metaDrop sl kind i.toNat s).log 0x35 sl)) ∧
  (∀ (s : State) (sl : Fin 16) (i : BitVec 40), let k := sl.val * 2 ^ 16 + i.toNat % 2 ^ 16
    (s.near.get k).valid = true → exec (.sramUe sl 7 i) s = .next ({ s with near := s.near.set k {} }.log 0x35 sl)) ∧
  (∀ (s : State) (sl : Fin 16) (a : Fin 3) (c : Bool), s.asleep = false → ∃ t, exec (.sramScrubStep sl a c) s = .next t ∧
    t.sramAt.get (sl.val * 4 + a.val) = (s.sramAt.get (sl.val * 4 + a.val) + 1) % sramLines a ∧
    (∀ k, k ≠ sl.val * 4 + a.val → t.sramAt.get k = s.sramAt.get k) ∧
    (c = false → t.regs = s.regs) ∧ t = { s with sramAt := t.sramAt, regs := t.regs } ∧
    (c = true → t.get (F.HA_SLICE_STATUS.CE sl) =
      min (2 ^ (F.HA_SLICE_STATUS.CE sl).width - 1) (s.get (F.HA_SLICE_STATUS.CE sl) + 1))) ∧
  (∀ (s : State) (n : Fin 256) (v : BitVec 48), ∃ t, exec (.pmuValueWrite n v) s = .next t ∧
    t.get (F.PMU_CTR_VALUE.VALUE n) = v.toNat ∧ t.get (F.PMU_CTR_VALUE.VALID n) = 1 ∧ t.get (F.PMU_CTR_VALUE.OVF n) = 0 ∧
    t = { s with regs := t.regs }) ∧
  (∀ s : State, exec .pmuPlateWrite s = .next (takePlate 2 0 s)) ∧
  (∀ s : State, s.get F.PMU_CTRL.PERIOD_MS ≠ 0 → s.asleep = false → s.transit % (1000 * s.get F.PMU_CTRL.PERIOD_MS) = 0 →
    exec .periodicPlate s = .next (takePlate 3 0 s)) ∧
  (∀ (s : State) (n : Fin 256), s.flag (F.PMU_CTR_VALUE.VALID n) = true → exec (.pmuUe n) s =
    .next (((s.put (F.PMU_CTR_VALUE.VALID n) 0).bump F.PMU_STATUS.UE).log 0x38 n)) ∧
  (∀ (s : State) (n : Fin 256) (inc : BitVec 48), s.flag (F.PMU_CTR_VALUE.VALID n) = true → s.flag (F.PMU_CTR_CFG.ENABLE n) = true →
    2 ^ 48 ≤ s.get (F.PMU_CTR_VALUE.VALUE n) + inc.toNat → (n.val = 255 ∨ s.get (F.PMU_CTR_CFG.CHAIN (n.val + 1)) = 0) →
    s.flag (F.PMU_CTR_CFG.PLATE_ON_OVF n) = false → ∃ t, exec (.counterWrap n inc) s = .next t ∧
      t.get (F.PMU_CTR_VALUE.VALUE n) = (s.get (F.PMU_CTR_VALUE.VALUE n) + inc.toNat) % 2 ^ 48 ∧
      t.get (F.PMU_CTR_VALUE.OVF n) = 1 ∧ t = { s with regs := t.regs })

/-- With the first-error latch empty, a record of class 2 to 4 is latched with the next sequence number, FIRST_VALID is set and a copy goes to the frame executive. A first fatal record sets FATAL_VALID and VIRAL, is latched and copied to the always-on record, stops every enabled data-mover ring and idles the stitch transmitters: the device is in fatal mode. In fatal mode a further fatal record leaves the latched one as it was. No record changes stored lines, page locations or keys. (R430, R433, R435.) -/
def Obligations.ErrorResponse : Prop :=
  (∀ (s : State) (cls source code inst addr det : Nat), 2 ≤ cls → cls ≤ 4 → s.err.first = none →
    let t := s.logAs cls source code inst addr det
    (∃ r, t.err.first = some r ∧ r.code = code ∧ r.cls = cls ∧ r.source = source ∧ r.inst = inst % 256 ∧ r.addr = addr ∧
      r.detail = det ∧ r.count = 1 ∧ r.seq = s.get F.ERR_STATUS.NEXT_SEQ ∧ t.err.copies = s.err.copies ++ [r]) ∧
    t.get F.ERR_STATUS.FIRST_VALID = 1 ∧ t.err.queue = s.err.queue ∧ t.dram = s.dram ∧ t.regions = s.regions ∧ t.keys = s.keys) ∧
  (∀ (s : State) (source code inst addr det : Nat), s.err.fatal = none →
    let t := s.logAs 5 source code inst addr det
    t.inFatal = true ∧ t.get F.ERR_STATUS.FATAL_VALID = 1 ∧ t.get F.ERR_STATUS.VIRAL = 1 ∧ t.err.aonLast = t.err.fatal ∧
    (∃ r, t.err.fatal = some r ∧ r.code = code ∧ r.cls = 5 ∧ r.seq = s.get F.ERR_STATUS.NEXT_SEQ) ∧ Out.fatalResponse ∈ t.out ∧
    (∀ k < 32, t.flag (F.TIER_DMR_CTRL.ENABLE k) = false) ∧ t.dram = s.dram ∧ t.frames = s.frames ∧ t.keys = s.keys) ∧
  (∀ (s : State) (f : ErrRec) (source code inst addr det : Nat), s.err.fatal = some f →
    (s.logAs 5 source code inst addr det).err.fatal = some f)

/-- PL_VOLTAGE_SETTLED, PL_CLOCK_SWITCH, BLOCK_STOP_COMPLETE, STOP_BUDGET_EXPIRY, WAKE_PIN, WAKE_TIMER, WAKE_MASK_CLEAR, PLL_LOCK, SL_EXIT_COMPLETE, PTM_EXCHANGE, XTAL_TRIM_UPDATE. A settled voltage lets a rising level reserve its transit and ends a falling one; the clock switch in the reserved transit puts the level in force. A block that is done in the stop sequence acts and lets the next be asked, the last ending in the sleep state; one that exceeds its budget refuses. A wake pin and the wake timer fire their sources, a mask ends after 1 s, PLL lock advances an exit, and its end restores links and DRAM and reports SL0. A PTM exchange when due shows source, link and offset, and a trim update when due sets TRIM. (R374, R378, R379, R381, R383, R385, R386, R387, R472, R473.) -/
def Obligations.PowerEvents : Prop :=
  (∀ s : State, s.pwr.pl.stage = .raising → exec .plVoltageSettled s = .next (reserveTransit s)) ∧
  (∀ s : State, s.pwr.pl.stage = .lowering → exec .plVoltageSettled s = .next (finishPl s)) ∧
  (∀ (s : State) (r : Nat), s.pwr.pl.stage = .switching → s.asleep = false → s.pwr.pl.reserved = some r → r ≤ s.transit →
    (s.get F.PWR_PL_STATUS.CURRENT < s.pwr.pl.target → ∃ t, exec .plClockSwitch s = .next t ∧
      t.get F.PWR_PL_STATUS.CURRENT = s.pwr.pl.target % 2 ^ F.PWR_PL_STATUS.CURRENT.width ∧ t.pwr.pl.stage = .lowering ∧
      t = { s with regs := t.regs, pwr := t.pwr, out := t.out }) ∧
    (s.pwr.pl.target ≤ s.get F.PWR_PL_STATUS.CURRENT →
      exec .plClockSwitch s = .next (finishPl (s.put F.PWR_PL_STATUS.CURRENT s.pwr.pl.target)))) ∧
  (∀ (s : State) (x : SleepSt), s.pwr.sleep = some x → blockDone s x.block = true →
    (x.block < 12 → exec .blockStopComplete s = .next (askBlock { x with block := x.block + 1 } (stopAction x.target x.block s))) ∧
    (12 ≤ x.block → exec .blockStopComplete s = .next (enterSleep x (stopAction x.target x.block s)))) ∧
  (∀ (s : State) (x : SleepSt), s.pwr.sleep = some x → x.block ∈ [1, 3, 4, 5, 6, 8, 12] →
    (x.block ≤ 5 → blockDone s x.block = false) →
    blockBudget x.target x.block ≤ s.since x.since → exec .stopBudgetExpiry s = .next (stopRefused x s)) ∧
  (∀ (s : State) (pin : Fin 2), exec (.wakePin pin) s = .next (wakeFrom (4 + pin.val) s)) ∧
  (∀ s : State, let w := s.get F.PWR_WAKE_TIMER.TB
    w ≠ 0 → w ≤ s.now → s.pwr.timerDone ≠ w →
      exec .wakeTimer s = .next (wakeRaw 3 { s with pwr := { s.pwr with timerDone := w } })) ∧
  (∀ (s : State) (src : Fin 10), ∃ t, exec (.wakeMaskClear src) s = .next t ∧
    (∀ m, m ∈ t.pwr.masked ↔ m ∈ s.pwr.masked ∧ ¬ (m.1 = src.val ∧ 1000000000 ≤ s.since m.2)) ∧ t = { s with pwr := t.pwr }) ∧
  (∀ s : State, s.pwr.exiting = some 0 → ∃ t, exec .pllLock s = .next t ∧ t.pwr.exiting = some 1 ∧
    (ptmLink s = none → t.get F.TB_STATUS.COARSE = 0) ∧ t = { s with regs := t.regs, pwr := t.pwr }) ∧
  (∀ (s : State) (ue : Bool), s.pwr.exiting = some 1 →
    let r := if s.get F.PWR_SL_STATUS.STATE = 3 then restore ue s else s
    let a := applyLevel (widenLinks (forAll (List.range 16) leaveSelfRefresh r))
    let b : State := { a with pwr := { a.pwr with exiting := none, latched := false } }
    let c := (b.count 0x002 0 (b.since b.pwr.entryTb)).put F.PWR_SL_STATUS.STATE 0
    exec (.slExitComplete ue) s = .next (settle (releaseIngress (c.log 0x8F 0 0 (c.get F.PWR_WAKE_STATUS.SRC))))) ∧
  (∀ (s : State) (o : Int) (l : Nat), ptmLink s = some l → s.asleep = false →
    (s.time.lastPtm = 0 ∨ s.get F.TB_DISC.INTERVAL_MS * 1000000 ≤ s.since s.time.lastPtm) →
    ∃ t, exec (.ptmExchange o) s = .next t ∧ t.get F.TB_STATUS.SOURCE = 1 ∧
      t.get F.TB_STATUS.PTM_LINK = l % 2 ^ F.TB_STATUS.PTM_LINK.width ∧ t.time.lastPtm = s.now ∧ t.time.link = some l ∧
      t.get F.TB_DISC.OFFSET_NS = ofSigned 32 (saturate 32 o) % 2 ^ F.TB_DISC.OFFSET_NS.width ∧ t = { s with regs := t.regs, time := t.time }) ∧
  (∀ (s : State) (o : Int), ptmLink s = none → exec (.ptmExchange o) s = .next (s.put F.TB_STATUS.SOURCE 0)) ∧
  (∀ (s : State) (v : BitVec 32), s.flag F.TB_STATUS.LOCKED = true → s.asleep = false → 2 ^ 20 * 40 ≤ s.since s.time.trimTb →
    ∃ t, exec (.xtalTrimUpdate v) s = .next t ∧ t.get F.TB_XTAL.TRIM = v.toNat ∧ t.time.trimTb = s.now ∧
      t = { s with regs := t.regs, time := t.time })

/-- INSERTION_DELAY_EXPIRY, SLOT_FULLY_ON, RAMP_TIMEOUT, PG_DELAY_EXPIRY, CURRENT_LIMIT_ONSET, CURRENT_LIMIT_RELEASE, FAULT_TIMER_EXPIRY, SLOT_DOWN_END, PRESENCE_CHANGE, VIN_WINDOW_CHANGE, METER_UPDATE, SPD_READ_START, SPD_READ_COMPLETE. A slot goes DELAY to RAMP after INS_DELAY, to SETTLE when fully on, and to ON with PG after PG_DELAY with no fault timer running; 100 ms in RAMP latches it. A current limit sets LIMITING and TIMER and starts the timer; a release clears them; the timer's expiry latches the slot off. DOWN ends at low VOUT or 150 ms. A presence change is shown and fires wake source 7; a VIN outside the window drops a driven slot. Metering shows the averages and adds the energy; the SPD read begins 10 ms after power-good and ends with the serial numbers and SPD_DONE or SPD_ERR, and with the firmware running starts the channel's training. (R416, R417, R418, R419, R420, R421, R422, R424.) -/
def Obligations.SlotRows : Prop :=
  (∀ (s : State) (c : Fin 16), slotState s c = 1 → s.get (F.SPW_SLOT_CFG.INS_DELAY c) * 10000000 ≤ s.since (s.spw.get c).since →
    exec (.insertionDelayExpiry c) s = .next (slotGo c 2 s)) ∧
  (∀ (s : State) (c : Fin 16), s.flag (F.SPW_SLOT_STATUS.LIMITING c) = false → slotState s c = 2 →
    ∃ t, exec (.slotFullyOn c) s = .next t ∧ slotState t c = 3 ∧ (t.spw.get c).fully = true ∧ (t.spw.get c).since = s.now ∧
      t = { s with regs := t.regs, spw := t.spw }) ∧
  (∀ (s : State) (c : Fin 16), slotState s c = 2 → 100000000 ≤ s.since (s.spw.get c).since →
    exec (.rampTimeout c) s = .next (slotLatch c 2 s)) ∧
  (∀ (s : State) (c : Fin 16), slotState s c = 3 → (s.spw.get c).fully = true → (s.spw.get c).timer = none →
    s.get (F.SPW_SLOT_CFG.PG_DELAY c) * 100000 ≤ s.since (s.spw.get c).since → ∃ t, exec (.pgDelayExpiry c) s = .next t ∧
      slotState t c = 4 ∧ t.get (F.SPW_SLOT_STATUS.PG c) = 1 ∧ t.get (F.SPW_SLOT_STATUS.SPD_ERR c) = 0 ∧
      (t.spw.get c).pgTb = some s.now ∧ (t.spw.get c).armed = false ∧ t = { s with regs := t.regs, spw := t.spw }) ∧
  (∀ (s : State) (c : Fin 16), gateDriven s c = true → s.flag (F.SPW_SLOT_STATUS.LIMITING c) = false →
    ∃ t, exec (.currentLimitOnset c) s = .next t ∧ t.get (F.SPW_SLOT_STATUS.LIMITING c) = 1 ∧
      t.get (F.SPW_SLOT_STATUS.TIMER c) = 1 ∧ (t.spw.get c).timer = some s.now ∧ slotState t c = slotState s c ∧
      t = { s with regs := t.regs, spw := t.spw }) ∧
  (∀ (s : State) (c : Fin 16), s.flag (F.SPW_SLOT_STATUS.LIMITING c) = true →
    ∃ t, exec (.currentLimitRelease c) s = .next t ∧ t.get (F.SPW_SLOT_STATUS.LIMITING c) = 0 ∧
      t.get (F.SPW_SLOT_STATUS.TIMER c) = 0 ∧ (t.spw.get c).timer = none ∧ t = { s with regs := t.regs, spw := t.spw }) ∧
  (∀ (s : State) (c : Fin 16) (a : Nat), (s.spw.get c).timer = some a → gateDriven s c = true →
    s.get (F.SPW_SLOT_CFG.FAULT_T c) * 100000 ≤ s.since a → exec (.faultTimerExpiry c) s = .next (slotLatch c 1 s)) ∧
  (∀ (s : State) (c : Fin 16) (low : Bool), slotState s c = 5 → low = true ∨ 150000000 ≤ s.since (s.spw.get c).since →
    ∃ t, exec (.slotDownEnd c low) s = .next t ∧ slotState t c = 0 ∧ t.get (F.SPW_SLOT_STATUS.TIMER c) = 0 ∧
      t.get (F.SPW_SLOT_STATUS.LIMITING c) = 0 ∧ (t.spw.get c).timer = none ∧ t = { s with regs := t.regs, spw := t.spw }) ∧
  (∀ (s : State) (c : Fin 16) (a b : Bool), (s.flag (F.SPW_SLOT_STATUS.PRSNT0 c) ≠ a ∨ s.flag (F.SPW_SLOT_STATUS.PRSNT1 c) ≠ b) →
    slotState s c = 0 → exec (.presenceChange c a b) s = .next (tryStart c (wakeFrom 7
      ((s.put (F.SPW_SLOT_STATUS.PRSNT0 c) (bit a)).put (F.SPW_SLOT_STATUS.PRSNT1 c) (bit b))))) ∧
  (∀ (s : State) (c : Fin 16) (v : BitVec 16), 10800 < v.toNat → v.toNat < 13200 →
    exec (.vinWindowChange c v) s = .next (tryStart c (setSlot c (fun x => { x with vinOpen := true }) s))) ∧
  (∀ (s : State) (c : Fin 16) (v : BitVec 16), v.toNat < 10500 → gateDriven s c = true →
    exec (.vinWindowChange c v) s = .next (slotDrop c 3 (setSlot c (fun x => { x with vinOpen := false }) s))) ∧
  (∀ (s : State) (c : Fin 16) (i : BitVec 32) (vo vi : BitVec 16) (p e : BitVec 32), ∃ t, exec (.meterUpdate c i vo vi p e) s = .next t ∧
    t.get (F.SPW_SLOT_METER.CURRENT c) = i.toNat % 2 ^ (F.SPW_SLOT_METER.CURRENT c).width ∧
    t.get (F.SPW_SLOT_METER.VIN c) = vi.toNat % 2 ^ (F.SPW_SLOT_METER.VIN c).width ∧
    t.get (F.SPW_SLOT_ENERGY.ENERGY c) =
      (s.get (F.SPW_SLOT_ENERGY.ENERGY c) + e.toNat) % 2 ^ (F.SPW_SLOT_ENERGY.ENERGY c).width ∧ t = { s with regs := t.regs }) ∧
  (∀ (s : State) (c : Fin 16) (a : Nat), (s.spw.get c).pgTb = some a → slotState s c = 4 → 10000000 ≤ s.since a →
    ∃ t, exec (.spdReadStart c) s = .next t ∧ (t.spw.get c).spdBusy = true ∧ (t.spw.get c).pgTb = none ∧
      t = { s with spw := t.spw }) ∧
  (∀ (s : State) (c : Fin 16) (h0 h1 : SpdHub) (same : Bool),
    (s.spw.get c).spdBusy = true → s.flag (F.SPW_SLOT_STATUS.PRSNT0 c) = true → s.flag (F.SPW_SLOT_STATUS.PRSNT1 c) = true →
    ∃ t, exec (.spdReadComplete c (some h0) (some h1) same) s = .next t ∧
      t.get (F.SPW_SLOT_ID.SERIAL0 c) = h0.serial.toNat % 2 ^ (F.SPW_SLOT_ID.SERIAL0 c).width ∧
      t.get (F.SPW_SLOT_ID.SERIAL1 c) = h1.serial.toNat % 2 ^ (F.SPW_SLOT_ID.SERIAL1 c).width ∧
      (t.spw.get c).spdBusy = false ∧ (t.spw.get c).samePart = (h0.crcOk && h1.crcOk && same) ∧
      (h0.crcOk = true ∧ h1.crcOk = true → t.get (F.SPW_SLOT_STATUS.SPD_DONE c) = 1) ∧
      (h0.crcOk = false ∨ h1.crcOk = false → t.get (F.SPW_SLOT_STATUS.SPD_ERR c) = 1) ∧
      (s.sec.running = false → t.chans = s.chans) ∧
      t = { s with regs := t.regs, spw := t.spw, spd := t.spd, chans := t.chans })

/-- A received flit (FLIT_RECEIVED, CTRL_FLIT_RECEIVED) goes through the receiver's checks. In ACTIVE, ACK_TIMER, NAK_RESEND_TIMER and REPLAY_TIMER send an acknowledgement, repeat a NAK, or replay once due; an attempt of 100 us fails (TRAINING_ATTEMPT_TIMEOUT); in SYNC a SYNC is sent every us (SYNC_SEND), and with SYNC and SEEN got the port is ACTIVE and replays (LINK_ACTIVE); a cold one counts flits and scrambles from 0. At SPARE_WINDOW_END the counts of 2^20 flits are judged with the spare free: none noisy, a new window; one, it asks for the spare; more, the spare is bad. LANE_LOCK_LOSS of a lane in use with the spare free asks for the spare; a lane the spare covers changes nothing, another resets the link; the spare's own loss marks it bad, or resets the link where it is in use. SPARE_REQ and SPARE_ACK are taken in ACTIVE, SPARE_REQ_REPEAT asks again after 1 us, and ST_RETRAIN_WRITE resets a port that is not disabled. (R221, R227, R228, R229, R239, R240, R243, R244.) -/
def Obligations.StitchTimers : Prop :=
  (∀ (s : State) (p : Fin 4) (f c : BitVec 576), exec (.flitReceived p f c) s = .next (takeFlit p f c s) ∧
    exec (.ctrlFlitReceived p f c) s = .next (takeFlit p f c s)) ∧
  (∀ (s : State) (p : Fin 4) (a : Nat), portState s p = 6 → (portSt s p).ackTb = some a → 200 ≤ s.since a →
    exec (.ackTimer p) s = .next (sendCtrl p (if (portSt s p).acc = 0 then 0 else 1) 0
      (setPort p (fun x => { x with ackTb := none }) s))) ∧
  (∀ (s : State) (p : Fin 4) (a : Nat), portState s p = 6 → (portSt s p).wait = true → (portSt s p).nakTb = some a → 1000 ≤ s.since a →
    exec (.nakResendTimer p) s = .next (sendNak p s)) ∧
  (∀ (s : State) (p : Fin 4) (a : Nat), portState s p = 6 → (portSt s p).replayTb = some a → 1000 ≤ s.since a →
    exec (.replayTimer p) s = .next (startReplay p s)) ∧
  (∀ (s : State) (p : Fin 4) (a : Nat), 1 ≤ portState s p → portState s p ≤ 5 → (portSt s p).attempt = some a → 100000 ≤ s.since a →
    exec (.trainingAttemptTimeout p) s = .next (leaveActive p s)) ∧
  (∀ (s : State) (p : Fin 4), portState s p = 5 → (∀ a, (portSt s p).lastSync = some a → 1000 ≤ s.since a) →
    exec (.syncSend p) s = .next (setPort p (fun x => { x with lastSync := some s.now })
      (sendCtrl p (4 + 32 * bit (portSt s p).syncGot) 0 s))) ∧
  (∀ (s : State) (p : Fin 4), portState s p = 5 → (portSt s p).syncGot = true → (portSt s p).seenGot = true →
    let a := s.put (F.ST_PORT_STATUS.STATE p) 6
    let b := if (portSt s p).cold = true then setPort p (fun x => { x with
      txCount := 0, rxCount := 0, scramble := List.replicate 8 0 }) a else a
    exec (.linkActive p) s = .next (pump (resendAll p (setPort p (fun x => { x with
      cold := false, leftActive := none, down := false, attempt := none }) b)))) ∧
  (∀ (s : State) (p : Fin 4), 2 ^ 20 ≤ (portSt s p).window → spareFree s p = true →
    let t := forAll (List.range 8) (fun l s => s.put (F.ST_PORT_LANEERR.LANE p l) 0) (setPort p (fun x => { x with window := 0 }) s)
    (noisyLanes s p = [] → exec (.spareWindowEnd p) s = .next t) ∧
    (∀ l, noisyLanes s p = [l] → exec (.spareWindowEnd p) s = .next (failLane p l t)) ∧
    (2 ≤ (noisyLanes s p).length → exec (.spareWindowEnd p) s = .next (t.put (F.ST_PORT_STATUS.SPARE_BAD p) 1))) ∧
  (∀ (s : State) (p : Fin 4) (l : Fin 9), portState s p = 6 → l.val < 8 → l.val < laneCount s p →
    (spareFree s p = true → exec (.laneLockLoss p l) s = .next (failLane p l s)) ∧
    (spareFree s p = false → ((portSt s p).spareReq = some l.val ∨ (portSt s p).rxSpare = some l.val) →
      exec (.laneLockLoss p l) s = .next s) ∧
    (spareFree s p = false → (portSt s p).spareReq ≠ some l.val → (portSt s p).rxSpare ≠ some l.val →
      exec (.laneLockLoss p l) s = .next (linkReset p s))) ∧
  (∀ (s : State) (p : Fin 4), portState s p = 6 → (portSt s p).spare.isSome = true →
    (((portSt s p).rxSpare.isSome || (portSt s p).spareReq.isSome) = true → exec (.laneLockLoss p 8) s = .next (linkReset p s)) ∧
    ((portSt s p).rxSpare = none → (portSt s p).spareReq = none →
      ∃ t, exec (.laneLockLoss p 8) s = .next t ∧ t.get (F.ST_PORT_STATUS.SPARE_BAD p) = 1 ∧ t = { s with regs := t.regs })) ∧
  (∀ (s : State) (p : Fin 4) (l : Fin 8), portState s p = 6 → exec (.spareReq p l) s = .next (takeSpareReq p l s) ∧
    exec (.spareAck p l) s = .next (takeSpareAck p l s)) ∧
  (∀ (s : State) (p : Fin 4) (l : Nat), portState s p = 6 → (portSt s p).spareReq = some l → 1000 ≤ s.since (portSt s p).spareReqTb →
    exec (.spareReqRepeat p) s = .next (failLane p l s)) ∧
  (∀ (s : State) (p : Fin 4), s.flag (F.ST_PORT_CTRL.DISABLE p) = false → exec (.stRetrainWrite p) s = .next (linkReset p s))

/-- A request at the front of a port's REQ buffer with all its beats is taken; for this member ST_RD, ST_WR and ST_WR_PTL enter the home slice, SPILL_PUT, SPILL_GET and SPILL_FREE act on the slots held here, and ST_CMD is accepted or passed to the top head; for another member it is forwarded. SNP_INV and SNP_DATA start snoops; ST_CMP, SNP_RSP and CMD_RSP complete the transaction they answer, in the order their beats come; ST_UNDEFINED_OPCODE refuses the first such message of REQ, RSP or SNP. TRAINING_BLOCK_RECEIVED takes a block, ST_PORT_RESET_WRITE starts the link cold and ends its transactions, and ST_DISABLE_WRITE shows in its register and takes the port out of ACTIVE. (R234, R236, R239, R248, R250, R251, R257, R259, R260, R261, R262.) -/
def Obligations.StitchMessages : Prop :=
  (∀ (s u : State) (p : Fin 4) (m n : StMsg), nextMsg (portSt s p) 0 = some m → takeHead p 0 s = some (n, u) →
    let to_ (i : Instr) (act : State) : Prop := exec i s = .next (pump (settle (if mine u n then act else forwardMsg p n u)))
    (m.opcode = 1 → to_ (.stRd p) (servePeer p n false 0 u)) ∧
    (m.opcode = 2 → to_ (.stWr p) (servePeer p n true (BitVec.allOnes 64) u)) ∧
    (m.opcode = 3 → to_ (.stWrPtl p) (servePeer p n true n.mask u)) ∧
    (m.opcode = 4 → to_ (.spillPut p) (holdSpill p n u)) ∧ (m.opcode = 5 → to_ (.spillGet p) (giveSpill p n u)) ∧
    (m.opcode = 6 → to_ (.spillFree p) (dropSpill p n u)) ∧ (m.opcode = 7 → to_ (.stCmd p) (takeCmd p n u))) ∧
  (∀ (s u : State) (p : Fin 4) (m n : StMsg), nextMsg (portSt s p) 3 = some m → takeHead p 3 s = some (n, u) →
    let to_ (i : Instr) : Prop := exec i s = .next (pump (settle (if mine u n then takeSnoop p n u else forwardMsg p n u)))
    (m.opcode = 0x41 → to_ (.snpInv p)) ∧ (m.opcode = 0x42 → to_ (.snpData p))) ∧
  (∀ (s u : State) (p : Fin 4) (m n : StMsg), nextMsg (portSt s p) 1 = some m → takeHead p 1 s = some (n, u) →
    let to_ (i : Instr) (act : State) : Prop := exec i s = .next (tryHeld (pump (settle act)))
    (m.opcode = 0x21 → to_ (.stCmp p) (takeCmp p n u)) ∧ (m.opcode = 0x22 → to_ (.snpRsp p) (takeSnpRsp p n u)) ∧
    (m.opcode = 0x23 → to_ (.cmdRsp p) (takeCmdRsp p n u))) ∧
  (∀ (s u : State) (p : Fin 4) (v : Nat) (m n : StMsg), v ∈ [0, 1, 3] → nextMsg (portSt s p) v = some m → definedOp v m = false →
    (∀ w ∈ [0, 1, 3], w < v → ∀ x, nextMsg (portSt s p) w = some x → definedOp w x = true) → takeHead p v s = some (n, u) →
    exec (.stUndefinedOpcode p) s = .next (pump (settle (sendCmp p n.tag.toNat n.src.toNat 0x0B 0 0 [] u)))) ∧
  (∀ (s : State) (p : Fin 4) (l : Fin 9) (d : BitVec 9) (b : BitVec 576) (a : Bool),
    let t := trainingBlockIn p l d b a s
    ((portSt t p).cold = false ∨ (portSt s p).cold = true → exec (.trainingBlockReceived p l d b a) s = .next (pump t)) ∧
    ((portSt t p).cold = true → (portSt s p).cold = false →
      exec (.trainingBlockReceived p l d b a) s = .next (pump (endPortOpens p t)))) ∧
  (∀ (s : State) (p : Fin 4), exec (.stPortResetWrite p) s = .next (pump (endPortOpens p (coldStart p
    (forAll ((List.range 15).filter (fun c => chanKind s c == 2)) farEndReset s))))) ∧
  (∀ (s : State) (p : Fin 4), exec (.stDisableWrite p true) s = .next (leaveActive p (s.put (F.ST_PORT_CTRL.DISABLE p) 1)) ∧
    ∃ t, exec (.stDisableWrite p false) s = .next t ∧ t.get (F.ST_PORT_CTRL.DISABLE p) = 0 ∧ t = { s with regs := t.regs })

/-- A clutch control message at the front of a port's buffer that has not been seen and is not this member's own is answered with CMP, remembered and forwarded on the other ACTIVE ports; where it names this member or all, HELLO, ROSTER, ROUTE_SET, HOLD, HELD, LINK_DOWN, CLAIM, LEVEL, RECALL_LEASES and LEAVE take their effect, and RESUME of the present epoch ends the hold. A message seen before, or this member's own, is answered and goes no further. (R253, R254, R255, R256, R263, R264, R269, R270.) -/
def Obligations.ClutchMessages : Prop :=
  (∀ (s u : State) (p : Fin 4) (h m : StMsg) (act : StMsg → State → State) (i : Instr) (op : Nat),
    (i, op, act) ∈ [(Instr.hello p, 1, takeHello), (.roster p, 2, takeRoster),
      (.routeSet p, 3, fun m s => showLinks (applyRoutes (toBytes 64 (m.beats.getD 0 (byteBeat [])).data.toNat) s)),
      (.hold p, 4, fun m s => beginHold m.src.toNat (goingOn m.src.toNat s) s),
      (.held p, 5, fun m s => checkHeld { s with clu := { s.clu with heldFrom := m.src.toNat :: s.clu.heldFrom } }),
      (.resume p, 6, fun m s => if slice m.arg.toNat 8 24 = s.get F.CLU_STATUS.EPOCH % 2 ^ 24 then
        pump { s with clu := { s.clu with hold := false, heldSent := false } } else s),
      (.linkDown p, 7, fun m s => addReport m.src.toNat (slice m.arg.toNat 8 2) (slice m.arg.toNat 16 6) s),
      (.claim p, 8, fun m s => { s with clu := { s.clu with claims := m.src.toNat :: s.clu.claims } }),
      (.level p, 9, fun m s => checkLeaving { s with
        levels := s.levels.set m.src.toNat (some (slice m.arg.toNat 8 2, slice m.arg.toNat 10 22)),
        clu := { s.clu with
          totals := cellInsert m.src.toNat (max (slice m.arg.toNat 10 22) ((cellFind m.src.toNat s.clu.totals).getD 0)) s.clu.totals } }),
      (.recallLeases p, 10, fun m s => recallFrom (slice m.arg.toNat 16 6) s),
      (.leave p, 11, fun m s =>
        if slice m.arg.toNat 16 6 = ownPath s then { s with clu := { s.clu with left := true } } else s)] →
    nextMsg (portSt s p) 0 = some h → h.opcode = 8 → h.arg.toNat % 256 = op → takeHead p 0 s = some (m, u) →
    let a := sendCmp p m.tag.toNat m.src.toNat 0 0 0 [] u
    let n := m.mask.toNat % 2 ^ 32
    (a.clu.seen.contains (m.src.toNat, n) = true ∨ m.src.toNat = ownPath a → exec i s = .next (pump (settle a))) ∧
    (a.clu.seen.contains (m.src.toNat, n) = false → m.src.toNat ≠ ownPath a →
      let f := floodOut (some p) m { a with clu := { a.clu with seen := remember m.src.toNat n a.clu.seen } }
      (slice m.mask.toNat 32 1 = 1 ∨ m.dst.toNat = ownPath f → exec i s = .next (pump (settle (act m f)))) ∧
      (slice m.mask.toNat 32 1 = 0 → m.dst.toNat ≠ ownPath f → exec i s = .next (pump (settle f)))))

/-- HELLO_TIMER: a configured member that is not fenced floods HELLO when due. HEAD_ELECTION: the lowest path elects itself when the settle time is over. FORMATION_DEADLINE: more than half of those expected form a degraded clutch, fewer are logged once. ROSTER_HEARTBEAT: the top head floods its roster when due. FAILURE_DECISION: on a link report that has settled it goes on with a majority of survivors or fences itself. HEARTBEAT_LOSS: a member that misses heartbeats claims. CLAIM_SETTLE: a claim that settles defers to a lower claimant, fences, or becomes the change of a new top head. DEFERRED_CLAIM_TIMEOUT: a deferred claim that times out fences. STITCH_DOWN: a port out of ACTIVE for DOWN_US, or with 8 link resets in the last 1000000 transits, is reported down once. (R241, R253, R255, R256, R264, R265.) -/
def Obligations.ClutchTimers : Prop :=
  (∀ s : State, s.inClutch = true → fenced s = false → (∀ a, s.clu.helloTransit = some a → a + 1000 ≤ s.transit) →
    let b := beginForming { s with clu := { s.clu with helloTransit := some s.transit } }
    exec .helloTimer s = .next (flood 1 0 none [helloBeat (ownHello b)] b)) ∧
  (∀ (s : State) (a : Nat), s.clu.beganTb = some a → s.get F.CLU_CFG.SETTLE_MS * 1000000 ≤ s.since a → s.get F.CLU_STATUS.STATE = 1 →
    s.clu.rosterSeen = false → s.clu.headTb = none → (∀ h ∈ s.clu.hellos, ownPath s ≤ h.path) →
    let b : State := { s.put F.CLU_STATUS.HEAD (ownPath s) with clu := { s.clu with headTb := some s.now } }
    exec .headElection s = .next (tryForm (forAll (b.clu.hellos.filter (fun h => !admits b h)) (fun h s => s.log 0x47 0 0 h.path) b))) ∧
  (∀ (s : State) (a : Nat), s.clu.headTb = some a → s.get F.CLU_STATUS.STATE = 1 → s.clu.formFailed = false → 2000000000 ≤ s.since a →
    let m := formers s &&& s.get F.CLU_EXPECT.EXPECT
    exec .formationDeadline s = .next (if popCount (s.get F.CLU_EXPECT.EXPECT) < 2 * popCount m then makeChange m 0 3 false s
      else { s with clu := { s.clu with formFailed := true } }.log 0x45 0)) ∧
  (∀ s : State, isHead s = true → (∀ a, s.clu.rosterTransit = some a → a + 1000 ≤ s.transit) →
    let b : State := { s with clu := { s.clu with rosterTransit := some s.transit, heardTb := s.now } }
    exec .rosterHeartbeat s = .next (flood 2 0 none (rosterBeats (ownRoster b)) b)) ∧
  (∀ (s : State) (a : Nat), s.clu.linkTb = some a → isHead s = true → s.get F.CLU_CFG.SETTLE_MS * 1000000 ≤ s.since a →
    let m := survivors s (ownPath s)
    let b : State := { s with clu := { s.clu with linkTb := none } }
    (bitOf m (ownPath s) = true → majority b m = true → exec .failureDecision s = .next (startChange m (s.get F.CLU_FAILED.MAP |||
      ofBits ((List.range 64).map (fun p => bitOf (s.get F.CLU_ROSTER.MAP) p && !bitOf m p))) 3 b)) ∧
    (bitOf m (ownPath s) = false ∨ majority b m = false → exec .failureDecision s = .next (fence b))) ∧
  (∀ s : State, (s.get F.CLU_STATUS.STATE = 2 ∨ s.get F.CLU_STATUS.STATE = 3) → isHead s = false → s.clu.claimTb = none →
    s.clu.deferTb = none → s.get F.CLU_CFG.HEAD_MS * 1000000 ≤ s.since s.clu.heardTb →
    exec .heartbeatLoss s = .next (flood 8 (s.get F.CLU_STATUS.EPOCH) none []
      { s with clu := { s.clu with claimTb := some s.now } })) ∧
  (∀ (s : State) (a : Nat), s.clu.claimTb = some a → s.get F.CLU_CFG.SETTLE_MS * 1000000 ≤ s.since a →
    let m := ofBits ((List.range 64).map (fun p => bitOf (s.get F.CLU_ROSTER.MAP) p && p != s.get F.CLU_STATUS.HEAD
      && (p == ownPath s || s.clu.claims.contains p)))
    let b : State := { s with clu := { s.clu with claimTb := none } }
    ((∃ p ∈ s.clu.claims, p < ownPath s) → exec .claimSettle s = .next { s with clu := { b.clu with deferTb := some s.now } }) ∧
    ((∀ p ∈ s.clu.claims, ownPath s ≤ p) → majority b m = false → exec .claimSettle s = .next (fence b)) ∧
    ((∀ p ∈ s.clu.claims, ownPath s ≤ p) → majority b m = true → exec .claimSettle s = .next ((startChange m (s.get F.CLU_FAILED.MAP |||
      ofBits ((List.range 64).map (fun p => bitOf (s.get F.CLU_ROSTER.MAP) p && !bitOf m p))) 3 b).put F.CLU_STATUS.HEAD (ownPath s)))) ∧
  (∀ (s : State) (a : Nat), s.clu.deferTb = some a → s.get F.CLU_CFG.HEAD_MS * 1000000 ≤ s.since a →
    exec .deferredClaimTimeout s = .next (fence s)) ∧
  (∀ (s : State) (p : Fin 4), (portSt s p).down = false →
    ((∃ a, (portSt s p).leftActive = some a ∧ portState s p ≠ 6 ∧ s.get (F.ST_PORT_CFG.DOWN_US p) * 1000 ≤ s.since a) ∨
      8 ≤ ((portSt s p).resets.filter (fun t => decide (s.transit < t + 1000000))).length) →
    let b := (setPort p (fun x => { x with down := true }) s).log 0x42 p
    (b.inClutch = false → exec (.stitchDown p) s = .next b) ∧
    (b.inClutch = true → let q := match b.clu.hellos.find? (fun h => h.id == b.get (F.ST_PORT_STATUS.PEER_ID p)) with
        | some h => h.path
        | none => 0
      exec (.stitchDown p) s = .next (addReport (ownPath b) p q (flood 7 (p.val + q * 2 ^ 8) none [] b))))

/-- SURVEY_SUBROUND, where its unit has been released, shows the sample's value (a failed reading the code for none, a reserved channel 0, a slot's power from its meter) and clears STALE; a channel not sampled is STALE. THERMAL_MODEL_UPDATE, released, takes the reference, updates the zones and the cap, and trips at SHUT_C. REF_COMPARATOR_TRIP at REF_SHUT_C trips the device; a trip of a device that has not tripped takes the core rails and every key away. Planning a level never lowers its voltage. REMARGIN_PASS_START, when due, starts a pass at the first target that is not skipped, and REMARGINING_QUANTUM of the target whose unit was released records its margins and goes on to the next. RO_DAY, when due, records the ageing, plans every level and records the plan. How quotients truncate is the model's choice (log entry 49). (R389, R390, R391, R393, R399, R400, R404, R405, R406, R413.) -/
def Obligations.ThermalRows : Prop :=
  (∀ (s : State) (k : Fin 64) (v : Option (BitVec 24)) (ok : Bool), unitWaits s 0x0B k = true → sampled s k = true →
    ∃ t, exec (.surveySubround k v ok) s = .next t ∧ t.get (F.HK_SURVEY.STALE k) = 0 ∧ (k = 0 → t.thm.selfCheck = ok) ∧
      t.get (F.HK_SURVEY.VALUE k) = (if (12 ≤ k.val ∧ k.val ≤ 15) ∨ 61 ≤ k.val then 0
        else if 45 ≤ k.val then s.get (F.SPW_SLOT_POWER.POWER (k.val - 45))
        else match v with | some x => x.toNat | none => 0x800000) % 2 ^ (F.HK_SURVEY.VALUE k).width ∧
      t = { s with jobs := t.jobs, regs := t.regs, thm := t.thm }) ∧
  (∀ (s : State) (k : Fin 64) (v : Option (BitVec 24)) (ok : Bool), unitWaits s 0x0B k = true → sampled s k = false →
    exec (.surveySubround k v ok) s = .next ((jobDone 0x0B k s).put (F.HK_SURVEY.STALE k) 1)) ∧
  (∀ s : State, unitWaits s 0x0C 0 = true → let j := jobDone 0x0C 0 s
    let r := takeRef j
    let a : State := { r.2.2 with thm := { r.2.2.thm with dt := (List.range 12).map (nextDt r.2.2) } }
    let b := applyCap r.2.1 (warnControl (capControl (showZones r.1 a)))
    let c := if 16 * (b.get F.THM_CFG.SHUT_C : Int) ≤ tjMax b then trip 1 (b.get F.THM_STATUS.TJ_MAX) (b.get F.THM_STATUS.HOT_ZONE) b else b
    exec .thermalModelUpdate s = .next (if c.asleep then c else issueNor c)) ∧
  (∀ (s : State) (c : BitVec 16), 16 * (s.get F.THM_CFG.REF_SHUT_C : Int) ≤ toSigned 16 c.toNat →
    exec (.refComparatorTrip c) s = .next (trip 2 c.toNat 0 s)) ∧
  (∀ (s : State) (cause temp zone : Nat), s.thm.tripped = false → let t := trip cause temp zone s
    t.pwr.railsOff = true ∧ t.keys = {} ∧ t.salt = 0 ∧ t.kint = 0 ∧ t.roots = {} ∧ t.out.getLast? = some (.rails false)) ∧
  (∀ (s : State) (a n : Nat), n < 6 → s.get (F.PWR_PL_CFG.VOLT_MV n) < 2 ^ (F.PWR_PL_CFG.VOLT_MV n).width →
    s.get (F.PWR_PL_CFG.VOLT_MV n) ≤ (planLevel a n s).get (F.PWR_PL_CFG.VOLT_MV n)) ∧
  (∀ s : State, s.flag F.HK_REMARGIN_CFG.ENABLE = true → s.hk.target = none → s.asleep = false →
    s.get F.HK_REMARGIN_CFG.PERIOD_S * 1000000000 ≤ s.since s.hk.passTb →
    exec .remarginPassStart s = .next (releaseTarget 40 0 ({ s with hk := { s.hk with passTb := s.now } }.put F.HK_REMARGIN_STATUS.BUSY 1))) ∧
  (∀ (s : State) (eyes : List (Vector LaneEye 40)) (steps : List (Byte × Byte)) (x : Nat), s.hk.target = some x →
    unitWaits s 0x10 x = true → exec (.remarginingQuantum eyes steps) s = .next (releaseTarget 40 (x + 1)
      (if x < 16 then channelMargin x ((eyes.take 16).map (·.toList)).flatten (jobDone 0x10 x s)
        else serdesMargin x (steps.take 9) (jobDone 0x10 x s)))) ∧
  (∀ (s : State) (az : Vector (BitVec 16) 12), s.asleep = false → s.sec.applied = true → 86400000000000 ≤ s.since s.hk.dayTb →
    let l := az.toList.map (·.toNat)
    let a := l.foldl max 0
    let b := (logRecord 1 0 (padTo 24 (l.map (toBytes 2)).flatten ++ toBytes 4 a)
      { s with hk := { s.hk with dayTb := s.now } }).put F.HK_AGE.A_PPM a
    let c := forAll (List.range 6) (planLevel a) b
    exec (.roDay az) s = .next (logRecord 6 0 (planRecord c) c))

/-- FUSE_BIT_PROGRAM: in the temperature window, or where the bit was half blown at a management reset, the sequencer's next bit, blown in one or both fuses of its pair, reads 1 from then on and the job goes on; outside the window a packet's job stops with a temperature status. TRIAL_CONFIRM: a trial that has run 1000 slots is confirmed by a write of BOOT_CTRL where none is under way. A responder that is reached and answers, with its identity key, gives its chain (SPDM_GET_CERTIFICATE), signs challenges (SPDM_CHALLENGE) and measurements (SPDM_GET_MEASUREMENTS), opens one of 4 sessions (SPDM_KEY_EXCHANGE), and acknowledges SPDM_KEY_UPDATE and SPDM_HEARTBEAT inside an open session; a session that ends is free (SPDM_SESSION_END). IDE_KM over an open session gives the link its key; a link that was insecure sends its held snoops again. Signatures and session numbers are free values of the model. (R55, R348, R349, R352, R359, R363, R364, R365, R366.) -/
def Obligations.SecurityEvents : Prop :=
  (∀ (s : State) (j : FuseJob) (b : Nat) (rest : List Nat) (r : Fin 3), s.sec.fuse = some j → j.left = b :: rest →
    j.packet = none ∨ tjInWindow s = true →
    let u := if r.val = 2 then s.log 0x60 0 0 b else if r.val = 1 then (blow b s).put F.SEC_STATUS.FUSE_WEAK 1 else blow b s
    (rest = [] → exec (.fuseBitProgram r) s = .next (fuseStop j 0 (fuseOnes u j.bits) u)) ∧
    (rest ≠ [] → exec (.fuseBitProgram r) s = .next { u with sec := { u.sec with fuse := some { j with left := rest } } })) ∧
  (∀ (s : State) (b : Nat), b < 2048 → b < 906 ∨ 921 < b → let u := blow b s
    u.fuses.getLsbD b = true ∧ u.fuseShadow.getLsbD b = true ∧ (∀ i, i ≠ b → u.fuses.getLsbD i = s.fuses.getLsbD i) ∧
    u = { s with fuses := u.fuses, fuseShadow := u.fuseShadow }) ∧
  (∀ (s : State) (j : FuseJob) (b : Nat) (rest : List Nat) (r : Fin 3), s.sec.fuse = some j → j.left = b :: rest →
    j.packet.isSome = true → tjInWindow s = false → exec (.fuseBitProgram r) s = .next (fuseStop j 0x0C (fuseOnes s j.bits) s)) ∧
  (∀ s : State, s.sec.running = true → s.sec.applied = true → s.sec.ctrl.pending = s.get F.SEC_STATUS.RUN_SLOT →
    1000 ≤ s.sec.trialSlots → s.inFatal = false → s.sec.confirming = false →
    s.sec.norOps.any (fun o => o.who == .bootCtrl) = false → exec .trialConfirm s =
      .next (bctlWrite (s.get F.SEC_STATUS.RUN_SLOT) 0xFF { s with sec := { s.sec with confirming := true } })) ∧
  (∀ (s : State) (x : Fin 65), s.asleep = false → (x.val ≠ 64 → s.coreDown = false ∧ ldReached s x = true) →
    (x.val = 64 → s.mgt.rows = []) → let a := stdArrived s (x.val == 64)
    spdmAnswers a x = true →
    exec (.spdmGetCertificate x 0) s = .next (a.emit (.spdm x (.certificate (certificateChain a)))) ∧
    (∀ i : BitVec 8, 1 ≤ i.toNat → i.toNat ≤ 6 → exec (.spdmGetMeasurements x i false) s =
      .next (a.emit (.spdm x (.measurements [(i.toNat, measurement a i.toNat)] none)))) ∧
    exec (.spdmGetMeasurements x 0xFF false) s =
      .next (a.emit (.spdm x (.measurements ([1, 2, 3, 4, 5, 6].map (fun k => (k, measurement a k))) none))) ∧
    (∀ n : BitVec 16, (a.sec.sessions.get x).contains n.toNat = true →
      exec (.spdmKeyUpdate x n) s = .next (a.emit (.spdm x .ack)) ∧ exec (.spdmHeartbeat x n) s = .next (a.emit (.spdm x .ack))) ∧
    (a.sec.dik = true → exec (.spdmChallenge x 0) s = .next (a.drawn.emit (.spdm x (.challengeAuth (Config.spdmSignature a.freeCtr))))) ∧
    (a.sec.dik = true → ∀ i : BitVec 8, 1 ≤ i.toNat → i.toNat ≤ 6 → exec (.spdmGetMeasurements x i true) s = .next (a.drawn.emit
      (.spdm x (.measurements [(i.toNat, measurement a i.toNat)] (some (Config.spdmSignature a.freeCtr)))))) ∧
    (a.sec.dik = true → (a.sec.sessions.get x).length < 4 → ∃ t n, exec (.spdmKeyExchange x) s = .next t ∧
      t.sec.sessions.get x = a.sec.sessions.get x ++ [n] ∧
      t.out = a.out ++ [.spdm x (.keyExchange n (Config.spdmSignature a.freeCtr))] ∧
      t = { a with sec := t.sec, out := t.out, freeCtr := t.freeCtr })) ∧
  (∀ (s : State) (x : Fin 65) (n : BitVec 16), ∃ t, exec (.spdmSessionEnd x n) s = .next t ∧
    (∀ k, k ∈ t.sec.sessions.get x ↔ k ∈ s.sec.sessions.get x ∧ k ≠ n.toNat) ∧ t = { s with sec := t.sec }) ∧
  (∀ (s : State) (l : Fin 16) (k : BitVec 256) (c : Bool), s.asleep = false → s.coreDown = false → ldReached s (4 * l) = true →
    let a := stdArrived s false
    a.sec.running = true → (∃ m ∈ linkSlots s l, s.sec.sessions.get m ≠ []) →
    let b := { a with links := a.links.upd l (fun x => { x with
      ide := true, ideMode := if c then 2 else 1, ideKey := some k, ideInsecure := false }) }
    exec (.ideKm l k c) s = .next ((if (s.links.get l).ideInsecure then settle (retrySnoops (forAll (linkSlots a l) ldUp b))
      else b).emit (.ideKm l)))

/-- BOOT of a processor that is not running and not held runs the boot ROM; where no slot passes, the device is in recovery. NOR_WRITE_COMPLETE: the flash operation under way takes effect on its cells and the next is issued. LOGBOOK_WRITE: a queued record is written inside the temperature window with no earlier logbook write under way. REGISTER_WRITE: an access outside a block, misaligned or in a domain held in reset is recorded in MGT_ACCESS_ERR, and a load then reads 0; another writes the word, or loads it. FRAME_EXECUTIVE_SLOT, where its unit was released or the device is in fatal mode, accepts packets and runs up to its number of tasks. AQ_COMMAND_TUNNEL on a link that is up and UNSUPPORTED_COMMAND go the way of every packet; a tunnelled body too short for a header is answered as an invalid input. That a load is a form of this command, the release in fatal mode and the short body are the model's choices (log entries 64, 162, 138). (R60, R318, R333, R335, R336, R337, R356, R358, R360, R410, R454, R461.) -/
def Obligations.BootAndRegisters : Prop :=
  (∀ (s : State) (d : List Byte), s.sec.running = false → s.rst.mgtHeld = false → s.coreDown = false →
    exec (.boot d) s = .next (bootRom (openIdentity { s with sec := { s.sec with
      nor := norLoad s.sec.nor identityBase ((d.take 0x4000).map (·.toNat)) } }))) ∧
  (∀ (s : State) (o : NorOp) (rest : List NorOp), s.sec.norOps = o :: rest → s.sec.norBusy = true → o.who ≠ .fwWrite →
    (o.who = .bootCtrl → o.erase ≠ 0) →
    let b : State := { s with sec := { s.sec with nor := norApply o s.sec.nor, norOps := rest, norBusy := false } }
    exec .norWriteComplete s = .next (issueNor (b.put F.SEC_STATUS.FLASH_BUSY 0))) ∧
  (∀ (s : State) (o : NorOp) (rest : List NorOp), s.sec.norOps = o :: rest → s.sec.norBusy = true → o.who = .fwWrite →
    let b : State := { s with sec := { s.sec with nor := norApply o s.sec.nor, norOps := rest, norBusy := false } }
    exec .norWriteComplete s = .next (issueNor (fwPageDone o.bytes.length (b.put F.SEC_STATUS.FLASH_BUSY 0)))) ∧
  (∀ (s : State) (o : NorOp) (rest : List NorOp), s.sec.norOps = o :: rest → s.sec.norBusy = true → o.who = .bootCtrl → o.erase = 0 →
    let b : State := { s with sec := { s.sec with nor := norApply o s.sec.nor, norOps := rest, norBusy := false } }
    exec .norWriteComplete s = .next (issueNor (bootCtrlDone (b.put F.SEC_STATUS.FLASH_BUSY 0)))) ∧
  (∀ (s : State) (r : LogRec) (rest : List LogRec), s.hk.queue = r :: rest → s.asleep = false → tjInWindow s = true →
    s.sec.applied = true → s.sec.norOps.any (fun o => o.who == .logbook) = false →
    exec .logbookWrite s = .next (issueNor (appendRecord r (turnSector r
      (showLog { s with hk := { s.hk with queue := rest, dropTold := false } }))))) ∧
  (∀ (s : State) (a : BitVec 32) (w : Bool) (v : RegAccess), s.asleep = false → s.rst.mgtHeld = false →
    let wrong (cause : Nat) : Prop := ∃ t, exec (.registerWrite a w v) s = .next t ∧ t.get F.MGT_ACCESS_ERR.VALID = 1 ∧
      t.get F.MGT_ACCESS_ERR.CAUSE = cause ∧ t.get F.MGT_ACCESS_ERR.ADDR = a.toNat % 2 ^ F.MGT_ACCESS_ERR.ADDR.width ∧
      t.out = (match v with
        | .store _ => s.out
        | .load => s.out ++ [.loaded a.toNat 0]) ∧ t = { s with regs := t.regs, out := t.out }
    (inBlock a.toNat = false → wrong 1) ∧
    (inBlock a.toNat = true → a.toNat % (if w then 8 else 4) ≠ 0 → wrong 2) ∧
    (inBlock a.toNat = true → a.toNat % (if w then 8 else 4) = 0 → inReset s a.toNat = true → wrong 3) ∧
    (inBlock a.toNat = true → a.toNat % (if w then 8 else 4) = 0 → inReset s a.toNat = false →
      exec (.registerWrite a w v) s = .next (match v with
        | .store x => writeWord a.toNat w x.toNat s
        | .load => loadWord a.toNat w s))) ∧
  (∀ (s : State) (n : BitVec 8) (c : List (BitVec 10)), s.asleep = false → s.sec.running = true →
    (s.inFatal = true ∨ unitWaits s 0x0A 0 = true) →
    let b := acceptScan (jobDone 0x0A 0 s)
    exec (.frameExecutiveSlot n c) s = .next (endSlot b.mgt.waits (runTasks b.mgt.waits n.toNat 0 c b).1
      (runTasks b.mgt.waits n.toNat 0 c b).2)) ∧
  (∀ (s : State) (m : Fin 64) (l : List Byte), (s.links.get (linkOfSlot m)).up = true →
    let p := packetOf (.tunnel m) m l
    (packetFits l = true → exec (.aqCommandTunnel m l) s = .next (runCmd p.opcode.toNat (effectOf p.opcode.toNat) p s)) ∧
    (packetFits l = false → exec (.aqCommandTunnel m l) s = .next (s.emit (.mailbox m .invalid [])))) ∧
  (∀ (s : State) (p : Packet), let q : Packet := { p with muted := false }
    opDefined s p.opcode.toNat = false → decidesNow q s = true → tagHeld q s = false → headerFault q = false →
    goesToHead q (decidedIn q s) = false → exec (.unsupportedCommand p) s = .next (answer q { status := 0x02 } (decidedIn q s)))

/-- POWER_ON leaves fuses and flash and everything else at its reset value, with the inputs asserted and both domains held; BROWN_OUT does so with its flag and cause, and VAUX_1V8_LOSS ends all activity. CORE_RST and PWR_OK_LOW hold the core domain, with the fuses and stored DIMM lines of a core reset kept; PWR_OK low also forces every slot off. MGT_RST and MGT_LOCKSTEP reset the management domain and hold it. RESET_RELEASE: a domain leaves reset 10 us after its inputs were released. THERMAL_RESTART: a cooled device that tripped restarts with its cap at 128 W, except where it stays off. (R372, R401, R433, R457, R460, R468, R469, R470, R471.) -/
def Obligations.ResetRows : Prop :=
  (∀ s : State, ∃ t, exec .powerOn s = .next t ∧ t.fuses = s.fuses ∧ t.fuseShadow = s.fuses ∧ t.sec = { nor := s.sec.nor } ∧
    t.regs = [] ∧ t.tb = 0 ∧ t.regions = {} ∧ t.keys = {} ∧ t.frames = {} ∧ t.err = {} ∧ t.reqs = [] ∧ t.rst.coreHeld = true ∧
    t.rst.mgtHeld = true ∧ t.rst.coreIn = true ∧ t.rst.pwrLow = true ∧ t.rst.off = false) ∧
  (∀ s : State, ∃ t, exec .brownOut s = .next t ∧ t.fuses = s.fuses ∧ t.sec = { nor := s.sec.nor } ∧ t.get F.PWR_SL_STATUS.BROWNOUT = 1 ∧
    t.get F.PWR_RESET_CAUSE.BROWNOUT = 1 ∧ t.get F.PWR_RESET_CAUSE.LAST = 2 ∧ t.rst.coreHeld = true ∧ t.rst.mgtHeld = true ∧
    t.rst.coreIn = s.rst.coreIn ∧ t.rst.pwrLow = s.rst.pwrLow ∧ t.regions = {} ∧ t.keys = {}) ∧
  (∀ s : State, ∃ t, exec .vaux1v8Loss s = .next t ∧ t.rst.off = true ∧ t.rst.coreHeld = true ∧ t.rst.mgtHeld = true ∧ t.regs = [] ∧
    t.fuses = s.fuses ∧ t.sec = { nor := s.sec.nor }) ∧
  (∀ s : State, s.rst.coreIn = false → s.rst.coreHeld = false → ∃ t, exec (.coreRst true) s = .next t ∧ t.rst.coreHeld = true ∧
    t.rst.mgtHeld = true ∧ t.rst.coreIn = true ∧ t.fuses = s.fuses ∧ t.dram = s.dram ∧ t.get F.PWR_RESET_CAUSE.CORE = 1 ∧
    t.get F.PWR_RESET_CAUSE.LAST = 3 ∧ t.reqs = [] ∧ t.keys = {}) ∧
  (∀ s : State, s.rst.coreIn = true → s.rst.pwrLow = false → ∃ t, exec (.coreRst false) s = .next t ∧ t.rst.coreIn = false ∧
    t.rst.coreTb = s.now ∧ t = { s with rst := t.rst }) ∧
  (∀ s : State, s.rst.pwrLow = false → exec (.pwrOkLow true) s =
    .next (forAll (List.range 16) forceOff (holdCore { s with rst := { s.rst with pwrLow := true } }))) ∧
  (∀ s : State, s.rst.pwrLow = true → exec (.pwrOkLow false) s = .next (letCore { s with rst := { s.rst with pwrLow := false } })) ∧
  (∀ s : State, s.rst.mgtIn = false → s.rst.coreHeld = false →
    let m := managementReset 2 { s with rst := { s.rst with mgtIn := true } }
    exec (.mgtRst true) s = .next { m with rst := { m.rst with mgtHeld := true } }) ∧
  (∀ (s : State) (why : Nat), let m := managementReset why s
    m.sec.running = false ∧ m.fuseShadow = m.fuses ∧ m.mbx = {} ∧ m.claim = none ∧ m.err.copies = [] ∧ m.get F.PWR_RESET_CAUSE.MGT = 1 ∧
    m.get F.PWR_RESET_CAUSE.MGT_WHY = why % 2 ^ F.PWR_RESET_CAUSE.MGT_WHY.width ∧ m.get F.PWR_RESET_CAUSE.LAST = 4) ∧
  (∀ s : State, s.rst.mgtIn = true → ∃ t, exec (.mgtRst false) s = .next t ∧ t.rst.mgtIn = false ∧ t.rst.mgtTb = s.now ∧
    t = { s with rst := t.rst }) ∧
  (∀ s : State, s.asleep = false → s.rst.mgtHeld = false →
    let m := managementReset 1 (s.log 0x05)
    exec .mgtLockstep s = .next { m with rst := { m.rst with mgtHeld := true, mgtTb := m.now } }) ∧
  (∀ s : State, s.rst.coreHeld = true → s.rst.coreIn = false → s.rst.pwrLow = false → s.rst.off = false →
    10000 ≤ s.since s.rst.coreTb → ∃ t, exec .resetRelease s = .next t ∧ t.rst.coreHeld = false ∧ t.rst.mgtHeld = s.rst.mgtIn ∧
      t = { s with rst := t.rst, regs := t.regs }) ∧
  (∀ s : State, s.rst.coreHeld = false → s.rst.mgtHeld = true → s.rst.mgtIn = false → 10000 ≤ s.since s.rst.mgtTb →
    exec .resetRelease s = .next { s with rst := { s.rst with mgtHeld := false } }) ∧
  (∀ (s : State) (a : Nat), s.thm.tripped = true → s.thm.stayOff = false → s.thm.coolSince = some a → 1000000000 ≤ s.since a →
    ∃ t, exec .thermalRestart s = .next t ∧ t.thm.tripped = false ∧ t.get F.THM_STATUS.CAP = 16 ∧ t.get F.THM_STATUS.THROTTLED = 1 ∧
      t.rst.coreHeld = true ∧ t.fuses = s.fuses)

/-- TRANSIT_START moves TB to the boundary, counts the transit, acts on the fabric's per-transit work while awake, and releases the jobs that are due. PERIODIC_UNIT_COMPLETE: a unit that waits completes with its job's effect. TRANSIT_OVERRUN: a unit whose deadline has passed stays at the head of its queue with a new deadline, one more overrun counted and TRANSIT_OVERRUN logged. The spine's route from stop to stop goes along the row, then along the column. SPINE_PARITY_ERROR: a word of odd parity on the hop it crosses is awaited again, the last 32 words up to it and those behind it are the hop's replay buffer, and the error is logged. SPINE_REPLAY_REQUEST resends from the named word, or from the oldest where its own parity is bad. SPINE_REPLAY_RELEASE: a buffered word that no request names leaves 4 clocks after it was sent. (R16, R17, R18, R19, R29, R30, R31, R32, R33, R36.) -/
def Obligations.TransitsAndHops : Prop :=
  (∀ s : State, s.rst.off = false → let a := stepTb (toBoundary s)
    let b : State := { a with lastTransit := some a.transit, alarms := [] }.count 0x003 0
    let c := if b.asleep then publishMstat b else transitActions (a.lastTransit.getD 0) b
    let d := releaseJobs (missSurvey c.transit (forAll (List.range 16) tryStart c))
    exec .transitStart s = .next (if d.asleep then d else pump (sendLevel (tryHeld (settle d))))) ∧
  (∀ (s : State) (j i : BitVec 8), unitWaits s j.toNat i.toNat = true →
    exec (.periodicUnitComplete j i) s = .next (jobEffect j.toNat i.toNat s)) ∧
  (∀ (s : State) (j i : BitVec 8) (u : JobUnit) (rest : List JobUnit), (s.asleep = false ∨ j.toNat = 0x0B ∨ j.toNat = 0x0C) →
    let n := if j.toNat = 0x0A then 0 else i.toNat
    s.jobs.get (jobKey j.toNat n) = u :: rest → u.deadline < s.transit → ∃ t, exec (.transitOverrun j i) s = .next t ∧
      t.jobs.get (jobKey j.toNat n) = { u with deadline := s.transit + jobSpan j.toNat n - 1, consec := u.consec + 1 } :: rest ∧
      t.get F.TB_OVR_LAST.JOB_ID = j.toNat % 2 ^ F.TB_OVR_LAST.JOB_ID.width ∧ t.get F.TB_OVR_LAST.VALID = 1 ∧ t.dram = s.dram) ∧
  (∀ a b : Fin 16, let dx := max (a.val % 4) (b.val % 4) - min (a.val % 4) (b.val % 4)
    let dy := max (a.val / 4) (b.val / 4) - min (a.val / 4) (b.val / 4)
    (spineRoute 6 a b).length = dx + dy ∧
      (∀ h ∈ (spineRoute 6 a b).take dx, h.stop.val / 4 = a.val / 4) ∧ (∀ h ∈ (spineRoute 6 a b).drop dx, h.stop.val % 4 = b.val % 4)) ∧
  (∀ (s : State) (x : Crossing) (h : Hop) (q e l : BitVec 5) (w : BitVec 65), crossedHop x = some h → evenParity w = false →
    (s.spine.get (hopKey h)).asked = none →
    ∃ t, exec (.spineParityError x q e l w) s = .next t ∧ (t.spine.get (hopKey h)).await = some q.toNat ∧
      (t.spine.get (hopKey h)).asked = some q.toNat ∧ (t.spine.get (hopKey h)).fails =
        (if (s.spine.get (hopKey h)).await = some q.toNat then (s.spine.get (hopKey h)).fails + 1 else 1) ∧
      (t.spine.get (hopKey h)).buffer = (if (s.spine.get (hopKey h)).await = some q.toNat then
          keepWords q.toNat l.toNat s.now (clocksPerTransit s) (s.spine.get (hopKey h)).buffer
        else keepWords ((q.toNat + 32 - e.toNat) % 32) (e.toNat + l.toNat) s.now (clocksPerTransit s) (s.spine.get (hopKey h)).buffer) ∧
      (∀ k, k ≠ hopKey h → t.spine.get k = s.spine.get k) ∧ t.dram = s.dram) ∧
  (∀ (s : State) (h : Hop) (ok : Bool) (w : Nat), (s.spine.get (hopKey h)).asked = some w → ∃ t, exec (.spineReplayRequest h ok) s = .next t ∧
    (t.spine.get (hopKey h)).asked = none ∧ t.out = s.out ++ [.spineResend h.stop.val h.dir.val
      ((if ok then (s.spine.get (hopKey h)).buffer.dropWhile (fun x => x.1 != w) else (s.spine.get (hopKey h)).buffer).map (·.1))] ∧
    t = { s with spine := t.spine, out := t.out }) ∧
  (∀ (s : State) (h : Hop) (w a : Nat) (rest : List (Nat × Nat)), (s.spine.get (hopKey h)).buffer = (w, a) :: rest →
    (s.spine.get (hopKey h)).asked = none → 4000 ≤ s.since a * clocksPerTransit s → ∃ t, exec (.spineReplayRelease h) s = .next t ∧
      (t.spine.get (hopKey h)).buffer = rest ∧
      ((s.spine.get (hopKey h)).await = some w → (t.spine.get (hopKey h)).await = none) ∧ t = { s with spine := t.spine })

/-- In a full decode that goes on to succeed, a ZERO token read where P bytes have been produced writes L bytes of 0 at output positions P to P + L - 1, and a LIT token copies its L further bytes, in body order, to those positions. A ZERO token whose output stays within the segment is taken whatever the bytes produced so far, so it needs no window, and at P = 0 as anywhere. (R118, R120.) -/
def Obligations.AqzTokens : Prop :=
  (∀ (pad rest out o : List Nat) (fuel c b : Nat), 0xE0 ≤ c → c ≤ 0xE3 → let n := slice c 0 2 * 256 + b + 1
    aqzBody none pad (fuel + 1) (c :: b :: rest) out.length out = .ok o → ∀ i < n, o[out.length + i]? = some 0) ∧
  (∀ (pad rest out o : List Nat) (fuel c : Nat), c < 0x80 →
    aqzBody none pad (fuel + 1) (c :: rest) out.length out = .ok o → c + 1 ≤ rest.length ∧
      ∀ i < c + 1, o[out.length + i]? = rest[i]?) ∧
  (∀ (pad rest out : List Nat) (fuel c b : Nat), 0xE0 ≤ c → c ≤ 0xE3 → let n := slice c 0 2 * 256 + b + 1
    out.length + n ≤ 1024 → aqzBody none pad (fuel + 1) (c :: b :: rest) out.length out =
      aqzBody none pad fuel rest (out.length + n) (List.replicate n 0 ++ out)) ∧
  (∀ (pad rest : List Nat) (fuel c b : Nat), 0xE0 ≤ c → c ≤ 0xE3 → let n := slice c 0 2 * 256 + b + 1
    n ≤ 1024 → aqzBody none pad (fuel + 1) (c :: b :: rest) 0 [] = aqzBody none pad fuel rest n (List.replicate n 0))

/-- The parent of the line with index i at level l (0 for leaves, counter blocks and catalogue lines; 1 to 5 for nodes) is node i / 64 of level l + 1, and the line takes slot i mod 64 in it; the parent of the level-5 node is the slice's on-chip root. The tag of a line depends on its parent's value only through its MAJOR and the minor of the line's slot. (R167.) -/
def Obligations.TreeParents : Prop :=
  (∀ (s : State) (kind i : Nat), kind ≤ 5 → metaLevel (parentKind kind) = metaLevel kind + 1 ∧
    metaIndex s (parentKind kind) (parentIndex s kind i) = metaIndex s kind i / 64 ∧
    parentSlot s kind i = metaIndex s kind i % 64) ∧
  metaLevel 0 = 0 ∧ metaLevel 1 = 0 ∧ metaLevel 6 = 5 ∧ parentKind 6 = 7 ∧
  (∀ (s : State) (sl i : Nat), s.nodeRekeys = [] → parentState s sl 6 i = s.roots.get sl) ∧
  (∀ (s : State) (sl kind i : Nat) (v a b : BitVec 512), ctrMajor a = ctrMajor b →
    ctrMinor a (metaIndex s kind i % 64) = ctrMinor b (metaIndex s kind i % 64) → metaTag s sl kind i v a = metaTag s sl kind i v b)

/-- Freeing a buffer entry of VC v advances FREED_v by 1 modulo 2^24 and starts the timer of R228 if it does not run. If FREED_v has then advanced by 8 or more since the last CTRL flit, one CTRL flit is sent and every FREED is advertised; where a CTRL flit was among the last 3 slots it waits for its slot. If FREED_v has not advanced so far, none is sent. When the timer fires in ACTIVE, a CTRL flit is sent and every FREED is advertised. (R233.) -/
def Obligations.CreditReturn : Prop :=
  (∀ (s : State) (p v : Nat), v < 4 → (portSt s p).freed.length = 4 → 5 ≤ portState s p → transmits s p = true →
    let f := ((portSt s p).freed.getD v 0 + 1) % 2 ^ 24
    let t := freeCredit p v s
    (portSt t p).freed = (portSt s p).freed.set v f ∧ (portSt t p).rxReq = (portSt s p).rxReq ∧
    (8 ≤ (f + 2 ^ 24 - (portSt s p).adv.getD v 0) % 2 ^ 24 →
      (3 ≤ (portSt s p).gap → (portSt t p).adv = (portSt t p).freed ∧ ∃ b lanes, t.out = s.out ++ [.flit p b lanes]) ∧
      ((portSt s p).gap < 3 → t.out = s.out ∧ (portSt t p).ctrlDue ≠ [])) ∧
    ((f + 2 ^ 24 - (portSt s p).adv.getD v 0) % 2 ^ 24 < 8 → (portSt t p).adv = (portSt s p).adv ∧ t.out = s.out ∧
      (portSt t p).ackTb.isSome = true)) ∧
  (∀ (s : State) (p : Fin 4) (a : Nat), portState s p = 6 → transmits s p = true → 3 ≤ (portSt s p).gap →
    (portSt s p).ackTb = some a → 200 ≤ s.since a →
    ∃ t b lanes, exec (.ackTimer p) s = .next t ∧ t.out = s.out ++ [.flit p b lanes] ∧ (portSt t p).adv = (portSt s p).freed ∧
      (portSt t p).ackTb = none)

/-- For every command c and every state s, a step of s with c at the front of its queue is exec of c on s with the rest of the queue. On an empty queue a command of the sideband that waited for SL0 is served once the device is awake; else one interval of time passes, which is the model's choice (log entry 56). (spec/00_scope.md.) -/
def Obligations.StepRunsFront : Prop :=
  (∀ (c : Instr) (rest : List Instr) (s : State), step { s with pending := c :: rest } = exec c { s with pending := rest }) ∧
  (∀ s : State, s.mgt.rows = [] ∨ s.asleep = true → step { s with pending := [] } = .next (tick { s with pending := [] })) ∧
  (∀ (s : State) (i : Instr) (rest : List Instr), s.asleep = false → s.mgt.rows = i :: rest →
    ∃ t, exec i { s with pending := [], mgt := { s.mgt with rows := [] } } = .next t ∧
      step { s with pending := [] } = .next { t with mgt := { t.mgt with rows := rest ++ t.mgt.rows } })

/-- In every state exec of every command answers a next state. A row whose conditions do not hold leaves the state as it is, which is the model's choice for an event that does not occur there (log entry 60); operands beyond what a command takes are not taken, and a command the spec refuses is answered with the refusal it names. (spec/00_scope.md.) -/
def Obligations.EveryCommandCompletes : Prop :=
  ∀ (c : Instr) (s : State), ∃ t, exec c s = .next t

/-- At reset the register file and every sparse table list rising keys and no cell equal to what an unlisted key reads as; the queue of commands, the requests and the error block are empty, and the timebase is 0. (R6, R457.) -/
def Obligations.CanonAtReset : Prop :=
  State.Canon State.reset ∧ State.reset.pending = [] ∧ State.reset.reqs = [] ∧ State.reset.err.queue = [] ∧ State.reset.err.fatal = none ∧
    State.reset.tb = 0

/-- For every state whose register file and tables are in canonical form (keys rising, no cell equal to what an unlisted key reads as), whatever command is at the front of its queue, a step that answers a next state leaves them in canonical form: equal contents of DRAM, the catalogue, page frames, keys and registers stay equal data. (R6, R71, R457.) -/
def Obligations.StepKeepsCanon : Prop :=
  ∀ s t : State, State.Canon s → step s = .next t → State.Canon t

/-- For every state with command c at the front of its queue, a step that answers a next state leaves exactly the rest of the queue: no command's effect adds, drops or reorders commands. And for every state, a step leaves set every fuse bit that was blown, whatever the command: a reset, a power loss and firmware included. (R348, R350.) -/
def Obligations.StepKeepsQueueAndFuses : Prop :=
  (∀ (s t : State) (c : Instr) (rest : List Instr), s.pending = c :: rest → step s = .next t → t.pending = rest) ∧
  (∀ (s t : State) (i : Nat), step s = .next t → s.fuses.getLsbD i = true → t.fuses.getLsbD i = true)
end

