-- ==== Sys2Proof/Laws/Tab.lean ====
section
/-!
SUPPORT. Laws of sparse tables: a read after a write, and the canonical form, which every operation keeps.
-/

namespace Sys2Proof.Machine

section Cells
variable {α : Type}

theorem cellFind_insert_same (k : Nat) (v : α) (l : List (Nat × α)) : cellFind k (cellInsert k v l) = some v := by
  induction l with
  | nil => simp [cellInsert, cellFind]
  | cons c r ih =>
    obtain ⟨a, w⟩ := c
    simp only [cellInsert]
    split
    · simp [cellFind]
    · split
      · simp [cellFind]
      · rename_i h
        simp [cellFind, ih]
        intro h'; exact absurd h'.symm h

theorem cellFind_insert_other {j k : Nat} (h : j ≠ k) (v : α) (l : List (Nat × α)) :
    cellFind j (cellInsert k v l) = cellFind j l := by
  induction l with
  | nil => simp [cellInsert, cellFind, Ne.symm h]
  | cons c r ih =>
    obtain ⟨a, w⟩ := c
    simp only [cellInsert]
    split
    · simp [cellFind, Ne.symm h]
    · split
      · rename_i h1 h2; subst h2; simp [cellFind, Ne.symm h]
      · simp [cellFind, ih]

theorem cellFind_erase_same (k : Nat) (l : List (Nat × α)) : cellFind k (cellErase k l) = none := by
  induction l with
  | nil => rfl
  | cons c r ih =>
    obtain ⟨a, w⟩ := c
    simp only [cellErase, List.filter_cons] at ih ⊢
    split
    · rename_i h; simp at h; simp [cellFind, h, ih]
    · exact ih

theorem cellFind_erase_other {j k : Nat} (h : j ≠ k) (l : List (Nat × α)) : cellFind j (cellErase k l) = cellFind j l := by
  induction l with
  | nil => rfl
  | cons c r ih =>
    obtain ⟨a, w⟩ := c
    simp only [cellErase, List.filter_cons] at ih ⊢
    split
    · simp [cellFind, ih]
    · rename_i h1; simp at h1; subst h1; simp [cellFind, Ne.symm h, ih]

theorem cellsRising_iff (l : List (Nat × α)) : cellsRising l = true ↔ (l.map (·.1)).Pairwise (· < ·) := by
  rw [← List.isChain_iff_pairwise]
  induction l with
  | nil => simp [cellsRising]
  | cons c r ih =>
    cases r with
    | nil => simp [cellsRising]
    | cons d r => simp [cellsRising, ih, List.isChain_cons_cons]

theorem cellsRising_filter (p : Nat × α → Bool) {l : List (Nat × α)} (h : cellsRising l = true) :
    cellsRising (l.filter p) = true := by
  rw [cellsRising_iff] at h ⊢
  exact h.sublist (List.filter_sublist.map _)

theorem cellsRising_erase (k : Nat) {l : List (Nat × α)} (h : cellsRising l = true) : cellsRising (cellErase k l) = true :=
  cellsRising_filter _ h

theorem cellsRising_map (f : Nat → α → α) {l : List (Nat × α)} (h : cellsRising l = true) :
    cellsRising (l.map (fun c => (c.1, f c.1 c.2))) = true := by
  rw [cellsRising_iff] at h ⊢
  simpa [List.map_map, Function.comp_def] using h

theorem mem_keys_cellInsert (k : Nat) (v : α) (l : List (Nat × α)) :
    ∀ c ∈ cellInsert k v l, c = (k, v) ∨ c ∈ l := by
  induction l with
  | nil => simp [cellInsert]
  | cons c r ih =>
    obtain ⟨a, w⟩ := c
    intro d hd
    simp only [cellInsert] at hd
    split at hd
    · simpa using hd
    · split at hd
      · simp at hd; rcases hd with h | h <;> simp [h]
      · simp at hd
        rcases hd with h | h
        · simp [h]
        · rcases ih d h with h | h <;> simp [h]

theorem cellsRising_insert (k : Nat) (v : α) {l : List (Nat × α)} (h : cellsRising l = true) :
    cellsRising (cellInsert k v l) = true := by
  rw [cellsRising_iff] at h ⊢
  induction l with
  | nil => simp [cellInsert]
  | cons c r ih =>
    obtain ⟨a, w⟩ := c
    simp only [List.map_cons, List.pairwise_cons] at h
    simp only [cellInsert]
    split
    · rename_i h1
      simp only [List.map_cons, List.pairwise_cons]
      refine ⟨?_, h⟩
      intro b hb
      simp only [List.mem_cons] at hb
      rcases hb with rfl | hb
      · exact h1
      · exact lt_trans h1 (h.1 b hb)
    · split
      · rename_i h1 h2
        subst h2
        simpa using h
      · rename_i h1 h2
        simp only [List.map_cons, List.pairwise_cons]
        refine ⟨?_, ih h.2⟩
        intro b hb
        obtain ⟨c, hc, rfl⟩ := List.mem_map.1 hb
        rcases mem_keys_cellInsert k v r c hc with rfl | hc
        · simp only; omega
        · exact h.1 _ (List.mem_map.2 ⟨c, hc, rfl⟩)

end Cells

section Tables
variable {α : Type} {d : α} [DecidableEq α]

@[simp] theorem Tab.get_empty (k : Nat) : ({} : Tab α d).get k = d := rfl

/-- A read after a write to the same key gives the value written. -/
@[simp] theorem Tab.get_set_same (t : Tab α d) (k : Nat) (v : α) : (t.set k v).get k = v := by
  unfold Tab.set Tab.get
  split
  · rename_i h; simp [cellFind_erase_same, h]
  · simp [cellFind_insert_same]

/-- A write leaves every other key alone. -/
theorem Tab.get_set_other {j k : Nat} (h : j ≠ k) (t : Tab α d) (v : α) : (t.set k v).get j = t.get j := by
  unfold Tab.set Tab.get
  split
  · simp [cellFind_erase_other h]
  · simp [cellFind_insert_other h]

theorem Tab.get_set (t : Tab α d) (j k : Nat) (v : α) : (t.set k v).get j = if j = k then v else t.get j := by
  split
  · rename_i h; subst h; simp
  · rename_i h; exact Tab.get_set_other h t v

@[simp] theorem Tab.get_upd_same (t : Tab α d) (k : Nat) (f : α → α) : (t.upd k f).get k = f (t.get k) := by simp [Tab.upd]

theorem Tab.get_upd_other {j k : Nat} (h : j ≠ k) (t : Tab α d) (f : α → α) : (t.upd k f).get j = t.get j := by
  simp [Tab.upd, Tab.get_set_other h]

theorem Tab.get_upd (t : Tab α d) (j k : Nat) (f : α → α) : (t.upd k f).get j = if j = k then f (t.get k) else t.get j := by
  simp [Tab.upd, Tab.get_set]

@[simp] theorem Tab.wf_empty : ({} : Tab α d).wf = true := rfl

theorem Tab.wf_iff (t : Tab α d) : t.wf = true ↔ cellsRising t.cells = true ∧ ∀ c ∈ t.cells, c.2 ≠ d := by
  simp [Tab.wf]

/-- A write keeps the canonical form. -/
@[simp] theorem Tab.wf_set {t : Tab α d} (h : t.wf = true) (k : Nat) (v : α) : (t.set k v).wf = true := by
  rw [Tab.wf_iff] at h ⊢
  unfold Tab.set
  split
  · refine ⟨cellsRising_erase k h.1, fun c hc => h.2 c ?_⟩
    exact (List.mem_filter.1 hc).1
  · refine ⟨cellsRising_insert k v h.1, fun c hc => ?_⟩
    rcases mem_keys_cellInsert k v t.cells c hc with rfl | hc
    · assumption
    · exact h.2 c hc

@[simp] theorem Tab.wf_upd {t : Tab α d} (h : t.wf = true) (k : Nat) (f : α → α) : (t.upd k f).wf = true := Tab.wf_set h k _

@[simp] theorem Tab.wf_keep {t : Tab α d} (h : t.wf = true) (p : Nat → α → Bool) : (t.keep p).wf = true := by
  rw [Tab.wf_iff] at h ⊢
  exact ⟨cellsRising_filter _ h.1, fun c hc => h.2 c (List.mem_filter.1 hc).1⟩

@[simp] theorem Tab.wf_mapCells {t : Tab α d} (h : t.wf = true) (f : Nat → α → α) : (t.mapCells f).wf = true := by
  rw [Tab.wf_iff] at h ⊢
  refine ⟨cellsRising_filter _ (cellsRising_map f h.1), fun c hc => ?_⟩
  simpa using (List.mem_filter.1 hc).2

@[simp] theorem Tab.wf_setList {t : Tab α d} (h : t.wf = true) (k : Nat) (vs : List α) : (t.setList k vs).wf = true := by
  induction vs generalizing t k with
  | nil => exact h
  | cons v vs ih => exact ih (Tab.wf_set h k v) (k + 1)

end Tables

end Sys2Proof.Machine
end

