-- ==== Sys2Proof/Laws/State.lean ====
section
/-!
SUPPORT. Laws of the register file and of the plainest updates of the state: a register field reads what was put into it, other
fields are left alone, and nothing beside the register file changes.
-/

namespace Sys2Proof.Machine

/-- A field reads what was put into it, cut to its width. -/
@[simp] theorem State.get_put_same (s : State) (f : Fld) (v : Nat) : (s.put f v).get f = v % 2 ^ f.width := by
  unfold State.put State.get
  dsimp only
  split
  · rename_i h; simp [cellFind_erase_same, h]
  · simp [cellFind_insert_same]

/-- A put leaves every other field alone. -/
theorem State.get_put_ne {f g : Fld} (h : g.key ≠ f.key) (s : State) (v : Nat) : (s.put f v).get g = s.get g := by
  unfold State.put State.get
  dsimp only
  split
  · rw [cellFind_erase_other h]
  · rw [cellFind_insert_other h]

/-- Fields that lie in different registers have different keys. -/
theorem Fld.key_ne_of_addr {f g : Fld} (h : g.addr ≠ f.addr) (hf : f.lo < 64) (hg : g.lo < 64) : g.key ≠ f.key := by
  simp only [Fld.key]; omega

theorem State.flag_eq (s : State) (f : Fld) : s.flag f = (s.get f != 0) := rfl

theorem State.put_eq (s : State) (f : Fld) (v : Nat) : s.put f v = { s with regs := (s.put f v).regs } := rfl

/-- The register file stays in rising key order. -/
theorem State.put_rising {s : State} (h : cellsRising s.regs = true) (f : Fld) (v : Nat) :
    cellsRising (s.put f v).regs = true := by
  unfold State.put
  dsimp only
  split
  · exact cellsRising_erase _ h
  · exact cellsRising_insert _ _ h

@[simp] theorem State.put_pending (s : State) (f : Fld) (v : Nat) : (s.put f v).pending = s.pending := rfl
@[simp] theorem State.put_out (s : State) (f : Fld) (v : Nat) : (s.put f v).out = s.out := rfl
@[simp] theorem State.put_tb (s : State) (f : Fld) (v : Nat) : (s.put f v).tb = s.tb := rfl
@[simp] theorem State.put_freeCtr (s : State) (f : Fld) (v : Nat) : (s.put f v).freeCtr = s.freeCtr := rfl
@[simp] theorem State.put_useCtr (s : State) (f : Fld) (v : Nat) : (s.put f v).useCtr = s.useCtr := rfl
@[simp] theorem State.put_nextId (s : State) (f : Fld) (v : Nat) : (s.put f v).nextId = s.nextId := rfl
@[simp] theorem State.put_err (s : State) (f : Fld) (v : Nat) : (s.put f v).err = s.err := rfl
@[simp] theorem State.put_lds (s : State) (f : Fld) (v : Nat) : (s.put f v).lds = s.lds := rfl
@[simp] theorem State.put_links (s : State) (f : Fld) (v : Nat) : (s.put f v).links = s.links := rfl
@[simp] theorem State.put_ports (s : State) (f : Fld) (v : Nat) : (s.put f v).ports = s.ports := rfl
@[simp] theorem State.put_reqs (s : State) (f : Fld) (v : Nat) : (s.put f v).reqs = s.reqs := rfl
@[simp] theorem State.put_ingress (s : State) (f : Fld) (v : Nat) : (s.put f v).ingress = s.ingress := rfl
@[simp] theorem State.put_almanac (s : State) (f : Fld) (v : Nat) : (s.put f v).almanac = s.almanac := rfl
@[simp] theorem State.put_near (s : State) (f : Fld) (v : Nat) : (s.put f v).near = s.near := rfl
@[simp] theorem State.put_wb (s : State) (f : Fld) (v : Nat) : (s.put f v).wb = s.wb := rfl
@[simp] theorem State.put_snoops (s : State) (f : Fld) (v : Nat) : (s.put f v).snoops = s.snoops := rfl
@[simp] theorem State.put_dir (s : State) (f : Fld) (v : Nat) : (s.put f v).dir = s.dir := rfl
@[simp] theorem State.put_stamps (s : State) (f : Fld) (v : Nat) : (s.put f v).stamps = s.stamps := rfl
@[simp] theorem State.put_regions (s : State) (f : Fld) (v : Nat) : (s.put f v).regions = s.regions := rfl
@[simp] theorem State.put_frames (s : State) (f : Fld) (v : Nat) : (s.put f v).frames = s.frames := rfl
@[simp] theorem State.put_moves (s : State) (f : Fld) (v : Nat) : (s.put f v).moves = s.moves := rfl
@[simp] theorem State.put_walks (s : State) (f : Fld) (v : Nat) : (s.put f v).walks = s.walks := rfl
@[simp] theorem State.put_walkQueue (s : State) (f : Fld) (v : Nat) : (s.put f v).walkQueue = s.walkQueue := rfl
@[simp] theorem State.put_tier (s : State) (f : Fld) (v : Nat) : (s.put f v).tier = s.tier := rfl
@[simp] theorem State.put_reclaim (s : State) (f : Fld) (v : Nat) : (s.put f v).reclaim = s.reclaim := rfl
@[simp] theorem State.put_spills (s : State) (f : Fld) (v : Nat) : (s.put f v).spills = s.spills := rfl
@[simp] theorem State.put_levels (s : State) (f : Fld) (v : Nat) : (s.put f v).levels = s.levels := rfl
@[simp] theorem State.put_hops (s : State) (f : Fld) (v : Nat) : (s.put f v).hops = s.hops := rfl
@[simp] theorem State.put_recalled (s : State) (f : Fld) (v : Nat) : (s.put f v).recalled = s.recalled := rfl
@[simp] theorem State.put_metaCache (s : State) (f : Fld) (v : Nat) : (s.put f v).metaCache = s.metaCache := rfl
@[simp] theorem State.put_metaSto (s : State) (f : Fld) (v : Nat) : (s.put f v).metaSto = s.metaSto := rfl
@[simp] theorem State.put_roots (s : State) (f : Fld) (v : Nat) : (s.put f v).roots = s.roots := rfl
@[simp] theorem State.put_quarantine (s : State) (f : Fld) (v : Nat) : (s.put f v).quarantine = s.quarantine := rfl
@[simp] theorem State.put_nodeRekeys (s : State) (f : Fld) (v : Nat) : (s.put f v).nodeRekeys = s.nodeRekeys := rfl
@[simp] theorem State.put_keys (s : State) (f : Fld) (v : Nat) : (s.put f v).keys = s.keys := rfl
@[simp] theorem State.put_salt (s : State) (f : Fld) (v : Nat) : (s.put f v).salt = s.salt := rfl
@[simp] theorem State.put_kint (s : State) (f : Fld) (v : Nat) : (s.put f v).kint = s.kint := rfl
@[simp] theorem State.put_keystreams (s : State) (f : Fld) (v : Nat) : (s.put f v).keystreams = s.keystreams := rfl
@[simp] theorem State.put_cryptoQ (s : State) (f : Fld) (v : Nat) : (s.put f v).cryptoQ = s.cryptoQ := rfl
@[simp] theorem State.put_alarms (s : State) (f : Fld) (v : Nat) : (s.put f v).alarms = s.alarms := rfl
@[simp] theorem State.put_dram (s : State) (f : Fld) (v : Nat) : (s.put f v).dram = s.dram := rfl
@[simp] theorem State.put_chans (s : State) (f : Fld) (v : Nat) : (s.put f v).chans = s.chans := rfl
@[simp] theorem State.put_masters (s : State) (f : Fld) (v : Nat) : (s.put f v).masters = s.masters := rfl
@[simp] theorem State.put_sharedPool (s : State) (f : Fld) (v : Nat) : (s.put f v).sharedPool = s.sharedPool := rfl
@[simp] theorem State.put_qosPending (s : State) (f : Fld) (v : Nat) : (s.put f v).qosPending = s.qosPending := rfl
@[simp] theorem State.put_quotas (s : State) (f : Fld) (v : Nat) : (s.put f v).quotas = s.quotas := rfl
@[simp] theorem State.put_reservedK (s : State) (f : Fld) (v : Nat) : (s.put f v).reservedK = s.reservedK := rfl
@[simp] theorem State.put_cmp (s : State) (f : Fld) (v : Nat) : (s.put f v).cmp = s.cmp := rfl
@[simp] theorem State.put_cryFaults (s : State) (f : Fld) (v : Nat) : (s.put f v).cryFaults = s.cryFaults := rfl
@[simp] theorem State.put_rings (s : State) (f : Fld) (v : Nat) : (s.put f v).rings = s.rings := rfl
@[simp] theorem State.put_mbx (s : State) (f : Fld) (v : Nat) : (s.put f v).mbx = s.mbx := rfl
@[simp] theorem State.put_claim (s : State) (f : Fld) (v : Nat) : (s.put f v).claim = s.claim := rfl
@[simp] theorem State.put_sb (s : State) (f : Fld) (v : Nat) : (s.put f v).sb = s.sb := rfl
@[simp] theorem State.put_mgt (s : State) (f : Fld) (v : Nat) : (s.put f v).mgt = s.mgt := rfl
@[simp] theorem State.put_jobs (s : State) (f : Fld) (v : Nat) : (s.put f v).jobs = s.jobs := rfl
@[simp] theorem State.put_lastTransit (s : State) (f : Fld) (v : Nat) : (s.put f v).lastTransit = s.lastTransit := rfl
@[simp] theorem State.put_stPorts (s : State) (f : Fld) (v : Nat) : (s.put f v).stPorts = s.stPorts := rfl
@[simp] theorem State.put_clu (s : State) (f : Fld) (v : Nat) : (s.put f v).clu = s.clu := rfl
@[simp] theorem State.put_stOpen (s : State) (f : Fld) (v : Nat) : (s.put f v).stOpen = s.stOpen := rfl
@[simp] theorem State.put_stSend (s : State) (f : Fld) (v : Nat) : (s.put f v).stSend = s.stSend := rfl
@[simp] theorem State.put_fuses (s : State) (f : Fld) (v : Nat) : (s.put f v).fuses = s.fuses := rfl
@[simp] theorem State.put_fuseShadow (s : State) (f : Fld) (v : Nat) : (s.put f v).fuseShadow = s.fuseShadow := rfl
@[simp] theorem State.put_spine (s : State) (f : Fld) (v : Nat) : (s.put f v).spine = s.spine := rfl
@[simp] theorem State.put_deferred (s : State) (f : Fld) (v : Nat) : (s.put f v).deferred = s.deferred := rfl
@[simp] theorem State.put_pwr (s : State) (f : Fld) (v : Nat) : (s.put f v).pwr = s.pwr := rfl
@[simp] theorem State.put_time (s : State) (f : Fld) (v : Nat) : (s.put f v).time = s.time := rfl
@[simp] theorem State.put_thm (s : State) (f : Fld) (v : Nat) : (s.put f v).thm = s.thm := rfl
@[simp] theorem State.put_hk (s : State) (f : Fld) (v : Nat) : (s.put f v).hk = s.hk := rfl
@[simp] theorem State.put_spw (s : State) (f : Fld) (v : Nat) : (s.put f v).spw = s.spw := rfl
@[simp] theorem State.put_spd (s : State) (f : Fld) (v : Nat) : (s.put f v).spd = s.spd := rfl
@[simp] theorem State.put_pmu (s : State) (f : Fld) (v : Nat) : (s.put f v).pmu = s.pmu := rfl
@[simp] theorem State.put_sec (s : State) (f : Fld) (v : Nat) : (s.put f v).sec = s.sec := rfl
@[simp] theorem State.put_rst (s : State) (f : Fld) (v : Nat) : (s.put f v).rst = s.rst := rfl
@[simp] theorem State.put_sramAt (s : State) (f : Fld) (v : Nat) : (s.put f v).sramAt = s.sramAt := rfl
@[simp] theorem State.put_passed (s : State) (f : Fld) (v : Nat) : (s.put f v).passed = s.passed := rfl
@[simp] theorem State.put_slotStamps (s : State) (f : Fld) (v : Nat) : (s.put f v).slotStamps = s.slotStamps := rfl
@[simp] theorem State.put_markWindow (s : State) (f : Fld) (v : Nat) : (s.put f v).markWindow = s.markWindow := rfl

@[simp] theorem State.emit_pending (s : State) (o : Out) : (s.emit o).pending = s.pending := rfl
@[simp] theorem State.emit_regs (s : State) (o : Out) : (s.emit o).regs = s.regs := rfl
@[simp] theorem State.emit_tb (s : State) (o : Out) : (s.emit o).tb = s.tb := rfl
@[simp] theorem State.emit_freeCtr (s : State) (o : Out) : (s.emit o).freeCtr = s.freeCtr := rfl
@[simp] theorem State.emit_useCtr (s : State) (o : Out) : (s.emit o).useCtr = s.useCtr := rfl
@[simp] theorem State.emit_nextId (s : State) (o : Out) : (s.emit o).nextId = s.nextId := rfl
@[simp] theorem State.emit_err (s : State) (o : Out) : (s.emit o).err = s.err := rfl
@[simp] theorem State.emit_lds (s : State) (o : Out) : (s.emit o).lds = s.lds := rfl
@[simp] theorem State.emit_links (s : State) (o : Out) : (s.emit o).links = s.links := rfl
@[simp] theorem State.emit_ports (s : State) (o : Out) : (s.emit o).ports = s.ports := rfl
@[simp] theorem State.emit_reqs (s : State) (o : Out) : (s.emit o).reqs = s.reqs := rfl
@[simp] theorem State.emit_ingress (s : State) (o : Out) : (s.emit o).ingress = s.ingress := rfl
@[simp] theorem State.emit_almanac (s : State) (o : Out) : (s.emit o).almanac = s.almanac := rfl
@[simp] theorem State.emit_near (s : State) (o : Out) : (s.emit o).near = s.near := rfl
@[simp] theorem State.emit_wb (s : State) (o : Out) : (s.emit o).wb = s.wb := rfl
@[simp] theorem State.emit_snoops (s : State) (o : Out) : (s.emit o).snoops = s.snoops := rfl
@[simp] theorem State.emit_dir (s : State) (o : Out) : (s.emit o).dir = s.dir := rfl
@[simp] theorem State.emit_stamps (s : State) (o : Out) : (s.emit o).stamps = s.stamps := rfl
@[simp] theorem State.emit_regions (s : State) (o : Out) : (s.emit o).regions = s.regions := rfl
@[simp] theorem State.emit_frames (s : State) (o : Out) : (s.emit o).frames = s.frames := rfl
@[simp] theorem State.emit_moves (s : State) (o : Out) : (s.emit o).moves = s.moves := rfl
@[simp] theorem State.emit_walks (s : State) (o : Out) : (s.emit o).walks = s.walks := rfl
@[simp] theorem State.emit_walkQueue (s : State) (o : Out) : (s.emit o).walkQueue = s.walkQueue := rfl
@[simp] theorem State.emit_tier (s : State) (o : Out) : (s.emit o).tier = s.tier := rfl
@[simp] theorem State.emit_reclaim (s : State) (o : Out) : (s.emit o).reclaim = s.reclaim := rfl
@[simp] theorem State.emit_spills (s : State) (o : Out) : (s.emit o).spills = s.spills := rfl
@[simp] theorem State.emit_levels (s : State) (o : Out) : (s.emit o).levels = s.levels := rfl
@[simp] theorem State.emit_hops (s : State) (o : Out) : (s.emit o).hops = s.hops := rfl
@[simp] theorem State.emit_recalled (s : State) (o : Out) : (s.emit o).recalled = s.recalled := rfl
@[simp] theorem State.emit_metaCache (s : State) (o : Out) : (s.emit o).metaCache = s.metaCache := rfl
@[simp] theorem State.emit_metaSto (s : State) (o : Out) : (s.emit o).metaSto = s.metaSto := rfl
@[simp] theorem State.emit_roots (s : State) (o : Out) : (s.emit o).roots = s.roots := rfl
@[simp] theorem State.emit_quarantine (s : State) (o : Out) : (s.emit o).quarantine = s.quarantine := rfl
@[simp] theorem State.emit_nodeRekeys (s : State) (o : Out) : (s.emit o).nodeRekeys = s.nodeRekeys := rfl
@[simp] theorem State.emit_keys (s : State) (o : Out) : (s.emit o).keys = s.keys := rfl
@[simp] theorem State.emit_salt (s : State) (o : Out) : (s.emit o).salt = s.salt := rfl
@[simp] theorem State.emit_kint (s : State) (o : Out) : (s.emit o).kint = s.kint := rfl
@[simp] theorem State.emit_keystreams (s : State) (o : Out) : (s.emit o).keystreams = s.keystreams := rfl
@[simp] theorem State.emit_cryptoQ (s : State) (o : Out) : (s.emit o).cryptoQ = s.cryptoQ := rfl
@[simp] theorem State.emit_alarms (s : State) (o : Out) : (s.emit o).alarms = s.alarms := rfl
@[simp] theorem State.emit_dram (s : State) (o : Out) : (s.emit o).dram = s.dram := rfl
@[simp] theorem State.emit_chans (s : State) (o : Out) : (s.emit o).chans = s.chans := rfl
@[simp] theorem State.emit_masters (s : State) (o : Out) : (s.emit o).masters = s.masters := rfl
@[simp] theorem State.emit_sharedPool (s : State) (o : Out) : (s.emit o).sharedPool = s.sharedPool := rfl
@[simp] theorem State.emit_qosPending (s : State) (o : Out) : (s.emit o).qosPending = s.qosPending := rfl
@[simp] theorem State.emit_quotas (s : State) (o : Out) : (s.emit o).quotas = s.quotas := rfl
@[simp] theorem State.emit_reservedK (s : State) (o : Out) : (s.emit o).reservedK = s.reservedK := rfl
@[simp] theorem State.emit_cmp (s : State) (o : Out) : (s.emit o).cmp = s.cmp := rfl
@[simp] theorem State.emit_cryFaults (s : State) (o : Out) : (s.emit o).cryFaults = s.cryFaults := rfl
@[simp] theorem State.emit_rings (s : State) (o : Out) : (s.emit o).rings = s.rings := rfl
@[simp] theorem State.emit_mbx (s : State) (o : Out) : (s.emit o).mbx = s.mbx := rfl
@[simp] theorem State.emit_claim (s : State) (o : Out) : (s.emit o).claim = s.claim := rfl
@[simp] theorem State.emit_sb (s : State) (o : Out) : (s.emit o).sb = s.sb := rfl
@[simp] theorem State.emit_mgt (s : State) (o : Out) : (s.emit o).mgt = s.mgt := rfl
@[simp] theorem State.emit_jobs (s : State) (o : Out) : (s.emit o).jobs = s.jobs := rfl
@[simp] theorem State.emit_lastTransit (s : State) (o : Out) : (s.emit o).lastTransit = s.lastTransit := rfl
@[simp] theorem State.emit_stPorts (s : State) (o : Out) : (s.emit o).stPorts = s.stPorts := rfl
@[simp] theorem State.emit_clu (s : State) (o : Out) : (s.emit o).clu = s.clu := rfl
@[simp] theorem State.emit_stOpen (s : State) (o : Out) : (s.emit o).stOpen = s.stOpen := rfl
@[simp] theorem State.emit_stSend (s : State) (o : Out) : (s.emit o).stSend = s.stSend := rfl
@[simp] theorem State.emit_fuses (s : State) (o : Out) : (s.emit o).fuses = s.fuses := rfl
@[simp] theorem State.emit_fuseShadow (s : State) (o : Out) : (s.emit o).fuseShadow = s.fuseShadow := rfl
@[simp] theorem State.emit_spine (s : State) (o : Out) : (s.emit o).spine = s.spine := rfl
@[simp] theorem State.emit_deferred (s : State) (o : Out) : (s.emit o).deferred = s.deferred := rfl
@[simp] theorem State.emit_pwr (s : State) (o : Out) : (s.emit o).pwr = s.pwr := rfl
@[simp] theorem State.emit_time (s : State) (o : Out) : (s.emit o).time = s.time := rfl
@[simp] theorem State.emit_thm (s : State) (o : Out) : (s.emit o).thm = s.thm := rfl
@[simp] theorem State.emit_hk (s : State) (o : Out) : (s.emit o).hk = s.hk := rfl
@[simp] theorem State.emit_spw (s : State) (o : Out) : (s.emit o).spw = s.spw := rfl
@[simp] theorem State.emit_spd (s : State) (o : Out) : (s.emit o).spd = s.spd := rfl
@[simp] theorem State.emit_pmu (s : State) (o : Out) : (s.emit o).pmu = s.pmu := rfl
@[simp] theorem State.emit_sec (s : State) (o : Out) : (s.emit o).sec = s.sec := rfl
@[simp] theorem State.emit_rst (s : State) (o : Out) : (s.emit o).rst = s.rst := rfl
@[simp] theorem State.emit_sramAt (s : State) (o : Out) : (s.emit o).sramAt = s.sramAt := rfl
@[simp] theorem State.emit_out (s : State) (o : Out) : (s.emit o).out = s.out ++ [o] := rfl
@[simp] theorem State.emit_get (s : State) (o : Out) (f : Fld) : (s.emit o).get f = s.get f := rfl
@[simp] theorem State.emit_passed (s : State) (o : Out) : (s.emit o).passed = s.passed := rfl
@[simp] theorem State.emit_slotStamps (s : State) (o : Out) : (s.emit o).slotStamps = s.slotStamps := rfl
@[simp] theorem State.emit_markWindow (s : State) (o : Out) : (s.emit o).markWindow = s.markWindow := rfl

end Sys2Proof.Machine
end

