-- ==== Sys2Proof/Laws/Exec.lean ====
section
/-!
SUPPORT. The dispatch and the step, said once: what `exec` answers for each command is its meaning, and a step runs the command at
the front of the queue.
-/

namespace Sys2Proof.Machine

theorem step_cons (s : State) (c : Instr) (rest : List Instr) (h : s.pending = c :: rest) :
    step s = exec c { s with pending := rest } := by unfold step; rw [h]

theorem step_nil (s : State) (h : s.pending = []) : step s = idle s := by unfold step; rw [h]

/-- With no row of the sideband to serve, time goes on. -/
theorem idle_tick (s : State) (h : s.mgt.rows = [] ∨ s.asleep = true) : idle s = .next (tick s) := by
  unfold idle
  rcases h with h | h
  · rw [h]
  · split
    · simp [h]
    · rfl

theorem exec_transitStart (s : State) : exec (.transitStart) s = execTransitStart s := rfl
theorem exec_periodicPlate (s : State) : exec (.periodicPlate) s = execPeriodicPlate s := rfl
theorem exec_periodicUnitComplete (job inst : BitVec 8) (s : State) : exec (.periodicUnitComplete job inst) s = execPeriodicUnitComplete job inst s := rfl
theorem exec_transitOverrun (job inst : BitVec 8) (s : State) : exec (.transitOverrun job inst) s = execTransitOverrun job inst s := rfl
theorem exec_spineParityError (at_ : Crossing) (seq earlier later : BitVec 5) (word : BitVec 65) (s : State) : exec (.spineParityError at_ seq earlier later word) s = execSpineParityError at_ seq earlier later word s := rfl
theorem exec_spineReplayRequest (hop : Hop) (parityOk : Bool) (s : State) : exec (.spineReplayRequest hop parityOk) s = execSpineReplayRequest hop parityOk s := rfl
theorem exec_spineReplayRelease (hop : Hop) (s : State) : exec (.spineReplayRelease hop) s = execSpineReplayRelease hop s := rfl
theorem exec_refreshPlanning (chan : Fin 16) (s : State) : exec (.refreshPlanning chan) s = execRefreshPlanning chan s := rfl
theorem exec_patrolScrubQuantum (chan : Fin 16) (errs : List MemErr) (s : State) : exec (.patrolScrubQuantum chan errs) s = execPatrolScrubQuantum chan errs s := rfl
theorem exec_directoryScrubQuantum (lines : List Nat) (errs : List MemErr) (s : State) : exec (.directoryScrubQuantum lines errs) s = execDirectoryScrubQuantum lines errs s := rfl
theorem exec_almanacEccScrubQuantum (corrected presenceBad tagBad : List Nat) (s : State) : exec (.almanacEccScrubQuantum corrected presenceBad tagBad) s = execAlmanacEccScrubQuantum corrected presenceBad tagBad s := rfl
theorem exec_demotionSweepQuantum (s : State) : exec (.demotionSweepQuantum) s = execDemotionSweepQuantum s := rfl
theorem exec_heatEpochAdvance (s : State) : exec (.heatEpochAdvance) s = execHeatEpochAdvance s := rfl
theorem exec_frameExecutiveSlot (units : BitVec 8) (cycles : List (BitVec 10)) (s : State) : exec (.frameExecutiveSlot units cycles) s = execFrameExecutiveSlot units cycles s := rfl
theorem exec_surveySubround (chan : Fin 64) (value : Option (BitVec 24)) (selfCheck : Bool) (s : State) : exec (.surveySubround chan value selfCheck) s = execSurveySubround chan value selfCheck s := rfl
theorem exec_thermalModelUpdate (s : State) : exec (.thermalModelUpdate) s = execThermalModelUpdate s := rfl
theorem exec_regulatorShortfallCheck (s : State) : exec (.regulatorShortfallCheck) s = execRegulatorShortfallCheck s := rfl
theorem exec_dimmTemperatureRead (chan : Fin 16) (sensors : Vector (Option Int) 2) (bands : Vector (Fin 3) 8) (s : State) : exec (.dimmTemperatureRead chan sensors bands) s = execDimmTemperatureRead chan sensors bands s := rfl
theorem exec_reclamationQuantum (s : State) : exec (.reclamationQuantum) s = execReclamationQuantum s := rfl
theorem exec_remarginingQuantum (eyes : List (Vector LaneEye 40)) (steps : List (Byte × Byte)) (s : State) : exec (.remarginingQuantum eyes steps) s = execRemarginingQuantum eyes steps s := rfl
theorem exec_remarginPassStart (s : State) : exec (.remarginPassStart) s = execRemarginPassStart s := rfl
theorem exec_memRd (slot : Fin 64) (tag : BitVec 16) (hpa : BitVec 64) (mv : Meta) (data : Bool) (s : State) : exec (.memRd slot tag hpa mv data) s = execMemRd slot tag hpa mv data s := rfl
theorem exec_memWr (slot : Fin 64) (tag : BitVec 16) (hpa : BitVec 64) (mv : Meta) (line : Line) (poison : Bool) (s : State) : exec (.memWr slot tag hpa mv line poison) s = execMemWr slot tag hpa mv line poison s := rfl
theorem exec_memWrPtl (slot : Fin 64) (tag : BitVec 16) (hpa : BitVec 64) (mv : Meta) (line : Line) (mask : BitVec 64) (poison : Bool) (s : State) : exec (.memWrPtl slot tag hpa mv line mask poison) s = execMemWrPtl slot tag hpa mv line mask poison s := rfl
theorem exec_memInv (slot : Fin 64) (tag : BitVec 16) (hpa : BitVec 64) (mv : Meta) (s : State) : exec (.memInv slot tag hpa mv) s = execMemInv slot tag hpa mv s := rfl
theorem exec_memClnEvct (slot : Fin 64) (tag : BitVec 16) (hpa : BitVec 64) (s : State) : exec (.memClnEvct slot tag hpa) s = execMemClnEvct slot tag hpa s := rfl
theorem exec_memSpecRd (slot : Fin 64) (tag : BitVec 16) (hpa : BitVec 64) (s : State) : exec (.memSpecRd slot tag hpa) s = execMemSpecRd slot tag hpa s := rfl
theorem exec_memFwd (slot : Fin 64) (tag : BitVec 16) (hpa : BitVec 64) (s : State) : exec (.memFwd slot tag hpa) s = execMemFwd slot tag hpa s := rfl
theorem exec_unknownMemOpcode (slot : Fin 64) (tag : BitVec 16) (hpa : BitVec 64) (data : Bool) (s : State) : exec (.unknownMemOpcode slot tag hpa data) s = execUnknownMemOpcode slot tag hpa data s := rfl
theorem exec_arbiterAccept (slice : Fin 16) (entry : SramCheck) (s : State) : exec (.arbiterAccept slice entry) s = execArbiterAccept slice entry s := rfl
theorem exec_pinWaitGrant (slice : Fin 16) (set : BitVec 14) (s : State) : exec (.pinWaitGrant slice set) s = execPinWaitGrant slice set s := rfl
theorem exec_admission (s : State) : exec (.admission) s = execAdmission s := rfl
theorem exec_capacityStallRepeat (s : State) : exec (.capacityStallRepeat) s = execCapacityStallRepeat s := rfl
theorem exec_storageWaitResume (slice : Fin 16) (s : State) : exec (.storageWaitResume slice) s = execStorageWaitResume slice s := rfl
theorem exec_backingFetchComplete (slice : Fin 16) (err : MemErr) (s : State) : exec (.backingFetchComplete slice err) s = execBackingFetchComplete slice err s := rfl
theorem exec_metadataFetchComplete (slice : Fin 16) (found : MetaFetch) (s : State) : exec (.metadataFetchComplete slice found) s = execMetadataFetchComplete slice found s := rfl
theorem exec_metadataEvictUpdate (slice : Fin 16) (s : State) : exec (.metadataEvictUpdate slice) s = execMetadataEvictUpdate slice s := rfl
theorem exec_nodeRekeyComplete (slice : Fin 16) (s : State) : exec (.nodeRekeyComplete slice) s = execNodeRekeyComplete slice s := rfl
theorem exec_keystreamReady (engine : Fin 8) (s : State) : exec (.keystreamReady engine) s = execKeystreamReady engine s := rfl
theorem exec_dramCommandIssue (chan : Fin 16) (sc : Fin 2) (blocked : List Nat) (s : State) : exec (.dramCommandIssue chan sc blocked) s = execDramCommandIssue chan sc blocked s := rfl
theorem exec_rowCloseTimeout (chan : Fin 16) (sc : Fin 2) (s : State) : exec (.rowCloseTimeout chan sc) s = execRowCloseTimeout chan sc s := rfl
theorem exec_powerDownEntry (chan : Fin 16) (rank : Fin 8) (s : State) : exec (.powerDownEntry chan rank) s = execPowerDownEntry chan rank s := rfl
theorem exec_refabIssue (chan : Fin 16) (rank : Fin 8) (s : State) : exec (.refabIssue chan rank) s = execRefabIssue chan rank s := rfl
theorem exec_dramReadComplete (chan : Fin 16) (sc : Fin 2) (err : MemErr) (s : State) : exec (.dramReadComplete chan sc err) s = execDramReadComplete chan sc err s := rfl
theorem exec_markWindowEnd (s : State) : exec (.markWindowEnd) s = execMarkWindowEnd s := rfl
theorem exec_cryptoReadUnit (engine : Fin 8) (s : State) : exec (.cryptoReadUnit engine) s = execCryptoReadUnit engine s := rfl
theorem exec_cryFault (engine : Fin 8) (s : State) : exec (.cryFault engine) s = execCryFault engine s := rfl
theorem exec_mergeReadComplete (slice : Fin 16) (err : MemErr) (s : State) : exec (.mergeReadComplete slice err) s = execMergeReadComplete slice err s := rfl
theorem exec_writeBufferDrain (slice : Fin 16) (s : State) : exec (.writeBufferDrain slice) s = execWriteBufferDrain slice s := rfl
theorem exec_moveCommit (page : BitVec 39) (s : State) : exec (.moveCommit page) s = execMoveCommit page s := rfl
theorem exec_bandCopyComplete (chan : Fin 16) (s : State) : exec (.bandCopyComplete chan) s = execBandCopyComplete chan s := rfl
theorem exec_encoderDispatch (engine : Fin 8) (s : State) : exec (.encoderDispatch engine) s = execEncoderDispatch engine s := rfl
theorem exec_encodeComplete (engine : Fin 8) (fault : Option (BitVec 4)) (s : State) : exec (.encodeComplete engine fault) s = execEncodeComplete engine fault s := rfl
theorem exec_decoderDispatch (s : State) : exec (.decoderDispatch) s = execDecoderDispatch s := rfl
theorem exec_decodeComplete (engine : Fin 24) (lane : Fin 4) (s : State) : exec (.decodeComplete engine lane) s = execDecodeComplete engine lane s := rfl
theorem exec_decoderParityError (engine : Fin 24) (lane : Fin 4) (s : State) : exec (.decoderParityError engine lane) s = execDecoderParityError engine lane s := rfl
theorem exec_recompressorDequeue (s : State) : exec (.recompressorDequeue) s = execRecompressorDequeue s := rfl
theorem exec_recompressionTimeout (page : BitVec 39) (s : State) : exec (.recompressionTimeout page) s = execRecompressionTimeout page s := rfl
theorem exec_engineDrained (crypto : Bool) (engine : Fin 32) (s : State) : exec (.engineDrained crypto engine) s = execEngineDrained crypto engine s := rfl
theorem exec_cmpSelftestComplete (engine : Fin 32) (pass : Bool) (s : State) : exec (.cmpSelftestComplete engine pass) s = execCmpSelftestComplete engine pass s := rfl
theorem exec_crySelftestComplete (engine : Fin 8) (pass : Bool) (s : State) : exec (.crySelftestComplete engine pass) s = execCrySelftestComplete engine pass s := rfl
theorem exec_cmpEngOfflineWrite (engine : Fin 32) (offline : Bool) (s : State) : exec (.cmpEngOfflineWrite engine offline) s = execCmpEngOfflineWrite engine offline s := rfl
theorem exec_cmpEngSelftestWrite (engine : Fin 32) (s : State) : exec (.cmpEngSelftestWrite engine) s = execCmpEngSelftestWrite engine s := rfl
theorem exec_tierDisableWrite (value : BitVec 32) (s : State) : exec (.tierDisableWrite value) s = execTierDisableWrite value s := rfl
theorem exec_cryEngOfflineWrite (engine : Fin 8) (offline : Bool) (s : State) : exec (.cryEngOfflineWrite engine offline) s = execCryEngOfflineWrite engine offline s := rfl
theorem exec_cryEngSelftestWrite (engine : Fin 8) (s : State) : exec (.cryEngSelftestWrite engine) s = execCryEngSelftestWrite engine s := rfl
theorem exec_cryCtrlWrite (value : BitVec 32) (s : State) : exec (.cryCtrlWrite value) s = execCryCtrlWrite value s := rfl
theorem exec_keyFlush (key : Fin 64) (s : State) : exec (.keyFlush key) s = execKeyFlush key s := rfl
theorem exec_walkStart (s : State) : exec (.walkStart) s = execWalkStart s := rfl
theorem exec_metadataInit (s : State) : exec (.metadataInit) s = execMetadataInit s := rfl
theorem exec_hostPortCtrlWrite (port : Fin 4) (value : BitVec 32) (s : State) : exec (.hostPortCtrlWrite port value) s = execHostPortCtrlWrite port value s := rfl
theorem exec_portResetRelease (port : Fin 4) (s : State) : exec (.portResetRelease port) s = execPortResetRelease port s := rfl
theorem exec_hostPortCfgWrite (port : Fin 4) (value : BitVec 32) (s : State) : exec (.hostPortCfgWrite port value) s = execHostPortCfgWrite port value s := rfl
theorem exec_linkResetWrite (link : Fin 16) (lostWrites : BitVec 8) (s : State) : exec (.linkResetWrite link lostWrites) s = execLinkResetWrite link lostWrites s := rfl
theorem exec_linkDisableWrite (link : Fin 16) (disable : Bool) (lostWrites : BitVec 8) (s : State) : exec (.linkDisableWrite link disable lostWrites) s = execLinkDisableWrite link disable lostWrites s := rfl
theorem exec_hanMapWrite (slot : Fin 64) (value : BitVec 32) (s : State) : exec (.hanMapWrite slot value) s = execHanMapWrite slot value s := rfl
theorem exec_linkUp (link : Fin 16) (width : BitVec 5) (speed : BitVec 3) (flit68 : Bool) (lds : Fin 4) (ptm : Bool) (s : State) : exec (.linkUp link width speed flit68 lds ptm) s = execLinkUp link width speed flit68 lds ptm s := rfl
theorem exec_memorySpaceEnable (slot : Fin 64) (on : Bool) (s : State) : exec (.memorySpaceEnable slot on) s = execMemorySpaceEnable slot on s := rfl
theorem exec_linkDrop (link : Fin 16) (lostWrites : BitVec 8) (s : State) : exec (.linkDrop link lostWrites) s = execLinkDrop link lostWrites s := rfl
theorem exec_dlUp (link : Fin 16) (s : State) : exec (.dlUp link) s = execDlUp link s := rfl
theorem exec_hotReset (link : Fin 16) (ld : Option (Fin 4)) (s : State) : exec (.hotReset link ld) s = execHotReset link ld s := rfl
theorem exec_perst (port : Fin 4) (asserted : Bool) (s : State) : exec (.perst port asserted) s = execPerst port asserted s := rfl
theorem exec_hostDeadTimeout (slot : Fin 64) (s : State) : exec (.hostDeadTimeout slot) s = execHostDeadTimeout slot s := rfl
theorem exec_l0pChange (link : Fin 16) (width : BitVec 5) (s : State) : exec (.l0pChange link width) s = execL0pChange link width s := rfl
theorem exec_biCreditReturn (link : Fin 16) (n : BitVec 6) (s : State) : exec (.biCreditReturn link n) s = execBiCreditReturn link n s := rfl
theorem exec_birsp (slot : Fin 64) (addr : BitVec 64) (answer : BiAnswer) (s : State) : exec (.birsp slot addr answer) s = execBirsp slot addr answer s := rfl
theorem exec_biconflict (slot : Fin 64) (addr : BitVec 64) (s : State) : exec (.biconflict slot addr) s = execBiconflict slot addr s := rfl
theorem exec_ideKm (link : Fin 16) (key : BitVec 256) (containment : Bool) (s : State) : exec (.ideKm link key containment) s = execIdeKm link key containment s := rfl
theorem exec_ideIntegrityFailure (link : Fin 16) (lostWrites : BitVec 8) (s : State) : exec (.ideIntegrityFailure link lostWrites) s = execIdeIntegrityFailure link lostWrites s := rfl
theorem exec_globalPersistentFlush (link : Fin 16) (phase : Fin 2) (s : State) : exec (.globalPersistentFlush link phase) s = execGlobalPersistentFlush link phase s := rfl
theorem exec_hdmDecoderCommit (slot : Fin 64) (decoder : Fin 4) (base size : BitVec 64) (ways : BitVec 5) (gran : BitVec 15) (dpa : BitVec 64) (s : State) : exec (.hdmDecoderCommit slot decoder base size ways gran dpa) s = execHdmDecoderCommit slot decoder base size ways gran dpa s := rfl
theorem exec_streamCtrlWrite (slot : Fin 64) (value : BitVec 32) (s : State) : exec (.streamCtrlWrite slot value) s = execStreamCtrlWrite slot value s := rfl
theorem exec_tbLoRead (slot : Fin 64) (read : HostRead) (s : State) : exec (.tbLoRead slot read) s = execTbLoRead slot read s := rfl
theorem exec_identifyMemoryDevice (slot : Fin 64) (s : State) : exec (.identifyMemoryDevice slot) s = execIdentifyMemoryDevice slot s := rfl
theorem exec_getPartitionInfo (slot : Fin 64) (s : State) : exec (.getPartitionInfo slot) s = execGetPartitionInfo slot s := rfl
theorem exec_getSupportedLogs (slot : Fin 64) (s : State) : exec (.getSupportedLogs slot) s = execGetSupportedLogs slot s := rfl
theorem exec_getLog (slot : Fin 64) (s : State) : exec (.getLog slot) s = execGetLog slot s := rfl
theorem exec_getEventRecords (slot : Fin 64) (s : State) : exec (.getEventRecords slot) s = execGetEventRecords slot s := rfl
theorem exec_clearEventRecords (slot : Fin 64) (n : BitVec 8) (s : State) : exec (.clearEventRecords slot n) s = execClearEventRecords slot n s := rfl
theorem exec_getEventInterruptPolicy (slot : Fin 64) (s : State) : exec (.getEventInterruptPolicy slot) s = execGetEventInterruptPolicy slot s := rfl
theorem exec_setEventInterruptPolicy (slot : Fin 64) (vector : BitVec 5) (s : State) : exec (.setEventInterruptPolicy slot vector) s = execSetEventInterruptPolicy slot vector s := rfl
theorem exec_setTimestamp (slot : Fin 64) (ns : BitVec 64) (s : State) : exec (.setTimestamp slot ns) s = execSetTimestamp slot ns s := rfl
theorem exec_getHealthInfo (slot : Fin 64) (s : State) : exec (.getHealthInfo slot) s = execGetHealthInfo slot s := rfl
theorem exec_getPoisonList (slot : Fin 64) (dpa len : BitVec 64) (s : State) : exec (.getPoisonList slot dpa len) s = execGetPoisonList slot dpa len s := rfl
theorem exec_injectPoison (slot : Fin 64) (dpa : BitVec 64) (s : State) : exec (.injectPoison slot dpa) s = execInjectPoison slot dpa s := rfl
theorem exec_clearPoison (slot : Fin 64) (dpa : BitVec 64) (line : Line) (s : State) : exec (.clearPoison slot dpa line) s = execClearPoison slot dpa line s := rfl
theorem exec_sanitize (slot : Fin 64) (s : State) : exec (.sanitize slot) s = execSanitize slot s := rfl
theorem exec_secureErase (slot : Fin 64) (s : State) : exec (.secureErase slot) s = execSecureErase slot s := rfl
theorem exec_getDcConfiguration (slot : Fin 64) (s : State) : exec (.getDcConfiguration slot) s = execGetDcConfiguration slot s := rfl
theorem exec_getDcExtentList (slot : Fin 64) (s : State) : exec (.getDcExtentList slot) s = execGetDcExtentList slot s := rfl
theorem exec_addDcResponse (slot : Fin 64) (dc : DcStep) (s : State) : exec (.addDcResponse slot dc) s = execAddDcResponse slot dc s := rfl
theorem exec_releaseDc (slot : Fin 64) (extents : List DcExtent) (s : State) : exec (.releaseDc slot extents) s = execReleaseDc slot extents s := rfl
theorem exec_getLdInfo (slot : Fin 64) (sideband : Bool) (s : State) : exec (.getLdInfo slot sideband) s = execGetLdInfo slot sideband s := rfl
theorem exec_getLdAllocations (slot : Fin 64) (sideband : Bool) (s : State) : exec (.getLdAllocations slot sideband) s = execGetLdAllocations slot sideband s := rfl
theorem exec_setLdAllocations (slot : Fin 64) (sideband : Bool) (gib : List (BitVec 22)) (s : State) : exec (.setLdAllocations slot sideband gib) s = execSetLdAllocations slot sideband gib s := rfl
theorem exec_aqCommandTunnel (slot : Fin 64) (bytes : List Byte) (s : State) : exec (.aqCommandTunnel slot bytes) s = execAqCommandTunnel slot bytes s := rfl
theorem exec_unsupportedMailboxOpcode (slot : Fin 64) (opcode : BitVec 16) (s : State) : exec (.unsupportedMailboxOpcode slot opcode) s = execUnsupportedMailboxOpcode slot opcode s := rfl
theorem exec_identify (p : Packet) (s : State) : exec (.identify p) s = execIdentify p s := rfl
theorem exec_readReg (p : Packet) (s : State) : exec (.readReg p) s = execReadReg p s := rfl
theorem exec_readLogbook (p : Packet) (s : State) : exec (.readLogbook p) s = execReadLogbook p s := rfl
theorem exec_regionAlloc (p : Packet) (s : State) : exec (.regionAlloc p) s = execRegionAlloc p s := rfl
theorem exec_regionFree (p : Packet) (s : State) : exec (.regionFree p) s = execRegionFree p s := rfl
theorem exec_regionClass (p : Packet) (s : State) : exec (.regionClass p) s = execRegionClass p s := rfl
theorem exec_extentSet (p : Packet) (s : State) : exec (.extentSet p) s = execExtentSet p s := rfl
theorem exec_extentClear (p : Packet) (s : State) : exec (.extentClear p) s = execExtentClear p s := rfl
theorem exec_regionRekey (p : Packet) (s : State) : exec (.regionRekey p) s = execRegionRekey p s := rfl
theorem exec_tierPin (p : Packet) (s : State) : exec (.tierPin p) s = execTierPin p s := rfl
theorem exec_tierUnpin (p : Packet) (s : State) : exec (.tierUnpin p) s = execTierUnpin p s := rfl
theorem exec_channelEvacuate (p : Packet) (s : State) : exec (.channelEvacuate p) s = execChannelEvacuate p s := rfl
theorem exec_channelReturn (p : Packet) (s : State) : exec (.channelReturn p) s = execChannelReturn p s := rfl
theorem exec_keyLoadGenerate (p : Packet) (s : State) : exec (.keyLoadGenerate p) s = execKeyLoadGenerate p s := rfl
theorem exec_keyLoadImport (p : Packet) (s : State) : exec (.keyLoadImport p) s = execKeyLoadImport p s := rfl
theorem exec_keyRetire (p : Packet) (s : State) : exec (.keyRetire p) s = execKeyRetire p s := rfl
theorem exec_leaseRelease (p : Packet) (s : State) : exec (.leaseRelease p) s = execLeaseRelease p s := rfl
theorem exec_leaseKeep (p : Packet) (s : State) : exec (.leaseKeep p) s = execLeaseKeep p s := rfl
theorem exec_leaseTimeout (region : BitVec 21) (s : State) : exec (.leaseTimeout region) s = execLeaseTimeout region s := rfl
theorem exec_leaseClearOrphan (p : Packet) (s : State) : exec (.leaseClearOrphan p) s = execLeaseClearOrphan p s := rfl
theorem exec_qosConfig (p : Packet) (s : State) : exec (.qosConfig p) s = execQosConfig p s := rfl
theorem exec_engineSetOnline (p : Packet) (s : State) : exec (.engineSetOnline p) s = execEngineSetOnline p s := rfl
theorem exec_engineSetOffline (p : Packet) (s : State) : exec (.engineSetOffline p) s = execEngineSetOffline p s := rfl
theorem exec_engineSetSelftest (p : Packet) (s : State) : exec (.engineSetSelftest p) s = execEngineSetSelftest p s := rfl
theorem exec_setPl (p : Packet) (s : State) : exec (.setPl p) s = execSetPl p s := rfl
theorem exec_sleep (p : Packet) (s : State) : exec (.sleep p) s = execSleep p s := rfl
theorem exec_slotPowerOn (p : Packet) (s : State) : exec (.slotPowerOn p) s = execSlotPowerOn p s := rfl
theorem exec_slotPowerOff (p : Packet) (s : State) : exec (.slotPowerOff p) s = execSlotPowerOff p s := rfl
theorem exec_memberJoin (p : Packet) (s : State) : exec (.memberJoin p) s = execMemberJoin p s := rfl
theorem exec_memberRemove (p : Packet) (s : State) : exec (.memberRemove p) s = execMemberRemove p s := rfl
theorem exec_pmuConfig (p : Packet) (s : State) : exec (.pmuConfig p) s = execPmuConfig p s := rfl
theorem exec_pmuPlate (p : Packet) (s : State) : exec (.pmuPlate p) s = execPmuPlate p s := rfl
theorem exec_pmuUserPageOpen (p : Packet) (s : State) : exec (.pmuUserPageOpen p) s = execPmuUserPageOpen p s := rfl
theorem exec_pmuUserPageClose (p : Packet) (s : State) : exec (.pmuUserPageClose p) s = execPmuUserPageClose p s := rfl
theorem exec_errRead (p : Packet) (s : State) : exec (.errRead p) s = execErrRead p s := rfl
theorem exec_errClear (p : Packet) (s : State) : exec (.errClear p) s = execErrClear p s := rfl
theorem exec_fwWrite (p : Packet) (s : State) : exec (.fwWrite p) s = execFwWrite p s := rfl
theorem exec_fwActivate (p : Packet) (s : State) : exec (.fwActivate p) s = execFwActivate p s := rfl
theorem exec_fuseProgram (p : Packet) (s : State) : exec (.fuseProgram p) s = execFuseProgram p s := rfl
theorem exec_debugUnlockChallenge (p : Packet) (s : State) : exec (.debugUnlockChallenge p) s = execDebugUnlockChallenge p s := rfl
theorem exec_debugUnlockAnswer (p : Packet) (s : State) : exec (.debugUnlockAnswer p) s = execDebugUnlockAnswer p s := rfl
theorem exec_dbgWrite (p : Packet) (s : State) : exec (.dbgWrite p) s = execDbgWrite p s := rfl
theorem exec_unsupportedCommand (p : Packet) (s : State) : exec (.unsupportedCommand p) s = execUnsupportedCommand p s := rfl
theorem exec_inPost (chan : Fin 16) (slot : Fin 64) (mgt : Bool) (len : BitVec 13) (bytes : List Byte) (s : State) : exec (.inPost chan slot mgt len bytes) s = execInPost chan slot mgt len bytes s := rfl
theorem exec_inTaken (chan : Fin 16) (mgt : Bool) (s : State) : exec (.inTaken chan mgt) s = execInTaken chan mgt s := rfl
theorem exec_outPost (chan : Fin 16) (mgt : Bool) (s : State) : exec (.outPost chan mgt) s = execOutPost chan mgt s := rfl
theorem exec_outTaken (chan : Fin 16) (slot : Fin 64) (mgt : Bool) (s : State) : exec (.outTaken chan slot mgt) s = execOutTaken chan slot mgt s := rfl
theorem exec_ch15Claim (slot : Fin 64) (s : State) : exec (.ch15Claim slot) s = execCh15Claim slot s := rfl
theorem exec_ch15ClaimRevoke (s : State) : exec (.ch15ClaimRevoke) s = execCh15ClaimRevoke s := rfl
theorem exec_mbxBindWrite (chan : Fin 16) (value : BitVec 32) (s : State) : exec (.mbxBindWrite chan value) s = execMbxBindWrite chan value s := rfl
theorem exec_farEndReset (chan : Fin 16) (s : State) : exec (.farEndReset chan) s = execFarEndReset chan s := rfl
theorem exec_sbItemStart (s : State) : exec (.sbItemStart) s = execSbItemStart s := rfl
theorem exec_sbByte (byte : Byte) (s : State) : exec (.sbByte byte) s = execSbByte byte s := rfl
theorem exec_sbItemEnd (s : State) : exec (.sbItemEnd) s = execSbItemEnd s := rfl
theorem exec_sbBusFault (s : State) : exec (.sbBusFault) s = execSbBusFault s := rfl
theorem exec_sbDataRead (corrected : Bool) (bad : Option (BitVec 64)) (s : State) : exec (.sbDataRead corrected bad) s = execSbDataRead corrected bad s := rfl
theorem exec_sbMark (s : State) : exec (.sbMark) s = execSbMark s := rfl
theorem exec_sbRewind (s : State) : exec (.sbRewind) s = execSbRewind s := rfl
theorem exec_sbFlush (s : State) : exec (.sbFlush) s = execSbFlush s := rfl
theorem exec_uartFrame (bytes : List Byte) (s : State) : exec (.uartFrame bytes) s = execUartFrame bytes s := rfl
theorem exec_fuseBitProgram (result : Fin 3) (s : State) : exec (.fuseBitProgram result) s = execFuseBitProgram result s := rfl
theorem exec_norWriteComplete (s : State) : exec (.norWriteComplete) s = execNorWriteComplete s := rfl
theorem exec_boot (identity : List Byte) (s : State) : exec (.boot identity) s = execBoot identity s := rfl
theorem exec_trialConfirm (s : State) : exec (.trialConfirm) s = execTrialConfirm s := rfl
theorem exec_spdmGetCertificate (transport : Fin 65) (certSlot : Fin 8) (s : State) : exec (.spdmGetCertificate transport certSlot) s = execSpdmGetCertificate transport certSlot s := rfl
theorem exec_spdmChallenge (transport : Fin 65) (certSlot : Fin 8) (s : State) : exec (.spdmChallenge transport certSlot) s = execSpdmChallenge transport certSlot s := rfl
theorem exec_spdmGetMeasurements (transport : Fin 65) (index : BitVec 8) (signed : Bool) (s : State) : exec (.spdmGetMeasurements transport index signed) s = execSpdmGetMeasurements transport index signed s := rfl
theorem exec_spdmKeyExchange (transport : Fin 65) (s : State) : exec (.spdmKeyExchange transport) s = execSpdmKeyExchange transport s := rfl
theorem exec_spdmKeyUpdate (transport : Fin 65) (session : BitVec 16) (s : State) : exec (.spdmKeyUpdate transport session) s = execSpdmKeyUpdate transport session s := rfl
theorem exec_spdmHeartbeat (transport : Fin 65) (session : BitVec 16) (s : State) : exec (.spdmHeartbeat transport session) s = execSpdmHeartbeat transport session s := rfl
theorem exec_plVoltageSettled (s : State) : exec (.plVoltageSettled) s = execPlVoltageSettled s := rfl
theorem exec_plClockSwitch (s : State) : exec (.plClockSwitch) s = execPlClockSwitch s := rfl
theorem exec_blockStopComplete (s : State) : exec (.blockStopComplete) s = execBlockStopComplete s := rfl
theorem exec_wakePin (pin : Fin 2) (s : State) : exec (.wakePin pin) s = execWakePin pin s := rfl
theorem exec_wakeTimer (s : State) : exec (.wakeTimer) s = execWakeTimer s := rfl
theorem exec_wakeMaskClear (src : Fin 10) (s : State) : exec (.wakeMaskClear src) s = execWakeMaskClear src s := rfl
theorem exec_pllLock (s : State) : exec (.pllLock) s = execPllLock s := rfl
theorem exec_slExitComplete (retentionUe : Bool) (s : State) : exec (.slExitComplete retentionUe) s = execSlExitComplete retentionUe s := rfl
theorem exec_brownOut (s : State) : exec (.brownOut) s = execBrownOut s := rfl
theorem exec_ptmExchange (offset : Int) (s : State) : exec (.ptmExchange offset) s = execPtmExchange offset s := rfl
theorem exec_xtalTrimUpdate (trim : BitVec 32) (s : State) : exec (.xtalTrimUpdate trim) s = execXtalTrimUpdate trim s := rfl
theorem exec_refComparatorTrip (temp : BitVec 16) (s : State) : exec (.refComparatorTrip temp) s = execRefComparatorTrip temp s := rfl
theorem exec_thermalRestart (s : State) : exec (.thermalRestart) s = execThermalRestart s := rfl
theorem exec_roDay (ageing : Vector (BitVec 16) 12) (s : State) : exec (.roDay ageing) s = execRoDay ageing s := rfl
theorem exec_logbookWrite (s : State) : exec (.logbookWrite) s = execLogbookWrite s := rfl
theorem exec_presenceChange (slot : Fin 16) (prsnt0 prsnt1 : Bool) (s : State) : exec (.presenceChange slot prsnt0 prsnt1) s = execPresenceChange slot prsnt0 prsnt1 s := rfl
theorem exec_vinWindowChange (slot : Fin 16) (vin : BitVec 16) (s : State) : exec (.vinWindowChange slot vin) s = execVinWindowChange slot vin s := rfl
theorem exec_insertionDelayExpiry (slot : Fin 16) (s : State) : exec (.insertionDelayExpiry slot) s = execInsertionDelayExpiry slot s := rfl
theorem exec_slotFullyOn (slot : Fin 16) (s : State) : exec (.slotFullyOn slot) s = execSlotFullyOn slot s := rfl
theorem exec_rampTimeout (slot : Fin 16) (s : State) : exec (.rampTimeout slot) s = execRampTimeout slot s := rfl
theorem exec_pgDelayExpiry (slot : Fin 16) (s : State) : exec (.pgDelayExpiry slot) s = execPgDelayExpiry slot s := rfl
theorem exec_currentLimitOnset (slot : Fin 16) (s : State) : exec (.currentLimitOnset slot) s = execCurrentLimitOnset slot s := rfl
theorem exec_currentLimitRelease (slot : Fin 16) (s : State) : exec (.currentLimitRelease slot) s = execCurrentLimitRelease slot s := rfl
theorem exec_faultTimerExpiry (slot : Fin 16) (s : State) : exec (.faultTimerExpiry slot) s = execFaultTimerExpiry slot s := rfl
theorem exec_slotDownEnd (slot : Fin 16) (low : Bool) (s : State) : exec (.slotDownEnd slot low) s = execSlotDownEnd slot low s := rfl
theorem exec_meterUpdate (slot : Fin 16) (current : BitVec 32) (vout vin : BitVec 16) (power energy : BitVec 32) (s : State) : exec (.meterUpdate slot current vout vin power energy) s = execMeterUpdate slot current vout vin power energy s := rfl
theorem exec_spdReadStart (slot : Fin 16) (s : State) : exec (.spdReadStart slot) s = execSpdReadStart slot s := rfl
theorem exec_spdReadComplete (slot : Fin 16) (hub0 hub1 : Option SpdHub) (same : Bool) (s : State) : exec (.spdReadComplete slot hub0 hub1 same) s = execSpdReadComplete slot hub0 hub1 same s := rfl
theorem exec_dcCfgWrite (chan : Fin 16) (value : Word) (same : Bool) (maxFrames : BitVec 28) (rated : Fin 5) (s : State) : exec (.dcCfgWrite chan value same maxFrames rated) s = execDcCfgWrite chan value same maxFrames rated s := rfl
theorem exec_dcMarkWrite (chan : Fin 16) (rank : Fin 8) (value : BitVec 32) (s : State) : exec (.dcMarkWrite chan rank value) s = execDcMarkWrite chan rank value s := rfl
theorem exec_zeroInitComplete (chan : Fin 16) (s : State) : exec (.zeroInitComplete chan) s = execZeroInitComplete chan s := rfl
theorem exec_trainingGo (chan : Fin 16) (value : BitVec 32) (s : State) : exec (.trainingGo chan value) s = execTrainingGo chan value s := rfl
theorem exec_trainingStepComplete (chan : Fin 16) (lanes : Vector LaneEye 40) (s : State) : exec (.trainingStepComplete chan lanes) s = execTrainingStepComplete chan lanes s := rfl
theorem exec_qosCtrlWrite (value : BitVec 32) (s : State) : exec (.qosCtrlWrite value) s = execQosCtrlWrite value s := rfl
theorem exec_dmrCtrlWrite (ring : Fin 32) (value : BitVec 32) (s : State) : exec (.dmrCtrlWrite ring value) s = execDmrCtrlWrite ring value s := rfl
theorem exec_dmrDoorbell (ring : Fin 32) (tail : BitVec 15) (page : Option (Fin 64)) (s : State) : exec (.dmrDoorbell ring tail page) s = execDmrDoorbell ring tail page s := rfl
theorem exec_descriptorFetch (ring : Fin 32) (s : State) : exec (.descriptorFetch ring) s = execDescriptorFetch ring s := rfl
theorem exec_dmCopy (ring : Fin 32) (s : State) : exec (.dmCopy ring) s = execDmCopy ring s := rfl
theorem exec_dmFill (ring : Fin 32) (s : State) : exec (.dmFill ring) s = execDmFill ring s := rfl
theorem exec_dmZero (ring : Fin 32) (s : State) : exec (.dmZero ring) s = execDmZero ring s := rfl
theorem exec_dmCompress (ring : Fin 32) (s : State) : exec (.dmCompress ring) s = execDmCompress ring s := rfl
theorem exec_dmDecompress (ring : Fin 32) (s : State) : exec (.dmDecompress ring) s = execDmDecompress ring s := rfl
theorem exec_dmFence (ring : Fin 32) (s : State) : exec (.dmFence ring) s = execDmFence ring s := rfl
theorem exec_dmNop (ring : Fin 32) (s : State) : exec (.dmNop ring) s = execDmNop ring s := rfl
theorem exec_dmReservedOpcode (ring : Fin 32) (s : State) : exec (.dmReservedOpcode ring) s = execDmReservedOpcode ring s := rfl
theorem exec_dmOperationComplete (ring : Fin 32) (s : State) : exec (.dmOperationComplete ring) s = execDmOperationComplete ring s := rfl
theorem exec_stRetrainWrite (port : Fin 4) (s : State) : exec (.stRetrainWrite port) s = execStRetrainWrite port s := rfl
theorem exec_stPortResetWrite (port : Fin 4) (s : State) : exec (.stPortResetWrite port) s = execStPortResetWrite port s := rfl
theorem exec_stDisableWrite (port : Fin 4) (disable : Bool) (s : State) : exec (.stDisableWrite port disable) s = execStDisableWrite port disable s := rfl
theorem exec_trainingAttemptTimeout (port : Fin 4) (s : State) : exec (.trainingAttemptTimeout port) s = execTrainingAttemptTimeout port s := rfl
theorem exec_trainingBlockReceived (port : Fin 4) (lane : Fin 9) (detected : BitVec 9) (block : BitVec 576) (advance : Bool) (s : State) : exec (.trainingBlockReceived port lane detected block advance) s = execTrainingBlockReceived port lane detected block advance s := rfl
theorem exec_syncSend (port : Fin 4) (s : State) : exec (.syncSend port) s = execSyncSend port s := rfl
theorem exec_linkActive (port : Fin 4) (s : State) : exec (.linkActive port) s = execLinkActive port s := rfl
theorem exec_flitReceived (port : Fin 4) (flit copy : BitVec 576) (s : State) : exec (.flitReceived port flit copy) s = execFlitReceived port flit copy s := rfl
theorem exec_ctrlFlitReceived (port : Fin 4) (flit copy : BitVec 576) (s : State) : exec (.ctrlFlitReceived port flit copy) s = execCtrlFlitReceived port flit copy s := rfl
theorem exec_ackTimer (port : Fin 4) (s : State) : exec (.ackTimer port) s = execAckTimer port s := rfl
theorem exec_nakResendTimer (port : Fin 4) (s : State) : exec (.nakResendTimer port) s = execNakResendTimer port s := rfl
theorem exec_replayTimer (port : Fin 4) (s : State) : exec (.replayTimer port) s = execReplayTimer port s := rfl
theorem exec_stitchDown (port : Fin 4) (s : State) : exec (.stitchDown port) s = execStitchDown port s := rfl
theorem exec_spareWindowEnd (port : Fin 4) (s : State) : exec (.spareWindowEnd port) s = execSpareWindowEnd port s := rfl
theorem exec_laneLockLoss (port : Fin 4) (lane : Fin 9) (s : State) : exec (.laneLockLoss port lane) s = execLaneLockLoss port lane s := rfl
theorem exec_spareReq (port : Fin 4) (lane : Fin 8) (s : State) : exec (.spareReq port lane) s = execSpareReq port lane s := rfl
theorem exec_spareAck (port : Fin 4) (lane : Fin 8) (s : State) : exec (.spareAck port lane) s = execSpareAck port lane s := rfl
theorem exec_spareReqRepeat (port : Fin 4) (s : State) : exec (.spareReqRepeat port) s = execSpareReqRepeat port s := rfl
theorem exec_stRd (port : Fin 4) (s : State) : exec (.stRd port) s = execStRd port s := rfl
theorem exec_stWr (port : Fin 4) (s : State) : exec (.stWr port) s = execStWr port s := rfl
theorem exec_stWrPtl (port : Fin 4) (s : State) : exec (.stWrPtl port) s = execStWrPtl port s := rfl
theorem exec_spillPut (port : Fin 4) (s : State) : exec (.spillPut port) s = execSpillPut port s := rfl
theorem exec_spillGet (port : Fin 4) (s : State) : exec (.spillGet port) s = execSpillGet port s := rfl
theorem exec_spillFree (port : Fin 4) (s : State) : exec (.spillFree port) s = execSpillFree port s := rfl
theorem exec_stCmd (port : Fin 4) (s : State) : exec (.stCmd port) s = execStCmd port s := rfl
theorem exec_stCmp (port : Fin 4) (s : State) : exec (.stCmp port) s = execStCmp port s := rfl
theorem exec_snpRsp (port : Fin 4) (s : State) : exec (.snpRsp port) s = execSnpRsp port s := rfl
theorem exec_cmdRsp (port : Fin 4) (s : State) : exec (.cmdRsp port) s = execCmdRsp port s := rfl
theorem exec_snpInv (port : Fin 4) (s : State) : exec (.snpInv port) s = execSnpInv port s := rfl
theorem exec_snpData (port : Fin 4) (s : State) : exec (.snpData port) s = execSnpData port s := rfl
theorem exec_stUndefinedOpcode (port : Fin 4) (s : State) : exec (.stUndefinedOpcode port) s = execStUndefinedOpcode port s := rfl
theorem exec_hello (port : Fin 4) (s : State) : exec (.hello port) s = execHello port s := rfl
theorem exec_helloTimer (s : State) : exec (.helloTimer) s = execHelloTimer s := rfl
theorem exec_roster (port : Fin 4) (s : State) : exec (.roster port) s = execRoster port s := rfl
theorem exec_rosterHeartbeat (s : State) : exec (.rosterHeartbeat) s = execRosterHeartbeat s := rfl
theorem exec_routeSet (port : Fin 4) (s : State) : exec (.routeSet port) s = execRouteSet port s := rfl
theorem exec_hold (port : Fin 4) (s : State) : exec (.hold port) s = execHold port s := rfl
theorem exec_held (port : Fin 4) (s : State) : exec (.held port) s = execHeld port s := rfl
theorem exec_resume (port : Fin 4) (s : State) : exec (.resume port) s = execResume port s := rfl
theorem exec_linkDown (port : Fin 4) (s : State) : exec (.linkDown port) s = execLinkDown port s := rfl
theorem exec_claim (port : Fin 4) (s : State) : exec (.claim port) s = execClaim port s := rfl
theorem exec_level (port : Fin 4) (s : State) : exec (.level port) s = execLevel port s := rfl
theorem exec_recallLeases (port : Fin 4) (s : State) : exec (.recallLeases port) s = execRecallLeases port s := rfl
theorem exec_leave (port : Fin 4) (s : State) : exec (.leave port) s = execLeave port s := rfl
theorem exec_headElection (s : State) : exec (.headElection) s = execHeadElection s := rfl
theorem exec_formationDeadline (s : State) : exec (.formationDeadline) s = execFormationDeadline s := rfl
theorem exec_heartbeatLoss (s : State) : exec (.heartbeatLoss) s = execHeartbeatLoss s := rfl
theorem exec_claimSettle (s : State) : exec (.claimSettle) s = execClaimSettle s := rfl
theorem exec_failureDecision (s : State) : exec (.failureDecision) s = execFailureDecision s := rfl
theorem exec_errorRecord (code inst : BitVec 8) (fatal : Bool) (addr : BitVec 64) (detail : BitVec 32) (s : State) : exec (.errorRecord code inst fatal addr detail) s = execErrorRecord code inst fatal addr detail s := rfl
theorem exec_mgtLockstep (s : State) : exec (.mgtLockstep) s = execMgtLockstep s := rfl
theorem exec_sramUe (slice : Fin 16) (kind : Fin 8) (index : BitVec 40) (s : State) : exec (.sramUe slice kind index) s = execSramUe slice kind index s := rfl
theorem exec_sramScrubStep (slice : Fin 16) (array : Fin 3) (corrected : Bool) (s : State) : exec (.sramScrubStep slice array corrected) s = execSramScrubStep slice array corrected s := rfl
theorem exec_pmuValueWrite (ctr : Fin 256) (value : BitVec 48) (s : State) : exec (.pmuValueWrite ctr value) s = execPmuValueWrite ctr value s := rfl
theorem exec_pmuPlateWrite (s : State) : exec (.pmuPlateWrite) s = execPmuPlateWrite s := rfl
theorem exec_counterWrap (ctr : Fin 256) (inc : BitVec 48) (s : State) : exec (.counterWrap ctr inc) s = execCounterWrap ctr inc s := rfl
theorem exec_pmuUe (ctr : Fin 256) (s : State) : exec (.pmuUe ctr) s = execPmuUe ctr s := rfl
theorem exec_powerOn (s : State) : exec (.powerOn) s = execPowerOn s := rfl
theorem exec_coreRst (asserted : Bool) (s : State) : exec (.coreRst asserted) s = execCoreRst asserted s := rfl
theorem exec_mgtRst (asserted : Bool) (s : State) : exec (.mgtRst asserted) s = execMgtRst asserted s := rfl
theorem exec_pwrOkLow (low : Bool) (s : State) : exec (.pwrOkLow low) s = execPwrOkLow low s := rfl
theorem exec_resetRelease (s : State) : exec (.resetRelease) s = execResetRelease s := rfl
theorem exec_registerWrite (addr : BitVec 32) (wide : Bool) (access : RegAccess) (s : State) : exec (.registerWrite addr wide access) s = execRegisterWrite addr wide access s := rfl
theorem exec_stopBudgetExpiry (s : State) : exec (.stopBudgetExpiry) s = execStopBudgetExpiry s := rfl
theorem exec_deferredClaimTimeout (s : State) : exec (.deferredClaimTimeout) s = execDeferredClaimTimeout s := rfl
theorem exec_vaux1v8Loss (s : State) : exec (.vaux1v8Loss) s = execVaux1v8Loss s := rfl
theorem exec_spdmSessionEnd (transport : Fin 65) (session : BitVec 16) (s : State) : exec (.spdmSessionEnd transport session) s = execSpdmSessionEnd transport session s := rfl

end Sys2Proof.Machine
end

