-- ==== Sys2Proof/Laws/Packets.lean ====
section
/-!
SUPPORT. The packet rows and the standard commands, said once: what a packet that is decided here is answered, how a statement about
a row follows from one about the effect of its command, and what a standard command that is served answers.
-/

namespace Sys2Proof.Machine

/-- The packet of a row with an opcode, as it arrives. -/
theorem opForm_eq (op : Nat) (p : Packet) : opForm op p = { p with opcode := BitVec.ofNat 16 op, muted := false } := rfl

/-- A packet that is decided at once, here, and passes the checks: its command takes its effect and is answered. -/
theorem runCmd_runs {p : Packet} {s : State} (op : Nat) (eff : Effect) (h : PacketRuns s (opForm op p)) :
    runCmd op eff p s =
      answer (opForm op p) (eff (opForm op p) (decidedIn (opForm op p) s)).1 (eff (opForm op p) (decidedIn (opForm op p) s)).2 := by
  unfold runCmd decideWith
  have e : State.count (holdTag (opForm op p) s) 0x902 0 = decidedIn (opForm op p) s := rfl
  simp only [← opForm_eq, h.now, h.fresh, h.header, Bool.false_eq_true, if_false, Bool.not_true, e, h.here,
    Bool.false_and, h.checks, h.own]

/-- A packet that cannot be decided as it arrives waits, the last in the order of arrival. -/
theorem runCmd_waits {p : Packet} {s : State} (op : Nat) (eff : Effect) (h : decidesNow (opForm op p) s = false) :
    runCmd op eff p s = arrive (opForm op p) (wakeArrival (opForm op p) s) := by
  unfold runCmd
  simp only [← opForm_eq, h, Bool.not_false, if_true]

/-- A statement about a row of command packets follows from one about its command's effect. -/
theorem rowAnswers_of {row : Packet → Instr} {form q : Packet → Packet} {pre : Packet → State → Prop}
    {post : Packet → State → Verdict → State → Prop} (op : Nat) (eff : Effect)
    (he : ∀ p s, exec (row p) s = .next (runCmd op eff (q p) s)) (hf : ∀ p, opForm op (q p) = form p)
    (h : ∀ p u, pre (form p) u → post (form p) u (eff (form p) u).1 (eff (form p) u).2) : RowAnswers row form pre post := by
  intro s p hr hp
  refine ⟨(eff (form p) (decidedIn (form p) s)).1, (eff (form p) (decidedIn (form p) s)).2, ?_, h _ _ hp⟩
  rw [he, runCmd_runs op eff (by rw [hf]; exact hr), hf]

/-- The checks of a standard command that is served pass: it takes its effect and is answered. -/
theorem stdServe_served {s : State} {m : Nat} {sb : Bool} {cls : Nat} (h : StdServed s m sb cls) (f : State → StdVerdict × State) :
    stdServe m sb cls f (stdArrived s sb) = (f (stdArrived s sb)).2.emit
      (.mailbox (if sb then 64 else m) (f (stdArrived s sb)).1.code (f (stdArrived s sb)).1.data) := by
  have e6 : ((stdArrived s sb).inFatal && cls != 1 && cls != 0x0B) = false := by rcases h.fatal with h | h | h <;> simp [h]
  unfold stdServe
  simp only [h.booted, h.normal, h.allowed, e6, Bool.not_true, Bool.false_eq_true, if_false]

/-- A standard command of a primary mailbox that is served takes its effect and is answered. -/
theorem stdCommand_served {s : State} {m : Nat} {cls : Nat} (h : StdServed s m false cls) (f : State → StdVerdict × State) :
    stdCommand m cls f s = (f (stdArrived s false)).2.emit
      (.mailbox m (f (stdArrived s false)).1.code (f (stdArrived s false)).1.data) := by
  have down : s.coreDown = false := by
    have h1 := h.awake
    simp only [State.asleep, Bool.or_eq_false_iff] at h1
    exact h1.2
  have reached : ldReached s m = true := by simpa using h.reached
  have serve := stdServe_served h f
  simp only [Bool.false_eq_true, if_false] at serve
  rw [← serve]
  simp [stdCommand, ioAccess, stdArrived, h.awake, down, reached]

/-- An FM API command that is served, over a link or the sideband, takes its effect and is answered. -/
theorem fmCommand_served {row : Instr} {s : State} {m : Nat} {sb : Bool} {cls : Nat} (h : StdServed s m sb cls)
    (f : State → StdVerdict × State) :
    fmCommand row m sb cls f s = (f (stdArrived s sb)).2.emit
      (.mailbox (if sb then 64 else m) (f (stdArrived s sb)).1.code (f (stdArrived s sb)).1.data) := by
  cases sb with
  | true =>
    have first : s.mgt.rows = [] := by simpa using h.first
    rw [← stdServe_served h f]
    simp [fmCommand, sidebandAccess, stdArrived, h.awake, first]
  | false => simpa [fmCommand] using stdCommand_served h f

end Sys2Proof.Machine
end

