-- ==== Sys2Proof/Laws/PerInstr.lean ====
section
/-!
SUPPORT. Statements made per command: of the commands' operands, only the lists of nine rows have a layout of their own, so every other
command is well formed whatever its operands.
-/

namespace Sys2Proof.Laws.F

/-- Whether a row carries a list that stands for a fixed number of readings, lanes, bytes or logical devices. -/
def hasLayout : Instr → Bool
  | .trainingStepComplete _ _ => true
  | .dimmTemperatureRead _ _ _ => true
  | .remarginingQuantum _ _ => true
  | .roDay _ => true
  | .spdReadComplete _ _ _ _ => true
  | .spareWindowEnd _ => true
  | .setLdAllocations _ _ _ => true
  | .inPost _ _ _ _ _ => true
  | .aqCommandTunnel _ _ => true
  | _ => false

/-- A command of a row without such a list is well formed. -/
def Statement (i : Instr) : Prop := hasLayout i = false → i.wellFormed = true

theorem transitStart : Statement (.transitStart) := fun _ => rfl
theorem periodicPlate : Statement (.periodicPlate) := fun _ => rfl
theorem periodicUnitComplete (job inst : BitVec 8) : Statement (.periodicUnitComplete job inst) := fun _ => rfl
theorem transitOverrun (job inst : BitVec 8) : Statement (.transitOverrun job inst) := fun _ => rfl
theorem spineParityError (at_ : Crossing) (seq earlier later : BitVec 5) (word : BitVec 65) : Statement (.spineParityError at_ seq earlier later word) := fun _ => rfl
theorem spineReplayRequest (hop : Hop) (parityOk : Bool) : Statement (.spineReplayRequest hop parityOk) := fun _ => rfl
theorem spineReplayRelease (hop : Hop) : Statement (.spineReplayRelease hop) := fun _ => rfl
theorem refreshPlanning (chan : Fin 16) : Statement (.refreshPlanning chan) := fun _ => rfl
theorem patrolScrubQuantum (chan : Fin 16) (errs : List MemErr) : Statement (.patrolScrubQuantum chan errs) := fun _ => rfl
theorem directoryScrubQuantum (lines : List Nat) (errs : List MemErr) : Statement (.directoryScrubQuantum lines errs) := fun _ => rfl
theorem almanacEccScrubQuantum (corrected presenceBad tagBad : List Nat) : Statement (.almanacEccScrubQuantum corrected presenceBad tagBad) := fun _ => rfl
theorem demotionSweepQuantum : Statement (.demotionSweepQuantum) := fun _ => rfl
theorem heatEpochAdvance : Statement (.heatEpochAdvance) := fun _ => rfl
theorem frameExecutiveSlot (units : BitVec 8) (cycles : List (BitVec 10)) : Statement (.frameExecutiveSlot units cycles) := fun _ => rfl
theorem surveySubround (chan : Fin 64) (value : Option (BitVec 24)) (selfCheck : Bool) : Statement (.surveySubround chan value selfCheck) := fun _ => rfl
theorem thermalModelUpdate : Statement (.thermalModelUpdate) := fun _ => rfl
theorem regulatorShortfallCheck : Statement (.regulatorShortfallCheck) := fun _ => rfl
theorem dimmTemperatureRead (chan : Fin 16) (sensors : Vector (Option Int) 2) (bands : Vector (Fin 3) 8) : Statement (.dimmTemperatureRead chan sensors bands) := fun h => nomatch h
theorem reclamationQuantum : Statement (.reclamationQuantum) := fun _ => rfl
theorem remarginingQuantum (eyes : List (Vector LaneEye 40)) (steps : List (Byte × Byte)) : Statement (.remarginingQuantum eyes steps) := fun h => nomatch h
theorem remarginPassStart : Statement (.remarginPassStart) := fun _ => rfl
theorem memRd (slot : Fin 64) (tag : BitVec 16) (hpa : BitVec 64) (mv : Meta) (data : Bool) : Statement (.memRd slot tag hpa mv data) := fun _ => rfl
theorem memWr (slot : Fin 64) (tag : BitVec 16) (hpa : BitVec 64) (mv : Meta) (line : Line) (poison : Bool) : Statement (.memWr slot tag hpa mv line poison) := fun _ => rfl
theorem memWrPtl (slot : Fin 64) (tag : BitVec 16) (hpa : BitVec 64) (mv : Meta) (line : Line) (mask : BitVec 64) (poison : Bool) : Statement (.memWrPtl slot tag hpa mv line mask poison) := fun _ => rfl
theorem memInv (slot : Fin 64) (tag : BitVec 16) (hpa : BitVec 64) (mv : Meta) : Statement (.memInv slot tag hpa mv) := fun _ => rfl
theorem memClnEvct (slot : Fin 64) (tag : BitVec 16) (hpa : BitVec 64) : Statement (.memClnEvct slot tag hpa) := fun _ => rfl
theorem memSpecRd (slot : Fin 64) (tag : BitVec 16) (hpa : BitVec 64) : Statement (.memSpecRd slot tag hpa) := fun _ => rfl
theorem memFwd (slot : Fin 64) (tag : BitVec 16) (hpa : BitVec 64) : Statement (.memFwd slot tag hpa) := fun _ => rfl
theorem unknownMemOpcode (slot : Fin 64) (tag : BitVec 16) (hpa : BitVec 64) (data : Bool) : Statement (.unknownMemOpcode slot tag hpa data) := fun _ => rfl
theorem arbiterAccept (slice : Fin 16) (entry : SramCheck) : Statement (.arbiterAccept slice entry) := fun _ => rfl
theorem pinWaitGrant (slice : Fin 16) (set : BitVec 14) : Statement (.pinWaitGrant slice set) := fun _ => rfl
theorem admission : Statement (.admission) := fun _ => rfl
theorem capacityStallRepeat : Statement (.capacityStallRepeat) := fun _ => rfl
theorem storageWaitResume (slice : Fin 16) : Statement (.storageWaitResume slice) := fun _ => rfl
theorem backingFetchComplete (slice : Fin 16) (err : MemErr) : Statement (.backingFetchComplete slice err) := fun _ => rfl
theorem metadataFetchComplete (slice : Fin 16) (found : MetaFetch) : Statement (.metadataFetchComplete slice found) := fun _ => rfl
theorem metadataEvictUpdate (slice : Fin 16) : Statement (.metadataEvictUpdate slice) := fun _ => rfl
theorem nodeRekeyComplete (slice : Fin 16) : Statement (.nodeRekeyComplete slice) := fun _ => rfl
theorem keystreamReady (engine : Fin 8) : Statement (.keystreamReady engine) := fun _ => rfl
theorem dramCommandIssue (chan : Fin 16) (sc : Fin 2) (blocked : List Nat) : Statement (.dramCommandIssue chan sc blocked) := fun _ => rfl
theorem rowCloseTimeout (chan : Fin 16) (sc : Fin 2) : Statement (.rowCloseTimeout chan sc) := fun _ => rfl
theorem powerDownEntry (chan : Fin 16) (rank : Fin 8) : Statement (.powerDownEntry chan rank) := fun _ => rfl
theorem refabIssue (chan : Fin 16) (rank : Fin 8) : Statement (.refabIssue chan rank) := fun _ => rfl
theorem dramReadComplete (chan : Fin 16) (sc : Fin 2) (err : MemErr) : Statement (.dramReadComplete chan sc err) := fun _ => rfl
theorem markWindowEnd : Statement (.markWindowEnd) := fun _ => rfl
theorem cryptoReadUnit (engine : Fin 8) : Statement (.cryptoReadUnit engine) := fun _ => rfl
theorem cryFault (engine : Fin 8) : Statement (.cryFault engine) := fun _ => rfl
theorem mergeReadComplete (slice : Fin 16) (err : MemErr) : Statement (.mergeReadComplete slice err) := fun _ => rfl
theorem writeBufferDrain (slice : Fin 16) : Statement (.writeBufferDrain slice) := fun _ => rfl
theorem moveCommit (page : BitVec 39) : Statement (.moveCommit page) := fun _ => rfl
theorem bandCopyComplete (chan : Fin 16) : Statement (.bandCopyComplete chan) := fun _ => rfl
theorem encoderDispatch (engine : Fin 8) : Statement (.encoderDispatch engine) := fun _ => rfl
theorem encodeComplete (engine : Fin 8) (fault : Option (BitVec 4)) : Statement (.encodeComplete engine fault) := fun _ => rfl
theorem decoderDispatch : Statement (.decoderDispatch) := fun _ => rfl
theorem decodeComplete (engine : Fin 24) (lane : Fin 4) : Statement (.decodeComplete engine lane) := fun _ => rfl
theorem decoderParityError (engine : Fin 24) (lane : Fin 4) : Statement (.decoderParityError engine lane) := fun _ => rfl
theorem recompressorDequeue : Statement (.recompressorDequeue) := fun _ => rfl
theorem recompressionTimeout (page : BitVec 39) : Statement (.recompressionTimeout page) := fun _ => rfl
theorem engineDrained (crypto : Bool) (engine : Fin 32) : Statement (.engineDrained crypto engine) := fun _ => rfl
theorem cmpSelftestComplete (engine : Fin 32) (pass : Bool) : Statement (.cmpSelftestComplete engine pass) := fun _ => rfl
theorem crySelftestComplete (engine : Fin 8) (pass : Bool) : Statement (.crySelftestComplete engine pass) := fun _ => rfl
theorem cmpEngOfflineWrite (engine : Fin 32) (offline : Bool) : Statement (.cmpEngOfflineWrite engine offline) := fun _ => rfl
theorem cmpEngSelftestWrite (engine : Fin 32) : Statement (.cmpEngSelftestWrite engine) := fun _ => rfl
theorem tierDisableWrite (value : BitVec 32) : Statement (.tierDisableWrite value) := fun _ => rfl
theorem cryEngOfflineWrite (engine : Fin 8) (offline : Bool) : Statement (.cryEngOfflineWrite engine offline) := fun _ => rfl
theorem cryEngSelftestWrite (engine : Fin 8) : Statement (.cryEngSelftestWrite engine) := fun _ => rfl
theorem cryCtrlWrite (value : BitVec 32) : Statement (.cryCtrlWrite value) := fun _ => rfl
theorem keyFlush (key : Fin 64) : Statement (.keyFlush key) := fun _ => rfl
theorem walkStart : Statement (.walkStart) := fun _ => rfl
theorem metadataInit : Statement (.metadataInit) := fun _ => rfl
theorem hostPortCtrlWrite (port : Fin 4) (value : BitVec 32) : Statement (.hostPortCtrlWrite port value) := fun _ => rfl
theorem portResetRelease (port : Fin 4) : Statement (.portResetRelease port) := fun _ => rfl
theorem hostPortCfgWrite (port : Fin 4) (value : BitVec 32) : Statement (.hostPortCfgWrite port value) := fun _ => rfl
theorem linkResetWrite (link : Fin 16) (lostWrites : BitVec 8) : Statement (.linkResetWrite link lostWrites) := fun _ => rfl
theorem linkDisableWrite (link : Fin 16) (disable : Bool) (lostWrites : BitVec 8) : Statement (.linkDisableWrite link disable lostWrites) := fun _ => rfl
theorem hanMapWrite (slot : Fin 64) (value : BitVec 32) : Statement (.hanMapWrite slot value) := fun _ => rfl
theorem linkUp (link : Fin 16) (width : BitVec 5) (speed : BitVec 3) (flit68 : Bool) (lds : Fin 4) (ptm : Bool) : Statement (.linkUp link width speed flit68 lds ptm) := fun _ => rfl
theorem memorySpaceEnable (slot : Fin 64) (on : Bool) : Statement (.memorySpaceEnable slot on) := fun _ => rfl
theorem linkDrop (link : Fin 16) (lostWrites : BitVec 8) : Statement (.linkDrop link lostWrites) := fun _ => rfl
theorem dlUp (link : Fin 16) : Statement (.dlUp link) := fun _ => rfl
theorem hotReset (link : Fin 16) (ld : Option (Fin 4)) : Statement (.hotReset link ld) := fun _ => rfl
theorem perst (port : Fin 4) (asserted : Bool) : Statement (.perst port asserted) := fun _ => rfl
theorem hostDeadTimeout (slot : Fin 64) : Statement (.hostDeadTimeout slot) := fun _ => rfl
theorem l0pChange (link : Fin 16) (width : BitVec 5) : Statement (.l0pChange link width) := fun _ => rfl
theorem biCreditReturn (link : Fin 16) (n : BitVec 6) : Statement (.biCreditReturn link n) := fun _ => rfl
theorem birsp (slot : Fin 64) (addr : BitVec 64) (answer : BiAnswer) : Statement (.birsp slot addr answer) := fun _ => rfl
theorem biconflict (slot : Fin 64) (addr : BitVec 64) : Statement (.biconflict slot addr) := fun _ => rfl
theorem ideKm (link : Fin 16) (key : BitVec 256) (containment : Bool) : Statement (.ideKm link key containment) := fun _ => rfl
theorem ideIntegrityFailure (link : Fin 16) (lostWrites : BitVec 8) : Statement (.ideIntegrityFailure link lostWrites) := fun _ => rfl
theorem globalPersistentFlush (link : Fin 16) (phase : Fin 2) : Statement (.globalPersistentFlush link phase) := fun _ => rfl
theorem hdmDecoderCommit (slot : Fin 64) (decoder : Fin 4) (base size : BitVec 64) (ways : BitVec 5) (gran : BitVec 15) (dpa : BitVec 64) : Statement (.hdmDecoderCommit slot decoder base size ways gran dpa) := fun _ => rfl
theorem streamCtrlWrite (slot : Fin 64) (value : BitVec 32) : Statement (.streamCtrlWrite slot value) := fun _ => rfl
theorem tbLoRead (slot : Fin 64) (read : HostRead) : Statement (.tbLoRead slot read) := fun _ => rfl
theorem identifyMemoryDevice (slot : Fin 64) : Statement (.identifyMemoryDevice slot) := fun _ => rfl
theorem getPartitionInfo (slot : Fin 64) : Statement (.getPartitionInfo slot) := fun _ => rfl
theorem getSupportedLogs (slot : Fin 64) : Statement (.getSupportedLogs slot) := fun _ => rfl
theorem getLog (slot : Fin 64) : Statement (.getLog slot) := fun _ => rfl
theorem getEventRecords (slot : Fin 64) : Statement (.getEventRecords slot) := fun _ => rfl
theorem clearEventRecords (slot : Fin 64) (n : BitVec 8) : Statement (.clearEventRecords slot n) := fun _ => rfl
theorem getEventInterruptPolicy (slot : Fin 64) : Statement (.getEventInterruptPolicy slot) := fun _ => rfl
theorem setEventInterruptPolicy (slot : Fin 64) (vector : BitVec 5) : Statement (.setEventInterruptPolicy slot vector) := fun _ => rfl
theorem setTimestamp (slot : Fin 64) (ns : BitVec 64) : Statement (.setTimestamp slot ns) := fun _ => rfl
theorem getHealthInfo (slot : Fin 64) : Statement (.getHealthInfo slot) := fun _ => rfl
theorem getPoisonList (slot : Fin 64) (dpa len : BitVec 64) : Statement (.getPoisonList slot dpa len) := fun _ => rfl
theorem injectPoison (slot : Fin 64) (dpa : BitVec 64) : Statement (.injectPoison slot dpa) := fun _ => rfl
theorem clearPoison (slot : Fin 64) (dpa : BitVec 64) (line : Line) : Statement (.clearPoison slot dpa line) := fun _ => rfl
theorem sanitize (slot : Fin 64) : Statement (.sanitize slot) := fun _ => rfl
theorem secureErase (slot : Fin 64) : Statement (.secureErase slot) := fun _ => rfl
theorem getDcConfiguration (slot : Fin 64) : Statement (.getDcConfiguration slot) := fun _ => rfl
theorem getDcExtentList (slot : Fin 64) : Statement (.getDcExtentList slot) := fun _ => rfl
theorem addDcResponse (slot : Fin 64) (dc : DcStep) : Statement (.addDcResponse slot dc) := fun _ => rfl
theorem releaseDc (slot : Fin 64) (extents : List DcExtent) : Statement (.releaseDc slot extents) := fun _ => rfl
theorem getLdInfo (slot : Fin 64) (sideband : Bool) : Statement (.getLdInfo slot sideband) := fun _ => rfl
theorem getLdAllocations (slot : Fin 64) (sideband : Bool) : Statement (.getLdAllocations slot sideband) := fun _ => rfl
theorem setLdAllocations (slot : Fin 64) (sideband : Bool) (gib : List (BitVec 22)) : Statement (.setLdAllocations slot sideband gib) := fun h => nomatch h
theorem aqCommandTunnel (slot : Fin 64) (bytes : List Byte) : Statement (.aqCommandTunnel slot bytes) := fun h => nomatch h
theorem unsupportedMailboxOpcode (slot : Fin 64) (opcode : BitVec 16) : Statement (.unsupportedMailboxOpcode slot opcode) := fun _ => rfl
theorem identify (p : Packet) : Statement (.identify p) := fun _ => rfl
theorem readReg (p : Packet) : Statement (.readReg p) := fun _ => rfl
theorem readLogbook (p : Packet) : Statement (.readLogbook p) := fun _ => rfl
theorem regionAlloc (p : Packet) : Statement (.regionAlloc p) := fun _ => rfl
theorem regionFree (p : Packet) : Statement (.regionFree p) := fun _ => rfl
theorem regionClass (p : Packet) : Statement (.regionClass p) := fun _ => rfl
theorem extentSet (p : Packet) : Statement (.extentSet p) := fun _ => rfl
theorem extentClear (p : Packet) : Statement (.extentClear p) := fun _ => rfl
theorem regionRekey (p : Packet) : Statement (.regionRekey p) := fun _ => rfl
theorem tierPin (p : Packet) : Statement (.tierPin p) := fun _ => rfl
theorem tierUnpin (p : Packet) : Statement (.tierUnpin p) := fun _ => rfl
theorem channelEvacuate (p : Packet) : Statement (.channelEvacuate p) := fun _ => rfl
theorem channelReturn (p : Packet) : Statement (.channelReturn p) := fun _ => rfl
theorem keyLoadGenerate (p : Packet) : Statement (.keyLoadGenerate p) := fun _ => rfl
theorem keyLoadImport (p : Packet) : Statement (.keyLoadImport p) := fun _ => rfl
theorem keyRetire (p : Packet) : Statement (.keyRetire p) := fun _ => rfl
theorem leaseRelease (p : Packet) : Statement (.leaseRelease p) := fun _ => rfl
theorem leaseKeep (p : Packet) : Statement (.leaseKeep p) := fun _ => rfl
theorem leaseTimeout (region : BitVec 21) : Statement (.leaseTimeout region) := fun _ => rfl
theorem leaseClearOrphan (p : Packet) : Statement (.leaseClearOrphan p) := fun _ => rfl
theorem qosConfig (p : Packet) : Statement (.qosConfig p) := fun _ => rfl
theorem engineSetOnline (p : Packet) : Statement (.engineSetOnline p) := fun _ => rfl
theorem engineSetOffline (p : Packet) : Statement (.engineSetOffline p) := fun _ => rfl
theorem engineSetSelftest (p : Packet) : Statement (.engineSetSelftest p) := fun _ => rfl
theorem setPl (p : Packet) : Statement (.setPl p) := fun _ => rfl
theorem sleep (p : Packet) : Statement (.sleep p) := fun _ => rfl
theorem slotPowerOn (p : Packet) : Statement (.slotPowerOn p) := fun _ => rfl
theorem slotPowerOff (p : Packet) : Statement (.slotPowerOff p) := fun _ => rfl
theorem memberJoin (p : Packet) : Statement (.memberJoin p) := fun _ => rfl
theorem memberRemove (p : Packet) : Statement (.memberRemove p) := fun _ => rfl
theorem pmuConfig (p : Packet) : Statement (.pmuConfig p) := fun _ => rfl
theorem pmuPlate (p : Packet) : Statement (.pmuPlate p) := fun _ => rfl
theorem pmuUserPageOpen (p : Packet) : Statement (.pmuUserPageOpen p) := fun _ => rfl
theorem pmuUserPageClose (p : Packet) : Statement (.pmuUserPageClose p) := fun _ => rfl
theorem errRead (p : Packet) : Statement (.errRead p) := fun _ => rfl
theorem errClear (p : Packet) : Statement (.errClear p) := fun _ => rfl
theorem fwWrite (p : Packet) : Statement (.fwWrite p) := fun _ => rfl
theorem fwActivate (p : Packet) : Statement (.fwActivate p) := fun _ => rfl
theorem fuseProgram (p : Packet) : Statement (.fuseProgram p) := fun _ => rfl
theorem debugUnlockChallenge (p : Packet) : Statement (.debugUnlockChallenge p) := fun _ => rfl
theorem debugUnlockAnswer (p : Packet) : Statement (.debugUnlockAnswer p) := fun _ => rfl
theorem dbgWrite (p : Packet) : Statement (.dbgWrite p) := fun _ => rfl
theorem unsupportedCommand (p : Packet) : Statement (.unsupportedCommand p) := fun _ => rfl
theorem inPost (chan : Fin 16) (slot : Fin 64) (mgt : Bool) (len : BitVec 13) (bytes : List Byte) : Statement (.inPost chan slot mgt len bytes) := fun h => nomatch h
theorem inTaken (chan : Fin 16) (mgt : Bool) : Statement (.inTaken chan mgt) := fun _ => rfl
theorem outPost (chan : Fin 16) (mgt : Bool) : Statement (.outPost chan mgt) := fun _ => rfl
theorem outTaken (chan : Fin 16) (slot : Fin 64) (mgt : Bool) : Statement (.outTaken chan slot mgt) := fun _ => rfl
theorem ch15Claim (slot : Fin 64) : Statement (.ch15Claim slot) := fun _ => rfl
theorem ch15ClaimRevoke : Statement (.ch15ClaimRevoke) := fun _ => rfl
theorem mbxBindWrite (chan : Fin 16) (value : BitVec 32) : Statement (.mbxBindWrite chan value) := fun _ => rfl
theorem farEndReset (chan : Fin 16) : Statement (.farEndReset chan) := fun _ => rfl
theorem sbItemStart : Statement (.sbItemStart) := fun _ => rfl
theorem sbByte (byte : Byte) : Statement (.sbByte byte) := fun _ => rfl
theorem sbItemEnd : Statement (.sbItemEnd) := fun _ => rfl
theorem sbBusFault : Statement (.sbBusFault) := fun _ => rfl
theorem sbDataRead (corrected : Bool) (bad : Option (BitVec 64)) : Statement (.sbDataRead corrected bad) := fun _ => rfl
theorem sbMark : Statement (.sbMark) := fun _ => rfl
theorem sbRewind : Statement (.sbRewind) := fun _ => rfl
theorem sbFlush : Statement (.sbFlush) := fun _ => rfl
theorem uartFrame (bytes : List Byte) : Statement (.uartFrame bytes) := fun _ => rfl
theorem fuseBitProgram (result : Fin 3) : Statement (.fuseBitProgram result) := fun _ => rfl
theorem norWriteComplete : Statement (.norWriteComplete) := fun _ => rfl
theorem boot (identity : List Byte) : Statement (.boot identity) := fun _ => rfl
theorem trialConfirm : Statement (.trialConfirm) := fun _ => rfl
theorem spdmGetCertificate (transport : Fin 65) (certSlot : Fin 8) : Statement (.spdmGetCertificate transport certSlot) := fun _ => rfl
theorem spdmChallenge (transport : Fin 65) (certSlot : Fin 8) : Statement (.spdmChallenge transport certSlot) := fun _ => rfl
theorem spdmGetMeasurements (transport : Fin 65) (index : BitVec 8) (signed : Bool) : Statement (.spdmGetMeasurements transport index signed) := fun _ => rfl
theorem spdmKeyExchange (transport : Fin 65) : Statement (.spdmKeyExchange transport) := fun _ => rfl
theorem spdmKeyUpdate (transport : Fin 65) (session : BitVec 16) : Statement (.spdmKeyUpdate transport session) := fun _ => rfl
theorem spdmHeartbeat (transport : Fin 65) (session : BitVec 16) : Statement (.spdmHeartbeat transport session) := fun _ => rfl
theorem plVoltageSettled : Statement (.plVoltageSettled) := fun _ => rfl
theorem plClockSwitch : Statement (.plClockSwitch) := fun _ => rfl
theorem blockStopComplete : Statement (.blockStopComplete) := fun _ => rfl
theorem wakePin (pin : Fin 2) : Statement (.wakePin pin) := fun _ => rfl
theorem wakeTimer : Statement (.wakeTimer) := fun _ => rfl
theorem wakeMaskClear (src : Fin 10) : Statement (.wakeMaskClear src) := fun _ => rfl
theorem pllLock : Statement (.pllLock) := fun _ => rfl
theorem slExitComplete (retentionUe : Bool) : Statement (.slExitComplete retentionUe) := fun _ => rfl
theorem brownOut : Statement (.brownOut) := fun _ => rfl
theorem ptmExchange (offset : Int) : Statement (.ptmExchange offset) := fun _ => rfl
theorem xtalTrimUpdate (trim : BitVec 32) : Statement (.xtalTrimUpdate trim) := fun _ => rfl
theorem refComparatorTrip (temp : BitVec 16) : Statement (.refComparatorTrip temp) := fun _ => rfl
theorem thermalRestart : Statement (.thermalRestart) := fun _ => rfl
theorem roDay (ageing : Vector (BitVec 16) 12) : Statement (.roDay ageing) := fun h => nomatch h
theorem logbookWrite : Statement (.logbookWrite) := fun _ => rfl
theorem presenceChange (slot : Fin 16) (prsnt0 prsnt1 : Bool) : Statement (.presenceChange slot prsnt0 prsnt1) := fun _ => rfl
theorem vinWindowChange (slot : Fin 16) (vin : BitVec 16) : Statement (.vinWindowChange slot vin) := fun _ => rfl
theorem insertionDelayExpiry (slot : Fin 16) : Statement (.insertionDelayExpiry slot) := fun _ => rfl
theorem slotFullyOn (slot : Fin 16) : Statement (.slotFullyOn slot) := fun _ => rfl
theorem rampTimeout (slot : Fin 16) : Statement (.rampTimeout slot) := fun _ => rfl
theorem pgDelayExpiry (slot : Fin 16) : Statement (.pgDelayExpiry slot) := fun _ => rfl
theorem currentLimitOnset (slot : Fin 16) : Statement (.currentLimitOnset slot) := fun _ => rfl
theorem currentLimitRelease (slot : Fin 16) : Statement (.currentLimitRelease slot) := fun _ => rfl
theorem faultTimerExpiry (slot : Fin 16) : Statement (.faultTimerExpiry slot) := fun _ => rfl
theorem slotDownEnd (slot : Fin 16) (low : Bool) : Statement (.slotDownEnd slot low) := fun _ => rfl
theorem meterUpdate (slot : Fin 16) (current : BitVec 32) (vout vin : BitVec 16) (power energy : BitVec 32) : Statement (.meterUpdate slot current vout vin power energy) := fun _ => rfl
theorem spdReadStart (slot : Fin 16) : Statement (.spdReadStart slot) := fun _ => rfl
theorem spdReadComplete (slot : Fin 16) (hub0 hub1 : Option SpdHub) (same : Bool) : Statement (.spdReadComplete slot hub0 hub1 same) := fun h => nomatch h
theorem dcCfgWrite (chan : Fin 16) (value : Word) (same : Bool) (maxFrames : BitVec 28) (rated : Fin 5) : Statement (.dcCfgWrite chan value same maxFrames rated) := fun _ => rfl
theorem dcMarkWrite (chan : Fin 16) (rank : Fin 8) (value : BitVec 32) : Statement (.dcMarkWrite chan rank value) := fun _ => rfl
theorem zeroInitComplete (chan : Fin 16) : Statement (.zeroInitComplete chan) := fun _ => rfl
theorem trainingGo (chan : Fin 16) (value : BitVec 32) : Statement (.trainingGo chan value) := fun _ => rfl
theorem trainingStepComplete (chan : Fin 16) (lanes : Vector LaneEye 40) : Statement (.trainingStepComplete chan lanes) := fun h => nomatch h
theorem qosCtrlWrite (value : BitVec 32) : Statement (.qosCtrlWrite value) := fun _ => rfl
theorem dmrCtrlWrite (ring : Fin 32) (value : BitVec 32) : Statement (.dmrCtrlWrite ring value) := fun _ => rfl
theorem dmrDoorbell (ring : Fin 32) (tail : BitVec 15) (page : Option (Fin 64)) : Statement (.dmrDoorbell ring tail page) := fun _ => rfl
theorem descriptorFetch (ring : Fin 32) : Statement (.descriptorFetch ring) := fun _ => rfl
theorem dmCopy (ring : Fin 32) : Statement (.dmCopy ring) := fun _ => rfl
theorem dmFill (ring : Fin 32) : Statement (.dmFill ring) := fun _ => rfl
theorem dmZero (ring : Fin 32) : Statement (.dmZero ring) := fun _ => rfl
theorem dmCompress (ring : Fin 32) : Statement (.dmCompress ring) := fun _ => rfl
theorem dmDecompress (ring : Fin 32) : Statement (.dmDecompress ring) := fun _ => rfl
theorem dmFence (ring : Fin 32) : Statement (.dmFence ring) := fun _ => rfl
theorem dmNop (ring : Fin 32) : Statement (.dmNop ring) := fun _ => rfl
theorem dmReservedOpcode (ring : Fin 32) : Statement (.dmReservedOpcode ring) := fun _ => rfl
theorem dmOperationComplete (ring : Fin 32) : Statement (.dmOperationComplete ring) := fun _ => rfl
theorem stRetrainWrite (port : Fin 4) : Statement (.stRetrainWrite port) := fun _ => rfl
theorem stPortResetWrite (port : Fin 4) : Statement (.stPortResetWrite port) := fun _ => rfl
theorem stDisableWrite (port : Fin 4) (disable : Bool) : Statement (.stDisableWrite port disable) := fun _ => rfl
theorem trainingAttemptTimeout (port : Fin 4) : Statement (.trainingAttemptTimeout port) := fun _ => rfl
theorem trainingBlockReceived (port : Fin 4) (lane : Fin 9) (detected : BitVec 9) (block : BitVec 576) (advance : Bool) : Statement (.trainingBlockReceived port lane detected block advance) := fun _ => rfl
theorem syncSend (port : Fin 4) : Statement (.syncSend port) := fun _ => rfl
theorem linkActive (port : Fin 4) : Statement (.linkActive port) := fun _ => rfl
theorem flitReceived (port : Fin 4) (flit copy : BitVec 576) : Statement (.flitReceived port flit copy) := fun _ => rfl
theorem ctrlFlitReceived (port : Fin 4) (flit copy : BitVec 576) : Statement (.ctrlFlitReceived port flit copy) := fun _ => rfl
theorem ackTimer (port : Fin 4) : Statement (.ackTimer port) := fun _ => rfl
theorem nakResendTimer (port : Fin 4) : Statement (.nakResendTimer port) := fun _ => rfl
theorem replayTimer (port : Fin 4) : Statement (.replayTimer port) := fun _ => rfl
theorem stitchDown (port : Fin 4) : Statement (.stitchDown port) := fun _ => rfl
theorem spareWindowEnd (port : Fin 4) : Statement (.spareWindowEnd port) := fun h => nomatch h
theorem laneLockLoss (port : Fin 4) (lane : Fin 9) : Statement (.laneLockLoss port lane) := fun _ => rfl
theorem spareReq (port : Fin 4) (lane : Fin 8) : Statement (.spareReq port lane) := fun _ => rfl
theorem spareAck (port : Fin 4) (lane : Fin 8) : Statement (.spareAck port lane) := fun _ => rfl
theorem spareReqRepeat (port : Fin 4) : Statement (.spareReqRepeat port) := fun _ => rfl
theorem stRd (port : Fin 4) : Statement (.stRd port) := fun _ => rfl
theorem stWr (port : Fin 4) : Statement (.stWr port) := fun _ => rfl
theorem stWrPtl (port : Fin 4) : Statement (.stWrPtl port) := fun _ => rfl
theorem spillPut (port : Fin 4) : Statement (.spillPut port) := fun _ => rfl
theorem spillGet (port : Fin 4) : Statement (.spillGet port) := fun _ => rfl
theorem spillFree (port : Fin 4) : Statement (.spillFree port) := fun _ => rfl
theorem stCmd (port : Fin 4) : Statement (.stCmd port) := fun _ => rfl
theorem stCmp (port : Fin 4) : Statement (.stCmp port) := fun _ => rfl
theorem snpRsp (port : Fin 4) : Statement (.snpRsp port) := fun _ => rfl
theorem cmdRsp (port : Fin 4) : Statement (.cmdRsp port) := fun _ => rfl
theorem snpInv (port : Fin 4) : Statement (.snpInv port) := fun _ => rfl
theorem snpData (port : Fin 4) : Statement (.snpData port) := fun _ => rfl
theorem stUndefinedOpcode (port : Fin 4) : Statement (.stUndefinedOpcode port) := fun _ => rfl
theorem hello (port : Fin 4) : Statement (.hello port) := fun _ => rfl
theorem helloTimer : Statement (.helloTimer) := fun _ => rfl
theorem roster (port : Fin 4) : Statement (.roster port) := fun _ => rfl
theorem rosterHeartbeat : Statement (.rosterHeartbeat) := fun _ => rfl
theorem routeSet (port : Fin 4) : Statement (.routeSet port) := fun _ => rfl
theorem hold (port : Fin 4) : Statement (.hold port) := fun _ => rfl
theorem held (port : Fin 4) : Statement (.held port) := fun _ => rfl
theorem resume (port : Fin 4) : Statement (.resume port) := fun _ => rfl
theorem linkDown (port : Fin 4) : Statement (.linkDown port) := fun _ => rfl
theorem claim (port : Fin 4) : Statement (.claim port) := fun _ => rfl
theorem level (port : Fin 4) : Statement (.level port) := fun _ => rfl
theorem recallLeases (port : Fin 4) : Statement (.recallLeases port) := fun _ => rfl
theorem leave (port : Fin 4) : Statement (.leave port) := fun _ => rfl
theorem headElection : Statement (.headElection) := fun _ => rfl
theorem formationDeadline : Statement (.formationDeadline) := fun _ => rfl
theorem heartbeatLoss : Statement (.heartbeatLoss) := fun _ => rfl
theorem claimSettle : Statement (.claimSettle) := fun _ => rfl
theorem failureDecision : Statement (.failureDecision) := fun _ => rfl
theorem errorRecord (code inst : BitVec 8) (fatal : Bool) (addr : BitVec 64) (detail : BitVec 32) : Statement (.errorRecord code inst fatal addr detail) := fun _ => rfl
theorem mgtLockstep : Statement (.mgtLockstep) := fun _ => rfl
theorem sramUe (slice : Fin 16) (kind : Fin 8) (index : BitVec 40) : Statement (.sramUe slice kind index) := fun _ => rfl
theorem sramScrubStep (slice : Fin 16) (array : Fin 3) (corrected : Bool) : Statement (.sramScrubStep slice array corrected) := fun _ => rfl
theorem pmuValueWrite (ctr : Fin 256) (value : BitVec 48) : Statement (.pmuValueWrite ctr value) := fun _ => rfl
theorem pmuPlateWrite : Statement (.pmuPlateWrite) := fun _ => rfl
theorem counterWrap (ctr : Fin 256) (inc : BitVec 48) : Statement (.counterWrap ctr inc) := fun _ => rfl
theorem pmuUe (ctr : Fin 256) : Statement (.pmuUe ctr) := fun _ => rfl
theorem powerOn : Statement (.powerOn) := fun _ => rfl
theorem coreRst (asserted : Bool) : Statement (.coreRst asserted) := fun _ => rfl
theorem mgtRst (asserted : Bool) : Statement (.mgtRst asserted) := fun _ => rfl
theorem pwrOkLow (low : Bool) : Statement (.pwrOkLow low) := fun _ => rfl
theorem resetRelease : Statement (.resetRelease) := fun _ => rfl
theorem registerWrite (addr : BitVec 32) (wide : Bool) (access : RegAccess) : Statement (.registerWrite addr wide access) := fun _ => rfl
theorem stopBudgetExpiry : Statement (.stopBudgetExpiry) := fun _ => rfl
theorem deferredClaimTimeout : Statement (.deferredClaimTimeout) := fun _ => rfl
theorem vaux1v8Loss : Statement (.vaux1v8Loss) := fun _ => rfl
theorem spdmSessionEnd (transport : Fin 65) (session : BitVec 16) : Statement (.spdmSessionEnd transport session) := fun _ => rfl

end Sys2Proof.Laws.F
end

