-- ==== Sys2Proof/Laws/Report.lean ====
section
/-!
SUPPORT. What reporting can do: counting an event, latching a wake source, recording an error with its fatal response, taking a
plate. It changes the registers of the ERR and PMU blocks, the sleep and wake status, the rings' control words, the record of
outputs, and the fields of the state that stand behind those; nothing else.
-/

namespace Sys2Proof.Machine

/-- Registers that reporting may change: ERR_*, PWR_SL_STATUS to PWR_WAKE_STATUS, PMU_*, and the TIER_DMR ring registers. -/
def reportReg (a : Nat) : Bool :=
  decide (0x330000 ≤ a ∧ a < 0x340000) || decide (0x410008 ≤ a ∧ a ≤ 0x410018) || decide (0x450000 ≤ a ∧ a < 0x460000)
    || decide (0x131000 ≤ a ∧ a < 0x131800)

/-- `t` differs from `s` only as reporting may make it differ. -/
structure Quiet (s t : State) : Prop where
  rest : t = { s with regs := t.regs, err := t.err, out := t.out, pwr := t.pwr, pmu := t.pmu, rings := t.rings }
  reg : ∀ f : Fld, f.lo < 64 → reportReg f.addr = false → t.get f = s.get f

theorem Quiet.refl (s : State) : Quiet s s := ⟨rfl, fun _ _ _ => rfl⟩

theorem Quiet.trans {s t u : State} (h : Quiet s t) (k : Quiet t u) : Quiet s u := by
  refine ⟨?_, fun f hf hr => (k.reg f hf hr).trans (h.reg f hf hr)⟩
  have h1 := k.rest
  rw [h.rest] at h1
  exact h1

/-- An update of the fields behind reporting. -/
theorem Quiet.upd {s t u : State} (h : Quiet s t)
    (hr : u = { t with regs := t.regs, err := u.err, out := u.out, pwr := u.pwr, pmu := u.pmu, rings := u.rings }) : Quiet s u :=
  h.trans ⟨by rw [hr], fun f _ _ => by rw [hr]; rfl⟩

theorem Quiet.put {s t : State} (h : Quiet s t) {f : Fld} (hf : f.lo < 64) (hr : reportReg f.addr = true) (v : Nat) :
    Quiet s (t.put f v) := by
  refine h.trans ⟨rfl, fun g hg hq => State.get_put_ne (Fld.key_ne_of_addr ?_ hf hg) _ _⟩
  intro he; rw [he, hr] at hq; cases hq

theorem Quiet.forAll {α : Type} {l : List α} {f : α → State → State} {s t : State} (h : Quiet s t)
    (hf : ∀ a t, a ∈ l → Quiet t (f a t)) : Quiet s (forAll l f t) := by
  induction l generalizing t with
  | nil => exact h
  | cons a l ih =>
    exact ih (h.trans (hf a t List.mem_cons_self)) (fun b u hb => hf b u (List.mem_cons_of_mem _ hb))

theorem quiet_emit {s t : State} (h : Quiet s t) (o : Out) : Quiet s (t.emit o) := h.upd rfl

theorem quiet_takeSeq {s t : State} (h : Quiet s t) : Quiet s t.takeSeq.2 := h.put (by decide) (by decide) _

theorem quiet_bump {s t : State} (h : Quiet s t) {f : Fld} (hf : f.lo < 64) (hr : reportReg f.addr = true) (n : Nat) :
    Quiet s (t.bump f n) := h.put hf hr _

theorem quiet_setPlate {s t : State} (h : Quiet s t) (p : Plate) : Quiet s (setPlate p t) := h.upd rfl

theorem quiet_takePlate {s t : State} (h : Quiet s t) (trigger ctr : Nat) : Quiet s (takePlate trigger ctr t) := by
  unfold takePlate
  dsimp only
  split
  · exact quiet_setPlate h _
  · exact (quiet_setPlate (h.put (by decide) (by decide) _) _).upd rfl

theorem ctrAddr {n : Nat} (h : n < 256) (k : Nat) (hk : k ≤ 8) : reportReg (0x451000 + k + 0x10 * n) = true := by
  simp [reportReg]; omega

theorem quiet_addCounter {s t : State} (h : Quiet s t) {n amt fuel : Nat} (hn : n < 256) : Quiet s (addCounter n amt fuel t) := by
  induction fuel generalizing n amt s t with
  | zero => exact h
  | succ fuel ih =>
    have hv : ∀ v, Quiet s (t.put (F.PMU_CTR_VALUE.VALUE n) v) := fun v => h.put (by show (0 : Nat) < 64; decide) (ctrAddr hn 8 (by decide)) v
    unfold addCounter
    dsimp only
    split
    · exact h
    · split
      · exact hv _
      · split
        · rename_i hc; exact ih (hv _) (by omega)
        · have ho : ∀ u v, Quiet s u → Quiet s (u.put (F.PMU_CTR_VALUE.OVF n) v) :=
            fun u v hu => hu.put (by show (62 : Nat) < 64; decide) (ctrAddr hn 8 (by decide)) v
          split
          · exact quiet_takePlate (ho _ _ (hv _)) _ _
          · exact ho _ _ (hv _)

theorem enabledCtrs_lt {s : State} {n : Nat} (h : n ∈ enabledCtrs s) : n < 256 := by
  simp only [enabledCtrs, List.mem_filterMap] at h
  obtain ⟨c, -, hc⟩ := h
  split at hc
  · rename_i h1; simp at hc h1; omega
  · cases hc

theorem quiet_count {s t : State} (h : Quiet s t) (ev inst amt : Nat) : Quiet s (t.count ev inst amt) := by
  unfold State.count
  refine h.forAll fun n u hn => ?_
  split
  · exact quiet_addCounter (Quiet.refl _) (enabledCtrs_lt hn)
  · exact Quiet.refl _

theorem quiet_beginExit {s t : State} (h : Quiet s t) : Quiet s (beginExit t) := by
  unfold beginExit
  dsimp only
  split
  · exact quiet_emit (h.upd rfl) _
  · exact h.upd rfl

theorem quiet_wakeRaw {s t : State} (h : Quiet s t) (src : Nat) : Quiet s (wakeRaw src t) := by
  unfold wakeRaw
  split
  · exact h
  · dsimp only
    have h1 := h.put (f := F.PWR_WAKE_STATUS.SRC) (by decide) (by decide) (t.get F.PWR_WAKE_STATUS.SRC ||| 2 ^ src)
    split
    · exact h1
    · split
      · exact h1.upd rfl
      · split
        · exact h1.put (by decide) (by decide) _
        · split
          · exact quiet_beginExit h1
          · exact h1

theorem quiet_queueErr {s t : State} (h : Quiet s t) (r : ErrRec) (seq : Option Nat) : Quiet s (t.queueErr r seq) := by
  unfold State.queueErr
  split
  · exact h.upd rfl
  · dsimp only
    have done : ∀ u (q : List ErrRec) (c : List ErrRec), Quiet s u →
        Quiet s (if (enqueueErr t.err.queue r).2 = true then
          (State.put { u with err := { u.err with queue := q, copies := c } } F.ERR_STATUS.OVERFLOW 1).bump F.ERR_STATUS.DROPPED
          else { u with err := { u.err with queue := q, copies := c } }) := by
      intro u q c hu
      split
      · exact quiet_bump ((hu.upd rfl).put (by decide) (by decide) _) (by decide) (by decide) _
      · exact hu.upd rfl
    cases seq with
    | some n => exact done _ _ _ h
    | none =>
      refine done _ _ _ ?_
      dsimp only
      split
      · exact quiet_takeSeq h
      · exact h

theorem dmrAddr {n : Nat} (h : n < 32) : reportReg (0x131008 + 0x40 * n) = true := by
  simp [reportReg]; omega

theorem quiet_stopRing {s t : State} (h : Quiet s t) {r : Nat} (hr : r < 32) : Quiet s (stopRing r t) := by
  unfold stopRing
  exact ((h.upd rfl).put (by show (15 : Nat) < 64; decide) (dmrAddr hr) _).put (by show (0 : Nat) < 64; decide) (dmrAddr hr) _

theorem quiet_fatal {s t : State} (h : Quiet s t) (r : ErrRec) : Quiet s (t.fatal r) := by
  unfold State.fatal
  dsimp only
  refine quiet_wakeRaw (quiet_queueErr ?_ _ _) _
  have h0 : ∀ e, Quiet s { t.takeSeq.2 with err := e } := fun e => (quiet_takeSeq h).upd rfl
  split
  · exact quiet_bump (h0 _) (by decide) (by decide) _
  · refine quiet_takePlate (quiet_emit (Quiet.forAll ?_ ?_) _) _ _
    · refine Quiet.put (f := F.ERR_STATUS.VIRAL) ?_ (by decide) (by decide) _
      refine Quiet.put (f := F.ERR_STATUS.FATAL_VALID) ?_ (by decide) (by decide) _
      exact h0 _
    intro k u hk
    split
    · exact quiet_stopRing (Quiet.refl _) (List.mem_range.1 hk)
    · exact Quiet.refl _

theorem quiet_record {s t : State} (h : Quiet s t) (r : ErrRec) : Quiet s (t.record r) := by
  unfold State.record
  split
  · exact quiet_fatal h r
  · dsimp only
    have h0 : Quiet s (if r.cls = 3 then wakeRaw 8 t else t) := by
      split
      · exact quiet_wakeRaw h _
      · exact h
    generalize (if r.cls = 3 then wakeRaw 8 t else t) = u at h0
    split
    · split
      · exact h0.upd rfl
      · exact quiet_queueErr h0 _ _
    · split
      · exact ((quiet_takeSeq h0).upd rfl).put (by decide) (by decide) _
      · exact quiet_queueErr h0 _ _

theorem quiet_logAs {s t : State} (h : Quiet s t) (cls source code inst addr detail : Nat) :
    Quiet s (t.logAs cls source code inst addr detail) := quiet_record h _

theorem quiet_log {s t : State} (h : Quiet s t) (code inst addr detail : Nat) : Quiet s (t.log code inst addr detail) :=
  quiet_logAs h _ _ _ _ _ _

theorem quiet_wakeFrom {s t : State} (h : Quiet s t) (src : Nat) : Quiet s (wakeFrom src t) := by
  unfold wakeFrom
  split
  · exact h.upd rfl
  · dsimp only
    split
    · exact quiet_log (h.upd rfl) _ _ _ _
    · exact quiet_wakeRaw (h.upd rfl) _

theorem Quiet.pending {s t : State} (h : Quiet s t) : t.pending = s.pending := by rw [h.rest]
theorem Quiet.tb {s t : State} (h : Quiet s t) : t.tb = s.tb := by rw [h.rest]
theorem Quiet.freeCtr {s t : State} (h : Quiet s t) : t.freeCtr = s.freeCtr := by rw [h.rest]
theorem Quiet.useCtr {s t : State} (h : Quiet s t) : t.useCtr = s.useCtr := by rw [h.rest]
theorem Quiet.nextId {s t : State} (h : Quiet s t) : t.nextId = s.nextId := by rw [h.rest]
theorem Quiet.lds {s t : State} (h : Quiet s t) : t.lds = s.lds := by rw [h.rest]
theorem Quiet.links {s t : State} (h : Quiet s t) : t.links = s.links := by rw [h.rest]
theorem Quiet.ports {s t : State} (h : Quiet s t) : t.ports = s.ports := by rw [h.rest]
theorem Quiet.reqs {s t : State} (h : Quiet s t) : t.reqs = s.reqs := by rw [h.rest]
theorem Quiet.ingress {s t : State} (h : Quiet s t) : t.ingress = s.ingress := by rw [h.rest]
theorem Quiet.almanac {s t : State} (h : Quiet s t) : t.almanac = s.almanac := by rw [h.rest]
theorem Quiet.near {s t : State} (h : Quiet s t) : t.near = s.near := by rw [h.rest]
theorem Quiet.wb {s t : State} (h : Quiet s t) : t.wb = s.wb := by rw [h.rest]
theorem Quiet.snoops {s t : State} (h : Quiet s t) : t.snoops = s.snoops := by rw [h.rest]
theorem Quiet.dir {s t : State} (h : Quiet s t) : t.dir = s.dir := by rw [h.rest]
theorem Quiet.stamps {s t : State} (h : Quiet s t) : t.stamps = s.stamps := by rw [h.rest]
theorem Quiet.regions {s t : State} (h : Quiet s t) : t.regions = s.regions := by rw [h.rest]
theorem Quiet.frames {s t : State} (h : Quiet s t) : t.frames = s.frames := by rw [h.rest]
theorem Quiet.moves {s t : State} (h : Quiet s t) : t.moves = s.moves := by rw [h.rest]
theorem Quiet.walks {s t : State} (h : Quiet s t) : t.walks = s.walks := by rw [h.rest]
theorem Quiet.walkQueue {s t : State} (h : Quiet s t) : t.walkQueue = s.walkQueue := by rw [h.rest]
theorem Quiet.tier {s t : State} (h : Quiet s t) : t.tier = s.tier := by rw [h.rest]
theorem Quiet.reclaim {s t : State} (h : Quiet s t) : t.reclaim = s.reclaim := by rw [h.rest]
theorem Quiet.spills {s t : State} (h : Quiet s t) : t.spills = s.spills := by rw [h.rest]
theorem Quiet.levels {s t : State} (h : Quiet s t) : t.levels = s.levels := by rw [h.rest]
theorem Quiet.hops {s t : State} (h : Quiet s t) : t.hops = s.hops := by rw [h.rest]
theorem Quiet.recalled {s t : State} (h : Quiet s t) : t.recalled = s.recalled := by rw [h.rest]
theorem Quiet.metaCache {s t : State} (h : Quiet s t) : t.metaCache = s.metaCache := by rw [h.rest]
theorem Quiet.metaSto {s t : State} (h : Quiet s t) : t.metaSto = s.metaSto := by rw [h.rest]
theorem Quiet.roots {s t : State} (h : Quiet s t) : t.roots = s.roots := by rw [h.rest]
theorem Quiet.quarantine {s t : State} (h : Quiet s t) : t.quarantine = s.quarantine := by rw [h.rest]
theorem Quiet.nodeRekeys {s t : State} (h : Quiet s t) : t.nodeRekeys = s.nodeRekeys := by rw [h.rest]
theorem Quiet.keys {s t : State} (h : Quiet s t) : t.keys = s.keys := by rw [h.rest]
theorem Quiet.salt {s t : State} (h : Quiet s t) : t.salt = s.salt := by rw [h.rest]
theorem Quiet.kint {s t : State} (h : Quiet s t) : t.kint = s.kint := by rw [h.rest]
theorem Quiet.keystreams {s t : State} (h : Quiet s t) : t.keystreams = s.keystreams := by rw [h.rest]
theorem Quiet.cryptoQ {s t : State} (h : Quiet s t) : t.cryptoQ = s.cryptoQ := by rw [h.rest]
theorem Quiet.alarms {s t : State} (h : Quiet s t) : t.alarms = s.alarms := by rw [h.rest]
theorem Quiet.dram {s t : State} (h : Quiet s t) : t.dram = s.dram := by rw [h.rest]
theorem Quiet.chans {s t : State} (h : Quiet s t) : t.chans = s.chans := by rw [h.rest]
theorem Quiet.masters {s t : State} (h : Quiet s t) : t.masters = s.masters := by rw [h.rest]
theorem Quiet.sharedPool {s t : State} (h : Quiet s t) : t.sharedPool = s.sharedPool := by rw [h.rest]
theorem Quiet.qosPending {s t : State} (h : Quiet s t) : t.qosPending = s.qosPending := by rw [h.rest]
theorem Quiet.quotas {s t : State} (h : Quiet s t) : t.quotas = s.quotas := by rw [h.rest]
theorem Quiet.reservedK {s t : State} (h : Quiet s t) : t.reservedK = s.reservedK := by rw [h.rest]
theorem Quiet.cmp {s t : State} (h : Quiet s t) : t.cmp = s.cmp := by rw [h.rest]
theorem Quiet.cryFaults {s t : State} (h : Quiet s t) : t.cryFaults = s.cryFaults := by rw [h.rest]
theorem Quiet.mbx {s t : State} (h : Quiet s t) : t.mbx = s.mbx := by rw [h.rest]
theorem Quiet.claim {s t : State} (h : Quiet s t) : t.claim = s.claim := by rw [h.rest]
theorem Quiet.sb {s t : State} (h : Quiet s t) : t.sb = s.sb := by rw [h.rest]
theorem Quiet.mgt {s t : State} (h : Quiet s t) : t.mgt = s.mgt := by rw [h.rest]
theorem Quiet.jobs {s t : State} (h : Quiet s t) : t.jobs = s.jobs := by rw [h.rest]
theorem Quiet.lastTransit {s t : State} (h : Quiet s t) : t.lastTransit = s.lastTransit := by rw [h.rest]
theorem Quiet.stPorts {s t : State} (h : Quiet s t) : t.stPorts = s.stPorts := by rw [h.rest]
theorem Quiet.clu {s t : State} (h : Quiet s t) : t.clu = s.clu := by rw [h.rest]
theorem Quiet.stOpen {s t : State} (h : Quiet s t) : t.stOpen = s.stOpen := by rw [h.rest]
theorem Quiet.stSend {s t : State} (h : Quiet s t) : t.stSend = s.stSend := by rw [h.rest]
theorem Quiet.fuses {s t : State} (h : Quiet s t) : t.fuses = s.fuses := by rw [h.rest]
theorem Quiet.fuseShadow {s t : State} (h : Quiet s t) : t.fuseShadow = s.fuseShadow := by rw [h.rest]
theorem Quiet.spine {s t : State} (h : Quiet s t) : t.spine = s.spine := by rw [h.rest]
theorem Quiet.deferred {s t : State} (h : Quiet s t) : t.deferred = s.deferred := by rw [h.rest]
theorem Quiet.time {s t : State} (h : Quiet s t) : t.time = s.time := by rw [h.rest]
theorem Quiet.thm {s t : State} (h : Quiet s t) : t.thm = s.thm := by rw [h.rest]
theorem Quiet.hk {s t : State} (h : Quiet s t) : t.hk = s.hk := by rw [h.rest]
theorem Quiet.spw {s t : State} (h : Quiet s t) : t.spw = s.spw := by rw [h.rest]
theorem Quiet.spd {s t : State} (h : Quiet s t) : t.spd = s.spd := by rw [h.rest]
theorem Quiet.sec {s t : State} (h : Quiet s t) : t.sec = s.sec := by rw [h.rest]
theorem Quiet.rst {s t : State} (h : Quiet s t) : t.rst = s.rst := by rw [h.rest]
theorem Quiet.sramAt {s t : State} (h : Quiet s t) : t.sramAt = s.sramAt := by rw [h.rest]

@[simp] theorem log_pending (s : State) (c i a d : Nat) : (s.log c i a d).pending = s.pending := (quiet_log (Quiet.refl s) c i a d).pending
@[simp] theorem log_tb (s : State) (c i a d : Nat) : (s.log c i a d).tb = s.tb := (quiet_log (Quiet.refl s) c i a d).tb
@[simp] theorem log_freeCtr (s : State) (c i a d : Nat) : (s.log c i a d).freeCtr = s.freeCtr := (quiet_log (Quiet.refl s) c i a d).freeCtr
@[simp] theorem log_useCtr (s : State) (c i a d : Nat) : (s.log c i a d).useCtr = s.useCtr := (quiet_log (Quiet.refl s) c i a d).useCtr
@[simp] theorem log_nextId (s : State) (c i a d : Nat) : (s.log c i a d).nextId = s.nextId := (quiet_log (Quiet.refl s) c i a d).nextId
@[simp] theorem log_lds (s : State) (c i a d : Nat) : (s.log c i a d).lds = s.lds := (quiet_log (Quiet.refl s) c i a d).lds
@[simp] theorem log_links (s : State) (c i a d : Nat) : (s.log c i a d).links = s.links := (quiet_log (Quiet.refl s) c i a d).links
@[simp] theorem log_ports (s : State) (c i a d : Nat) : (s.log c i a d).ports = s.ports := (quiet_log (Quiet.refl s) c i a d).ports
@[simp] theorem log_reqs (s : State) (c i a d : Nat) : (s.log c i a d).reqs = s.reqs := (quiet_log (Quiet.refl s) c i a d).reqs
@[simp] theorem log_ingress (s : State) (c i a d : Nat) : (s.log c i a d).ingress = s.ingress := (quiet_log (Quiet.refl s) c i a d).ingress
@[simp] theorem log_almanac (s : State) (c i a d : Nat) : (s.log c i a d).almanac = s.almanac := (quiet_log (Quiet.refl s) c i a d).almanac
@[simp] theorem log_near (s : State) (c i a d : Nat) : (s.log c i a d).near = s.near := (quiet_log (Quiet.refl s) c i a d).near
@[simp] theorem log_wb (s : State) (c i a d : Nat) : (s.log c i a d).wb = s.wb := (quiet_log (Quiet.refl s) c i a d).wb
@[simp] theorem log_snoops (s : State) (c i a d : Nat) : (s.log c i a d).snoops = s.snoops := (quiet_log (Quiet.refl s) c i a d).snoops
@[simp] theorem log_dir (s : State) (c i a d : Nat) : (s.log c i a d).dir = s.dir := (quiet_log (Quiet.refl s) c i a d).dir
@[simp] theorem log_stamps (s : State) (c i a d : Nat) : (s.log c i a d).stamps = s.stamps := (quiet_log (Quiet.refl s) c i a d).stamps
@[simp] theorem log_regions (s : State) (c i a d : Nat) : (s.log c i a d).regions = s.regions := (quiet_log (Quiet.refl s) c i a d).regions
@[simp] theorem log_frames (s : State) (c i a d : Nat) : (s.log c i a d).frames = s.frames := (quiet_log (Quiet.refl s) c i a d).frames
@[simp] theorem log_moves (s : State) (c i a d : Nat) : (s.log c i a d).moves = s.moves := (quiet_log (Quiet.refl s) c i a d).moves
@[simp] theorem log_walks (s : State) (c i a d : Nat) : (s.log c i a d).walks = s.walks := (quiet_log (Quiet.refl s) c i a d).walks
@[simp] theorem log_walkQueue (s : State) (c i a d : Nat) : (s.log c i a d).walkQueue = s.walkQueue := (quiet_log (Quiet.refl s) c i a d).walkQueue
@[simp] theorem log_tier (s : State) (c i a d : Nat) : (s.log c i a d).tier = s.tier := (quiet_log (Quiet.refl s) c i a d).tier
@[simp] theorem log_reclaim (s : State) (c i a d : Nat) : (s.log c i a d).reclaim = s.reclaim := (quiet_log (Quiet.refl s) c i a d).reclaim
@[simp] theorem log_spills (s : State) (c i a d : Nat) : (s.log c i a d).spills = s.spills := (quiet_log (Quiet.refl s) c i a d).spills
@[simp] theorem log_levels (s : State) (c i a d : Nat) : (s.log c i a d).levels = s.levels := (quiet_log (Quiet.refl s) c i a d).levels
@[simp] theorem log_hops (s : State) (c i a d : Nat) : (s.log c i a d).hops = s.hops := (quiet_log (Quiet.refl s) c i a d).hops
@[simp] theorem log_recalled (s : State) (c i a d : Nat) : (s.log c i a d).recalled = s.recalled := (quiet_log (Quiet.refl s) c i a d).recalled
@[simp] theorem log_metaCache (s : State) (c i a d : Nat) : (s.log c i a d).metaCache = s.metaCache := (quiet_log (Quiet.refl s) c i a d).metaCache
@[simp] theorem log_metaSto (s : State) (c i a d : Nat) : (s.log c i a d).metaSto = s.metaSto := (quiet_log (Quiet.refl s) c i a d).metaSto
@[simp] theorem log_roots (s : State) (c i a d : Nat) : (s.log c i a d).roots = s.roots := (quiet_log (Quiet.refl s) c i a d).roots
@[simp] theorem log_quarantine (s : State) (c i a d : Nat) : (s.log c i a d).quarantine = s.quarantine := (quiet_log (Quiet.refl s) c i a d).quarantine
@[simp] theorem log_nodeRekeys (s : State) (c i a d : Nat) : (s.log c i a d).nodeRekeys = s.nodeRekeys := (quiet_log (Quiet.refl s) c i a d).nodeRekeys
@[simp] theorem log_keys (s : State) (c i a d : Nat) : (s.log c i a d).keys = s.keys := (quiet_log (Quiet.refl s) c i a d).keys
@[simp] theorem log_salt (s : State) (c i a d : Nat) : (s.log c i a d).salt = s.salt := (quiet_log (Quiet.refl s) c i a d).salt
@[simp] theorem log_kint (s : State) (c i a d : Nat) : (s.log c i a d).kint = s.kint := (quiet_log (Quiet.refl s) c i a d).kint
@[simp] theorem log_keystreams (s : State) (c i a d : Nat) : (s.log c i a d).keystreams = s.keystreams := (quiet_log (Quiet.refl s) c i a d).keystreams
@[simp] theorem log_cryptoQ (s : State) (c i a d : Nat) : (s.log c i a d).cryptoQ = s.cryptoQ := (quiet_log (Quiet.refl s) c i a d).cryptoQ
@[simp] theorem log_alarms (s : State) (c i a d : Nat) : (s.log c i a d).alarms = s.alarms := (quiet_log (Quiet.refl s) c i a d).alarms
@[simp] theorem log_dram (s : State) (c i a d : Nat) : (s.log c i a d).dram = s.dram := (quiet_log (Quiet.refl s) c i a d).dram
@[simp] theorem log_chans (s : State) (c i a d : Nat) : (s.log c i a d).chans = s.chans := (quiet_log (Quiet.refl s) c i a d).chans
@[simp] theorem log_masters (s : State) (c i a d : Nat) : (s.log c i a d).masters = s.masters := (quiet_log (Quiet.refl s) c i a d).masters
@[simp] theorem log_sharedPool (s : State) (c i a d : Nat) : (s.log c i a d).sharedPool = s.sharedPool := (quiet_log (Quiet.refl s) c i a d).sharedPool
@[simp] theorem log_qosPending (s : State) (c i a d : Nat) : (s.log c i a d).qosPending = s.qosPending := (quiet_log (Quiet.refl s) c i a d).qosPending
@[simp] theorem log_quotas (s : State) (c i a d : Nat) : (s.log c i a d).quotas = s.quotas := (quiet_log (Quiet.refl s) c i a d).quotas
@[simp] theorem log_reservedK (s : State) (c i a d : Nat) : (s.log c i a d).reservedK = s.reservedK := (quiet_log (Quiet.refl s) c i a d).reservedK
@[simp] theorem log_cmp (s : State) (c i a d : Nat) : (s.log c i a d).cmp = s.cmp := (quiet_log (Quiet.refl s) c i a d).cmp
@[simp] theorem log_cryFaults (s : State) (c i a d : Nat) : (s.log c i a d).cryFaults = s.cryFaults := (quiet_log (Quiet.refl s) c i a d).cryFaults
@[simp] theorem log_mbx (s : State) (c i a d : Nat) : (s.log c i a d).mbx = s.mbx := (quiet_log (Quiet.refl s) c i a d).mbx
@[simp] theorem log_claim (s : State) (c i a d : Nat) : (s.log c i a d).claim = s.claim := (quiet_log (Quiet.refl s) c i a d).claim
@[simp] theorem log_sb (s : State) (c i a d : Nat) : (s.log c i a d).sb = s.sb := (quiet_log (Quiet.refl s) c i a d).sb
@[simp] theorem log_mgt (s : State) (c i a d : Nat) : (s.log c i a d).mgt = s.mgt := (quiet_log (Quiet.refl s) c i a d).mgt
@[simp] theorem log_jobs (s : State) (c i a d : Nat) : (s.log c i a d).jobs = s.jobs := (quiet_log (Quiet.refl s) c i a d).jobs
@[simp] theorem log_lastTransit (s : State) (c i a d : Nat) : (s.log c i a d).lastTransit = s.lastTransit := (quiet_log (Quiet.refl s) c i a d).lastTransit
@[simp] theorem log_stPorts (s : State) (c i a d : Nat) : (s.log c i a d).stPorts = s.stPorts := (quiet_log (Quiet.refl s) c i a d).stPorts
@[simp] theorem log_clu (s : State) (c i a d : Nat) : (s.log c i a d).clu = s.clu := (quiet_log (Quiet.refl s) c i a d).clu
@[simp] theorem log_stOpen (s : State) (c i a d : Nat) : (s.log c i a d).stOpen = s.stOpen := (quiet_log (Quiet.refl s) c i a d).stOpen
@[simp] theorem log_stSend (s : State) (c i a d : Nat) : (s.log c i a d).stSend = s.stSend := (quiet_log (Quiet.refl s) c i a d).stSend
@[simp] theorem log_fuses (s : State) (c i a d : Nat) : (s.log c i a d).fuses = s.fuses := (quiet_log (Quiet.refl s) c i a d).fuses
@[simp] theorem log_fuseShadow (s : State) (c i a d : Nat) : (s.log c i a d).fuseShadow = s.fuseShadow := (quiet_log (Quiet.refl s) c i a d).fuseShadow
@[simp] theorem log_spine (s : State) (c i a d : Nat) : (s.log c i a d).spine = s.spine := (quiet_log (Quiet.refl s) c i a d).spine
@[simp] theorem log_deferred (s : State) (c i a d : Nat) : (s.log c i a d).deferred = s.deferred := (quiet_log (Quiet.refl s) c i a d).deferred
@[simp] theorem log_time (s : State) (c i a d : Nat) : (s.log c i a d).time = s.time := (quiet_log (Quiet.refl s) c i a d).time
@[simp] theorem log_thm (s : State) (c i a d : Nat) : (s.log c i a d).thm = s.thm := (quiet_log (Quiet.refl s) c i a d).thm
@[simp] theorem log_hk (s : State) (c i a d : Nat) : (s.log c i a d).hk = s.hk := (quiet_log (Quiet.refl s) c i a d).hk
@[simp] theorem log_spw (s : State) (c i a d : Nat) : (s.log c i a d).spw = s.spw := (quiet_log (Quiet.refl s) c i a d).spw
@[simp] theorem log_spd (s : State) (c i a d : Nat) : (s.log c i a d).spd = s.spd := (quiet_log (Quiet.refl s) c i a d).spd
@[simp] theorem log_sec (s : State) (c i a d : Nat) : (s.log c i a d).sec = s.sec := (quiet_log (Quiet.refl s) c i a d).sec
@[simp] theorem log_rst (s : State) (c i a d : Nat) : (s.log c i a d).rst = s.rst := (quiet_log (Quiet.refl s) c i a d).rst
@[simp] theorem log_sramAt (s : State) (c i a d : Nat) : (s.log c i a d).sramAt = s.sramAt := (quiet_log (Quiet.refl s) c i a d).sramAt
theorem log_get (s : State) (c i a d : Nat) {f : Fld} (hf : f.lo < 64) (hr : reportReg f.addr = false) : (s.log c i a d).get f = s.get f :=
  (quiet_log (Quiet.refl s) c i a d).reg f hf hr

@[simp] theorem count_pending (s : State) (e i a : Nat) : (s.count e i a).pending = s.pending := (quiet_count (Quiet.refl s) e i a).pending
@[simp] theorem count_tb (s : State) (e i a : Nat) : (s.count e i a).tb = s.tb := (quiet_count (Quiet.refl s) e i a).tb
@[simp] theorem count_freeCtr (s : State) (e i a : Nat) : (s.count e i a).freeCtr = s.freeCtr := (quiet_count (Quiet.refl s) e i a).freeCtr
@[simp] theorem count_useCtr (s : State) (e i a : Nat) : (s.count e i a).useCtr = s.useCtr := (quiet_count (Quiet.refl s) e i a).useCtr
@[simp] theorem count_nextId (s : State) (e i a : Nat) : (s.count e i a).nextId = s.nextId := (quiet_count (Quiet.refl s) e i a).nextId
@[simp] theorem count_lds (s : State) (e i a : Nat) : (s.count e i a).lds = s.lds := (quiet_count (Quiet.refl s) e i a).lds
@[simp] theorem count_links (s : State) (e i a : Nat) : (s.count e i a).links = s.links := (quiet_count (Quiet.refl s) e i a).links
@[simp] theorem count_ports (s : State) (e i a : Nat) : (s.count e i a).ports = s.ports := (quiet_count (Quiet.refl s) e i a).ports
@[simp] theorem count_reqs (s : State) (e i a : Nat) : (s.count e i a).reqs = s.reqs := (quiet_count (Quiet.refl s) e i a).reqs
@[simp] theorem count_ingress (s : State) (e i a : Nat) : (s.count e i a).ingress = s.ingress := (quiet_count (Quiet.refl s) e i a).ingress
@[simp] theorem count_almanac (s : State) (e i a : Nat) : (s.count e i a).almanac = s.almanac := (quiet_count (Quiet.refl s) e i a).almanac
@[simp] theorem count_near (s : State) (e i a : Nat) : (s.count e i a).near = s.near := (quiet_count (Quiet.refl s) e i a).near
@[simp] theorem count_wb (s : State) (e i a : Nat) : (s.count e i a).wb = s.wb := (quiet_count (Quiet.refl s) e i a).wb
@[simp] theorem count_snoops (s : State) (e i a : Nat) : (s.count e i a).snoops = s.snoops := (quiet_count (Quiet.refl s) e i a).snoops
@[simp] theorem count_dir (s : State) (e i a : Nat) : (s.count e i a).dir = s.dir := (quiet_count (Quiet.refl s) e i a).dir
@[simp] theorem count_stamps (s : State) (e i a : Nat) : (s.count e i a).stamps = s.stamps := (quiet_count (Quiet.refl s) e i a).stamps
@[simp] theorem count_regions (s : State) (e i a : Nat) : (s.count e i a).regions = s.regions := (quiet_count (Quiet.refl s) e i a).regions
@[simp] theorem count_frames (s : State) (e i a : Nat) : (s.count e i a).frames = s.frames := (quiet_count (Quiet.refl s) e i a).frames
@[simp] theorem count_moves (s : State) (e i a : Nat) : (s.count e i a).moves = s.moves := (quiet_count (Quiet.refl s) e i a).moves
@[simp] theorem count_walks (s : State) (e i a : Nat) : (s.count e i a).walks = s.walks := (quiet_count (Quiet.refl s) e i a).walks
@[simp] theorem count_walkQueue (s : State) (e i a : Nat) : (s.count e i a).walkQueue = s.walkQueue := (quiet_count (Quiet.refl s) e i a).walkQueue
@[simp] theorem count_tier (s : State) (e i a : Nat) : (s.count e i a).tier = s.tier := (quiet_count (Quiet.refl s) e i a).tier
@[simp] theorem count_reclaim (s : State) (e i a : Nat) : (s.count e i a).reclaim = s.reclaim := (quiet_count (Quiet.refl s) e i a).reclaim
@[simp] theorem count_spills (s : State) (e i a : Nat) : (s.count e i a).spills = s.spills := (quiet_count (Quiet.refl s) e i a).spills
@[simp] theorem count_levels (s : State) (e i a : Nat) : (s.count e i a).levels = s.levels := (quiet_count (Quiet.refl s) e i a).levels
@[simp] theorem count_hops (s : State) (e i a : Nat) : (s.count e i a).hops = s.hops := (quiet_count (Quiet.refl s) e i a).hops
@[simp] theorem count_recalled (s : State) (e i a : Nat) : (s.count e i a).recalled = s.recalled := (quiet_count (Quiet.refl s) e i a).recalled
@[simp] theorem count_metaCache (s : State) (e i a : Nat) : (s.count e i a).metaCache = s.metaCache := (quiet_count (Quiet.refl s) e i a).metaCache
@[simp] theorem count_metaSto (s : State) (e i a : Nat) : (s.count e i a).metaSto = s.metaSto := (quiet_count (Quiet.refl s) e i a).metaSto
@[simp] theorem count_roots (s : State) (e i a : Nat) : (s.count e i a).roots = s.roots := (quiet_count (Quiet.refl s) e i a).roots
@[simp] theorem count_quarantine (s : State) (e i a : Nat) : (s.count e i a).quarantine = s.quarantine := (quiet_count (Quiet.refl s) e i a).quarantine
@[simp] theorem count_nodeRekeys (s : State) (e i a : Nat) : (s.count e i a).nodeRekeys = s.nodeRekeys := (quiet_count (Quiet.refl s) e i a).nodeRekeys
@[simp] theorem count_keys (s : State) (e i a : Nat) : (s.count e i a).keys = s.keys := (quiet_count (Quiet.refl s) e i a).keys
@[simp] theorem count_salt (s : State) (e i a : Nat) : (s.count e i a).salt = s.salt := (quiet_count (Quiet.refl s) e i a).salt
@[simp] theorem count_kint (s : State) (e i a : Nat) : (s.count e i a).kint = s.kint := (quiet_count (Quiet.refl s) e i a).kint
@[simp] theorem count_keystreams (s : State) (e i a : Nat) : (s.count e i a).keystreams = s.keystreams := (quiet_count (Quiet.refl s) e i a).keystreams
@[simp] theorem count_cryptoQ (s : State) (e i a : Nat) : (s.count e i a).cryptoQ = s.cryptoQ := (quiet_count (Quiet.refl s) e i a).cryptoQ
@[simp] theorem count_alarms (s : State) (e i a : Nat) : (s.count e i a).alarms = s.alarms := (quiet_count (Quiet.refl s) e i a).alarms
@[simp] theorem count_dram (s : State) (e i a : Nat) : (s.count e i a).dram = s.dram := (quiet_count (Quiet.refl s) e i a).dram
@[simp] theorem count_chans (s : State) (e i a : Nat) : (s.count e i a).chans = s.chans := (quiet_count (Quiet.refl s) e i a).chans
@[simp] theorem count_masters (s : State) (e i a : Nat) : (s.count e i a).masters = s.masters := (quiet_count (Quiet.refl s) e i a).masters
@[simp] theorem count_sharedPool (s : State) (e i a : Nat) : (s.count e i a).sharedPool = s.sharedPool := (quiet_count (Quiet.refl s) e i a).sharedPool
@[simp] theorem count_qosPending (s : State) (e i a : Nat) : (s.count e i a).qosPending = s.qosPending := (quiet_count (Quiet.refl s) e i a).qosPending
@[simp] theorem count_quotas (s : State) (e i a : Nat) : (s.count e i a).quotas = s.quotas := (quiet_count (Quiet.refl s) e i a).quotas
@[simp] theorem count_reservedK (s : State) (e i a : Nat) : (s.count e i a).reservedK = s.reservedK := (quiet_count (Quiet.refl s) e i a).reservedK
@[simp] theorem count_cmp (s : State) (e i a : Nat) : (s.count e i a).cmp = s.cmp := (quiet_count (Quiet.refl s) e i a).cmp
@[simp] theorem count_cryFaults (s : State) (e i a : Nat) : (s.count e i a).cryFaults = s.cryFaults := (quiet_count (Quiet.refl s) e i a).cryFaults
@[simp] theorem count_mbx (s : State) (e i a : Nat) : (s.count e i a).mbx = s.mbx := (quiet_count (Quiet.refl s) e i a).mbx
@[simp] theorem count_claim (s : State) (e i a : Nat) : (s.count e i a).claim = s.claim := (quiet_count (Quiet.refl s) e i a).claim
@[simp] theorem count_sb (s : State) (e i a : Nat) : (s.count e i a).sb = s.sb := (quiet_count (Quiet.refl s) e i a).sb
@[simp] theorem count_mgt (s : State) (e i a : Nat) : (s.count e i a).mgt = s.mgt := (quiet_count (Quiet.refl s) e i a).mgt
@[simp] theorem count_jobs (s : State) (e i a : Nat) : (s.count e i a).jobs = s.jobs := (quiet_count (Quiet.refl s) e i a).jobs
@[simp] theorem count_lastTransit (s : State) (e i a : Nat) : (s.count e i a).lastTransit = s.lastTransit := (quiet_count (Quiet.refl s) e i a).lastTransit
@[simp] theorem count_stPorts (s : State) (e i a : Nat) : (s.count e i a).stPorts = s.stPorts := (quiet_count (Quiet.refl s) e i a).stPorts
@[simp] theorem count_clu (s : State) (e i a : Nat) : (s.count e i a).clu = s.clu := (quiet_count (Quiet.refl s) e i a).clu
@[simp] theorem count_stOpen (s : State) (e i a : Nat) : (s.count e i a).stOpen = s.stOpen := (quiet_count (Quiet.refl s) e i a).stOpen
@[simp] theorem count_stSend (s : State) (e i a : Nat) : (s.count e i a).stSend = s.stSend := (quiet_count (Quiet.refl s) e i a).stSend
@[simp] theorem count_fuses (s : State) (e i a : Nat) : (s.count e i a).fuses = s.fuses := (quiet_count (Quiet.refl s) e i a).fuses
@[simp] theorem count_fuseShadow (s : State) (e i a : Nat) : (s.count e i a).fuseShadow = s.fuseShadow := (quiet_count (Quiet.refl s) e i a).fuseShadow
@[simp] theorem count_spine (s : State) (e i a : Nat) : (s.count e i a).spine = s.spine := (quiet_count (Quiet.refl s) e i a).spine
@[simp] theorem count_deferred (s : State) (e i a : Nat) : (s.count e i a).deferred = s.deferred := (quiet_count (Quiet.refl s) e i a).deferred
@[simp] theorem count_time (s : State) (e i a : Nat) : (s.count e i a).time = s.time := (quiet_count (Quiet.refl s) e i a).time
@[simp] theorem count_thm (s : State) (e i a : Nat) : (s.count e i a).thm = s.thm := (quiet_count (Quiet.refl s) e i a).thm
@[simp] theorem count_hk (s : State) (e i a : Nat) : (s.count e i a).hk = s.hk := (quiet_count (Quiet.refl s) e i a).hk
@[simp] theorem count_spw (s : State) (e i a : Nat) : (s.count e i a).spw = s.spw := (quiet_count (Quiet.refl s) e i a).spw
@[simp] theorem count_spd (s : State) (e i a : Nat) : (s.count e i a).spd = s.spd := (quiet_count (Quiet.refl s) e i a).spd
@[simp] theorem count_sec (s : State) (e i a : Nat) : (s.count e i a).sec = s.sec := (quiet_count (Quiet.refl s) e i a).sec
@[simp] theorem count_rst (s : State) (e i a : Nat) : (s.count e i a).rst = s.rst := (quiet_count (Quiet.refl s) e i a).rst
@[simp] theorem count_sramAt (s : State) (e i a : Nat) : (s.count e i a).sramAt = s.sramAt := (quiet_count (Quiet.refl s) e i a).sramAt
theorem count_get (s : State) (e i a : Nat) {f : Fld} (hf : f.lo < 64) (hr : reportReg f.addr = false) : (s.count e i a).get f = s.get f :=
  (quiet_count (Quiet.refl s) e i a).reg f hf hr

@[simp] theorem wakeFrom_pending (s : State) (n : Nat) : (wakeFrom n s).pending = s.pending := (quiet_wakeFrom (Quiet.refl s) n).pending
@[simp] theorem wakeFrom_tb (s : State) (n : Nat) : (wakeFrom n s).tb = s.tb := (quiet_wakeFrom (Quiet.refl s) n).tb
@[simp] theorem wakeFrom_freeCtr (s : State) (n : Nat) : (wakeFrom n s).freeCtr = s.freeCtr := (quiet_wakeFrom (Quiet.refl s) n).freeCtr
@[simp] theorem wakeFrom_useCtr (s : State) (n : Nat) : (wakeFrom n s).useCtr = s.useCtr := (quiet_wakeFrom (Quiet.refl s) n).useCtr
@[simp] theorem wakeFrom_nextId (s : State) (n : Nat) : (wakeFrom n s).nextId = s.nextId := (quiet_wakeFrom (Quiet.refl s) n).nextId
@[simp] theorem wakeFrom_lds (s : State) (n : Nat) : (wakeFrom n s).lds = s.lds := (quiet_wakeFrom (Quiet.refl s) n).lds
@[simp] theorem wakeFrom_links (s : State) (n : Nat) : (wakeFrom n s).links = s.links := (quiet_wakeFrom (Quiet.refl s) n).links
@[simp] theorem wakeFrom_ports (s : State) (n : Nat) : (wakeFrom n s).ports = s.ports := (quiet_wakeFrom (Quiet.refl s) n).ports
@[simp] theorem wakeFrom_reqs (s : State) (n : Nat) : (wakeFrom n s).reqs = s.reqs := (quiet_wakeFrom (Quiet.refl s) n).reqs
@[simp] theorem wakeFrom_ingress (s : State) (n : Nat) : (wakeFrom n s).ingress = s.ingress := (quiet_wakeFrom (Quiet.refl s) n).ingress
@[simp] theorem wakeFrom_almanac (s : State) (n : Nat) : (wakeFrom n s).almanac = s.almanac := (quiet_wakeFrom (Quiet.refl s) n).almanac
@[simp] theorem wakeFrom_near (s : State) (n : Nat) : (wakeFrom n s).near = s.near := (quiet_wakeFrom (Quiet.refl s) n).near
@[simp] theorem wakeFrom_wb (s : State) (n : Nat) : (wakeFrom n s).wb = s.wb := (quiet_wakeFrom (Quiet.refl s) n).wb
@[simp] theorem wakeFrom_snoops (s : State) (n : Nat) : (wakeFrom n s).snoops = s.snoops := (quiet_wakeFrom (Quiet.refl s) n).snoops
@[simp] theorem wakeFrom_dir (s : State) (n : Nat) : (wakeFrom n s).dir = s.dir := (quiet_wakeFrom (Quiet.refl s) n).dir
@[simp] theorem wakeFrom_stamps (s : State) (n : Nat) : (wakeFrom n s).stamps = s.stamps := (quiet_wakeFrom (Quiet.refl s) n).stamps
@[simp] theorem wakeFrom_regions (s : State) (n : Nat) : (wakeFrom n s).regions = s.regions := (quiet_wakeFrom (Quiet.refl s) n).regions
@[simp] theorem wakeFrom_frames (s : State) (n : Nat) : (wakeFrom n s).frames = s.frames := (quiet_wakeFrom (Quiet.refl s) n).frames
@[simp] theorem wakeFrom_moves (s : State) (n : Nat) : (wakeFrom n s).moves = s.moves := (quiet_wakeFrom (Quiet.refl s) n).moves
@[simp] theorem wakeFrom_walks (s : State) (n : Nat) : (wakeFrom n s).walks = s.walks := (quiet_wakeFrom (Quiet.refl s) n).walks
@[simp] theorem wakeFrom_walkQueue (s : State) (n : Nat) : (wakeFrom n s).walkQueue = s.walkQueue := (quiet_wakeFrom (Quiet.refl s) n).walkQueue
@[simp] theorem wakeFrom_tier (s : State) (n : Nat) : (wakeFrom n s).tier = s.tier := (quiet_wakeFrom (Quiet.refl s) n).tier
@[simp] theorem wakeFrom_reclaim (s : State) (n : Nat) : (wakeFrom n s).reclaim = s.reclaim := (quiet_wakeFrom (Quiet.refl s) n).reclaim
@[simp] theorem wakeFrom_spills (s : State) (n : Nat) : (wakeFrom n s).spills = s.spills := (quiet_wakeFrom (Quiet.refl s) n).spills
@[simp] theorem wakeFrom_levels (s : State) (n : Nat) : (wakeFrom n s).levels = s.levels := (quiet_wakeFrom (Quiet.refl s) n).levels
@[simp] theorem wakeFrom_hops (s : State) (n : Nat) : (wakeFrom n s).hops = s.hops := (quiet_wakeFrom (Quiet.refl s) n).hops
@[simp] theorem wakeFrom_recalled (s : State) (n : Nat) : (wakeFrom n s).recalled = s.recalled := (quiet_wakeFrom (Quiet.refl s) n).recalled
@[simp] theorem wakeFrom_metaCache (s : State) (n : Nat) : (wakeFrom n s).metaCache = s.metaCache := (quiet_wakeFrom (Quiet.refl s) n).metaCache
@[simp] theorem wakeFrom_metaSto (s : State) (n : Nat) : (wakeFrom n s).metaSto = s.metaSto := (quiet_wakeFrom (Quiet.refl s) n).metaSto
@[simp] theorem wakeFrom_roots (s : State) (n : Nat) : (wakeFrom n s).roots = s.roots := (quiet_wakeFrom (Quiet.refl s) n).roots
@[simp] theorem wakeFrom_quarantine (s : State) (n : Nat) : (wakeFrom n s).quarantine = s.quarantine := (quiet_wakeFrom (Quiet.refl s) n).quarantine
@[simp] theorem wakeFrom_nodeRekeys (s : State) (n : Nat) : (wakeFrom n s).nodeRekeys = s.nodeRekeys := (quiet_wakeFrom (Quiet.refl s) n).nodeRekeys
@[simp] theorem wakeFrom_keys (s : State) (n : Nat) : (wakeFrom n s).keys = s.keys := (quiet_wakeFrom (Quiet.refl s) n).keys
@[simp] theorem wakeFrom_salt (s : State) (n : Nat) : (wakeFrom n s).salt = s.salt := (quiet_wakeFrom (Quiet.refl s) n).salt
@[simp] theorem wakeFrom_kint (s : State) (n : Nat) : (wakeFrom n s).kint = s.kint := (quiet_wakeFrom (Quiet.refl s) n).kint
@[simp] theorem wakeFrom_keystreams (s : State) (n : Nat) : (wakeFrom n s).keystreams = s.keystreams := (quiet_wakeFrom (Quiet.refl s) n).keystreams
@[simp] theorem wakeFrom_cryptoQ (s : State) (n : Nat) : (wakeFrom n s).cryptoQ = s.cryptoQ := (quiet_wakeFrom (Quiet.refl s) n).cryptoQ
@[simp] theorem wakeFrom_alarms (s : State) (n : Nat) : (wakeFrom n s).alarms = s.alarms := (quiet_wakeFrom (Quiet.refl s) n).alarms
@[simp] theorem wakeFrom_dram (s : State) (n : Nat) : (wakeFrom n s).dram = s.dram := (quiet_wakeFrom (Quiet.refl s) n).dram
@[simp] theorem wakeFrom_chans (s : State) (n : Nat) : (wakeFrom n s).chans = s.chans := (quiet_wakeFrom (Quiet.refl s) n).chans
@[simp] theorem wakeFrom_masters (s : State) (n : Nat) : (wakeFrom n s).masters = s.masters := (quiet_wakeFrom (Quiet.refl s) n).masters
@[simp] theorem wakeFrom_sharedPool (s : State) (n : Nat) : (wakeFrom n s).sharedPool = s.sharedPool := (quiet_wakeFrom (Quiet.refl s) n).sharedPool
@[simp] theorem wakeFrom_qosPending (s : State) (n : Nat) : (wakeFrom n s).qosPending = s.qosPending := (quiet_wakeFrom (Quiet.refl s) n).qosPending
@[simp] theorem wakeFrom_quotas (s : State) (n : Nat) : (wakeFrom n s).quotas = s.quotas := (quiet_wakeFrom (Quiet.refl s) n).quotas
@[simp] theorem wakeFrom_reservedK (s : State) (n : Nat) : (wakeFrom n s).reservedK = s.reservedK := (quiet_wakeFrom (Quiet.refl s) n).reservedK
@[simp] theorem wakeFrom_cmp (s : State) (n : Nat) : (wakeFrom n s).cmp = s.cmp := (quiet_wakeFrom (Quiet.refl s) n).cmp
@[simp] theorem wakeFrom_cryFaults (s : State) (n : Nat) : (wakeFrom n s).cryFaults = s.cryFaults := (quiet_wakeFrom (Quiet.refl s) n).cryFaults
@[simp] theorem wakeFrom_mbx (s : State) (n : Nat) : (wakeFrom n s).mbx = s.mbx := (quiet_wakeFrom (Quiet.refl s) n).mbx
@[simp] theorem wakeFrom_claim (s : State) (n : Nat) : (wakeFrom n s).claim = s.claim := (quiet_wakeFrom (Quiet.refl s) n).claim
@[simp] theorem wakeFrom_sb (s : State) (n : Nat) : (wakeFrom n s).sb = s.sb := (quiet_wakeFrom (Quiet.refl s) n).sb
@[simp] theorem wakeFrom_mgt (s : State) (n : Nat) : (wakeFrom n s).mgt = s.mgt := (quiet_wakeFrom (Quiet.refl s) n).mgt
@[simp] theorem wakeFrom_jobs (s : State) (n : Nat) : (wakeFrom n s).jobs = s.jobs := (quiet_wakeFrom (Quiet.refl s) n).jobs
@[simp] theorem wakeFrom_lastTransit (s : State) (n : Nat) : (wakeFrom n s).lastTransit = s.lastTransit := (quiet_wakeFrom (Quiet.refl s) n).lastTransit
@[simp] theorem wakeFrom_stPorts (s : State) (n : Nat) : (wakeFrom n s).stPorts = s.stPorts := (quiet_wakeFrom (Quiet.refl s) n).stPorts
@[simp] theorem wakeFrom_clu (s : State) (n : Nat) : (wakeFrom n s).clu = s.clu := (quiet_wakeFrom (Quiet.refl s) n).clu
@[simp] theorem wakeFrom_stOpen (s : State) (n : Nat) : (wakeFrom n s).stOpen = s.stOpen := (quiet_wakeFrom (Quiet.refl s) n).stOpen
@[simp] theorem wakeFrom_stSend (s : State) (n : Nat) : (wakeFrom n s).stSend = s.stSend := (quiet_wakeFrom (Quiet.refl s) n).stSend
@[simp] theorem wakeFrom_fuses (s : State) (n : Nat) : (wakeFrom n s).fuses = s.fuses := (quiet_wakeFrom (Quiet.refl s) n).fuses
@[simp] theorem wakeFrom_fuseShadow (s : State) (n : Nat) : (wakeFrom n s).fuseShadow = s.fuseShadow := (quiet_wakeFrom (Quiet.refl s) n).fuseShadow
@[simp] theorem wakeFrom_spine (s : State) (n : Nat) : (wakeFrom n s).spine = s.spine := (quiet_wakeFrom (Quiet.refl s) n).spine
@[simp] theorem wakeFrom_deferred (s : State) (n : Nat) : (wakeFrom n s).deferred = s.deferred := (quiet_wakeFrom (Quiet.refl s) n).deferred
@[simp] theorem wakeFrom_time (s : State) (n : Nat) : (wakeFrom n s).time = s.time := (quiet_wakeFrom (Quiet.refl s) n).time
@[simp] theorem wakeFrom_thm (s : State) (n : Nat) : (wakeFrom n s).thm = s.thm := (quiet_wakeFrom (Quiet.refl s) n).thm
@[simp] theorem wakeFrom_hk (s : State) (n : Nat) : (wakeFrom n s).hk = s.hk := (quiet_wakeFrom (Quiet.refl s) n).hk
@[simp] theorem wakeFrom_spw (s : State) (n : Nat) : (wakeFrom n s).spw = s.spw := (quiet_wakeFrom (Quiet.refl s) n).spw
@[simp] theorem wakeFrom_spd (s : State) (n : Nat) : (wakeFrom n s).spd = s.spd := (quiet_wakeFrom (Quiet.refl s) n).spd
@[simp] theorem wakeFrom_sec (s : State) (n : Nat) : (wakeFrom n s).sec = s.sec := (quiet_wakeFrom (Quiet.refl s) n).sec
@[simp] theorem wakeFrom_rst (s : State) (n : Nat) : (wakeFrom n s).rst = s.rst := (quiet_wakeFrom (Quiet.refl s) n).rst
@[simp] theorem wakeFrom_sramAt (s : State) (n : Nat) : (wakeFrom n s).sramAt = s.sramAt := (quiet_wakeFrom (Quiet.refl s) n).sramAt
theorem wakeFrom_get (s : State) (n : Nat) {f : Fld} (hf : f.lo < 64) (hr : reportReg f.addr = false) : (wakeFrom n s).get f = s.get f :=
  (quiet_wakeFrom (Quiet.refl s) n).reg f hf hr

end Sys2Proof.Machine
end

