-- ==== Sys2Proof/Machine/Package.lean ====
section
/-!
DEFINITION. Ratings, operating conditions and the package (R463 to R467, R474 to R479): the limits of the tables, the derating rules and
the ball map. They are facts of the board; no command changes them and no step reads them.
-/

namespace Sys2Proof.Machine

/-! ### Ratings -/

/-- R464: the supply rails. -/
inductive Rail where
  | vddCore | vddSram | vddSerdes | vddhSerdes | vddqDdr | vddIo | vaux1v8
  deriving DecidableEq, Repr

/-- R463: what has an absolute maximum. -/
inductive Rated where
  | rail (r : Rail)
  /-- A 1.8 V pin, with VDD_IO in mV. -/
  | ioPin (vddIo : Int)
  /-- The slot bus and its sense pins. -/
  | slotSense
  | slotSenseDiff
  | slotGate
  /-- Junction temperature under bias, in °C. -/
  | junction
  /-- Storage temperature, in °C. -/
  | storage
  deriving DecidableEq, Repr

/-- R463: the limits of a rated quantity, in mV or °C. -/
def absoluteRange : Rated → Int × Int
  | .rail .vddCore => (-300, 1000)
  | .rail .vddSram => (-300, 1000)
  | .rail .vddSerdes => (-300, 1050)
  | .rail .vddhSerdes => (-300, 1400)
  | .rail .vddqDdr => (-300, 1300)
  | .rail .vddIo => (-300, 2100)
  | .rail .vaux1v8 => (-300, 2100)
  | .ioPin v => (-300, v + 300)
  | .slotSense => (-300, 16000)
  | .slotSenseDiff => (-500, 500)
  | .slotGate => (-300, 28000)
  | .junction => (-60, 135)
  | .storage => (-65, 150)

/-- R463: whether a quantity is within its absolute maximum ratings. -/
def withinRating (q : Rated) (v : Int) : Bool := decide ((absoluteRange q).1 ≤ v ∧ v ≤ (absoluteRange q).2)

/-- R464: a rail's nominal voltage in mV; VDD_CORE's is that of the level in force, and VDD_SRAM has another in SL2. -/
def railNominal (voltMv : Nat) (sl2 : Bool) : Rail → Nat
  | .vddCore => voltMv
  | .vddSram => if sl2 then 600 else 800
  | .vddSerdes => 900
  | .vddhSerdes => 1200
  | .vddqDdr => 1100
  | .vddIo => 1800
  | .vaux1v8 => 1800

/-- R464: a rail's tolerance in µV, with the ripple of VDD_CORE counted. -/
def railTolerance (voltMv : Nat) (sl2 : Bool) (r : Rail) : Nat :=
  match r with
  | .vddCore => 25000
  | .vddIo | .vaux1v8 => 50 * railNominal voltMv sl2 r
  | _ => 30 * railNominal voltMv sl2 r

/-- R464: a rail's current at PL0 under full traffic, typical and maximum, and its maximum in SL3, in mA. -/
def railCurrent : Rail → Nat × Nat × Nat
  | .vddCore => (98000, 150000, 0)
  | .vddSram => (25000, 32000, 0)
  | .vddSerdes => (33000, 38000, 400)
  | .vddhSerdes => (12500, 15000, 100)
  | .vddqDdr => (36000, 42000, 600)
  | .vddIo => (300, 500, 10)
  | .vaux1v8 => (100, 450, 40)

/-- R464: the junction temperatures at which the device is fully functional. -/
def functionalTj (tj : Int) : Bool := decide (-55 ≤ tj ∧ tj ≤ 125)

/-- R465: the maximum power at a junction temperature, in mW. -/
def maximumPower (tj : Int) : Int := if tj ≤ 110 then 210000 else 210000 + 1500 * (tj - 110)

/-- R465: the hours of rated life that an hour at a junction temperature counts as. -/
def lifeHours (tj : Int) : Nat := if 120 < tj then 16 else if 110 < tj then 4 else 1

/-- R467: the loss of a stitch channel that a rate in GT/s allows: the frequency in GHz and the limit in dB. -/
def stitchLoss (rate : Nat) : Nat × Nat := if rate = 16 then (8, 32) else (16, 32)

/-- R474: the input levels of a pin at VDD_IO, in mV: the highest that reads low, the lowest that reads high, and the least
hysteresis. -/
def inputLevels (vddIo : Nat) : Nat × Nat × Nat := (3 * vddIo / 10, 7 * vddIo / 10, vddIo / 10)

/-! ### The ball map -/

/-- R478: the pins of a subchannel. -/
inductive SubPin where
  | dq (n : Nat) | dqsT (n : Nat) | dqsC (n : Nat)
  | ckT (n : Nat) | ckC (n : Nat)
  | ca (n : Nat) | cs (n : Nat) | par
  deriving DecidableEq, Repr

/-- R478: the pins of a channel. -/
inductive ChanPin where
  | sub (sc : Nat) (pin : SubPin)
  | alert | reset | spdScl | spdSda
  | snsp | snsn | gate | vin | vout | pgood | prsnt (n : Nat)
  deriving DecidableEq, Repr

/-- R479: the pins of the centre block. -/
inductive CentrePin where
  | xtalIn | xtalOut | coreRst | mgtRst | pwrOk | wake (n : Nat)
  | sbScl | sbSda | sbAlert | uartTx | uartRx
  | spiSck | spiCs | spiIo (n : Nat)
  | avsClk | avsMdata | avsSdata
  | th (n : Nat) | busVsense | busIsenseP | busIsenseN
  deriving DecidableEq, Repr

/-- R477 to R479: what a ball carries. -/
inductive Ball where
  | vss
  | power (r : Rail)
  /-- A host lane: transmit or receive, the positive or the negative wire. -/
  | host (port lane : Nat) (tx p : Bool)
  | stitch (port lane : Nat) (tx p : Bool)
  | refclk (n : Nat) (p : Bool)
  | perst (n : Nat)
  | chan (c : Nat) (pin : ChanPin)
  | centre (pin : CentrePin)
  deriving DecidableEq, Repr

/-- R476: the ball, row and column, of a position of a side. -/
def sideBall (side rho gamma : Nat) : Nat × Nat :=
  match side with
  | 0 => (rho, gamma)
  | 1 => (gamma, 78 - rho)
  | 2 => (78 - rho, 78 - gamma)
  | _ => (78 - gamma, rho)

/-- R476: the position of a ball that lies on a side: the side, ρ and γ; none in the centre block. -/
def sideOf (row col : Nat) : Option (Nat × Nat × Nat) :=
  if row ≤ 24 ∧ col ≤ 53 then some (0, row, col)
  else if row ≤ 53 ∧ 54 ≤ col then some (1, 78 - col, row)
  else if 54 ≤ row ∧ 25 ≤ col then some (2, 78 - row, 78 - col)
  else if 25 ≤ row ∧ col ≤ 24 then some (3, col, 78 - row)
  else none

/-- R477: the lane pair of a slot of the SerDes block: the slot and whether γ is its positive wire. -/
def pairSlot (gamma : Nat) : Option (Nat × Bool) :=
  if 2 ≤ gamma ∧ gamma ≤ 12 ∧ gamma % 3 = 2 then some ((gamma - 2) / 3, true)
  else if 3 ≤ gamma ∧ gamma ≤ 12 ∧ gamma % 3 = 0 then some ((gamma - 3) / 3, false)
  else none

/-- R477: a ball of the SerDes block of a side. -/
def serdesBall (k rho gamma : Nat) : Ball :=
  if 19 ≤ rho ∧ rho ≤ 21 then .power .vddSerdes
  else if rho = 22 ∨ rho = 23 then .power .vddhSerdes
  else if rho = 13 ∧ gamma = 8 then .perst k
  else
    match pairSlot gamma with
    | none => .vss
    | some (slot, p) =>
      if 1 ≤ rho ∧ rho ≤ 4 then .host k (4 * (rho - 1) + slot) true p
      else if 6 ≤ rho ∧ rho ≤ 9 then .host k (4 * (rho - 6) + slot) false p
      else if 11 ≤ rho ∧ rho ≤ 13 ∧ 4 * (rho - 11) + slot ≤ 8 then .stitch k (4 * (rho - 11) + slot) true p
      else if rho = 13 ∧ slot = 1 then .refclk k p
      else if 15 ≤ rho ∧ rho ≤ 17 ∧ 4 * (rho - 15) + slot ≤ 8 then .stitch k (4 * (rho - 15) + slot) false p
      else .vss

/-- R478: pin `j` of a subchannel. -/
def subPin (j : Nat) : SubPin :=
  if j < 60 then
    if j % 6 < 4 then .dq (4 * (j / 6) + j % 6) else if j % 6 = 4 then .dqsT (j / 6) else .dqsC (j / 6)
  else if j < 64 then (if j % 2 = 0 then .ckT ((j - 60) / 2) else .ckC ((j - 60) / 2))
  else if j < 78 then .ca (j - 64)
  else if j < 82 then .cs (j - 78)
  else .par

/-- R478: signal index `i` of channel `c`. -/
def chanSignal (c i : Nat) : Ball :=
  if i < 83 then .chan c (.sub 0 (subPin i))
  else if i = 83 then .chan c .alert
  else if i < 167 then .chan c (.sub 1 (subPin (i - 84)))
  else
    match [ChanPin.reset, .spdScl, .spdSda, .snsp, .snsn, .gate, .vin, .vout, .pgood, .prsnt 0, .prsnt 1][i - 167]? with
    | some pin => .chan c pin
    | none => .vss

/-- R478: a ball of a channel's block: power in every fourth row. -/
def chanBall (c rho kappa : Nat) : Ball :=
  if rho % 4 = 0 then (if kappa % 2 = 1 then .power .vddqDdr else .vss)
  else chanSignal c (10 * (rho - 1 - rho / 4) + (kappa - 1))

/-- R479: row 25 of the centre block. -/
def centreTop : List Ball :=
  [.power .vaux1v8, .power .vaux1v8, .vss, .centre .xtalIn, .centre .xtalOut, .vss, .centre .coreRst, .centre .mgtRst,
    .centre .pwrOk, .centre (.wake 0), .centre (.wake 1), .vss, .centre .sbScl, .centre .sbSda, .centre .sbAlert,
    .centre .uartTx, .centre .uartRx, .vss, .centre .spiSck, .centre .spiCs, .centre (.spiIo 0), .centre (.spiIo 1),
    .centre (.spiIo 2), .centre (.spiIo 3), .vss, .centre .avsClk, .centre .avsMdata, .centre .avsSdata, .power .vddIo]

/-- R479: the first 13 balls of row 53 of the centre block. -/
def centreBottom : List Ball :=
  [.centre (.th 0), .centre (.th 1), .centre (.th 2), .centre (.th 3), .vss, .centre .busVsense, .centre .busIsenseP,
    .centre .busIsenseN, .vss, .power .vddIo, .power .vddIo, .power .vddIo, .power .vddIo]

/-- R479: a ball of the centre block. -/
def centreBall (row col : Nat) : Ball :=
  let other : Ball :=
    if (row + col) % 2 = 0 then .vss else if row ≤ 29 then .power .vddSram else .power .vddCore
  if row = 25 then centreTop.getD (col - 25) other
  else if row = 53 then centreBottom.getD (col - 25) other
  else other

/-- R475, R476: what the ball of a row and a column, each 1 to 77, carries. -/
def ballAt (row col : Nat) : Ball :=
  match sideOf row col with
  | none => centreBall row col
  | some (k, rho, gamma) =>
    if gamma ≤ 13 then serdesBall k rho gamma
    else chanBall (4 * k + (gamma - 14) / 10) rho ((gamma - 14) % 10 + 1)

end Sys2Proof.Machine
end

