-- ==== Sys2Proof/Tests/Slice0.lean ====
section
/-!
SUPPORT. Tests: states and operands that meet the hypotheses of each statement, and small tests of single commands.
-/

open Sys2Proof Sys2Proof.Machine

namespace Sys2Proof.Tests

set_option Elab.async false

/-- A device with blank fuses just out of reset, with some register fields set. -/
def dev (l : List (Fld × Nat)) : State := l.foldl (fun s x => s.put x.1 x.2) {}

/-- A request of the device itself. -/
def rq : Req := { id := 5, src := .internal, intent := .wrNC, addr := 0, master := 64, agent := none, input := 0, write := true }

/-- A device whose slot 2 is an ALIVE logical device on link 0, with 256 MiB of region 1 at host address 2^28. -/
def hostDev : State :=
  { dev [(F.HP_AGENT_STATE.STATE 2, 1), (F.TIER_CAP_CFG.PRESENTED_REGIONS, 4)] with
    links := ⟨[(0, { up := true, width := 16, trained := 16, lds := 4 })]⟩
    lds := ⟨[(2, { extents := [{ dpa := 0, gib := 1, base := 2 ^ 30, source := none }],
                   hdm := [{ base := 2 ^ 28, size := 2 ^ 28, committed := true }, {}, {}, {}] })]⟩ }

/-- A device whose slice 0 caches the catalogue line and the counter block of page 0. -/
def metaDev (l : List (Fld × Nat)) (cat : BitVec 512) : State :=
  { dev l with metaCache := [{ slice := 0, kind := 1, index := 0, val := cat }, { slice := 0, kind := 0, index := 0, val := 0 }] }

/-- A device with a written byte of line 0 of T0 page 0 in the buffer, under an active key. -/
def mergeDev (l : List (Fld × Nat)) : State :=
  { metaDev l 1 with wb := [{ addr := 0, data := 5, mask := 1 }], keys := ⟨[(0, { wk := some 7 })]⟩ }

/-- A device with channel 1 enabled and a read of one unit queued in its first subchannel. -/
def dramDev (down : Bool) (rows : List OpenRow) (hot : Bool := false) : State :=
  { dev [(F.DC_CFG.ENABLE 1, 1)] with
    reqs := [{ rq with write := false, intent := .readNC, stage := .dram, units := [{ chan := 1, line := 0, idx := 0 }] }]
    chans := ⟨[(1, { sc0 := { reads := [{ req := 5, addr := 0, master := 64, write := false, lines := [0], since := 0 }] },
                     ranks := { powerDown := down } :: List.replicate 7 {}, rows, live := true, overTemp := hot })]⟩ }

/-- A device with the data of a read of channel 1 on its way. -/
def readDev (inflight : List Inflight) : State :=
  { dev [] with
    reqs := [{ rq with write := false, intent := .readNC, stage := .dram, units := [{ chan := 1, line := 0, idx := 0 }] }]
    chans := ⟨[(1, { sc0 := { inflight }, counts := [(0, 0)] })]⟩ }

/-- A segment of a device's compression engines. -/
def dj (want : Option Nat) : DecJob := { owner := .read 5, bytes := [], code := some 1, want, home := 5 }


/-- A device in which a unit of a job's instance has been released. -/
def due (job inst : Nat) (l : List (Fld × Nat)) : State := { dev l with jobs := ⟨[(jobKey job inst, [{ rel := 0, deadline := 1 }])]⟩ }

/-- A device whose management processor runs. -/
def pdev (l : List (Fld × Nat)) : State := { dev l with sec := { running := true } }

/-- A packet from the management unit's first secure mailbox channel. -/
def pk (param : Nat) (payload : List Byte := []) : Packet :=
  { path := .mbx 0, cls := none, slot := 0, secured := false, opcode := 0, tag := 1, flags := 0
    length := BitVec.ofNat 16 payload.length, param := BitVec.ofNat 64 param, payload }

/-- A number's `n` bytes, the low byte first. -/
def le (n v : Nat) : List Byte := (toBytes n v).map (BitVec.ofNat 8)

/-- A packet that is decided here. -/
theorem runs {s : State} {p : Packet} (h : decidesNow p s = true ∧ tagHeld p s = false ∧ headerFault p = false ∧
    goesToHead p (decidedIn p s) = false ∧ checkPacket p (decidedIn p s) = none ∧ relayTo p (decidedIn p s) = none) :
    PacketRuns s p := ⟨h.1, h.2.1, h.2.2.1, h.2.2.2.1, h.2.2.2.2.1, h.2.2.2.2.2⟩

/-- A device with a logical device that its management processor serves. -/
def hostRun (l : List (Fld × Nat)) : State :=
  { hostDev with sec := { running := true }, regs := (forAll l (fun x s => s.put x.1 x.2) hostDev).regs }

/-- A request of a standard mailbox that is served here. -/
theorem served {s : State} {m : Nat} {sb : Bool} {cls : Nat} (h : s.asleep = false ∧ (sb = false ∨ s.mgt.rows = []) ∧ (sb = true ∨ ldReached s m = true) ∧
    (stdArrived s sb).sec.running = true ∧ (stdArrived s sb).flag F.SEC_STATUS.RECOVERY = false ∧
    denied (stdArrived s sb) cls (if sb then 16 else m / 4) = false ∧
    ((stdArrived s sb).inFatal = false ∨ cls = 1 ∨ cls = 0x0B)) : StdServed s m sb cls :=
  ⟨h.1, h.2.1, h.2.2.1, h.2.2.2.1, h.2.2.2.2.1, h.2.2.2.2.2.1, h.2.2.2.2.2.2⟩

/-- A device whose stitch port 3 is ACTIVE, with a port state. -/
def stDev (x : StPort) (l : List (Fld × Nat) := []) : State :=
  { dev ((F.ST_PORT_CTRL.DISABLE 3, 0) :: (F.ST_PORT_STATUS.STATE 3, 6) :: l) with stPorts := ⟨[(3, x)]⟩, tb := 10000000 }

/-- A Dynamic Capacity extent of 1 GiB. -/
def dcx (dpa base : Nat) : DcExtent := { region := 0, dpa := BitVec.ofNat 64 dpa, gib := 1, base := BitVec.ofNat 64 base, tag := 0 }

/-- A unit whose codeword is sound and whose tag is that of its bytes reads as those bytes decrypted. -/
theorem readUnit_good {chan line : Nat} {c : CtrState} {e : MemErr} {mr : Bool} {s : State} (sym : List Nat)
    (hz : zeroized s c.key = false)
    (hr : (dramRead chan line e (some (cpaOf s (c.page * 4096 + (if c.tier = 1 then c.idx * 64 else 0)))) s).1.data = some sym)
    (hk : workKey (scheduleFix chan line
      (dramRead chan line e (some (cpaOf s (c.page * 4096 + (if c.tier = 1 then c.idx * 64 else 0)))) s).1
      (dramRead chan line e (some (cpaOf s (c.page * 4096 + (if c.tier = 1 then c.idx * 64 else 0)))) s).2) c.key = 7)
    (ht : (sym.drop 64).take 6 = tagOf 7 (sym.take 64) (aesInput c 4)) :
    readUnit chan line c e mr s = (some (lineOf (cryptUnit 7 c (sym.take 64))), scheduleFix chan line
      (dramRead chan line e (some (cpaOf s (c.page * 4096 + (if c.tier = 1 then c.idx * 64 else 0)))) s).1
      (dramRead chan line e (some (cpaOf s (c.page * 4096 + (if c.tier = 1 then c.idx * 64 else 0)))) s).2) := by
  unfold readUnit
  simp only [hz, Bool.false_eq_true, if_false, hr, hk, openUnit, ht, if_true]

/-- States and operands that meet the hypotheses of each clause of `Obligations.MailboxInPosts`. -/
theorem witness_MailboxInPosts :
    (∃ (s : State) (c : Fin 16) (m : Fin 64) (len : BitVec 13), (s.get (F.MBX_CH_STATUS.IN_FULL c) = 0) ∧ (16 ≤ len.toNat) ∧ (len.toNat ≤ 4096) ∧ (isFarEnd s c m = true)) ∧
    (∃ (s : State) (c : Fin 16) (m : Fin 64) (len : BitVec 13), (s.get (F.MBX_CH_STATUS.IN_FULL c) = 1 ∨ len.toNat < 16 ∨ 4096 < len.toNat ∨ isFarEnd s c m = false)) :=
  ⟨⟨{ dev [] with claim := some (7, 0) }, 15, 7, 16, by decide +kernel⟩,
   ⟨dev [(F.MBX_CH_STATUS.IN_FULL 3, 1)], 3, 1, 0, by decide +kernel⟩⟩

/-- States and operands that meet the hypotheses of each clause of `Obligations.MailboxInTaken`. -/
theorem witness_MailboxInTaken :
    (∃ (s : State) (c : Fin 16), (s.get (F.MBX_CH_STATUS.IN_FULL c) = 1) ∧ (replyRoom (.mbx c) s = true)) ∧
    (∃ (s : State) (c : Fin 16), (s.get (F.MBX_CH_STATUS.IN_FULL c) = 1) ∧ (4 ≤ (s.mbx.get c).held.length)) ∧
    (∃ (s : State) (c : Fin 16), (replyRoom (.mbx c) s = false)) ∧
    (∃ (s : State) (c : Fin 16), (s.get (F.MBX_CH_STATUS.IN_FULL c) = 0)) ∧
    (∃ (s : State) (c : Fin 16), (s.get (F.MBX_CH_STATUS.IN_FULL c) = 1)) :=
  ⟨⟨{ dev [(F.MBX_CH_STATUS.IN_FULL 3, 1)] with mbx := ⟨[(3, { inMsg := List.replicate 16 1, held := List.replicate 3 { dest := none, out := .fatalResponse, tag := none } })]⟩ }, 3, by decide +kernel⟩,
   ⟨{ dev [(F.MBX_CH_STATUS.IN_FULL 3, 1)] with mbx := ⟨[(3, { inMsg := List.replicate 16 1, held := List.replicate 4 { dest := none, out := .fatalResponse, tag := none } })]⟩ }, 3, by decide +kernel⟩,
   ⟨{ dev [(F.MBX_CH_STATUS.IN_FULL 3, 1)] with mbx := ⟨[(3, { inMsg := List.replicate 16 1, held := List.replicate 4 { dest := none, out := .fatalResponse, tag := none } })]⟩ }, 3, by decide +kernel⟩,
   ⟨({} : State), 3, by decide +kernel⟩,
   ⟨dev [(F.MBX_CH_STATUS.IN_FULL 3, 1)], 3, by decide +kernel⟩⟩

/-- States and operands that meet the hypotheses of each clause of `Obligations.MailboxOut`. -/
theorem witness_MailboxOut :
    (∃ (s : State) (c : Fin 16) (h : HeldOut) (rest : List HeldOut), (s.get (F.MBX_CH_STATUS.OUT_FULL c) = 0) ∧ ((c = 15 → h.dest.isSome = true ∨ s.get F.MBX_CH15_OUT_DEST.VALID = 1)) ∧ ((s.mbx.get c).held = h :: rest)) ∧
    (∃ (s : State) (c : Fin 16) (m : Fin 64), (s.get (F.MBX_CH_STATUS.OUT_FULL c) = 1) ∧ (c ≠ 15) ∧ (isFarEnd s c m = true)) ∧
    (∃ (s : State) (m : Fin 64), (s.get (F.MBX_CH_STATUS.OUT_FULL 15) = 1) ∧ (s.get F.MBX_CH15_OUT_DEST.VALID = 1) ∧ (s.get F.MBX_CH15_OUT_DEST.SLOT = m)) ∧
    (∃ (s : State) (c : Fin 16), (s.get (F.MBX_CH_STATUS.OUT_FULL c) = 1)) ∧
    (∃ (s : State) (c : Fin 16), (s.get (F.MBX_CH_STATUS.OUT_FULL c) = 1)) ∧
    (∃ (s : State) (c : Fin 16), (s.get (F.MBX_CH_STATUS.OUT_FULL c) = 0)) ∧
    (∃ (s : State) (c : Fin 16), (s.get (F.MBX_CH_STATUS.OUT_FULL c) = 0)) :=
  ⟨⟨{ dev [(F.MBX_CH15_OUT_DEST.VALID, 1)] with mbx := ⟨[(15, { held := [{ dest := none, out := .fatalResponse, tag := some (15, 1) }] })]⟩, mgt := { tags := [(15, 1)] } }, 15, { dest := none, out := .fatalResponse, tag := some (15, 1) }, [], by decide +kernel⟩,
   ⟨dev [(F.MBX_CH_STATUS.OUT_FULL 14, 1), (F.MBX_CH_BIND.KIND 14, 1), (F.MBX_CH_BIND.SLOT 14, 9)], 14, 9, by decide +kernel⟩,
   ⟨dev [(F.MBX_CH_STATUS.OUT_FULL 15, 1), (F.MBX_CH15_OUT_DEST.VALID, 1), (F.MBX_CH15_OUT_DEST.SLOT, 63)], 63, by decide +kernel⟩,
   ⟨dev [(F.MBX_CH_STATUS.OUT_FULL 14, 1)], 14, by decide +kernel⟩,
   ⟨dev [(F.MBX_CH_STATUS.OUT_FULL 14, 1)], 14, by decide +kernel⟩,
   ⟨({} : State), 15, by decide +kernel⟩,
   ⟨({} : State), 3, by decide +kernel⟩⟩

/-- States and operands that meet the hypotheses of each clause of `Obligations.MailboxClaimBindReset`. -/
theorem witness_MailboxClaimBindReset :
    (∃ (s : State), (s.claim = none) ∧ (s.get (F.MBX_CH_STATUS.IN_FULL 15) = 0)) ∧
    (∃ (s : State) (x : Nat × Nat), (s.claim = some x)) ∧
    (∃ (s : State) (m : Nat) (at_ : Nat), (s.claim = some (m, at_)) ∧ (s.get (F.MBX_CH_STATUS.IN_FULL 15) = 0) ∧ (at_ + 100000 ≤ s.now)) ∧
    (∃ (s : State) (c : Fin 16), (s.get (F.MBX_CH_STATUS.IN_FULL c) = 0) ∧ (s.get (F.MBX_CH_STATUS.OUT_FULL c) = 0) ∧ ((c.val ≤ 7 → s.get F.MBX_CTRL.SECURE_LOCK = 0))) ∧
    (∃ (s : State) (c : Fin 16), (c.val ≤ 7) ∧ (s.get F.MBX_CTRL.SECURE_LOCK = 1)) :=
  ⟨⟨({} : State), by decide +kernel⟩,
   ⟨{ dev [] with claim := some (3, 0) }, (3, 0), by decide +kernel⟩,
   ⟨{ dev [] with claim := some (3, 0), tb := 100000, mbx := ⟨[(15, { inMsg := [1] })]⟩ }, 3, 0, by decide +kernel⟩,
   ⟨({} : State), 7, by decide +kernel⟩,
   ⟨dev [(F.MBX_CTRL.SECURE_LOCK, 1)], 7, by decide +kernel⟩⟩

/-- States and operands that meet the hypotheses of each clause of `Obligations.SidebandAndUart`. -/
theorem witness_SidebandAndUart :
    (∃ (s : State) (l : List Byte), (s.sb.item = some l) ∧ ((l.length % 8 = 0 → s.sb.wr + l.length / 8 - s.sb.rd < 512))) ∧
    (∃ (s : State) (l : List Byte), (s.sb.item = some l) ∧ (l.length % 8 = 0) ∧ (512 ≤ s.sb.wr + l.length / 8 - s.sb.rd)) ∧
    (∃ (s : State), (s.sb.item = none)) ∧
    (∃ (s : State) (l : List Byte), (s.sb.item = some l) ∧ (l ≠ [])) ∧
    (∃ (s : State) (l : List Byte), (s.sb.item = some l)) ∧
    (∃ (s : State) (w : SbWord), (s.sb.rd ≠ s.sb.wr) ∧ (s.sb.ring.get (s.sb.rd % 512) = some w)) ∧
    (∃ (s : State), (s.sb.rd = s.sb.wr)) ∧
    (∃ (s : State) (m : Nat), (s.sb.mark = some m)) ∧
    (∃ (s : State), (s.sb.mark = none)) ∧
    (∃ (pkt : List Byte), (16 ≤ pkt.length)) ∧
    (∃ (bytes : List Byte), (bytes.length < 22 ∨ bytes.take 2 ≠ [0xA5, 0x5A])) :=
  ⟨⟨{ dev [] with sb := { item := some (List.replicate 8 1), wr := 510 } }, List.replicate 8 1, by decide +kernel⟩,
   ⟨{ dev [] with sb := { item := some (List.replicate 8 1), wr := 511 } }, List.replicate 8 1, by decide +kernel⟩,
   ⟨dev [], by decide +kernel⟩,
   ⟨{ dev [] with sb := { item := some (List.replicate 9 1) } }, List.replicate 9 1, by decide +kernel⟩,
   ⟨{ dev [(F.MBX_SB_COUNT.DROPPED, 0xFFFF)] with sb := { item := some [1] } }, [1], by decide +kernel⟩,
   ⟨{ dev [] with sb := { rd := 511, wr := 512, ring := ⟨[(511, some { word := 7, sop := true, eop := true, valid := 3 })]⟩ } }, { word := 7, sop := true, eop := true, valid := 3 }, by decide +kernel⟩,
   ⟨{ dev [] with sb := { rd := 512, wr := 512 } }, by decide +kernel⟩,
   ⟨{ dev [] with sb := { rd := 5, wr := 512, mark := some 1 } }, 1, by decide +kernel⟩,
   ⟨{ dev [] with sb := { rd := 5, wr := 512 } }, by decide +kernel⟩,
   ⟨List.replicate 16 3, by decide +kernel⟩,
   ⟨List.replicate 22 0, by decide +kernel⟩⟩

/-- States and operands that meet the hypotheses of each clause of `Obligations.HostRequestsQueue`. -/
theorem witness_HostRequestsQueue :
    (∃ (s : State) (m : Fin 64) (hpa : BitVec 64) (cpa : Nat), (HostServed s m hpa.toNat cpa) ∧ (ingressFull s m false = false)) ∧
    (∃ (s : State) (m : Fin 64) (hpa : BitVec 64) (cpa : Nat), (HostServed s m hpa.toNat cpa) ∧ (ingressFull s m false = false)) ∧
    (∃ (s : State) (m : Fin 64) (hpa : BitVec 64) (cpa : Nat), (HostServed s m hpa.toNat cpa) ∧ (ingressFull s m false = false)) ∧
    (∃ (s : State) (m : Fin 64) (hpa : BitVec 64) (cpa : Nat), (HostServed s m hpa.toNat cpa) ∧ (ingressFull s m true = false)) ∧
    (∃ (s : State) (m : Fin 64) (hpa : BitVec 64) (cpa : Nat), (HostServed s m hpa.toNat cpa) ∧ (ingressFull s m true = false)) :=
  ⟨⟨hostDev, 2, 0x10000040, 0x40000040, ⟨⟨by decide, by decide, by decide, by decide, by decide, by decide, by decide, by decide⟩, by decide⟩⟩,
   ⟨hostDev, 2, 0x10000040, 0x40000040, ⟨⟨by decide, by decide, by decide, by decide, by decide, by decide, by decide, by decide⟩, by decide⟩⟩,
   ⟨hostDev, 2, 0x10000040, 0x40000040, ⟨⟨by decide, by decide, by decide, by decide, by decide, by decide, by decide, by decide⟩, by decide⟩⟩,
   ⟨hostDev, 2, 0x10000040, 0x40000040, ⟨⟨by decide, by decide, by decide, by decide, by decide, by decide, by decide, by decide⟩, by decide⟩⟩,
   ⟨hostDev, 2, 0x10000040, 0x40000040, ⟨⟨by decide, by decide, by decide, by decide, by decide, by decide, by decide, by decide⟩, by decide⟩⟩⟩

/-- States and operands that meet the hypotheses of each clause of `Obligations.HostUnbackedAccess`. -/
theorem witness_HostUnbackedAccess :
    (∃ (s : State) (m : Fin 64) (hpa : BitVec 64), ((s.links.get (linkOfSlot m)).up = true) ∧ (agentState s m = 1) ∧ (portsStopped s = false) ∧ (s.inFatal = false) ∧ (fenced s = false) ∧ (mapHpa s m hpa.toNat = none) ∧ (ingressFull s m false = false)) ∧
    (∃ (s : State) (m : Fin 64) (hpa : BitVec 64), ((s.links.get (linkOfSlot m)).up = true) ∧ (agentState s m = 1) ∧ (portsStopped s = false) ∧ (s.inFatal = false) ∧ (fenced s = false) ∧ (mapHpa s m hpa.toNat = none) ∧ (ingressFull s m true = false)) :=
  ⟨⟨hostDev, 2, 0x20000000, by decide +kernel⟩,
   ⟨hostDev, 2, 0x20000000, by decide +kernel⟩⟩

/-- A state and operands that meet the hypotheses of `Obligations.HostOddOpcodes`. -/
theorem witness_HostOddOpcodes :
    (∃ (s : State) (m : Fin 64), ((s.links.get (linkOfSlot m)).up = true) ∧ (agentState s m ≠ 2) ∧ (ingressFull s m false = false) ∧ (portsStopped s = false)) :=
  ⟨{ dev [] with links := ⟨[(0, { up := true, width := 16, lds := 4 })]⟩ }, 2, by decide +kernel⟩

/-- States and operands that meet the hypotheses of each clause of `Obligations.HomeSliceServes`. -/
theorem witness_HomeSliceServes :
    (∃ (s : State) (sl : Fin 16) (r : Req), (arbiterTakes s sl = some r) ∧ (let n := noteWrite r s; (ownerWb n r = false))) ∧
    (∃ (s : State) (sl : Fin 16) (r : Req), (arbiterTakes s sl = some r) ∧ (let n := noteWrite r s; (ownerWb n r = true))) ∧
    (∃ (s : State) (sl : Fin 16) (r : Req) (k : Nat), (arbiterTakes s sl = some r) ∧ ((s.region (regionOf r.page)).cls = 1) ∧ (almFind s r.addr = some k)) ∧
    (∃ (s : State) (sl : Fin 16) (r : Req) (x : Nat × Nat × Nat), (arbiterTakes s sl = some r) ∧ ((s.region (regionOf r.page)).cls = 1) ∧ (almFind s r.addr = none) ∧ (missReads s r = some x)) ∧
    (∃ (s : State) (sl : Fin 16), (arbiterTakes s sl = none)) ∧
    (∃ (s : State) (sl : Fin 16) (set : BitVec 14) (r : Req) (k : Nat), (s.reqs.find? (fun r => r.stage == .pinWait && sliceOf r.addr == sl.val && almSet r.addr == set.toNat) = some r) ∧ (almFind s r.addr = some k)) ∧
    (∃ (s : State) (sl : Fin 16) (set : BitVec 14) (r : Req) (k : Nat), (s.reqs.find? (fun r => r.stage == .pinWait && sliceOf r.addr == sl.val && almSet r.addr == set.toNat) = some r) ∧ (almFind s r.addr = none) ∧ (keptWay s r = some k)) ∧
    (∃ (s : State) (sl : Fin 16) (set : BitVec 14) (r : Req) (k : Nat), (s.reqs.find? (fun r => r.stage == .pinWait && sliceOf r.addr == sl.val && almSet r.addr == set.toNat) = some r) ∧ (almFind s r.addr = none) ∧ (keptWay s r = none) ∧ (almVictim s r.addr = some k)) ∧
    (∃ (s : State) (sl : Fin 16) (set : BitVec 14) (r : Req), (s.reqs.find? (fun r => r.stage == .pinWait && sliceOf r.addr == sl.val && almSet r.addr == set.toNat) = some r) ∧ (almFind s r.addr = none) ∧ (keptWay s r = none) ∧ (almVictim s r.addr = none)) ∧
    (∃ (s : State), ((∀ r ∈ s.reqs, r.stage ≠ .pinWait))) ∧
    (∃ (s : State) (sl : Fin 16) (err : MemErr) (r : Req) (k : Nat), (accessesIn s 67 = true) ∧ (s.reqs.find? (fun r => r.stage == .backing && sliceOf r.addr == sl.val) = some r) ∧ (let line := dirIndex r.addr / 8; (let b := struck (regionBacking s (regionOf r.page) sl line) err (fetchBacking (regionOf r.page) sl line) s; (almFind b r.addr = some k)))) ∧
    (∃ (s : State) (sl : Fin 16) (err : MemErr) (r : Req) (k : Nat), (accessesIn s 67 = true) ∧ (s.reqs.find? (fun r => r.stage == .backing && sliceOf r.addr == sl.val) = some r) ∧ (let line := dirIndex r.addr / 8; (let b := struck (regionBacking s (regionOf r.page) sl line) err (fetchBacking (regionOf r.page) sl line) s; (almFind b r.addr = none) ∧ (keptWay b r = some k)))) ∧
    (∃ (s : State) (sl : Fin 16) (err : MemErr) (r : Req), (accessesIn s 67 = true) ∧ (s.reqs.find? (fun r => r.stage == .backing && sliceOf r.addr == sl.val) = some r) ∧ (let line := dirIndex r.addr / 8; (let b := struck (regionBacking s (regionOf r.page) sl line) err (fetchBacking (regionOf r.page) sl line) s; (almFind b r.addr = none) ∧ (keptWay b r = none)))) ∧
    (∃ (s : State) (sl : Fin 16) (found : MetaFetch) (r : Req), (accessesIn s 67 = true) ∧ (let w := forAll (s.reqs.filter (fun r => r.stage == .metaWait && sliceOf r.addr == sl.val)) stallFetch s; ((w.reqs.filter (fun r => r.stage == .metaWait && sliceOf r.addr == sl.val)).find? (fun r => pageRoom w r.page) = some r) ∧ (let b := if r.metaOk then w.put F.HA_PIN_STALL.MAX_NS (min (2 ^ 32 - 1) (max (w.get F.HA_PIN_STALL.MAX_NS) (w.since r.since))) else w; (let u := struck (metaPlace b sl found.kind (pathLine b r.page found.kind)) found.err (fun s => (pageFetch r.page s).2) b; (metaReady u r.page = true))))) ∧
    (∃ (s : State) (sl : Fin 16) (found : MetaFetch) (r : Req), (accessesIn s 67 = true) ∧ (let w := forAll (s.reqs.filter (fun r => r.stage == .metaWait && sliceOf r.addr == sl.val)) stallFetch s; ((w.reqs.filter (fun r => r.stage == .metaWait && sliceOf r.addr == sl.val)).find? (fun r => pageRoom w r.page) = some r) ∧ (let b := if r.metaOk then w.put F.HA_PIN_STALL.MAX_NS (min (2 ^ 32 - 1) (max (w.get F.HA_PIN_STALL.MAX_NS) (w.since r.since))) else w; (let u := struck (metaPlace b sl found.kind (pathLine b r.page found.kind)) found.err (fun s => (pageFetch r.page s).2) b; (metaReady u r.page = false))))) ∧
    (∃ (s : State), (accessesIn s 67 = false)) ∧
    (∃ (s : State), (accessesIn s 67 = false)) ∧
    (∃ (s : State), (accessesIn s 67 = false)) ∧
    (∃ (s : State) (sl : Fin 16) (m : MetaLine), (accessesIn s 67 = true) ∧ (oldest (s.metaCache.filter (fun m => m.slice == sl.val && m.evicting && (parentKind m.kind == 7 ||
      pathRoom treeFuel s sl (parentKind m.kind) (parentIndex s m.kind m.index)))) = some m)) ∧
    (∃ (s : State) (sl : Fin 16) (r : NodeRekey), (accessesIn s 67 = true) ∧ (s.nodeRekeys.find? (fun r => r.slice == sl.val) = some r)) ∧
    (∃ (s : State), (s.tier.level = 3) ∧ (s.tier.stallTransit < s.transit) ∧ ((s.transit - s.tier.stallTransit) % 1000 = 0)) :=
  ⟨⟨{ dev [] with reqs := [rq], tier := { metaReady := true } }, 0, rq, by decide +kernel⟩,
   ⟨{ dev [] with reqs := [{ rq with agent := some 3, intent := .wb 0 }], regions := ⟨[(0, { state := 1, cls := 1 })]⟩, almanac := ⟨[(0, { valid := true, state := 2, presence := 8 })]⟩, tier := { metaReady := true } }, 0, { rq with agent := some 3, intent := .wb 0 }, by decide +kernel⟩,
   ⟨{ dev [] with reqs := [{ rq with agent := some 3, intent := .wb 0 }], regions := ⟨[(0, { state := 1, cls := 1 })]⟩, almanac := ⟨[(0, { valid := true, state := 2, presence := 8 })]⟩, tier := { metaReady := true } }, 0, { rq with agent := some 3, intent := .wb 0 }, 0, by decide +kernel⟩,
   ⟨{ dev [] with reqs := [rq], regions := ⟨[(0, { state := 1, cls := 1 })]⟩, almanac := ⟨(List.range 16).map (fun k => (k, { valid := true, tag := 1, dirty := true }))⟩, tier := { metaReady := true } }, 0, rq, (0, 0, 2048), by decide +kernel⟩,
   ⟨({} : State), 15, by decide +kernel⟩,
   ⟨{ dev [] with reqs := [{ rq with stage := .pinWait }], almanac := ⟨[(0, { valid := true, state := 1, presence := 8 })]⟩ }, 0, 0, { rq with stage := .pinWait }, 0, by decide +kernel⟩,
   ⟨{ dev [] with reqs := [{ rq with stage := .pinWait }], almanac := ⟨[(0, { kept := 6 })]⟩ }, 0, 0, { rq with stage := .pinWait }, 0, by decide +kernel⟩,
   ⟨{ dev [] with reqs := [{ rq with stage := .pinWait }] }, 0, 0, { rq with stage := .pinWait }, 0, by decide +kernel⟩,
   ⟨{ dev [] with reqs := [{ rq with stage := .pinWait }], almanac := ⟨(List.range 16).map (fun k => (k, { valid := true, tag := 1, pins := 1 }))⟩ }, 0, 0, { rq with stage := .pinWait }, by decide +kernel⟩,
   ⟨{ dev [] with reqs := [rq] }, by decide +kernel⟩,
   ⟨{ dev [] with reqs := [{ rq with stage := .backing }], almanac := ⟨[(0, { valid := true, state := 1, presence := 8 })]⟩ }, 0, { pattern := 0, stored := false }, { rq with stage := .backing }, 0, by decide +kernel⟩,
   ⟨{ dev [] with reqs := [{ rq with stage := .backing }], almanac := ⟨[(0, { kept := 6 })]⟩ }, 0, { pattern := 0, stored := false }, { rq with stage := .backing }, 0, by decide +kernel⟩,
   ⟨{ dev [] with reqs := [{ rq with stage := .backing }] }, 0, { pattern := 0, stored := false }, { rq with stage := .backing }, by decide +kernel⟩,
   ⟨{ metaDev [] 0 with reqs := [{ rq with stage := .metaWait }] }, 0, { kind := 1, err := { pattern := 0, stored := false } }, { rq with stage := .metaWait }, by decide +kernel⟩,
   ⟨{ metaDev [] 0 with metaCache := [{ slice := 0, kind := 1, index := 0, val := 0 }], quarantine := [(0, 0, 0)], reqs := [{ rq with stage := .metaWait }] }, 0, { kind := 1, err := { pattern := 0, stored := false } }, { rq with stage := .metaWait }, by decide +kernel⟩,
   ⟨{ dev [] with masters := ⟨[(67, { owed := 1 })]⟩ }, by decide +kernel⟩,
   ⟨{ dev [] with masters := ⟨[(67, { owed := 1 })]⟩ }, by decide +kernel⟩,
   ⟨{ dev [] with masters := ⟨[(67, { owed := 1 })]⟩ }, by decide +kernel⟩,
   ⟨{ dev [] with metaCache := [{ slice := 0, kind := 6, index := 0, val := 0, evicting := true }] }, 0, { slice := 0, kind := 6, index := 0, val := 0, evicting := true }, by decide +kernel⟩,
   ⟨{ dev [] with nodeRekeys := [{ slice := 15, kind := 6, index := 0, old := 0 }] }, 15, { slice := 15, kind := 6, index := 0, old := 0 }, by decide +kernel⟩,
   ⟨{ dev [] with tier := { level := 3 }, tb := 1000000 }, by decide +kernel⟩⟩

/-- A state and operands that meet the hypotheses of clause 1 of `Obligations.WriteBufferRows`. -/
theorem witness_WriteBufferRows_1 :
    (∃ (s : State) (sl : Fin 16) (err : MemErr) (w : WbLine) (o : Line) (u : State), (s.wb.find? (mergeable s sl) = some w) ∧ (readUnit (pageChan s (pageOf w.addr)) (frameLine (pageFrame s (pageOf w.addr)) (lineIdx w.addr))
      (storedState s (pageOf w.addr) (lineIdx w.addr)) err true s = (some o, u))) :=
  ⟨{ mergeDev [] with dram := ⟨[(0, 443616876441915573906403160758100487020832637249567035692977118305633819502444190399446947114473269390748162528765607501584914702345396452515101305045304517981952746236523688005657691001192448)]⟩ }, 0, { pattern := 0, stored := false }, { addr := 0, data := 5, mask := 1 }, _, _, ⟨by decide +kernel, readUnit_good (List.replicate 64 0 ++ [113, 134, 246, 109, 215, 223]) (by decide +kernel) (by decide +kernel) (by decide +kernel) (by decide +kernel)⟩⟩

/-- A state and operands that meet the hypotheses of clause 2 of `Obligations.WriteBufferRows`. -/
theorem witness_WriteBufferRows_2 :
    (∃ (s : State) (sl : Fin 16) (err : MemErr) (w : WbLine) (u : State), (s.wb.find? (mergeable s sl) = some w) ∧ (readUnit (pageChan s (pageOf w.addr)) (frameLine (pageFrame s (pageOf w.addr)) (lineIdx w.addr))
      (storedState s (pageOf w.addr) (lineIdx w.addr)) err true s = (none, u))) :=
  ⟨mergeDev [(F.CRY_KEY_STATUS.ZEROIZED 0, 1)], 0, { pattern := 0, stored := false }, { addr := 0, data := 5, mask := 1 }, mergeDev [(F.CRY_KEY_STATUS.ZEROIZED 0, 1)], by decide +kernel⟩

/-- A state and operands that meet the hypotheses of clause 3 of `Obligations.WriteBufferRows`. -/
theorem witness_WriteBufferRows_3 :
    (∃ (s : State) (sl : Fin 16) (w : WbLine), (s.wb.find? (fun w => sliceOf w.addr == sl.val && w.issued) = some w)) :=
  ⟨{ metaDev [] 1 with wb := [{ addr := 0, data := 5, mask := BitVec.allOnes 64, minor := some 1, queued := true, issued := true }], keys := ⟨[(0, { wk := some 7 })]⟩ }, 0, { addr := 0, data := 5, mask := BitVec.allOnes 64, minor := some 1, queued := true, issued := true }, by decide +kernel⟩

/-- States and operands that meet the hypotheses of each clause of `Obligations.SnoopAnswers`. -/
theorem witness_SnoopAnswers :
    (∃ (s : State) (m : Fin 64) (addr : BitVec 64) (n : Snoop), (s.snoops.find? (fun n => n.sent && !n.remote && slotOfHan s n.han == some m.val
      && snoopCpa s n == lineAddr addr.toNat) = some n) ∧ (n.home = none)) ∧
    (∃ (s : State) (m : Fin 64) (addr : BitVec 64) (n : Snoop), (s.snoops.find? (fun n => n.sent && !n.remote && slotOfHan s n.han == some m.val
      && snoopCpa s n == lineAddr addr.toNat) = some n) ∧ (n.home.isSome = true)) ∧
    (∃ (s : State) (m : Fin 64) (addr : BitVec 64), ((∀ n ∈ s.snoops, n.sent = true → n.remote = false → slotOfHan s n.han = some m.val → snoopCpa s n ≠ lineAddr addr.toNat))) ∧
    (∃ (s : State) (m : Fin 64) (addr : BitVec 64), (s.snoops.any (fun n => n.sent && !n.remote && slotOfHan s n.han == some m.val
      && snoopCpa s n == lineAddr addr.toNat) = true)) ∧
    (∃ (s : State), ((∀ x ∈ s.snoops, x.sent = true))) :=
  ⟨⟨{ dev [(F.HP_HAN_MAP.ASSIGNED 2, 1), (F.HP_HAN_MAP.HAN 2, 3), (F.HP_AGENT_STATE.STATE 2, 1)] with snoops := [{ req := 5, han := 3, inv := true, addr := 0, sent := true }], reqs := [{ rq with stage := .snoop, snoops := 1 }] }, 2, 0, { req := 5, han := 3, inv := true, addr := 0, sent := true }, by decide +kernel⟩,
   ⟨{ dev [(F.HP_HAN_MAP.ASSIGNED 2, 1), (F.HP_HAN_MAP.HAN 2, 3), (F.HP_AGENT_STATE.STATE 2, 1)] with snoops := [{ req := 5, han := 3, inv := true, addr := 0, sent := true, home := some (0, 1, 2) }], reqs := [{ rq with stage := .snoop, snoops := 1 }] }, 2, 0, { req := 5, han := 3, inv := true, addr := 0, sent := true, home := some (0, 1, 2) }, by decide +kernel⟩,
   ⟨{ dev [(F.HP_HAN_MAP.ASSIGNED 2, 1), (F.HP_HAN_MAP.HAN 2, 3), (F.HP_AGENT_STATE.STATE 2, 1)] with snoops := [{ req := 5, han := 3, inv := true, addr := 0, sent := true }], reqs := [{ rq with stage := .snoop, snoops := 1 }] }, 2, 64, by decide +kernel⟩,
   ⟨{ dev [(F.HP_HAN_MAP.ASSIGNED 2, 1), (F.HP_HAN_MAP.HAN 2, 3), (F.HP_AGENT_STATE.STATE 2, 1)] with snoops := [{ req := 5, han := 3, inv := true, addr := 0, sent := true }], reqs := [{ rq with stage := .snoop, snoops := 1 }] }, 2, 63, by decide +kernel⟩,
   ⟨{ dev [] with links := ⟨[(15, { credits := 30 })]⟩ }, by decide +kernel⟩⟩

/-- States and operands that meet the hypotheses of each clause of `Obligations.DramSchedulerRows`. -/
theorem witness_DramSchedulerRows :
    (∃ (s : State) (c : Fin 16) (sc : Fin 2) (r : OpenRow), ((s.chans.get c).live = true) ∧ (s.asleep = false) ∧ (dueRow s c sc = some r)) ∧
    (∃ (s : State) (c : Fin 16) (sc : Fin 2) (w : Nat × BitVec 640), ((s.chans.get c).live = true) ∧ (s.asleep = false) ∧ (dueRow s c sc = none) ∧ (reservedFix s c sc = some w)) ∧
    (∃ (s : State) (c : Fin 16) (sc : Fin 2) (bl : List Nat) (w : Nat × BitVec 640), ((s.chans.get c).live = true) ∧ (s.asleep = false) ∧ (dueRow s c sc = none) ∧ (reservedFix s c sc = none) ∧ (choose (updateDrain c sc s) c (candidates (updateDrain c sc s) c sc bl) = none) ∧ (waitingFix (updateDrain c sc s) c sc = some w)) ∧
    (∃ (s : State) (c : Fin 16) (sc : Fin 2) (bl : List Nat), ((s.chans.get c).live = true) ∧ (s.asleep = false) ∧ (dueRow s c sc = none) ∧ (reservedFix s c sc = none) ∧ (choose (updateDrain c sc s) c (candidates (updateDrain c sc s) c sc bl) = none) ∧ (waitingFix (updateDrain c sc s) c sc = none)) ∧
    (∃ (s : State) (c : Fin 16) (sc : Fin 2) (bl : List Nat) (d : DramReq), ((s.chans.get c).live = true) ∧ (s.asleep = false) ∧ (dueRow s c sc = none) ∧ (reservedFix s c sc = none) ∧ (choose (updateDrain c sc s) c (candidates (updateDrain c sc s) c sc bl) = some d) ∧ (let u := updateDrain c sc s; (let p := entryPlace u c d; ((rankAt u c p.rank).powerDown = true)))) ∧
    (∃ (s : State) (c : Fin 16) (sc : Fin 2) (bl : List Nat) (d : DramReq) (r : OpenRow), ((s.chans.get c).live = true) ∧ (s.asleep = false) ∧ (dueRow s c sc = none) ∧ (reservedFix s c sc = none) ∧ (choose (updateDrain c sc s) c (candidates (updateDrain c sc s) c sc bl) = some d) ∧ (let u := updateDrain c sc s; (let p := entryPlace u c d; ((rankAt u c p.rank).powerDown = false) ∧ (openRowOf u c p = some r) ∧ (r.row = p.row) ∧ (slotLeft u c = true)))) ∧
    (∃ (s : State) (c : Fin 16) (sc : Fin 2) (bl : List Nat) (d : DramReq) (r : OpenRow), ((s.chans.get c).live = true) ∧ (s.asleep = false) ∧ (dueRow s c sc = none) ∧ (reservedFix s c sc = none) ∧ (choose (updateDrain c sc s) c (candidates (updateDrain c sc s) c sc bl) = some d) ∧ (let u := updateDrain c sc s; (let p := entryPlace u c d; ((rankAt u c p.rank).powerDown = false) ∧ (openRowOf u c p = some r) ∧ (r.row = p.row) ∧ (slotLeft u c = false)))) ∧
    (∃ (s : State) (c : Fin 16) (sc : Fin 2) (bl : List Nat) (d : DramReq) (r : OpenRow), ((s.chans.get c).live = true) ∧ (s.asleep = false) ∧ (dueRow s c sc = none) ∧ (reservedFix s c sc = none) ∧ (choose (updateDrain c sc s) c (candidates (updateDrain c sc s) c sc bl) = some d) ∧ (let u := updateDrain c sc s; (let p := entryPlace u c d; ((rankAt u c p.rank).powerDown = false) ∧ (openRowOf u c p = some r) ∧ (r.row ≠ p.row)))) ∧
    (∃ (s : State) (c : Fin 16) (sc : Fin 2) (bl : List Nat) (d : DramReq), ((s.chans.get c).live = true) ∧ (s.asleep = false) ∧ (dueRow s c sc = none) ∧ (reservedFix s c sc = none) ∧ (choose (updateDrain c sc s) c (candidates (updateDrain c sc s) c sc bl) = some d) ∧ (let u := updateDrain c sc s; (let p := entryPlace u c d; ((rankAt u c p.rank).powerDown = false) ∧ (openRowOf u c p = none)))) ∧
    (∃ (s : State) (c : Fin 16), ((s.chans.get c).live = false ∨ s.asleep = true)) ∧
    (∃ (s : State) (c : Fin 16) (sc : Fin 2) (r : OpenRow), ((s.chans.get c).rows.find? (fun r => r.sc == sc.val && !queuedHit s c r && decide (60 ≤ s.since r.last)) = some r)) :=
  ⟨⟨{ dev [(F.DC_CFG.ENABLE 1, 1), (F.DC_REF_STATUS.BLOCKED 1 0, 1)] with chans := ⟨[(1, { live := true, rows := [{ sc := 0, rank := 0, bg := 0, ba := 0, row := 0, last := 0 }] })]⟩ }, 1, 0, { sc := 0, rank := 0, bg := 0, ba := 0, row := 0, last := 0 }, by decide +kernel⟩,
   ⟨{ dev [(F.DC_CFG.ENABLE 1, 1), (F.DC_SLOTS.MNT_RES 1, 2)] with chans := ⟨[(1, { live := true, writebacks := [(0, 5)] })]⟩ }, 1, 0, (0, 5), by decide +kernel⟩,
   ⟨{ dev [(F.DC_CFG.ENABLE 1, 1), (F.DC_SLOTS.MNT_RES 1, 0)] with chans := ⟨[(1, { live := true, writebacks := [(0, 5)] })]⟩ }, 1, 0, [], (0, 5), by decide +kernel⟩,
   ⟨{ dev [(F.DC_CFG.ENABLE 1, 1)] with chans := ⟨[(1, { live := true, maint := 0 })]⟩ }, 1, 0, [], by decide +kernel⟩,
   ⟨dramDev true [], 1, 0, [], { req := 5, addr := 0, master := 64, write := false, lines := [0], since := 0 }, by decide +kernel⟩,
   ⟨dramDev false [{ sc := 0, rank := 0, bg := 0, ba := 0, row := 0, last := 0 }], 1, 0, [], { req := 5, addr := 0, master := 64, write := false, lines := [0], since := 0 }, { sc := 0, rank := 0, bg := 0, ba := 0, row := 0, last := 0 }, by decide +kernel⟩,
   ⟨dramDev false [{ sc := 0, rank := 0, bg := 0, ba := 0, row := 0, last := 0 }] true |>.put (F.DC_SLOTS.DELIVERABLE 1) 0, 1, 0, [], { req := 5, addr := 0, master := 64, write := false, lines := [0], since := 0 }, { sc := 0, rank := 0, bg := 0, ba := 0, row := 0, last := 0 }, by decide +kernel⟩,
   ⟨dramDev false [{ sc := 0, rank := 0, bg := 0, ba := 0, row := 1, last := 0 }], 1, 0, [], { req := 5, addr := 0, master := 64, write := false, lines := [0], since := 0 }, { sc := 0, rank := 0, bg := 0, ba := 0, row := 1, last := 0 }, by decide +kernel⟩,
   ⟨dramDev false [], 1, 0, [], { req := 5, addr := 0, master := 64, write := false, lines := [0], since := 0 }, by decide +kernel⟩,
   ⟨({} : State), 15, by decide +kernel⟩,
   ⟨{ dev [] with chans := ⟨[(1, { rows := [{ sc := 1, rank := 0, bg := 0, ba := 0, row := 1, last := 0 }] })]⟩, tb := 60 }, 1, 1, { sc := 1, rank := 0, bg := 0, ba := 0, row := 1, last := 0 }, by decide +kernel⟩⟩

/-- States and operands that meet the hypotheses of each clause of `Obligations.DramRankRows`. -/
theorem witness_DramRankRows :
    (∃ (s : State) (c : Fin 16) (k : Fin 8), (rankQueued s c k = false) ∧ (rankOpen s c k = false) ∧ ((rankAt s c k).powerDown = false) ∧ ((rankAt s c k).selfRefresh = false) ∧ (s.get (F.DC_REF_STATUS.OWED c k) = 0) ∧ (100 ≤ s.since (rankAt s c k).idleSince)) ∧
    (∃ (s : State) (c : Fin 16) (k : Fin 8), (1 ≤ s.get (F.DC_REF_STATUS.OWED c k)) ∧ (rankOpen s c k = false) ∧ ((∀ t, (rankAt s c k).lastRef = some t → s.get (F.DC_TIMING1.TRFC_NS c) ≤ s.since t)) ∧ ((rankAt s c k).selfRefresh = false) ∧ ((rankQueued s c k = false ∨ noAct s c k = true))) ∧
    (∃ (s : State) (c : Fin 16), (unitWaits s 0x04 c = true)) ∧
    (∃ (s : State) (c : Fin 16), (unitWaits s 0x0E c = true) ∧ (s.get (F.DC_CFG.DPC c) = 0)) ∧
    (∃ (s : State) (c : Fin 16), (unitWaits s 0x0E c = true) ∧ (s.get (F.DC_CFG.DPC c) = 1)) ∧
    (∃ (s : State) (c : Fin 16), (unitWaits s 0x0E c = true) ∧ (s.get (F.DC_CFG.DPC c) = 2)) ∧
    (∃ (s : State), (s.markWindow < s.transit / 2 ^ 24)) ∧
    (∃ (s : State), (s.transit / 2 ^ 24 ≤ s.markWindow)) :=
  ⟨⟨{ dev [] with tb := 100 }, 15, 7, by decide +kernel⟩,
   ⟨{ dev [(F.DC_REF_STATUS.OWED 1 0, 1), (F.DC_TIMING1.TRFC_NS 1, 295)] with chans := ⟨[(1, { ranks := { lastRef := some 5 } :: List.replicate 7 {} })]⟩, tb := 300 }, 1, 0, ⟨by decide, by decide, by intro t h; cases h; decide, by decide, by decide⟩⟩,
   ⟨{ due 4 1 [(F.DC_CFG.DPC 1, 1), (F.DC_REF_STATUS.OWED 1 0, 7)] with tb := 20000 }, 1, by decide +kernel⟩,
   ⟨due 14 1 [], 1, by decide +kernel⟩,
   ⟨due 14 1 [(F.DC_CFG.DPC 1, 1)], 1, by decide +kernel⟩,
   ⟨due 14 1 [(F.DC_CFG.DPC 1, 2)], 1, by decide +kernel⟩,
   ⟨{ dev [] with tb := 1000 * 2 ^ 24 }, by decide +kernel⟩,
   ⟨{ dev [] with markWindow := 1 }, by decide +kernel⟩⟩

/-- States and operands that meet the hypotheses of each clause of `Obligations.DramReturnAndScrub`. -/
theorem witness_DramReturnAndScrub :
    (∃ (s : State) (c : Fin 16) (sc : Fin 2), ((∀ f ∈ (subOf s c sc).inflight, f.write = true))) ∧
    (∃ (s : State) (c : Fin 16) (sc : Fin 2) (err : MemErr) (f : Inflight) (r : Req) (o : ReadOut) (v : State) (sym : List Nat), ((subOf s c sc).inflight.find? (fun f => !f.write) = some f) ∧ (let u := setSub c sc (fun q => { q with inflight := eraseFirst (fun x => x == f) q.inflight }) s; (reqAt u f.req = some r) ∧ (let cpa := cpaOf u (if r.code = 15 then r.addr else r.page * 4096 + 1024 * r.seg); (let w := dramSense c f.line err u; (dramDecode c f.line w.1 f.mark (some cpa) w.2 = (o, v)) ∧ (o.data = some sym))))) ∧
    (∃ (s : State) (c : Fin 16) (sc : Fin 2) (err : MemErr) (f : Inflight) (r : Req) (o : ReadOut) (v : State), ((subOf s c sc).inflight.find? (fun f => !f.write) = some f) ∧ (let u := setSub c sc (fun q => { q with inflight := eraseFirst (fun x => x == f) q.inflight }) s; (reqAt u f.req = some r) ∧ (let cpa := cpaOf u (if r.code = 15 then r.addr else r.page * 4096 + 1024 * r.seg); (let w := dramSense c f.line err u; (dramDecode c f.line w.1 f.mark (some cpa) w.2 = (o, v)) ∧ (o.data = none))))) ∧
    (∃ (s : State) (e : Fin 8), ((∀ k ∈ s.keystreams, k.1 = e.val → k.2.ready = true))) ∧
    (∃ (s : State) (e : Fin 8) (a : List (Nat × Keystream)) (b : List (Nat × Keystream)) (k : Keystream), (s.keystreams = a ++ (e.val, k) :: b) ∧ (k.ready = false) ∧ ((∀ x ∈ a, x.1 = e.val → x.2.ready = true))) ∧
    (∃ (s : State) (e : Fin 8) (q : Nat × Nat × Nat) (r : Req) (u : UnitRead), (s.cryptoQ.find? (fun q => q.1 == e.val && unitReady s q) = some q) ∧ (reqAt s q.2.1 = some r) ∧ (r.units[q.2.2]? = some u)) ∧
    (∃ (s : State) (c : Fin 16), (unitWaits s 0x05 c = true) ∧ ((s.chans.get c).live = true) ∧ (scrubHeld s c = false)) ∧
    (∃ (s : State) (c : Fin 16), ((s.chans.get c).live = true) ∧ (scrubHeld s c = true)) ∧
    (∃ (s : State) (c : Fin 16), (unitWaits s 0x05 c = true) ∧ ((s.chans.get c).live = false)) :=
  ⟨⟨readDev [{ req := 5, unit := 0, line := 0, write := true, addr := 0 }], 1, 0, by decide +kernel⟩,
   ⟨readDev [{ req := 5, unit := 0, line := 0, write := false, addr := 0 }], 1, 0, { pattern := 0, stored := false }, { req := 5, unit := 0, line := 0, write := false, addr := 0 }, { rq with write := false, intent := .readNC, stage := .dram, units := [{ chan := 1, line := 0, idx := 0 }] }, { data := some (List.replicate 70 0), fixed := none }, readDev [], List.replicate 70 0, by decide +kernel⟩,
   ⟨readDev [{ req := 5, unit := 0, line := 0, write := false, addr := 0 }], 1, 0, { pattern := BitVec.ofNat 640 (2 ^ 200 - 1), stored := false }, { req := 5, unit := 0, line := 0, write := false, addr := 0 }, { rq with write := false, intent := .readNC, stage := .dram, units := [{ chan := 1, line := 0, idx := 0 }] }, { data := none, fixed := none }, (dramRead 1 0 { pattern := BitVec.ofNat 640 (2 ^ 200 - 1), stored := false } (some 0) (readDev [])).2, by decide +kernel⟩,
   ⟨({} : State), 7, by decide +kernel⟩,
   ⟨{ dev [] with keystreams := [(1, { req := 5, unit := 0, key := 0, ready := false })] }, 1, [], [], { req := 5, unit := 0, key := 0, ready := false }, by decide +kernel⟩,
   ⟨{ readDev [] with keystreams := [(1, { req := 5, unit := 0, key := 0, ready := true })], cryptoQ := [(1, 5, 0)] }, 1, (1, 5, 0), { rq with write := false, intent := .readNC, stage := .dram, units := [{ chan := 1, line := 0, idx := 0 }] }, { chan := 1, line := 0, idx := 0 }, by decide +kernel⟩,
   ⟨{ due 5 15 [(F.DC_CFG.ENABLE 15, 1), (F.DC_SCRUB.LINES 15, 2), (F.DC_CFG.FRAMES 15, 64)] with chans := ⟨[(15, { live := true })]⟩ }, 15, by decide +kernel⟩,
   ⟨{ due 5 15 [(F.DC_CFG.ENABLE 15, 1), (F.DC_SCRUB.LINES 15, 2), (F.DC_CFG.FRAMES 15, 64), (F.DC_REF_STATUS.BLOCKED 15 0, 1)] with chans := ⟨[(15, { live := true })]⟩ }, 15, by decide +kernel⟩,
   ⟨due 5 15 [], 15, by decide +kernel⟩⟩

/-- States and operands that meet the hypotheses of each clause of `Obligations.DramConfiguration`. -/
theorem witness_DramConfiguration :
    (∃ (s : State) (c : Fin 16), (s.flag (F.DC_CFG.X8 c) = false)) ∧
    (∃ (s : State) (c : Fin 16), (s.flag (F.DC_CFG.X8 c) = true)) ∧
    (∃ (s : State) (c : Fin 16), (s.flag (F.DC_CFG.ZEROED c) = true)) ∧
    (∃ (s : State) (c : Fin 16) (v : Word), (s.flag (F.DC_CFG.LOCK c) = false) ∧ (slice v.toNat 31 1 = 1) ∧ (slice v.toNat 30 1 = 0)) ∧
    (∃ (s : State) (c : Fin 16), (s.get (F.DC_CFG.FRAMES c) ≠ 0) ∧ (s.flag (F.DC_CFG.CFG_ERR c) = false) ∧ (s.flag (F.DC_CFG.ENABLE c) = false) ∧ (s.flag (F.DC_TRN_CTRL.BUSY c) = false) ∧ ((s.chans.get c).trainer = none) ∧ ((s.chans.get c).trainFailed = false)) ∧
    (∃ (s : State) (c : Fin 16) (step : Nat), (step < 8) ∧ (s.flag (F.DC_TRN_CTRL.BUSY c) = false)) ∧
    (∃ (s : State) (c : Fin 16) (step : Nat) (sc : Nat) (rank : Nat), (s.flag (F.DC_TRN_CTRL.BUSY c) = true) ∧ ((s.chans.get c).trn = (step, sc, rank)) ∧ (sc < 2) ∧ (rank < 8)) :=
  ⟨⟨({} : State), 1, by decide +kernel⟩,
   ⟨dev [(F.DC_CFG.X8 1, 1)], 1, by decide +kernel⟩,
   ⟨dev [(F.DC_CFG.ZEROED 15, 1)], 15, by decide +kernel⟩,
   ⟨({} : State), 15, 0x80630000, by decide +kernel⟩,
   ⟨{ dev [(F.DC_CFG.FRAMES 1, 1)] with dram := ⟨[(2 ^ 34 + 5, 9), (2 ^ 35 - 1, 7), (2 ^ 35, 8)]⟩ }, 1, by decide +kernel⟩,
   ⟨({} : State), 15, 7, by decide +kernel⟩,
   ⟨{ dev [(F.DC_TRN_CTRL.BUSY 1, 1)] with chans := ⟨[(1, { trn := (3, 1, 7) })]⟩ }, 1, 3, 1, 7, by decide +kernel⟩⟩

/-- States and operands that meet the hypotheses of each clause of `Obligations.RegulatorRows`. -/
theorem witness_RegulatorRows :
    (∃ (s : State), (s.asleep = false)) ∧
    (∃ (s : State), (s.asleep = true)) ∧
    (∃ (s : State), (unitWaits s 0x0D 0 = true) ∧ (s.get F.QOS_SCALE.SCALE < 65536)) ∧
    (∃ (s : State), (unitWaits s 0x0D 0 = true) ∧ (65536 ≤ s.get F.QOS_SCALE.SCALE)) ∧
    (∃ (v : BitVec 32), (2 ≤ slice v.toNat 8 8) ∧ (slice v.toNat 8 8 ≤ 63) ∧ (1 ≤ slice v.toNat 0 8) ∧ (slice v.toNat 0 8 < slice v.toNat 8 8)) ∧
    (∃ (v : BitVec 32), (slice v.toNat 8 8 ≤ slice v.toNat 0 8)) :=
  ⟨⟨{ dev [] with reqs := [{ rq with stage := .admission }] }, by decide +kernel⟩,
   ⟨dev [(F.PWR_SL_STATUS.STATE, 2)], by decide +kernel⟩,
   ⟨{ due 13 0 [(F.QOS_SCALE.SCALE, 65535)] with tb := 5000 }, by decide +kernel⟩,
   ⟨due 13 0 [(F.QOS_SCALE.SCALE, 65536)], by decide +kernel⟩,
   ⟨0x80803F3E, by decide +kernel⟩,
   ⟨0x80000505, by decide +kernel⟩⟩

/-- States and operands that meet the hypotheses of each clause of `Obligations.CompressionJobs`. -/
theorem witness_CompressionJobs :
    (∃ (s : State) (e : Fin 8) (j : EncJob), (cmpState s e = 0) ∧ ((∀ x ∈ s.cmp.encoders, x.1 ≠ e.val)) ∧ (pickJob s e = some j)) ∧
    (∃ (s : State) (e : Fin 8) (j : EncJob), (s.cmp.encoders.find? (fun x => x.1 == e.val) = some (e.val, j))) ∧
    (∃ (s : State) (e : Fin 8) (j : EncJob) (f : BitVec 4), (s.cmp.encoders.find? (fun x => x.1 == e.val) = some (e.val, j)) ∧ (let a := State.put { s with cmp := { s.cmp with encoders := s.cmp.encoders.filter (fun x => x.1 != e.val) } } (F.CMP_ENG_STATUS.LEVEL e) 0; (let p := ownerPlace a j.owner; (let b := failEngine e e (cmpErr f.toNat 4 e p.1 p.2 ((a.log 0x21 e 0 f.toNat).bump (F.CMP_ENG_STATUS.FAULTS e))); (j.failedOn.isSome = true ∨ (∀ x ∈ encodersOnline b, x = e.val)))))) ∧
    (∃ (s : State) (e : Fin 8) (j : EncJob) (f : BitVec 4), (s.cmp.encoders.find? (fun x => x.1 == e.val) = some (e.val, j)) ∧ (let a := State.put { s with cmp := { s.cmp with encoders := s.cmp.encoders.filter (fun x => x.1 != e.val) } } (F.CMP_ENG_STATUS.LEVEL e) 0; (let p := ownerPlace a j.owner; (let b := failEngine e e (cmpErr f.toNat 4 e p.1 p.2 ((a.log 0x21 e 0 f.toNat).bump (F.CMP_ENG_STATUS.FAULTS e))); (j.failedOn = none) ∧ ((∃ x ∈ encodersOnline b, x ≠ e.val)))))) ∧
    (∃ (s : State) (j : DecJob) (k : Nat), (let b := placeDecodes s; ((b.cmp.waitDec.filter (fun j => !isFull j) ++ b.cmp.waitDec.filter isFull).find? (fun j => (stopLane b j).isSome) = some j) ∧ (stopLane b j = some k))) ∧
    (∃ (s : State) (e : Fin 24) (lane : Fin 4) (k : Nat) (j : DecJob) (bytes : List Nat), (s.cmp.decoders.find? (fun d => d.1 == (e.val + 8) * 4 + lane.val) = some (k, j)) ∧ (decodeInput s j = some bytes)) ∧
    (∃ (s : State) (e : Fin 24) (lane : Fin 4) (k : Nat) (j : DecJob), (s.cmp.decoders.find? (fun d => d.1 == (e.val + 8) * 4 + lane.val) = some (k, j)) ∧ (j.failedLane = none)) ∧
    (∃ (s : State) (e : Fin 24) (lane : Fin 4) (k : Nat) (j : DecJob), (s.cmp.decoders.find? (fun d => d.1 == (e.val + 8) * 4 + lane.val) = some (k, j)) ∧ (j.failedLane.isSome = true)) ∧
    (∃ (s : State) (sl : Nat) (p : Nat × Nat), (encNone s = false) ∧ (s.stops 3 = false) ∧ (decodeHeld s true = false) ∧ (accessesIn s 64 = true) ∧ (recompSlice s = some sl) ∧ (s.cmp.pages.find? (fun p => p.1 == sl) = some p) ∧ (let u : State := { s with cmp := { s.cmp with turn := (sl + 1) % 16 } }; (let v := (pageFetch p.2 u).2; (pageRoom u p.2 = true) ∧ ((pageFetch p.2 u).1 = true) ∧ (pageKind v p.2 = 2) ∧ (pageMoving v p.2 = false) ∧ (effHeat v p.2 ≤ v.get F.TIER_POLICY.COLD) ∧ (majorFull v p.2 = false)))) ∧
    (∃ (s : State) (sl : Nat) (p : Nat × Nat), (encNone s = false) ∧ (s.stops 3 = false) ∧ (decodeHeld s true = false) ∧ (accessesIn s 64 = true) ∧ (recompSlice s = some sl) ∧ (s.cmp.pages.find? (fun p => p.1 == sl) = some p) ∧ (let u : State := { s with cmp := { s.cmp with turn := (sl + 1) % 16 } }; (let v := (pageFetch p.2 u).2; (pageRoom u p.2 = true) ∧ ((pageFetch p.2 u).1 = true) ∧ (pageKind v p.2 = 2) ∧ (pageMoving v p.2 = false) ∧ (effHeat v p.2 ≤ v.get F.TIER_POLICY.COLD) ∧ (majorFull v p.2 = true)))) ∧
    (∃ (s : State) (page : BitVec 39) (m : Move), (moveOf s page.toNat = some m) ∧ (m.kind = .recompress) ∧ (m.start + m.limit ≤ s.transit)) :=
  ⟨⟨{ dev [] with cmp := { demoteQ := [{ owner := .move 0 0, input := [], level := 2 }] } }, 7, { owner := .move 0 0, input := [], level := 2 }, by decide +kernel⟩,
   ⟨{ dev [] with cmp := { encoders := [(7, { owner := .move 0 0, input := List.replicate 1024 0, level := 2 })] } }, 7, { owner := .move 0 0, input := List.replicate 1024 0, level := 2 }, by decide +kernel⟩,
   ⟨{ dev [] with cmp := { encoders := [(7, { owner := .move 0 0, input := [], level := 2, failedOn := some 3 })] } }, 7, { owner := .move 0 0, input := [], level := 2, failedOn := some 3 }, 15, by decide +kernel⟩,
   ⟨{ dev [] with cmp := { encoders := [(7, { owner := .mover 1 2 3, input := [], level := 2 })] } }, 7, { owner := .mover 1 2 3, input := [], level := 2 }, 15, by decide +kernel⟩,
   ⟨{ dev [] with cmp := { waitDec := [{ dj (some 0) with stop := some 5 }] } }, { dj (some 0) with stop := some 5 }, (stopLane { dev [] with cmp := { waitDec := [{ dj (some 0) with stop := some 5 }] } } { dj (some 0) with stop := some 5 }).getD 0, by decide +kernel⟩,
   ⟨{ dev [] with cmp := { decoders := [(37, dj none)] }, reqs := [{ rq with stage := .decode }] }, 1, 1, 37, dj none, [], by decide +kernel⟩,
   ⟨{ dev [] with cmp := { decoders := [(127, dj none)] } }, 23, 3, 127, dj none, by decide +kernel⟩,
   ⟨{ dev [] with cmp := { decoders := [(127, { dj none with failedLane := some 126 })] } }, 23, 3, 127, { dj none with failedLane := some 126 }, by decide +kernel⟩,
   ⟨{ metaDev [(F.TIER_POLICY.COLD, 3)] (2 + 0x300) with cmp := { pages := [(0, 0)] } }, 0, (0, 0), by decide +kernel⟩,
   ⟨{ metaDev [(F.TIER_POLICY.COLD, 3)] (2 + 0x300) with metaCache := [{ slice := 0, kind := 1, index := 0, val := 2 + 0x300 }, { slice := 0, kind := 0, index := 0, val := BitVec.ofNat 512 (2 ^ 64 - 1) }], cmp := { pages := [(0, 0)] } }, 0, (0, 0), by decide +kernel⟩,
   ⟨{ dev [] with moves := [{ page := 0, kind := .recompress, limit := 1000000 }], tb := 1000000000 }, 0, { page := 0, kind := .recompress, limit := 1000000 }, by decide +kernel⟩⟩

/-- States and operands that meet the hypotheses of each clause of `Obligations.EngineService`. -/
theorem witness_EngineService :
    (∃ (s : State) (e : Fin 32), (cmpState s e = 0) ∧ ((if e.val < 8 then 1 else 4) ≤ othersInService s e)) ∧
    (∃ (s : State) (e : Fin 32), (cmpState s e = 0) ∧ (othersInService s e < (if e.val < 8 then 1 else 4))) ∧
    (∃ (s : State) (e : Fin 32), (cmpState s e = 2)) ∧
    (∃ (s : State) (e : Fin 32), (cmpState s e = 4)) ∧
    (∃ (s : State) (e : Fin 32), (cmpState s e = 2 ∨ cmpState s e = 4)) ∧
    (∃ (s : State) (e : Fin 32), (cmpState s e = 3)) ∧
    (∃ (s : State) (e : Fin 8), (s.get (F.CRY_ENG_STATUS.STATE e) = 3)) ∧
    (∃ (s : State) (e : Fin 32), (cmpState s e = 1) ∧ (cmpBusy s e = false)) ∧
    (∃ (s : State) (e : Fin 8), (s.get (F.CRY_ENG_STATUS.STATE e) = 1) ∧ ((∀ k ∈ s.keystreams, k.1 ≠ e.val))) :=
  ⟨⟨({} : State), 31, by decide +kernel⟩,
   ⟨dev [(F.CMP_ENG_STATUS.STATE 1, 2), (F.CMP_ENG_STATUS.STATE 2, 2), (F.CMP_ENG_STATUS.STATE 3, 2), (F.CMP_ENG_STATUS.STATE 4, 2), (F.CMP_ENG_STATUS.STATE 5, 2), (F.CMP_ENG_STATUS.STATE 6, 2), (F.CMP_ENG_STATUS.STATE 7, 2)], 0, by decide +kernel⟩,
   ⟨dev [(F.CMP_ENG_STATUS.STATE 31, 2)], 31, by decide +kernel⟩,
   ⟨dev [(F.CMP_ENG_STATUS.STATE 31, 4)], 31, by decide +kernel⟩,
   ⟨dev [(F.CMP_ENG_STATUS.STATE 31, 4)], 31, by decide +kernel⟩,
   ⟨dev [(F.CMP_ENG_STATUS.STATE 31, 3)], 31, by decide +kernel⟩,
   ⟨dev [(F.CRY_ENG_STATUS.STATE 7, 3)], 7, by decide +kernel⟩,
   ⟨dev [(F.CMP_ENG_STATUS.STATE 31, 1)], 31, by decide +kernel⟩,
   ⟨dev [(F.CRY_ENG_STATUS.STATE 7, 1)], 7, by decide +kernel⟩⟩

/-- States and operands that meet the hypotheses of each clause of `Obligations.KeyRows`. -/
theorem witness_KeyRows :
    (∃ (s : State) (k : Fin 64), (keyState s k = 2) ∧ (s.flag (F.CRY_KEY_STATUS.ZEROIZED k) = false) ∧ (s.get (F.CRY_KEY_STATUS.REGIONS k) = 0) ∧ (keyInUse s k = false)) ∧
    (∃ (s : State) (w : Nat) (q : WalkReq), (freeContext s = some w) ∧ (s.walkQueue.find? (fun q => !(s.region q.region).walk) = some q)) ∧
    (∃ (s : State), (s.walkQueue = [])) ∧
    (∃ (s : State) (e : Fin 8), (unitAt { s.log 0x28 e with cryFaults := (e.val, s.transit) :: s.cryFaults } e = none) ∧ (recentFaults s ((e.val, s.transit) :: s.cryFaults) e < 4)) ∧
    (∃ (s : State) (e : Fin 8), (cryState s e = 0) ∧ ((spareEngine s).isSome = true)) ∧
    (∃ (s : State) (e : Fin 8), (cryState s e = 0) ∧ (spareEngine s = none)) ∧
    (∃ (s : State) (e : Fin 8), (cryState s e = 2)) ∧
    (∃ (s : State) (e : Fin 8), (cryState s e = 2 ∨ cryState s e = 4)) ∧
    (∃ (s : State) (v : BitVec 32), (s.get F.CRY_CTRL.ALARM_LIMIT = slice v.toNat 16 8) ∧ (s.get F.CRY_CTRL.ALARM_ZEROIZE = slice v.toNat 9 1)) ∧
    (∃ (s : State) (v : BitVec 32), (s.get F.CRY_CTRL.ALARM_LIMIT ≠ slice v.toNat 16 8) ∧ (slice v.toNat 8 1 = 0) ∧ (zeroizeForced (s.put F.CRY_CTRL.ALARM_LIMIT (slice v.toNat 16 8)) = true)) :=
  ⟨⟨{ dev [(F.CRY_KEY_STATUS.STATE 63, 2)] with keys := ⟨[(3, { wk := some 1 }), (63, { wk := some 7 })]⟩, near := ⟨[(4, { valid := true, key := 63 }), (5, { valid := true, key := 2 })]⟩ }, 63, by decide +kernel⟩,
   ⟨{ dev [] with regions := ⟨[(3, { walk := true })]⟩, walkQueue := [{ region := 3, toKey := none }, { region := 4, toKey := none }] }, 0, { region := 4, toKey := none }, by decide +kernel⟩,
   ⟨{}, by decide +kernel⟩,
   ⟨{ dev [] with cryFaults := [(7, 0), (7, 0)], cryptoQ := [(6, 5, 0)] }, 7, by decide +kernel⟩,
   ⟨dev [(F.CRY_ENG_STATUS.STATE 7, 5)], 3, by decide +kernel⟩,
   ⟨dev [(F.CRY_ENG_STATUS.STATE 7, 2)], 3, by decide +kernel⟩,
   ⟨dev [(F.CRY_ENG_STATUS.STATE 7, 2)], 7, by decide +kernel⟩,
   ⟨dev [(F.CRY_ENG_STATUS.STATE 7, 4)], 7, by decide +kernel⟩,
   ⟨dev [(F.CRY_CTRL.ALARM_LIMIT, 5)], 0x50000, by decide +kernel⟩,
   ⟨{ dev [] with fuses := BitVec.ofNat 2048 (2 ^ 907), fuseShadow := BitVec.ofNat 2048 (2 ^ 907) }, 0x70000, by decide +kernel⟩⟩

/-- States and operands that meet the hypotheses of each clause of `Obligations.TierRows`. -/
theorem witness_TierRows :
    (∃ (s : State), (s.tier.metaReady = false) ∧ (s.presented ≠ 0) ∧ (capAccepted s = true)) ∧
    (∃ (s : State), (s.tier.metaReady = false) ∧ (s.presented ≠ 0) ∧ (capAccepted s = false)) ∧
    (∃ (s : State), (s.presented = 0 ∨ s.tier.metaReady = true)) ∧
    (∃ (s : State), (unitWaits s 0x08 0 = true) ∧ (accessesIn s 67 = true) ∧ (s.tier.metaReady = true) ∧ (s.stops 3 = false)) ∧
    (∃ (s : State), (unitWaits s 0x09 0 = true)) ∧
    (∃ (s : State) (c : Fin 16), (accessesIn s 67 = true) ∧ (s.get (F.TIER_POOL_STATUS.EVAC c) = 1)) ∧
    (∃ (s : State) (c : Fin 16), (accessesIn s 67 = true) ∧ (s.get (F.TIER_POOL_STATUS.EVAC c) = 3) ∧ (s.flag (F.DC_CFG.ZEROED c) = true)) ∧
    (∃ (s : State) (page : BitVec 39) (m : Move), (moveOf s page.toNat = some m) ∧ (readsOpen s page.toNat = false) ∧ (allReady m = true) ∧ (m.waitPeer = false) ∧ (accessesIn s (moveMaster m) = true)) ∧
    (∃ (s : State), (accessesIn s 67 = false)) :=
  ⟨⟨dev ([(F.TIER_CAP_CFG.PRESENTED_REGIONS, 4)] ++ (List.range 16).map (fun c => (F.DC_CFG.FRAMES c, 2 ^ 20)) ++ (List.range 16).map (fun c => (F.DC_CFG.ZEROED c, 1))), by decide +kernel⟩,
   ⟨dev [(F.TIER_CAP_CFG.PRESENTED_REGIONS, 1)], by decide +kernel⟩,
   ⟨{}, by decide +kernel⟩,
   ⟨{ due 8 0 [] with tier := { metaReady := true } }, by decide +kernel⟩,
   ⟨due 9 0 [(F.TIER_EPOCH.EPOCH, 0xFFFFFF)], by decide +kernel⟩,
   ⟨{ dev [(F.TIER_POOL_STATUS.EVAC 15, 1)] with tier := { bandCopy := [3, 15] } }, 15, by decide +kernel⟩,
   ⟨{ dev [(F.TIER_POOL_STATUS.EVAC 15, 3), (F.DC_CFG.ZEROED 15, 1)] with tier := { bandCopy := [15] } }, 15, by decide +kernel⟩,
   ⟨{ metaDev [] 1 with moves := [{ page := 0, kind := .demote, segs := List.replicate 4 (.ready [0, 0] 1 []) }] }, 0, { page := 0, kind := .demote, segs := List.replicate 4 (.ready [0, 0] 1 []) }, by decide +kernel⟩,
   ⟨{ dev [] with masters := ⟨[(67, { owed := 1 })]⟩ }, by decide +kernel⟩⟩

/-- States and operands that meet the hypotheses of each clause of `Obligations.DirectoryRows`. -/
theorem witness_DirectoryRows :
    (∃ (s : State) (r : BitVec 21), (leaseOver s r.toNat = true)) ∧
    (∃ (s : State) (r : BitVec 21), (leaseOver s r.toNat = false)) ∧
    (∃ (s : State), (unitWaits s 0x0F 0 = true) ∧ (accessesIn s 66 = true) ∧ (s.reclaim.agents = [])) ∧
    (∃ (s : State), (unitWaits s 0x0F 0 = true) ∧ (accessesIn s 66 = true) ∧ (s.reclaim.agents ≠ []) ∧ ((∀ a ∈ s.reclaim.agents, a.begun = true))) ∧
    (∃ (s : State), (accessesIn s 66 = false)) ∧
    (∃ (s : State) (x : Nat × Nat × Nat), (unitWaits s 0x06 0 = true) ∧ (accessesIn s 66 = true) ∧ (scrubSlot (jobDone 0x06 0 s) (unitTransit s 0x06 0 % 16) = some x)) ∧
    (∃ (s : State), (unitWaits s 0x07 0 = true)) :=
  ⟨⟨{ dev [] with regions := ⟨[(3, { state := 1, cls := 2, lease := 2, holder := 1, breaker := 2 })]⟩, tb := 2000000 }, 3, by decide +kernel⟩,
   ⟨({} : State), 3, by decide +kernel⟩,
   ⟨due 15 0 [], by decide +kernel⟩,
   ⟨{ due 15 0 [] with reclaim := { agents := [{ han := 1, begun := true }] }, almanac := ⟨[(0, { valid := true, state := 1, presence := 2 })]⟩ }, by decide +kernel⟩,
   ⟨{ dev [] with masters := ⟨[(66, { owed := 1 })]⟩ }, by decide +kernel⟩,
   ⟨{ due 6 0 [(F.TIER_CAP_CFG.PRESENTED_REGIONS, 4), (F.TIER_CAP_CFG.SHARED_REGIONS, 2)] with regions := ⟨[(0, { state := 1, cls := 1 })]⟩ }, (0, 0, 0), by decide +kernel⟩,
   ⟨due 7 0 [], by decide +kernel⟩⟩

/-- States and operands that meet the hypotheses of each clause of `Obligations.HostPortRows`. -/
theorem witness_HostPortRows :
    (∃ (v : BitVec 32), (bitOf v.toNat 0 = true)) ∧
    (∃ (v : BitVec 32), (bitOf v.toNat 0 = false) ∧ (bitOf v.toNat 1 = false)) ∧
    (∃ (s : State) (p : Fin 4), ((s.ports.get p).inReset = true) ∧ (s.flag (F.HP_PORT_CTRL.HOLD p) = false) ∧ (10000 ≤ s.since (s.ports.get p).since)) ∧
    (∃ (s : State) (p : Fin 4) (v : BitVec 32), (s.flag (F.HP_PORT_CFG.LOCK p) = false) ∧ (bitOf v.toNat 31 = false)) ∧
    (∃ (s : State) (p : Fin 4) (v : BitVec 32), (s.flag (F.HP_PORT_CFG.LOCK p) = false) ∧ (bitOf v.toNat 31 = true)) ∧
    (∃ (s : State) (p : Fin 4), (s.flag (F.HP_PORT_CFG.LOCK p) = true)) :=
  ⟨⟨3, by decide +kernel⟩,
   ⟨0, by decide +kernel⟩,
   ⟨{ dev [(F.HP_PORT_CTRL.HOLD 3, 0)] with ports := ⟨[(3, { inReset := true, since := 0 })]⟩, tb := 10000 }, 3, by decide +kernel⟩,
   ⟨({} : State), 3, 0x0B, by decide +kernel⟩,
   ⟨({} : State), 3, 0x80000009, by decide +kernel⟩,
   ⟨dev [(F.HP_PORT_CFG.LOCK 3, 1)], 3, by decide +kernel⟩⟩

/-- States and operands that meet the hypotheses of each clause of `Obligations.LinkDrops`. -/
theorem witness_LinkDrops :
    (∃ (s : State) (l : Fin 16), ((s.links.get l).up = true)) ∧
    (∃ (s : State) (l : Fin 16), ((s.links.get l).up = true) ∧ (linkExists s l = true)) ∧
    (∃ (s : State) (l : Fin 16), ((s.links.get l).up = true) ∧ (linkExists s l = true)) ∧
    (∃ (s : State) (l : Fin 16), ((s.links.get l).up = true) ∧ ((s.links.get l).ide = true)) ∧
    (∃ (s : State) (l : Fin 16), (linkExists s l = true)) ∧
    (∃ (s : State) (m : Fin 64), (agentState s m = 2) ∧ ((s.lds.get m).dropTimeout * 1000000 ≤ s.since (s.lds.get m).dropTb) ∧ (s.now % 1000 = 0)) ∧
    (∃ (s : State) (m : Fin 64), (s.now % 1000 ≠ 0 ∨ agentState s m ≠ 2 ∨
    s.since (s.lds.get m).dropTb < (s.lds.get m).dropTimeout * 1000000)) :=
  ⟨⟨{ dev [(F.HP_AGENT_STATE.STATE 48, 1)] with links := ⟨[(12, { up := true, width := 8, trained := 8, lds := 2, speed := 5 })]⟩, ports := ⟨[(3, { inReset := false })]⟩ }, 12, by decide +kernel⟩,
   ⟨{ dev [(F.HP_AGENT_STATE.STATE 48, 1)] with links := ⟨[(12, { up := true, width := 8, trained := 8, lds := 2, speed := 5 })]⟩, ports := ⟨[(3, { inReset := false })]⟩ }, 12, by decide +kernel⟩,
   ⟨{ dev [(F.HP_AGENT_STATE.STATE 48, 1)] with links := ⟨[(12, { up := true, width := 8, trained := 8, lds := 2, speed := 5 })]⟩, ports := ⟨[(3, { inReset := false })]⟩ }, 12, by decide +kernel⟩,
   ⟨{ dev [(F.HP_AGENT_STATE.STATE 8, 1)] with links := ⟨[(2, { up := true, width := 8, trained := 8, lds := 2, ide := true, ideMode := 1, ideKey := some 7 })]⟩ }, 2, by decide +kernel⟩,
   ⟨{ dev [(F.HP_LINK_CTRL.DISABLE 12, 1)] with ports := ⟨[(3, { inReset := false })]⟩ }, 12, by decide +kernel⟩,
   ⟨{ dev [(F.HP_AGENT_STATE.STATE 8, 2)] with lds := ⟨[(8, { dropTb := 0, dropTimeout := 1 })]⟩, tb := 1000000 }, 8, by decide +kernel⟩,
   ⟨{ dev [(F.HP_AGENT_STATE.STATE 8, 2)] with lds := ⟨[(8, { dropTb := 0, dropTimeout := 1 })]⟩, tb := 1000001 }, 8, by decide +kernel⟩⟩

/-- States and operands that meet the hypotheses of each clause of `Obligations.LinkUps`. -/
theorem witness_LinkUps :
    (∃ (s : State) (l : Fin 16) (w : BitVec 5) (v : BitVec 3) (f : Bool), (canTrain s l = true) ∧ (w.toNat ∈ [1, 2, 4, 8, 16]) ∧ (w.toNat ≤ laneGroup s l) ∧ (2 ≤ v.toNat) ∧ (v.toNat ≤ (s.ports.get (l.val / 4)).maxSpeed) ∧ ((f = true → v.toNat ≤ 4))) ∧
    (∃ (s : State) (l : Fin 16), (canTrain s l = true) ∧ ((s.links.get l).trained ≠ 0)) ∧
    (∃ (s : State) (l : Fin 16) (w : BitVec 5), ((s.links.get l).up = true) ∧ (w.toNat ∈ [1, 2, 4, 8, 16]) ∧ (w.toNat ≤ (s.links.get l).trained)) ∧
    (∃ (s : State) (l : Fin 16), ((s.links.get l).up = true)) :=
  ⟨⟨{ dev [] with ports := ⟨[(3, { inReset := false, maxSpeed := 5 })]⟩ }, 12, 16, 5, false, by decide +kernel⟩,
   ⟨{ dev [] with links := ⟨[(12, { up := false, trained := 8, lds := 2, speed := 5 })]⟩, ports := ⟨[(3, { inReset := false })]⟩ }, 12, by decide +kernel⟩,
   ⟨{ dev [] with links := ⟨[(12, { up := true, width := 8, trained := 8, lds := 2, speed := 5 })]⟩, ports := ⟨[(3, { inReset := false })]⟩ }, 12, 4, by decide +kernel⟩,
   ⟨{ dev [] with links := ⟨[(12, { up := true, width := 8, trained := 8, lds := 2, speed := 5 })]⟩, ports := ⟨[(3, { inReset := false })]⟩ }, 12, by decide +kernel⟩⟩

/-- States and operands that meet the hypotheses of each clause of `Obligations.HostRegisters`. -/
theorem witness_HostRegisters :
    (∃ (s : State) (m : Fin 64) (v : BitVec 32), (s.flag (F.HP_PORT_CFG.LOCK (m.val / 16)) = false) ∧ (agentState s m = 0 ∨ agentState s m = 4) ∧ (s.inClutch = false) ∧ ((∀ x : Fin 64, x ≠ m → s.flag (F.HP_HAN_MAP.ASSIGNED x) = true → s.get (F.HP_HAN_MAP.HAN x) ≠ slice v.toNat 0 6))) ∧
    (∃ (s : State) (m : Fin 64), (agentState s m ≠ 0) ∧ (agentState s m ≠ 4)) ∧
    (∃ (s : State) (m : Fin 64), ((s.lds.get m).hdm.length = 4)) ∧
    (∃ (s : State) (m : Fin 64) (k : Fin 4) (base : BitVec 64) (size : BitVec 64) (ways : BitVec 5) (gran : BitVec 15) (dpa : BitVec 64), (let d : Hdm := { base := base.toNat, size := size.toNat, ways := ways.toNat, gran := gran.toNat, dpa := dpa.toNat, committed := true }; (let l := s.lds.get m; (let free (o : Hdm) : Bool := !o.committed || (!overlaps d.dpa (hdmDpaLen d) o.dpa (hdmDpaLen o) && !overlaps d.base d.size o.base o.size); (let shaped : Prop := d.ways ∈ [1, 2, 3, 4, 6, 8, 12, 16] ∧ d.gran ∈ [256, 512, 1024, 2048, 4096, 8192, 16384] ∧ d.base % 2 ^ 28 = 0 ∧ d.size % 2 ^ 28 = 0 ∧ d.size ≠ 0; (let taken : Prop := shaped ∧ staticCovers l d.dpa (hdmDpaLen d) = true ∧ ∀ j : Fin 4, j ≠ k → free (l.hdm.getD j.val {}) = true; (taken))))))) ∧
    (∃ (s : State) (m : Fin 64) (k : Fin 4) (base : BitVec 64) (size : BitVec 64) (ways : BitVec 5) (gran : BitVec 15) (dpa : BitVec 64), (let d : Hdm := { base := base.toNat, size := size.toNat, ways := ways.toNat, gran := gran.toNat, dpa := dpa.toNat, committed := true }; (let l := s.lds.get m; (let free (o : Hdm) : Bool := !o.committed || (!overlaps d.dpa (hdmDpaLen d) o.dpa (hdmDpaLen o) && !overlaps d.base d.size o.base o.size); (let shaped : Prop := d.ways ∈ [1, 2, 3, 4, 6, 8, 12, 16] ∧ d.gran ∈ [256, 512, 1024, 2048, 4096, 8192, 16384] ∧ d.base % 2 ^ 28 = 0 ∧ d.size % 2 ^ 28 = 0 ∧ d.size ≠ 0; (let taken : Prop := shaped ∧ staticCovers l d.dpa (hdmDpaLen d) = true ∧ ∀ j : Fin 4, j ≠ k → free (l.hdm.getD j.val {}) = true; (¬taken))))))) ∧
    (∃ (s : State) (m : Fin 64), (s.coreDown = false) ∧ (ldReached s m = true)) ∧
    (∃ (s : State) (m : Fin 64), (s.coreDown = false) ∧ (ldReached s m = true)) ∧
    (∃ (s : State) (m : Fin 64), (s.coreDown = false) ∧ (ldReached s m = true)) ∧
    (∃ (s : State) (m : Fin 64), (s.coreDown = false) ∧ (ldReached s m = true)) ∧
    (∃ (s : State) (m : Fin 64), (s.coreDown = false) ∧ (ldReached s m = true) ∧ (s.asleep = false)) ∧
    (∃ (s : State) (m : Fin 64), (s.coreDown = false) ∧ (ldReached s m = true) ∧ (s.asleep = false)) ∧
    (∃ (s : State) (m : Fin 64), (s.coreDown = false) ∧ (ldReached s m = true) ∧ (s.asleep = false)) :=
  ⟨⟨({} : State), 9, 0x89, ⟨by decide +kernel, by decide +kernel, by decide +kernel, by decide +kernel⟩⟩,
   ⟨dev [(F.HP_AGENT_STATE.STATE 9, 1)], 9, by decide +kernel⟩,
   ⟨{ dev [] with lds := ⟨[(9, { hdm := List.replicate 4 {} })]⟩ }, 9, by decide +kernel⟩,
   ⟨{ dev [] with lds := ⟨[(9, { extents := [{ dpa := 0, gib := 1, base := 0, source := none }], hdm := List.replicate 4 {} })]⟩ }, 9, 3, 2 ^ 28, 2 ^ 28, 1, 256, 0, by decide +kernel⟩,
   ⟨{ dev [] with lds := ⟨[(9, { extents := [{ dpa := 0, gib := 1, base := 0, source := none }], hdm := List.replicate 4 {} })]⟩ }, 9, 3, 2 ^ 28, 2 ^ 28, 5, 256, 0, by decide +kernel⟩,
   ⟨{ dev [] with links := ⟨[(12, { up := true, width := 8, trained := 8, lds := 2, speed := 5 })]⟩ }, 48, by decide +kernel⟩,
   ⟨{ { dev [] with links := ⟨[(12, { up := true, width := 8, trained := 8, lds := 2, speed := 5 })]⟩ } with lds := ⟨[(49, { tbLatch := some 5 })]⟩ }, 49, by decide +kernel⟩,
   ⟨{ dev [(F.AQ_DROP_LOG.DROPS 48, 3)] with links := ⟨[(12, { up := true, width := 8, trained := 8, lds := 2, speed := 5 })]⟩ }, 48, by decide +kernel⟩,
   ⟨{ dev [] with links := ⟨[(12, { up := true, width := 8, trained := 8, lds := 2, speed := 5 })]⟩ }, 48, by decide +kernel⟩,
   ⟨{ dev [] with links := ⟨[(12, { up := true, width := 8, trained := 8, lds := 2, speed := 5 })]⟩ }, 48, by decide +kernel⟩,
   ⟨{ dev [] with links := ⟨[(12, { up := true, width := 8, trained := 8, lds := 2, speed := 5 })]⟩ }, 48, by decide +kernel⟩,
   ⟨{ dev [] with links := ⟨[(12, { up := true, width := 8, trained := 8, lds := 2, speed := 5 })]⟩ }, 48, by decide +kernel⟩⟩

/-- States and operands that meet the hypotheses of each clause of `Obligations.DataMoverRings`. -/
theorem witness_DataMoverRings :
    (∃ (s : State) (r : Fin 32) (v : BitVec 32), (s.flag (F.TIER_DMR_CTRL.ENABLE r) = true) ∧ (bitOf v.toNat 0 = false) ∧ (bitOf v.toNat 15 = false)) ∧
    (∃ (s : State) (r : Fin 32) (v : BitVec 32), (s.flag (F.TIER_DMR_CTRL.ENABLE r) = false) ∧ (bitOf v.toNat 0 = true)) ∧
    (∃ (s : State) (r : Fin 32) (m : Fin 64), (s.coreDown = false) ∧ (s.asleep = false) ∧ (ldReached s m = true) ∧ (let w := wakeRaw 0 s; (ownsRing w m r = true))) ∧
    (∃ (s : State) (r : Fin 32) (m : Fin 64), (s.coreDown = false) ∧ (s.asleep = false) ∧ (ldReached s m = true) ∧ (let w := wakeRaw 0 s; (ownsRing w m r = false))) ∧
    (∃ (s : State) (r : Fin 32) (d : BitVec 512), ((s.rings.get r).got.find? (fun g => g.1 == nextSlot s r) =
      some (nextSlot s r, some d))) ∧
    (∃ (s : State) (r : Fin 32), ((s.rings.get r).got.find? (fun g => g.1 == nextSlot s r) = some (nextSlot s r, none))) ∧
    (∃ (s : State) (r : Fin 32) (o : MoverOp), ((s.rings.get r).ops.find? (fun o => o.status.isSome && o.pendingLines == 0 && !o.done)
      = some o) ∧ (slice o.desc.flags 1 1 = 0) ∧ ((∀ p ∈ zeroedPages r o s, pageRoom s p = true))) :=
  ⟨⟨{ dev [(F.TIER_DMR_CTRL.ENABLE 3, 1)] with rings := ⟨[(3, { ops := [{ ({ slot := 0, desc := { opcode := 0, flags := 0, level := 0, hintHan := 0, length := 0, src := 0, dst := 0, pattern := 0, auxLen := 0 } } : MoverOp) with started := true }, { ({ slot := 0, desc := { opcode := 0, flags := 0, level := 0, hintHan := 0, length := 0, src := 0, dst := 0, pattern := 0, auxLen := 0 } } : MoverOp) with slot := 1 }] })]⟩ }, 3, 0, by decide +kernel⟩,
   ⟨({} : State), 31, 0x0901, by decide +kernel⟩,
   ⟨{ dev [(F.TIER_DMR_CTRL.OWNER 3, 48)] with links := ⟨[(12, { up := true, width := 8, trained := 8, lds := 2, speed := 5 })]⟩ }, 3, 48, by decide +kernel⟩,
   ⟨{ dev [(F.TIER_DMR_CTRL.OWNER 3, 48)] with links := ⟨[(12, { up := true, width := 8, trained := 8, lds := 2, speed := 5 })]⟩ }, 3, 49, by decide +kernel⟩,
   ⟨{ dev [] with rings := ⟨[(3, { got := [(0, some 0)] })]⟩ }, 3, 0, by decide +kernel⟩,
   ⟨{ dev [] with rings := ⟨[(3, { got := [(0, none)] })]⟩ }, 3, by decide +kernel⟩,
   ⟨{ dev [] with rings := ⟨[(3, { ops := [{ ({ slot := 0, desc := { opcode := 0, flags := 0, level := 0, hintHan := 0, length := 0, src := 0, dst := 0, pattern := 0, auxLen := 0 } } : MoverOp) with started := true, status := some 0 }] })]⟩ }, 3, { ({ slot := 0, desc := { opcode := 0, flags := 0, level := 0, hintHan := 0, length := 0, src := 0, dst := 0, pattern := 0, auxLen := 0 } } : MoverOp) with started := true, status := some 0 }, by decide +kernel⟩⟩

/-- States and operands that meet the hypotheses of each clause of `Obligations.DataMoverOperations`. -/
theorem witness_DataMoverOperations :
    (∃ (s : State) (r : Fin 32) (o : MoverOp), (MoverStarts s r (· == 1) o)) ∧
    (∃ (s : State) (r : Fin 32) (o : MoverOp), (MoverStarts s r (· == 2) o)) ∧
    (∃ (s : State) (r : Fin 32) (o : MoverOp), (MoverStarts s r (· == 3) o)) ∧
    (∃ (s : State) (r : Fin 32) (o : MoverOp), (MoverStarts s r (· == 4) o)) ∧
    (∃ (s : State) (r : Fin 32) (o : MoverOp), (MoverStarts s r (· == 5) o)) ∧
    (∃ (s : State) (r : Fin 32) (o : MoverOp), (MoverStarts s r (· == 0x0F) o)) ∧
    (∃ (s : State) (r : Fin 32) (o : MoverOp), (MoverStarts s r (· == 0) o)) ∧
    (∃ (s : State) (r : Fin 32) (o : MoverOp), (startable (fun n => decide (5 < n) && n != 0x0F) [] (s.rings.get r).ops = some o) ∧ (5 < o.desc.opcode) ∧ (o.desc.opcode ≠ 0x0F)) ∧
    (∃ (s : State) (r : Fin 32), ((s.rings.get r).ops = [])) :=
  ⟨⟨{ dev [(F.TIER_DMR_CTRL.OWNER_MGT 3, 1), (F.TIER_CAP_CFG.PRESENTED_REGIONS, 4)] with rings := ⟨[(3, { ops := [{ slot := 0, desc := { opcode := 1, flags := 0, level := 0, hintHan := 0, length := 128, src := 0, dst := 4096, pattern := 0, auxLen := 0 } }] })]⟩ }, 3, { slot := 0, desc := { opcode := 1, flags := 0, level := 0, hintHan := 0, length := 128, src := 0, dst := 4096, pattern := 0, auxLen := 0 } }, ⟨by decide +kernel, by decide +kernel, by decide +kernel, by decide +kernel, by decide +kernel⟩⟩,
   ⟨{ dev [(F.TIER_DMR_CTRL.OWNER_MGT 3, 1), (F.TIER_CAP_CFG.PRESENTED_REGIONS, 4)] with rings := ⟨[(3, { ops := [{ slot := 0, desc := { opcode := 2, flags := 0, level := 0, hintHan := 0, length := 64, src := 0, dst := 2 ^ 30, pattern := 7, auxLen := 0 } }] })]⟩ }, 3, { slot := 0, desc := { opcode := 2, flags := 0, level := 0, hintHan := 0, length := 64, src := 0, dst := 2 ^ 30, pattern := 7, auxLen := 0 } }, ⟨by decide +kernel, by decide +kernel, by decide +kernel, by decide +kernel, by decide +kernel⟩⟩,
   ⟨{ dev [(F.TIER_DMR_CTRL.OWNER_MGT 3, 1), (F.TIER_CAP_CFG.PRESENTED_REGIONS, 4)] with rings := ⟨[(3, { ops := [{ slot := 0, desc := { opcode := 3, flags := 0, level := 0, hintHan := 0, length := 4096, src := 0, dst := 4096, pattern := 0, auxLen := 0 } }] })]⟩ }, 3, { slot := 0, desc := { opcode := 3, flags := 0, level := 0, hintHan := 0, length := 4096, src := 0, dst := 4096, pattern := 0, auxLen := 0 } }, ⟨by decide +kernel, by decide +kernel, by decide +kernel, by decide +kernel, by decide +kernel⟩⟩,
   ⟨{ dev [(F.TIER_DMR_CTRL.OWNER_MGT 3, 1), (F.TIER_CAP_CFG.PRESENTED_REGIONS, 4)] with rings := ⟨[(3, { ops := [{ slot := 0, desc := { opcode := 4, flags := 0, level := 3, hintHan := 0, length := 1024, src := 0, dst := 4096, pattern := 0, auxLen := 2048 } }] })]⟩ }, 3, { slot := 0, desc := { opcode := 4, flags := 0, level := 3, hintHan := 0, length := 1024, src := 0, dst := 4096, pattern := 0, auxLen := 2048 } }, ⟨by decide +kernel, by decide +kernel, by decide +kernel, by decide +kernel, by decide +kernel⟩⟩,
   ⟨{ dev [(F.TIER_DMR_CTRL.OWNER_MGT 3, 1), (F.TIER_CAP_CFG.PRESENTED_REGIONS, 4)] with rings := ⟨[(3, { ops := [{ slot := 0, desc := { opcode := 5, flags := 0, level := 0, hintHan := 0, length := 1024, src := 4096, dst := 0, pattern := 0, auxLen := 256 } }] })]⟩ }, 3, { slot := 0, desc := { opcode := 5, flags := 0, level := 0, hintHan := 0, length := 1024, src := 4096, dst := 0, pattern := 0, auxLen := 256 } }, ⟨by decide +kernel, by decide +kernel, by decide +kernel, by decide +kernel, by decide +kernel⟩⟩,
   ⟨{ dev [(F.TIER_DMR_CTRL.OWNER_MGT 3, 1), (F.TIER_CAP_CFG.PRESENTED_REGIONS, 4)] with rings := ⟨[(3, { ops := [{ slot := 0, desc := { opcode := 15, flags := 0, level := 0, hintHan := 0, length := 0, src := 0, dst := 0, pattern := 0, auxLen := 0 } }] })]⟩ }, 3, { slot := 0, desc := { opcode := 15, flags := 0, level := 0, hintHan := 0, length := 0, src := 0, dst := 0, pattern := 0, auxLen := 0 } }, ⟨by decide +kernel, by decide +kernel, by decide +kernel, by decide +kernel, by decide +kernel⟩⟩,
   ⟨{ dev [(F.TIER_DMR_CTRL.OWNER_MGT 3, 1), (F.TIER_CAP_CFG.PRESENTED_REGIONS, 4)] with rings := ⟨[(3, { ops := [{ slot := 0, desc := { opcode := 0, flags := 0, level := 0, hintHan := 0, length := 0, src := 0, dst := 0, pattern := 0, auxLen := 0 } }] })]⟩ }, 3, { slot := 0, desc := { opcode := 0, flags := 0, level := 0, hintHan := 0, length := 0, src := 0, dst := 0, pattern := 0, auxLen := 0 } }, ⟨by decide +kernel, by decide +kernel, by decide +kernel, by decide +kernel, by decide +kernel⟩⟩,
   ⟨{ dev [(F.TIER_DMR_CTRL.OWNER_MGT 3, 1), (F.TIER_CAP_CFG.PRESENTED_REGIONS, 4)] with rings := ⟨[(3, { ops := [{ slot := 0, desc := { opcode := 9, flags := 0, level := 0, hintHan := 0, length := 0, src := 0, dst := 0, pattern := 0, auxLen := 0 } }] })]⟩ }, 3, { slot := 0, desc := { opcode := 9, flags := 0, level := 0, hintHan := 0, length := 0, src := 0, dst := 0, pattern := 0, auxLen := 0 } }, by decide +kernel⟩,
   ⟨({} : State), 31, by decide +kernel⟩⟩

/-- States and operands that meet the hypotheses of each clause of `Obligations.PacketsTurnedAway`. -/
theorem witness_PacketsTurnedAway :
    (∃ (s : State) (p : Packet) (r : (Packet → Instr) × (Packet → Packet)), (r ∈ packetRows) ∧ (let q := r.2 p; (decidesNow q s = false))) ∧
    (∃ (s : State) (p : Packet) (r : (Packet → Instr) × (Packet → Packet)), (r ∈ packetRows) ∧ (let q := r.2 p; (decidesNow q s = true) ∧ (tagHeld q s = true))) ∧
    (∃ (s : State) (p : Packet) (v : Verdict) (r : (Packet → Instr) × (Packet → Packet)), (r ∈ packetRows) ∧ (let q := r.2 p; (decidesNow q s = true) ∧ (tagHeld q s = false) ∧ (headerFault q = false) ∧ (goesToHead q (decidedIn q s) = false) ∧ (checkPacket q (decidedIn q s) = some v))) ∧
    (∃ (s : State) (p : Packet) (r : (Packet → Instr) × (Packet → Packet)), (r ∈ packetRows) ∧ (let q := r.2 p; (decidesNow q s = true) ∧ (tagHeld q s = false) ∧ (headerFault q = true))) :=
  ⟨⟨{ pdev [] with mgt := { accepted := [pk 7] } }, pk 0, (Instr.identify, opForm 0x0101), by simp [packetRows], by decide +kernel⟩,
   ⟨{ pdev [] with mgt := { tags := [(packetKey (opForm 0x0101 (pk 0)), 1)] } }, pk 0, (Instr.identify, opForm 0x0101), by simp [packetRows], by decide +kernel⟩,
   ⟨pdev [], pk 1, { status := 0x0B, det := detail 3 8 }, (Instr.identify, opForm 0x0101), by simp [packetRows], by decide +kernel⟩,
   ⟨pdev [], { pk 0 with length := 1 }, (Instr.identify, opForm 0x0101), by simp [packetRows], by decide +kernel⟩⟩

/-- A state and operands that meet the hypotheses of `Obligations.RegionAllocRow`. -/
theorem witness_RegionAllocRow :
    (∃ (s : State) (p : Packet), PacketRuns s ((opForm 0x0201) p) ∧ ((fun p u => p.par 0 2 ≠ 3 ∧ p.par 8 16 ≠ 0 ∧ keyState u (p.par 2 6) = 1 ∧
      (p.par 0 2 = 1 → p.par 8 16 ≤ (slotsFree u).length) ∧
      ∃ r, (List.range u.presented).find? (fun r => runFree u r (p.par 8 16)) = some r)) ((opForm 0x0201) p) (decidedIn ((opForm 0x0201) p) s)) :=
  ⟨pdev [(F.TIER_CAP_CFG.PRESENTED_REGIONS, 4), (F.CRY_KEY_STATUS.STATE 63, 1)], pk (2 + 63 * 4 + 3 * 256), runs (by decide +kernel), by decide +kernel, by decide +kernel, by decide +kernel, by decide +kernel, 0, by decide +kernel⟩

/-- States and operands that meet the hypotheses of each clause of `Obligations.RegionRows`. -/
theorem witness_RegionRows :
    (∃ (s : State) (p : Packet), PacketRuns s ((opForm 0x0101) p) ∧ ((fun _ _ => True)) ((opForm 0x0101) p) (decidedIn ((opForm 0x0101) p) s)) ∧
    (∃ (s : State) (p : Packet), PacketRuns s ((opForm 0x0202) p) ∧ ((fun p u => regionHeld u (p.par 0 15) = false ∧ (u.region (p.par 0 15)).state = 1 ∧ regionMapped u (p.par 0 15) = false)) ((opForm 0x0202) p) (decidedIn ((opForm 0x0202) p) s)) ∧
    (∃ (s : State) (p : Packet), PacketRuns s ((opForm 0x0206) p) ∧ ((fun p u => let r := p.par 0 15
      regionHeld u r = false ∧ (u.region r).state = 1 ∧ (u.region r).gen ≠ 127 ∧ (u.region r).walk = false ∧
      u.walkQueue.any (fun q => q.region == r) = false)) ((opForm 0x0206) p) (decidedIn ((opForm 0x0206) p) s)) ∧
    (∃ (s : State) (p : Packet), PacketRuns s ((opForm 0x0203) p) ∧ ((fun p u => p.par 16 2 ≠ 3 ∧ regionHeld u (p.par 0 15) = false ∧ (u.region (p.par 0 15)).state = 1 ∧ regionMapped u (p.par 0 15) = false ∧
      (p.par 16 2 = 1 → (slotsFree u).isEmpty = false))) ((opForm 0x0203) p) (decidedIn ((opForm 0x0203) p) s)) ∧
    (∃ (s : State) (p : Packet), PacketRuns s ((opForm 0x0204) p) ∧ ((fun p u => let b := p.bytes; let g := 2 ^ 30
      p.length = 32 ∧ fieldLE b 0 8 < 64 ∧ fieldLE b 8 8 % g = 0 ∧ fieldLE b 16 8 % g = 0 ∧ 0 < fieldLE b 16 8 ∧
      fieldLE b 16 8 ≤ 2 ^ 51 ∧ fieldLE b 24 8 % g = 0 ∧ fieldLE b 24 8 < 2 ^ 51 ∧
      (u.lds.get (fieldLE b 0 8)).extents.any (fun e =>
        decide (e.dpa < fieldLE b 8 8 + fieldLE b 16 8) && decide (fieldLE b 8 8 < e.dpa + e.gib * g)) = false ∧
      (u.lds.get (fieldLE b 0 8)).extents.length < 256 ∧
      badRegion u (fieldLE b 0 8) (fieldLE b 24 8) (fieldLE b 16 8 / g) = none)) ((opForm 0x0204) p) (decidedIn ((opForm 0x0204) p) s)) ∧
    (∃ (s : State) (p : Packet), PacketRuns s ((opForm 0x0205) p) ∧ ((fun p u => p.length = 8 ∧ ∃ e, (u.lds.get (p.par 0 6)).extents.find? (fun e => e.dpa == fieldLE p.bytes 0 8) = some e ∧
      hdmCovers (u.lds.get (p.par 0 6)) e = false)) ((opForm 0x0205) p) (decidedIn ((opForm 0x0205) p) s)) :=
  ⟨⟨pdev [], pk 0, runs (by decide +kernel), trivial⟩,
   ⟨{ pdev [] with regions := ⟨[(3, { state := 1 })]⟩ }, pk 3, ⟨runs (by decide +kernel), by decide +kernel⟩⟩,
   ⟨{ pdev [] with regions := ⟨[(3, { state := 1, gen := 126 })]⟩ }, pk 3, ⟨runs (by decide +kernel), by decide +kernel⟩⟩,
   ⟨{ pdev [(F.TIER_CAP_CFG.SHARED_REGIONS, 1)] with regions := ⟨[(3, { state := 1 })]⟩ }, pk 0x10003, ⟨runs (by decide +kernel), by decide +kernel⟩⟩,
   ⟨{ pdev [(F.TIER_CAP_CFG.PRESENTED_REGIONS, 4)] with regions := ⟨[(3, { state := 1 })]⟩ }, pk 0 (le 8 9 ++ le 8 0 ++ le 8 (2 ^ 30) ++ le 8 (3 * 2 ^ 30)), ⟨runs (by decide +kernel), by decide +kernel⟩⟩,
   ⟨{ pdev [] with lds := ⟨[(9, { extents := [{ dpa := 2 ^ 30, gib := 1, base := 3 * 2 ^ 30, source := none }] })]⟩ }, pk 9 (le 8 (2 ^ 30)), runs (by decide +kernel), by decide +kernel, { dpa := 2 ^ 30, gib := 1, base := 3 * 2 ^ 30, source := none }, by decide +kernel⟩⟩

/-- States and operands that meet the hypotheses of each clause of `Obligations.ClassChangeRefused`. -/
theorem witness_ClassChangeRefused :
    (∃ (s : State) (p : Packet), (let q := opForm 0x0203 p; (let u := decidedIn q s; (PacketRuns s q) ∧ (q.par 16 2 ≠ 3) ∧ (regionMapped u (q.par 0 15) = true)))) ∧
    (∃ (s : State) (p : Packet), (let q := opForm 0x0203 p; (PacketRuns s q))) ∧
    (∃ (s : State) (p : Packet), (let q := opForm 0x0201 p; (PacketRuns s q))) :=
  ⟨⟨{ pdev [(F.TIER_CAP_CFG.PRESENTED_REGIONS, 4)] with regions := ⟨[(3, { state := 1 })]⟩, lds := ⟨[(9, { extents := [{ dpa := 2 ^ 30, gib := 1, base := 3 * 2 ^ 30, source := none }] })]⟩ }, pk 0x10003, runs (by decide +kernel), by decide +kernel⟩,
   ⟨{ pdev [] with regions := ⟨[(3, { state := 1 })]⟩ }, pk 0x20003, runs (by decide +kernel)⟩,
   ⟨pdev [(F.TIER_CAP_CFG.PRESENTED_REGIONS, 4), (F.CRY_KEY_STATUS.STATE 63, 1)], pk (2 + 63 * 4 + 3 * 256), runs (by decide +kernel)⟩⟩

/-- States and operands that meet the hypotheses of each clause of `Obligations.TierPinRows`. -/
theorem witness_TierPinRows :
    (∃ (on : Bool) (s : State) (p : Packet), PacketRuns s ((fun p => opForm 0x0301 (p.withPar 0 1 (bit on))) p) ∧ ((fun p u => let base := fieldLE p.bytes 0 8; let n := fieldLE p.bytes 8 8
      let w := if u.inClutch then 2 ^ 45 else 2 ^ 51; let first := pageOf (homeAddr u base)
      p.length = 16 ∧ base % 4096 = 0 ∧ base < 2 ^ 51 ∧ n ≠ 0 ∧ base % w + n * 4096 ≤ w ∧
      (∀ r, regionOf first ≤ r → r ≤ regionOf (first + n - 1) → (u.region r).state = 1) ∧
      (on = true → 2 * (u.tier.pinned.length + n) ≤ t0Budget u))) ((fun p => opForm 0x0301 (p.withPar 0 1 (bit on))) p) (decidedIn ((fun p => opForm 0x0301 (p.withPar 0 1 (bit on))) p) s)) ∧
    (∃ (s : State) (p : Packet), PacketRuns s ((opForm 0x0302) p) ∧ ((fun p u => let c := p.par 0 4
      longRuns u p c = false ∧ channelHeld u 0x0302 c = false ∧ u.get (F.TIER_POOL_STATUS.EVAC c) = 0 ∧
      u.get (F.TIER_POOL_STATUS.EVAC (partner c)) = 0 ∧ evacAllowed u c = true)) ((opForm 0x0302) p) (decidedIn ((opForm 0x0302) p) s)) ∧
    (∃ (s : State) (p : Packet), PacketRuns s ((opForm 0x0303) p) ∧ ((fun p u => let c := p.par 0 4
      longRuns u p c = false ∧ channelHeld u 0x0303 c = false ∧ u.get (F.TIER_POOL_STATUS.EVAC c) = 2 ∧
      (u.spw.get c).samePart = true ∧ u.flag (F.SPW_SLOT_STATUS.SPD_ERR c) = false)) ((opForm 0x0303) p) (decidedIn ((opForm 0x0303) p) s)) :=
  ⟨⟨true, { pdev [(F.TIER_T0_BUDGET.FRAMES, 64), (F.TIER_CAP_CFG.PRESENTED_REGIONS, 4)] with regions := ⟨[(3, { state := 1 })]⟩ }, pk 0 (le 8 (3 * 2 ^ 30) ++ le 8 2), ⟨runs (by decide +kernel), by decide +kernel⟩⟩,
   ⟨pdev [], pk 5, ⟨runs (by decide +kernel), by decide +kernel⟩⟩,
   ⟨{ pdev [(F.TIER_POOL_STATUS.EVAC 5, 2)] with spw := ⟨[(5, { samePart := true })]⟩ }, pk 5, ⟨runs (by decide +kernel), by decide +kernel⟩⟩⟩

/-- States and operands that meet the hypotheses of each clause of `Obligations.KeyCommands`. -/
theorem witness_KeyCommands :
    (∃ (s : State) (p : Packet), PacketRuns s ((fun p => opForm 0x0401 (p.withPar 8 1 0)) p) ∧ ((fun p u => p.length = 0 ∧ keyState u (p.par 0 6) = 0)) ((fun p => opForm 0x0401 (p.withPar 8 1 0)) p) (decidedIn ((fun p => opForm 0x0401 (p.withPar 8 1 0)) p) s)) ∧
    (∃ (s : State) (p : Packet), PacketRuns s ((fun p => opForm 0x0401 (p.withPar 8 1 1)) p) ∧ ((fun p u => p.length = 32 ∧ keyState u (p.par 0 6) = 0 ∧ sessioned p u = true ∧ u.fuseBits 906 1 = 0)) ((fun p => opForm 0x0401 (p.withPar 8 1 1)) p) (decidedIn ((fun p => opForm 0x0401 (p.withPar 8 1 1)) p) s)) ∧
    (∃ (s : State) (p : Packet), PacketRuns s ((opForm 0x0402) p) ∧ ((fun p u => let k := p.par 0 6; let j := p.par 8 6
      longRuns u p k = false ∧ keyState u k = 1 ∧ p.par 14 1 = 0 ∧ j ≠ k ∧ keyState u j = 1)) ((opForm 0x0402) p) (decidedIn ((opForm 0x0402) p) s)) ∧
    (∃ (s : State) (p : Packet), PacketRuns s ((opForm 0x0402) p) ∧ ((fun p u => let k := p.par 0 6
      longRuns u p k = false ∧ keyState u k = 1 ∧ p.par 14 1 = 1 ∧
      u.regions.cells.any (fun c => c.2.state == 1 && c.2.key == k) = false)) ((opForm 0x0402) p) (decidedIn ((opForm 0x0402) p) s)) :=
  ⟨⟨pdev [], pk 63, ⟨runs (by decide +kernel), by decide +kernel⟩⟩,
   ⟨{ pdev [] with sec := { running := true, sessions := ⟨[(64, [1])]⟩ } }, { pk 5 (List.replicate 32 9) with secured := true, path := .sideband }, ⟨runs (by decide +kernel), by decide +kernel⟩⟩,
   ⟨{ pdev [(F.CRY_KEY_STATUS.STATE 3, 1), (F.CRY_KEY_STATUS.STATE 63, 1)] with regions := ⟨[(2, { state := 1, key := 3 })]⟩ }, pk (3 + 63 * 256), ⟨runs (by decide +kernel), by decide +kernel⟩⟩,
   ⟨{ pdev [(F.CRY_KEY_STATUS.STATE 3, 1)] with regions := ⟨[(2, { state := 1, key := 4 })]⟩ }, pk (3 + 16384), ⟨runs (by decide +kernel), by decide +kernel⟩⟩⟩

/-- States and operands that meet the hypotheses of each clause of `Obligations.LeaseQosEngineRows`. -/
theorem witness_LeaseQosEngineRows :
    (∃ (rel : Bool) (s : State) (p : Packet), PacketRuns s ((fun p => opForm 0x0501 (p.withPar 16 1 (bit rel))) p) ∧ ((fun p u => let d := u.region (p.par 0 15)
      d.state = 1 ∧ d.cls = 2 ∧ (d.lease = 1 ∨ d.lease = 2) ∧ actsForHolder p u d.holder = true)) ((fun p => opForm 0x0501 (p.withPar 16 1 (bit rel))) p) (decidedIn ((fun p => opForm 0x0501 (p.withPar 16 1 (bit rel))) p) s)) ∧
    (∃ (s : State) (p : Packet), PacketRuns s ((opForm 0x0502) p) ∧ ((fun p u => let d := u.region (p.par 0 15); d.state = 1 ∧ d.cls = 2 ∧ d.lease = 3)) ((opForm 0x0502) p) (decidedIn ((opForm 0x0502) p) s)) ∧
    (∃ (s : State) (p : Packet), PacketRuns s ((opForm 0x0601) p) ∧ ((fun p u => let l := (chunks 8 510 p.bytes).map qosEntry
      let new (m : Nat) : QosEntry := match l.find? (fun e => e.master == m) with | some e => e | none => qosNow u m
      p.length.toNat % 8 = 0 ∧ qosFaults (chunks 8 510 p.bytes) [] 0x10 = none ∧
      ((∃ m ∈ allMasters, (qosNow u m).g < (new m).g) → sumOf (allMasters.map (fun m => (new m).g)) ≤ u.get F.QOS_CAP.C_CERT) ∧
      64 * sumOf ((List.range 64 ++ [70]).map (fun m => (new m).ncmin)) ≤ 65536)) ((opForm 0x0601) p) (decidedIn ((opForm 0x0601) p) s)) ∧
    (∃ (off : Bool) (s : State) (p : Packet), PacketRuns s ((fun p => opForm 0x0701 (p.withPar 16 2 (bit off))) p) ∧ ((fun p u => let n := p.par 8 5
      (p.par 0 1 = 1 → n < 8 ∧ (cryOffline n off u).1 = true) ∧ (p.par 0 1 ≠ 1 → (cmpOffline n off u).1 = true))) ((fun p => opForm 0x0701 (p.withPar 16 2 (bit off))) p) (decidedIn ((fun p => opForm 0x0701 (p.withPar 16 2 (bit off))) p) s)) ∧
    (∃ (s : State) (p : Packet), PacketRuns s ((fun p => opForm 0x0701 (p.withPar 16 2 2)) p) ∧ ((fun p u => let n := p.par 8 5
      (p.par 0 1 = 1 → n < 8 ∧ (cryState u n = 2 ∨ cryState u n = 4)) ∧
      (p.par 0 1 ≠ 1 → cmpState u n = 2 ∨ cmpState u n = 4))) ((fun p => opForm 0x0701 (p.withPar 16 2 2)) p) (decidedIn ((fun p => opForm 0x0701 (p.withPar 16 2 2)) p) s)) :=
  ⟨⟨true, { pdev [] with regions := ⟨[(3, { state := 1, cls := 2, lease := 2, holder := 9, breaker := 4 })]⟩ }, { pk 3 with path := .sideband }, ⟨runs (by decide +kernel), by decide +kernel⟩⟩,
   ⟨{ pdev [] with regions := ⟨[(3, { state := 1, cls := 2, lease := 3, holder := 9 })]⟩ }, pk 3, ⟨runs (by decide +kernel), by decide +kernel⟩⟩,
   ⟨pdev [], pk 0 ([9] ++ le 2 0 ++ [1] ++ le 4 8), ⟨runs (by decide +kernel), by decide +kernel⟩⟩,
   ⟨true, pdev [], pk (31 * 256), ⟨runs (by decide +kernel), by decide +kernel⟩⟩,
   ⟨pdev [(F.CRY_ENG_STATUS.STATE 7, 2)], pk (1 + 7 * 256), ⟨runs (by decide +kernel), by decide +kernel⟩⟩⟩

/-- States and operands that meet the hypotheses of each clause of `Obligations.ReadCommands`. -/
theorem witness_ReadCommands :
    (∃ (s : State) (p : Packet), PacketRuns s ((opForm 0x0102) p) ∧ ((fun p _ => let a := p.par 0 32; let n := p.par 32 8
      inDebug a = false ∧ a % 8 = 0 ∧ inBlock a = true ∧ 0 < n ∧ n ≤ 64 ∧ a % 0x10000 + 8 * n ≤ 0x10000)) ((opForm 0x0102) p) (decidedIn ((opForm 0x0102) p) s)) ∧
    (∃ (s : State) (p : Packet), PacketRuns s ((opForm 0x0103) p) ∧ ((fun p _ => p.par 0 32 < 0x100000 ∧ p.par 32 16 ≤ 4080 ∧ p.par 0 32 + p.par 32 16 ≤ 0x100000)) ((opForm 0x0103) p) (decidedIn ((opForm 0x0103) p) s)) ∧
    (∃ (s : State) (p : Packet), PacketRuns s ((opForm 0x0B01) p) ∧ ((fun _ _ => True)) ((opForm 0x0B01) p) (decidedIn ((opForm 0x0B01) p) s)) ∧
    (∃ (s : State) (p : Packet), PacketRuns s ((opForm 0x0B02) p) ∧ ((fun _ _ => True)) ((opForm 0x0B02) p) (decidedIn ((opForm 0x0B02) p) s)) ∧
    (∃ (s : State) (p : Packet), PacketRuns s ((opForm 0x0A01) p) ∧ ((fun p _ => p.length.toNat % 16 = 0 ∧ p.length ≠ 0 ∧ pmuFaults (chunks 16 256 p.bytes) [] 0x10 = none)) ((opForm 0x0A01) p) (decidedIn ((opForm 0x0A01) p) s)) ∧
    (∃ (s : State) (p : Packet), PacketRuns s ((opForm 0x0A02) p) ∧ ((fun _ _ => True)) ((opForm 0x0A02) p) (decidedIn ((opForm 0x0A02) p) s)) ∧
    (∃ (on : Bool) (s : State) (p : Packet), PacketRuns s ((fun p => opForm 0x0A03 (p.withPar 8 1 (bit on))) p) ∧ ((fun _ _ => True)) ((fun p => opForm 0x0A03 (p.withPar 8 1 (bit on))) p) (decidedIn ((fun p => opForm 0x0A03 (p.withPar 8 1 (bit on))) p) s)) ∧
    (∃ (s : State) (p : Packet), PacketRuns s ((opForm 0x0901) p) ∧ ((fun _ u => isHead u = true)) ((opForm 0x0901) p) (decidedIn ((opForm 0x0901) p) s)) ∧
    (∃ (s : State) (p : Packet), PacketRuns s ((opForm 0x0902) p) ∧ ((fun p u => longRuns u p (p.par 0 6) = false ∧ isHead u = true ∧ mayRemove u (p.par 0 6) = true)) ((opForm 0x0902) p) (decidedIn ((opForm 0x0902) p) s)) :=
  ⟨⟨pdev [], pk (0x30FFE0 + 4 * 2 ^ 32), ⟨runs (by decide +kernel), by decide +kernel⟩⟩,
   ⟨pdev [], pk (0xFFFF0 + 16 * 2 ^ 32), ⟨runs (by decide +kernel), by decide +kernel⟩⟩,
   ⟨pdev [], pk 0, runs (by decide +kernel), trivial⟩,
   ⟨pdev [], pk 0, runs (by decide +kernel), trivial⟩,
   ⟨pdev [], pk 0 (le 8 15 ++ le 8 3), ⟨runs (by decide +kernel), by decide +kernel⟩⟩,
   ⟨pdev [], pk 0, runs (by decide +kernel), trivial⟩,
   ⟨true, pdev [], pk 63, runs (by decide +kernel), trivial⟩,
   ⟨pdev [(F.CLU_STATUS.STATE, 2)], pk 9, ⟨runs (by decide +kernel), by decide +kernel⟩⟩,
   ⟨{ pdev [(F.CLU_STATUS.STATE, 2), (F.CLU_ROSTER.MAP, 1), (F.CLU_FAILED.MAP, 512)] with clu := {} }, pk 9, ⟨runs (by decide +kernel), by decide +kernel⟩⟩⟩

/-- States and operands that meet the hypotheses of each clause of `Obligations.PowerCommands`. -/
theorem witness_PowerCommands :
    (∃ (s : State) (p : Packet), PacketRuns s ((opForm 0x0801) p) ∧ ((fun p u => let n := p.par 0 3
      n ≤ 5 ∧ u.flag F.PWR_PL_STATUS.BUSY = false ∧ max n (u.get F.PWR_PL_STATUS.THERMAL_MIN) = u.get F.PWR_PL_STATUS.CURRENT)) ((opForm 0x0801) p) (decidedIn ((opForm 0x0801) p) s)) ∧
    (∃ (s : State) (p : Packet), PacketRuns s ((opForm 0x0801) p) ∧ ((fun p u => let w := max (p.par 0 3) (u.get F.PWR_PL_STATUS.THERMAL_MIN)
      p.par 0 3 ≤ 5 ∧ u.flag F.PWR_PL_STATUS.BUSY = false ∧ u.pwr.pl.stage = .idle ∧ u.asleep = false ∧
      w ≠ u.get F.PWR_PL_STATUS.CURRENT)) ((opForm 0x0801) p) (decidedIn ((opForm 0x0801) p) s)) ∧
    (∃ (s : State) (p : Packet), PacketRuns s ((opForm 0x0802) p) ∧ ((fun p u => u.pwr.sleep = none ∧ p.par 0 2 = 1 ∧ u.flag F.PWR_PL_STATUS.BUSY = false)) ((opForm 0x0802) p) (decidedIn ((opForm 0x0802) p) s)) ∧
    (∃ (s : State) (p : Packet), PacketRuns s ((opForm 0x0802) p) ∧ ((fun p u => u.pwr.sleep = none ∧ p.par 0 2 = 2 ∧ u.get F.CLU_STATUS.STATE = 0 ∧ u.flag F.PWR_PL_STATUS.BUSY = false)) ((opForm 0x0802) p) (decidedIn ((opForm 0x0802) p) s)) ∧
    (∃ (s : State) (p : Packet), PacketRuns s ((fun p => opForm 0x0803 (p.withPar 8 1 1)) p) ∧ ((fun p u => longRuns u p (p.par 0 4) = false ∧ channelHeld u 0x0803 (p.par 0 4) = false ∧ slotState u (p.par 0 4) = 0)) ((fun p => opForm 0x0803 (p.withPar 8 1 1)) p) (decidedIn ((fun p => opForm 0x0803 (p.withPar 8 1 1)) p) s)) ∧
    (∃ (s : State) (p : Packet), PacketRuns s ((fun p => opForm 0x0803 (p.withPar 8 1 0)) p) ∧ ((fun p u => longRuns u p (p.par 0 4) = false ∧ channelHeld u 0x0803 (p.par 0 4) = false ∧ slotState u (p.par 0 4) = 6)) ((fun p => opForm 0x0803 (p.withPar 8 1 0)) p) (decidedIn ((fun p => opForm 0x0803 (p.withPar 8 1 0)) p) s)) ∧
    (∃ (s : State) (p : Packet), PacketRuns s ((fun p => opForm 0x0803 (p.withPar 8 1 0)) p) ∧ ((fun p u => let c := p.par 0 4
      longRuns u p c = false ∧ channelHeld u 0x0803 c = false ∧ slotState u c = 4 ∧ u.get (F.TIER_POOL_STATUS.EVAC c) = 2)) ((fun p => opForm 0x0803 (p.withPar 8 1 0)) p) (decidedIn ((fun p => opForm 0x0803 (p.withPar 8 1 0)) p) s)) :=
  ⟨⟨pdev [], pk 0, ⟨runs (by decide +kernel), by decide +kernel⟩⟩,
   ⟨pdev [], pk 5, ⟨runs (by decide +kernel), by decide +kernel⟩⟩,
   ⟨pdev [], pk 1, ⟨runs (by decide +kernel), by decide +kernel⟩⟩,
   ⟨pdev [], pk 2, ⟨runs (by decide +kernel), by decide +kernel⟩⟩,
   ⟨pdev [], pk 15, ⟨runs (by decide +kernel), by decide +kernel⟩⟩,
   ⟨pdev [(F.SPW_SLOT_STATUS.STATE 15, 6)], pk 15, ⟨runs (by decide +kernel), by decide +kernel⟩⟩,
   ⟨pdev [(F.SPW_SLOT_STATUS.STATE 15, 4), (F.TIER_POOL_STATUS.EVAC 15, 2)], pk 15, ⟨runs (by decide +kernel), by decide +kernel⟩⟩⟩

/-- States and operands that meet the hypotheses of each clause of `Obligations.SecurityCommands`. -/
theorem witness_SecurityCommands :
    (∃ (s : State) (p : Packet), PacketRuns s ((opForm 0x0C01) p) ∧ ((fun p u => u.sec.fw = none ∧ p.par 0 32 + p.bytes.length ≤ 0x800000 ∧ u.sec.ctrl.pending = 0xFF ∧ p.bytes ≠ [])) ((opForm 0x0C01) p) (decidedIn ((opForm 0x0C01) p) s)) ∧
    (∃ (s : State) (p : Packet), PacketRuns s ((opForm 0x0C02) p) ∧ ((fun _ u => u.sec.norOps.any (fun o => o.who == .bootCtrl) = false)) ((opForm 0x0C02) p) (decidedIn ((opForm 0x0C02) p) s)) ∧
    (∃ (s : State) (p : Packet), PacketRuns s ((opForm 0x0D01) p) ∧ ((fun p u => u.flag F.SEC_STATUS.FUSE_BUSY = false ∧ p.length ≠ 0 ∧ p.length.toNat % 2 = 0 ∧ p.length.toNat ≤ 128 ∧
      fuseRange u (fuseEntries p) = none ∧ fuseForbidden u (fuseEntries p) = false ∧
      ∃ b ∈ fuseEntries p, u.fuseBits b 1 = 0)) ((opForm 0x0D01) p) (decidedIn ((opForm 0x0D01) p) s)) ∧
    (∃ (s : State) (p : Packet), PacketRuns s ((fun p => opForm 0x0E01 { p with length := 0, payload := [] }) p) ∧ ((fun _ u => u.get F.SEC_STATUS.UNLOCK_FAILS ≠ 3)) ((fun p => opForm 0x0E01 { p with length := 0, payload := [] }) p) (decidedIn ((fun p => opForm 0x0E01 { p with length := 0, payload := [] }) p) s)) ∧
    (∃ (s : State) (p : Packet), PacketRuns s ((opForm 0x0E01) p) ∧ ((fun p u => u.get F.SEC_STATUS.UNLOCK_FAILS ≠ 3 ∧ p.length = 772)) ((opForm 0x0E01) p) (decidedIn ((opForm 0x0E01) p) s)) ∧
    (∃ (s : State) (p : Packet), PacketRuns s ((opForm 0x0E02) p) ∧ ((fun p u => debugOpen p u = true ∧ p.par 0 32 % 4 = 0 ∧ inBlock (p.par 0 32) = true ∧ inDebug (p.par 0 32) = false ∧
      ∃ r i j, regAt (p.par 0 32) = some (r, i, j) ∧ 8 * p.bytes.length = r.width ∧ (r.width = 32 ∨ r.width = 64))) ((opForm 0x0E02) p) (decidedIn ((opForm 0x0E02) p) s)) :=
  ⟨⟨{ pdev [] with sec := { running := true, ctrl := { active := 0, pending := 0xFF } } }, pk 0x7FFFF0 (List.replicate 16 1), ⟨runs (by decide +kernel), by decide +kernel⟩⟩,
   ⟨pdev [], pk 1, ⟨runs (by decide +kernel), by decide +kernel⟩⟩,
   ⟨pdev [], pk 0 (le 2 1199), ⟨runs (by decide +kernel), by decide +kernel⟩⟩,
   ⟨pdev [], pk 0, ⟨runs (by decide +kernel), by decide +kernel⟩⟩,
   ⟨pdev [(F.SEC_STATUS.UNLOCK_FAILS, 2)], pk 0 (List.replicate 772 0), ⟨runs (by decide +kernel), by decide +kernel⟩⟩,
   ⟨pdev [(F.SEC_STATUS.DEBUG_OPEN, 1)], { pk 0x170008 (le 8 5) with path := .uart }, runs (by decide +kernel), by decide +kernel, by decide +kernel, by decide +kernel, by decide +kernel, ((regAt 0x170008).get (by decide +kernel)).1, ((regAt 0x170008).get (by decide +kernel)).2.1, ((regAt 0x170008).get (by decide +kernel)).2.2, (Option.some_get (x := regAt 0x170008) (by decide +kernel)).symm, by decide +kernel, by decide +kernel⟩⟩

/-- States and operands that meet the hypotheses of each clause of `Obligations.StandardCommands`. -/
theorem witness_StandardCommands :
    (∃ (s : State) (m : Fin 64), (StdServed s m false 1)) ∧
    (∃ (s : State) (m : Fin 64), (StdServed s m false 1)) ∧
    (∃ (s : State) (m : Fin 64), (StdServed s m false 1)) ∧
    (∃ (s : State) (m : Fin 64), (StdServed s m false 1)) ∧
    (∃ (s : State) (m : Fin 64) (op : BitVec 16), (StdServed s m false 1) ∧ (op ≠ 0xC000)) ∧
    (∃ (s : State) (m : Fin 64) (sb : Bool), (StdServed s m sb 1)) ∧
    (∃ (s : State) (m : Fin 64), (StdServed s m false 2)) ∧
    (∃ (s : State) (m : Fin 64) (l : List DcExtent), (s.sec.running = true) ∧ (s.asleep = false) ∧ (let n := (s.lds.get m).extents.length + (s.lds.get m).offers.length + l.length; (256 < n))) ∧
    (∃ (s : State) (m : Fin 64) (l : List DcExtent), (s.sec.running = true) ∧ (s.asleep = false) ∧ (let n := (s.lds.get m).extents.length + (s.lds.get m).offers.length + l.length; (n ≤ 256) ∧ (l.all (fun x => dcFits s m (dcEntry s x)) = true))) ∧
    (∃ (s : State) (m : Fin 64) (l : List DcExtent), (s.sec.running = true) ∧ (s.asleep = false) ∧ (let n := (s.lds.get m).extents.length + (s.lds.get m).offers.length + l.length; (n ≤ 256) ∧ (l.all (fun x => dcFits s m (dcEntry s x)) = false))) ∧
    (∃ (s : State) (t : State) (m : Fin 64) (l : List DcExtent), (StdServed s m false 2) ∧ (let a := stdArrived s false; (l.all (fun x => (a.lds.get m).offers.contains x) = true) ∧ (addDc m (l.map (dcEntry a)) a = some t) ∧ ((a.lds.get m).extents.length + l.length ≤ 256))) ∧
    (∃ (s : State) (m : Fin 64) (l : List DcExtent), (StdServed s m false 2) ∧ (let a := stdArrived s false; (l.all (fun x => (a.lds.get m).offers.contains x) = false))) ∧
    (∃ (s : State) (m : Fin 64) (l : List DcExtent), (StdServed s m false 2) ∧ (let a := stdArrived s false; ((∀ x ∈ l, (dcFind a m x).isSome)))) ∧
    (∃ (s : State) (t : State) (m : Fin 64) (sb : Bool) (gib : List (BitVec 22)), (StdServed s m sb 2) ∧ (let a := stdArrived s sb; (gib.length ≤ (ldsOfLink a m).length) ∧ (allocLds ((ldsOfLink a m).zip (gib.map (·.toNat))) a = ({}, t)))) ∧
    (∃ (s : State), (s.asleep = true)) :=
  ⟨⟨hostRun [], 2, served (by decide +kernel)⟩,
   ⟨hostRun [], 2, served (by decide +kernel)⟩,
   ⟨hostRun [], 2, served (by decide +kernel)⟩,
   ⟨hostRun [], 2, served (by decide +kernel)⟩,
   ⟨hostRun [], 2, 0xFFFF, ⟨served (by decide +kernel), by decide +kernel⟩⟩,
   ⟨hostRun [], 2, false, served (by decide +kernel)⟩,
   ⟨hostRun [], 2, served (by decide +kernel)⟩,
   ⟨{ hostRun [] with lds := ⟨[(2, { extents := List.replicate 256 { dpa := 0, gib := 1, base := 2 ^ 30, source := none } })]⟩ }, 2, [dcx 0 0], by decide +kernel⟩,
   ⟨{ hostRun [] with regions := ⟨[(2, { state := 1 })]⟩, lds := {} }, 2, [dcx 0 (2 ^ 31)], by decide +kernel⟩,
   ⟨hostRun [], 2, [dcx 0 (2 ^ 31)], by decide +kernel⟩,
   ⟨{ hostRun [] with regions := ⟨[(2, { state := 1 })]⟩, lds := ⟨[(2, { offers := [dcx 0 (2 ^ 31)] })]⟩ }, (addDc 2 ([dcx 0 (2 ^ 31)].map (dcEntry (stdArrived { hostRun [] with regions := ⟨[(2, { state := 1 })]⟩, lds := ⟨[(2, { offers := [dcx 0 (2 ^ 31)] })]⟩ } false))) (stdArrived { hostRun [] with regions := ⟨[(2, { state := 1 })]⟩, lds := ⟨[(2, { offers := [dcx 0 (2 ^ 31)] })]⟩ } false)).get (by decide +kernel), 2, [dcx 0 (2 ^ 31)], ⟨served (by decide +kernel), by decide +kernel⟩⟩,
   ⟨{ hostRun [] with lds := ⟨[(2, { extents := [{ dpa := 0, gib := 1, base := 2 ^ 31, source := some 0 }] })]⟩ }, 2, [dcx 0 (2 ^ 31)], ⟨served (by decide +kernel), by decide +kernel⟩⟩,
   ⟨{ hostRun [] with lds := ⟨[(2, { extents := [{ dpa := 0, gib := 1, base := 2 ^ 31, source := some 0 }] })]⟩ }, 2, [dcx 0 0], ⟨served (by decide +kernel), by decide +kernel⟩⟩,
   ⟨hostRun [], (allocLds ((ldsOfLink (stdArrived (hostRun []) false) 2).zip [0, 0, 1]) (stdArrived (hostRun []) false)).2, 2, false, [0, 0, 1], ⟨served (by decide +kernel), by decide +kernel⟩⟩,
   ⟨dev [(F.PWR_SL_STATUS.STATE, 2)], by decide +kernel⟩⟩

/-- States and operands that meet the hypotheses of each clause of `Obligations.PoisonCommands`. -/
theorem witness_PoisonCommands :
    (∃ (s : State) (m : Fin 64), (StdServed s m false 1)) ∧
    (∃ (s : State) (m : Fin 64) (dpa : BitVec 64) (e : Extent), (StdServed s m false 0x0B) ∧ (let a := stdArrived s false; (extentAt (a.lds.get m) dpa.toNat = some e) ∧ (dpa.toNat % 64 = 0) ∧ (let cpa := lineAddr (e.base + (dpa.toNat - e.dpa)); (backed a m cpa = true) ∧ (homePath a cpa = a.path)))) ∧
    (∃ (s : State) (m : Fin 64), (s.asleep = false) ∧ (ldReached s m = true) ∧ (let a := stdArrived s false; (a.sec.running = true) ∧ (a.flag F.SEC_STATUS.RECOVERY = true))) ∧
    (∃ (s : State) (m : Fin 64), (s.asleep = false) ∧ (ldReached s m = true) ∧ (let a := stdArrived s false; (a.sec.running = true) ∧ (a.flag F.SEC_STATUS.RECOVERY = false) ∧ (denied a 0x0B (m.val / 4) = true))) ∧
    (∃ (s : State) (m : Fin 64), (s.asleep = false) ∧ (ldReached s m = true) ∧ (let a := stdArrived s false; (a.sec.running = true) ∧ (a.flag F.SEC_STATUS.RECOVERY = false) ∧ (denied a 2 (m.val / 4) = true))) :=
  ⟨⟨hostRun [], 2, served (by decide +kernel)⟩,
   ⟨{ hostRun [] with lds := ⟨[(2, { extents := [{ dpa := 0, gib := 1, base := 2 ^ 30, source := none }] })]⟩ }, 2, BitVec.ofNat 64 (2 ^ 30 - 64), { dpa := 0, gib := 1, base := 2 ^ 30, source := none }, ⟨served (by decide +kernel), by decide +kernel⟩⟩,
   ⟨hostRun [(F.SEC_STATUS.RECOVERY, 1)], 2, by decide +kernel⟩,
   ⟨{ hostRun [] with fuseShadow := 1 <<< 830 }, 2, by decide +kernel⟩,
   ⟨{ hostRun [] with fuseShadow := 1 <<< 659 }, 2, by decide +kernel⟩⟩

/-- States and operands that meet the hypotheses of each clause of `Obligations.ErrorRows`. -/
theorem witness_ErrorRows :
    (∃ (code : BitVec 8), (definedCode code.toNat = true)) ∧
    (∃ (s : State) (sl : Fin 16) (kind : Fin 8) (i : BitVec 40) (m : MetaLine), (kind.val ≠ 7) ∧ (metaCached s sl kind i.toNat = some m) ∧ (m.dirty = false)) ∧
    (∃ (s : State) (sl : Fin 16) (i : BitVec 40), (let k := sl.val * 2 ^ 16 + i.toNat % 2 ^ 16; ((s.near.get k).valid = true))) ∧
    (∃ (s : State), (s.asleep = false)) ∧
    (∃ (s : State), (s.get F.PMU_CTRL.PERIOD_MS ≠ 0) ∧ (s.asleep = false) ∧ (s.transit % (1000 * s.get F.PMU_CTRL.PERIOD_MS) = 0)) ∧
    (∃ (s : State) (n : Fin 256), (s.flag (F.PMU_CTR_VALUE.VALID n) = true)) ∧
    (∃ (s : State) (n : Fin 256) (inc : BitVec 48), (s.flag (F.PMU_CTR_VALUE.VALID n) = true) ∧ (s.flag (F.PMU_CTR_CFG.ENABLE n) = true) ∧ (2 ^ 48 ≤ s.get (F.PMU_CTR_VALUE.VALUE n) + inc.toNat) ∧ ((n.val = 255 ∨ s.get (F.PMU_CTR_CFG.CHAIN (n.val + 1)) = 0)) ∧ (s.flag (F.PMU_CTR_CFG.PLATE_ON_OVF n) = false)) :=
  ⟨⟨0x30, by decide +kernel⟩,
   ⟨{ dev [] with metaCache := [{ slice := 15, kind := 6, index := 0, val := 5 }] }, 15, 6, 0, { slice := 15, kind := 6, index := 0, val := 5 }, by decide +kernel⟩,
   ⟨{ dev [] with near := ⟨[(0xFFFFF, { valid := true })]⟩ }, 15, 0xFFFF, by decide +kernel⟩,
   ⟨dev [], by decide +kernel⟩,
   ⟨dev [(F.PMU_CTRL.PERIOD_MS, 1)], by decide +kernel⟩,
   ⟨dev [(F.PMU_CTR_VALUE.VALID 255, 1)], 255, by decide +kernel⟩,
   ⟨dev [(F.PMU_CTR_VALUE.VALID 255, 1), (F.PMU_CTR_CFG.ENABLE 255, 1), (F.PMU_CTR_VALUE.VALUE 255, 2 ^ 48 - 1)], 255, 1, by decide +kernel⟩⟩

/-- States and operands that meet the hypotheses of each clause of `Obligations.ErrorResponse`. -/
theorem witness_ErrorResponse :
    (∃ (s : State) (cls : Nat), (2 ≤ cls) ∧ (cls ≤ 4) ∧ (s.err.first = none)) ∧
    (∃ (s : State), (s.err.fatal = none)) ∧
    (∃ (s : State) (k : Nat), (s.err.fatal = none) ∧ (k < 32)) ∧
    (∃ (s : State) (f : ErrRec), (s.err.fatal = some f)) :=
  ⟨⟨dev [], 4, by decide +kernel⟩,
   ⟨dev [], by decide +kernel⟩,
   ⟨dev [(F.TIER_DMR_CTRL.ENABLE 31, 1)], 31, by decide +kernel⟩,
   ⟨{ dev [] with err := { fatal := some { code := 1, cls := 5, source := 1, inst := 0, count := 1, seq := 0, tb := 0, addr := 0, detail := 0, lastUs := 0 } } }, { code := 1, cls := 5, source := 1, inst := 0, count := 1, seq := 0, tb := 0, addr := 0, detail := 0, lastUs := 0 }, by decide +kernel⟩⟩

/-- States and operands that meet the hypotheses of each clause of `Obligations.PowerEvents`. -/
theorem witness_PowerEvents :
    (∃ (s : State), (s.pwr.pl.stage = .raising)) ∧
    (∃ (s : State), (s.pwr.pl.stage = .lowering)) ∧
    (∃ (s : State) (r : Nat), (s.pwr.pl.stage = .switching) ∧ (s.asleep = false) ∧ (s.pwr.pl.reserved = some r) ∧ (r ≤ s.transit) ∧ (s.get F.PWR_PL_STATUS.CURRENT < s.pwr.pl.target)) ∧
    (∃ (s : State) (r : Nat), (s.pwr.pl.stage = .switching) ∧ (s.asleep = false) ∧ (s.pwr.pl.reserved = some r) ∧ (r ≤ s.transit) ∧ (s.pwr.pl.target ≤ s.get F.PWR_PL_STATUS.CURRENT)) ∧
    (∃ (s : State) (x : SleepSt), (s.pwr.sleep = some x) ∧ (blockDone s x.block = true) ∧ (x.block < 12)) ∧
    (∃ (s : State) (x : SleepSt), (s.pwr.sleep = some x) ∧ (blockDone s x.block = true) ∧ (12 ≤ x.block)) ∧
    (∃ (s : State) (x : SleepSt), (s.pwr.sleep = some x) ∧ (x.block ∈ [1, 3, 4, 5, 6, 8, 12]) ∧ ((x.block ≤ 5 → blockDone s x.block = false)) ∧ (blockBudget x.target x.block ≤ s.since x.since)) ∧
    (∃ (s : State), (let w := s.get F.PWR_WAKE_TIMER.TB; (w ≠ 0) ∧ (w ≤ s.now) ∧ (s.pwr.timerDone ≠ w))) ∧
    (∃ (s : State), (s.pwr.exiting = some 0)) ∧
    (∃ (s : State), (s.pwr.exiting = some 1)) ∧
    (∃ (s : State) (l : Nat), (ptmLink s = some l) ∧ (s.asleep = false) ∧ ((s.time.lastPtm = 0 ∨ s.get F.TB_DISC.INTERVAL_MS * 1000000 ≤ s.since s.time.lastPtm))) ∧
    (∃ (s : State), (ptmLink s = none)) ∧
    (∃ (s : State), (s.flag F.TB_STATUS.LOCKED = true) ∧ (s.asleep = false) ∧ (2 ^ 20 * 40 ≤ s.since s.time.trimTb)) :=
  ⟨⟨{ dev [] with pwr := { pl := { stage := .raising } } }, by decide +kernel⟩,
   ⟨{ dev [] with pwr := { pl := { stage := .lowering } } }, by decide +kernel⟩,
   ⟨{ dev [] with pwr := { pl := { stage := .switching, target := 5, reserved := some 0 } } }, 0, by decide +kernel⟩,
   ⟨{ dev [(F.PWR_PL_STATUS.CURRENT, 5)] with pwr := { pl := { stage := .switching, target := 5, reserved := some 0 } } }, 0, by decide +kernel⟩,
   ⟨{ dev [] with pwr := { sleep := some { packet := pk 2, target := 2, from1 := false, block := 2, since := 0 } }, tb := 1000000000000 }, { packet := pk 2, target := 2, from1 := false, block := 2, since := 0 }, by decide +kernel⟩,
   ⟨{ dev [] with pwr := { sleep := some { packet := pk 2, target := 2, from1 := false, block := 12, since := 0 } }, tb := 1000000000000 }, { packet := pk 2, target := 2, from1 := false, block := 12, since := 0 }, by decide +kernel⟩,
   ⟨{ dev [] with pwr := { sleep := some { packet := pk 2, target := 2, from1 := false, block := 12, since := 0 } }, tb := 1000000000000 }, { packet := pk 2, target := 2, from1 := false, block := 12, since := 0 }, by decide +kernel⟩,
   ⟨{ dev [(F.PWR_WAKE_TIMER.TB, 5)] with tb := 5 }, by decide +kernel⟩,
   ⟨{ dev [] with pwr := { exiting := some 0 } }, by decide +kernel⟩,
   ⟨{ dev [] with pwr := { exiting := some 1 } }, by decide +kernel⟩,
   ⟨{ dev [(F.HP_PTM_SEL.VALID 0, 1), (F.HP_PTM_SEL.LINK 0, 15)] with links := ⟨[(15, { up := true, ptm := true })]⟩ }, 15, by decide +kernel⟩,
   ⟨dev [], by decide +kernel⟩,
   ⟨{ dev [(F.TB_STATUS.LOCKED, 1)] with tb := 41943040 }, by decide +kernel⟩⟩

/-- States and operands that meet the hypotheses of each clause of `Obligations.SlotRows`. -/
theorem witness_SlotRows :
    (∃ (s : State) (c : Fin 16), (slotState s c = 1) ∧ (s.get (F.SPW_SLOT_CFG.INS_DELAY c) * 10000000 ≤ s.since (s.spw.get c).since)) ∧
    (∃ (s : State) (c : Fin 16), (s.flag (F.SPW_SLOT_STATUS.LIMITING c) = false) ∧ (slotState s c = 2)) ∧
    (∃ (s : State) (c : Fin 16), (slotState s c = 2) ∧ (100000000 ≤ s.since (s.spw.get c).since)) ∧
    (∃ (s : State) (c : Fin 16), (slotState s c = 3) ∧ ((s.spw.get c).fully = true) ∧ ((s.spw.get c).timer = none) ∧ (s.get (F.SPW_SLOT_CFG.PG_DELAY c) * 100000 ≤ s.since (s.spw.get c).since)) ∧
    (∃ (s : State) (c : Fin 16), (gateDriven s c = true) ∧ (s.flag (F.SPW_SLOT_STATUS.LIMITING c) = false)) ∧
    (∃ (s : State) (c : Fin 16), (s.flag (F.SPW_SLOT_STATUS.LIMITING c) = true)) ∧
    (∃ (s : State) (c : Fin 16) (a : Nat), ((s.spw.get c).timer = some a) ∧ (gateDriven s c = true) ∧ (s.get (F.SPW_SLOT_CFG.FAULT_T c) * 100000 ≤ s.since a)) ∧
    (∃ (s : State) (c : Fin 16) (low : Bool), (slotState s c = 5) ∧ (low = true ∨ 150000000 ≤ s.since (s.spw.get c).since)) ∧
    (∃ (s : State) (c : Fin 16) (a : Bool) (b : Bool), ((s.flag (F.SPW_SLOT_STATUS.PRSNT0 c) ≠ a ∨ s.flag (F.SPW_SLOT_STATUS.PRSNT1 c) ≠ b)) ∧ (slotState s c = 0)) ∧
    (∃ (v : BitVec 16), (10800 < v.toNat) ∧ (v.toNat < 13200)) ∧
    (∃ (s : State) (c : Fin 16) (v : BitVec 16), (v.toNat < 10500) ∧ (gateDriven s c = true)) ∧
    (∃ (s : State) (c : Fin 16) (a : Nat), ((s.spw.get c).pgTb = some a) ∧ (slotState s c = 4) ∧ (10000000 ≤ s.since a)) ∧
    (∃ (s : State) (c : Fin 16), ((s.spw.get c).spdBusy = true) ∧ (s.flag (F.SPW_SLOT_STATUS.PRSNT0 c) = true) ∧ (s.flag (F.SPW_SLOT_STATUS.PRSNT1 c) = true)) :=
  ⟨⟨{ dev [(F.SPW_SLOT_STATUS.STATE 15, 1)] with tb := 1000000000000 }, 15, by decide +kernel⟩,
   ⟨dev [(F.SPW_SLOT_STATUS.STATE 15, 2)], 15, by decide +kernel⟩,
   ⟨{ dev [(F.SPW_SLOT_STATUS.STATE 15, 2)] with tb := 100000000 }, 15, by decide +kernel⟩,
   ⟨{ dev [(F.SPW_SLOT_STATUS.STATE 15, 3)] with tb := 1000000000000, spw := ⟨[(15, { fully := true })]⟩ }, 15, by decide +kernel⟩,
   ⟨dev [(F.SPW_SLOT_STATUS.STATE 15, 4)], 15, by decide +kernel⟩,
   ⟨dev [(F.SPW_SLOT_STATUS.STATE 15, 4), (F.SPW_SLOT_STATUS.LIMITING 15, 1)], 15, by decide +kernel⟩,
   ⟨{ dev [(F.SPW_SLOT_STATUS.STATE 15, 4)] with tb := 1000000000000, spw := ⟨[(15, { timer := some 0 })]⟩ }, 15, 0, by decide +kernel⟩,
   ⟨dev [(F.SPW_SLOT_STATUS.STATE 15, 5)], 15, true, by decide +kernel⟩,
   ⟨dev [], 15, true, false, by decide +kernel⟩,
   ⟨10801, by decide +kernel⟩,
   ⟨dev [(F.SPW_SLOT_STATUS.STATE 15, 4)], 15, 10499, by decide +kernel⟩,
   ⟨{ dev [(F.SPW_SLOT_STATUS.STATE 15, 4)] with tb := 10000000, spw := ⟨[(15, { pgTb := some 0 })]⟩ }, 15, 0, by decide +kernel⟩,
   ⟨{ dev [(F.SPW_SLOT_STATUS.PRSNT0 15, 1), (F.SPW_SLOT_STATUS.PRSNT1 15, 1)] with spw := ⟨[(15, { spdBusy := true })]⟩ }, 15, by decide +kernel⟩⟩

/-- States and operands that meet the hypotheses of each clause of `Obligations.StitchTimers`. -/
theorem witness_StitchTimers :
    (∃ (s : State) (p : Fin 4) (a : Nat), (portState s p = 6) ∧ ((portSt s p).ackTb = some a) ∧ (200 ≤ s.since a)) ∧
    (∃ (s : State) (p : Fin 4) (a : Nat), (portState s p = 6) ∧ ((portSt s p).wait = true) ∧ ((portSt s p).nakTb = some a) ∧ (1000 ≤ s.since a)) ∧
    (∃ (s : State) (p : Fin 4) (a : Nat), (portState s p = 6) ∧ ((portSt s p).replayTb = some a) ∧ (1000 ≤ s.since a)) ∧
    (∃ (s : State) (p : Fin 4) (a : Nat), (1 ≤ portState s p) ∧ (portState s p ≤ 5) ∧ ((portSt s p).attempt = some a) ∧ (100000 ≤ s.since a)) ∧
    (∃ (s : State) (p : Fin 4), (portState s p = 5) ∧ ((∀ a, (portSt s p).lastSync = some a → 1000 ≤ s.since a))) ∧
    (∃ (s : State) (p : Fin 4), (portState s p = 5) ∧ ((portSt s p).syncGot = true) ∧ ((portSt s p).seenGot = true)) ∧
    (∃ (s : State) (p : Fin 4), (2 ^ 20 ≤ (portSt s p).window) ∧ (spareFree s p = true) ∧ (noisyLanes s p = [])) ∧
    (∃ (s : State) (p : Fin 4) (l : Nat), (2 ^ 20 ≤ (portSt s p).window) ∧ (spareFree s p = true) ∧ (noisyLanes s p = [l])) ∧
    (∃ (s : State) (p : Fin 4), (2 ^ 20 ≤ (portSt s p).window) ∧ (spareFree s p = true) ∧ (2 ≤ (noisyLanes s p).length)) ∧
    (∃ (s : State) (p : Fin 4) (l : Fin 9), (portState s p = 6) ∧ (l.val < 8) ∧ (l.val < laneCount s p) ∧ (spareFree s p = true)) ∧
    (∃ (s : State) (p : Fin 4) (l : Fin 9), (portState s p = 6) ∧ (l.val < 8) ∧ (l.val < laneCount s p) ∧ (spareFree s p = false) ∧ (((portSt s p).spareReq = some l.val ∨ (portSt s p).rxSpare = some l.val))) ∧
    (∃ (s : State) (p : Fin 4) (l : Fin 9), (portState s p = 6) ∧ (l.val < 8) ∧ (l.val < laneCount s p) ∧ (spareFree s p = false) ∧ ((portSt s p).spareReq ≠ some l.val) ∧ ((portSt s p).rxSpare ≠ some l.val)) ∧
    (∃ (s : State) (p : Fin 4), (portState s p = 6) ∧ ((portSt s p).spare.isSome = true) ∧ (((portSt s p).rxSpare.isSome || (portSt s p).spareReq.isSome) = true)) ∧
    (∃ (s : State) (p : Fin 4), (portState s p = 6) ∧ ((portSt s p).spare.isSome = true) ∧ ((portSt s p).rxSpare = none) ∧ ((portSt s p).spareReq = none)) ∧
    (∃ (s : State) (p : Fin 4), (portState s p = 6)) ∧
    (∃ (s : State) (p : Fin 4) (l : Nat), (portState s p = 6) ∧ ((portSt s p).spareReq = some l) ∧ (1000 ≤ s.since (portSt s p).spareReqTb)) ∧
    (∃ (s : State) (p : Fin 4), (s.flag (F.ST_PORT_CTRL.DISABLE p) = false)) :=
  ⟨⟨stDev { ackTb := some 0 }, 3, 0, by decide +kernel⟩,
   ⟨stDev { wait := true, nakTb := some 0 }, 3, 0, by decide +kernel⟩,
   ⟨stDev { replayTb := some 0 }, 3, 0, by decide +kernel⟩,
   ⟨stDev { attempt := some 0 } [(F.ST_PORT_STATUS.STATE 3, 5)], 3, 0, by decide +kernel⟩,
   ⟨{ dev [(F.ST_PORT_STATUS.STATE 3, 5)] with stPorts := ⟨[(3, { lastSync := none })]⟩ }, 3, ⟨by decide +kernel, by intro a h; cases h⟩⟩,
   ⟨stDev { syncGot := true, seenGot := true } [(F.ST_PORT_STATUS.STATE 3, 5)], 3, by decide +kernel⟩,
   ⟨stDev { window := 2 ^ 20, spare := some 8 }, 3, by decide +kernel⟩,
   ⟨stDev { window := 2 ^ 20, spare := some 8 } [(F.ST_PORT_LANEERR.LANE 3 7, 65535)], 3, 7, by decide +kernel⟩,
   ⟨stDev { window := 2 ^ 20, spare := some 8 } [(F.ST_PORT_LANEERR.LANE 3 7, 65535), (F.ST_PORT_LANEERR.LANE 3 0, 65535)], 3, by decide +kernel⟩,
   ⟨stDev { spare := some 8 } [(F.ST_PORT_STATUS.WIDTH 3, 4)], 3, 7, by decide +kernel⟩,
   ⟨stDev { spare := some 8, spareReq := some 7 } [(F.ST_PORT_STATUS.WIDTH 3, 4)], 3, 7, by decide +kernel⟩,
   ⟨stDev { spare := some 8, spareReq := some 6 } [(F.ST_PORT_STATUS.WIDTH 3, 4)], 3, 7, by decide +kernel⟩,
   ⟨stDev { spare := some 8, spareReq := some 6 }, 3, by decide +kernel⟩,
   ⟨stDev { spare := some 8 }, 3, by decide +kernel⟩,
   ⟨stDev {}, 3, by decide +kernel⟩,
   ⟨stDev { spareReq := some 7 }, 3, 7, by decide +kernel⟩,
   ⟨dev [(F.ST_PORT_CTRL.DISABLE 3, 0)], 3, by decide +kernel⟩⟩

/-- States and operands that meet the hypotheses of each clause of `Obligations.StitchMessages`. -/
theorem witness_StitchMessages :
    (∃ (s : State) (u : State) (p : Fin 4) (m : StMsg) (n : StMsg), (nextMsg (portSt s p) 0 = some m) ∧ (takeHead p 0 s = some (n, u)) ∧ (m.opcode = 1)) ∧
    (∃ (s : State) (u : State) (p : Fin 4) (m : StMsg) (n : StMsg), (nextMsg (portSt s p) 0 = some m) ∧ (takeHead p 0 s = some (n, u)) ∧ (m.opcode = 2)) ∧
    (∃ (s : State) (u : State) (p : Fin 4) (m : StMsg) (n : StMsg), (nextMsg (portSt s p) 0 = some m) ∧ (takeHead p 0 s = some (n, u)) ∧ (m.opcode = 3)) ∧
    (∃ (s : State) (u : State) (p : Fin 4) (m : StMsg) (n : StMsg), (nextMsg (portSt s p) 0 = some m) ∧ (takeHead p 0 s = some (n, u)) ∧ (m.opcode = 4)) ∧
    (∃ (s : State) (u : State) (p : Fin 4) (m : StMsg) (n : StMsg), (nextMsg (portSt s p) 0 = some m) ∧ (takeHead p 0 s = some (n, u)) ∧ (m.opcode = 5)) ∧
    (∃ (s : State) (u : State) (p : Fin 4) (m : StMsg) (n : StMsg), (nextMsg (portSt s p) 0 = some m) ∧ (takeHead p 0 s = some (n, u)) ∧ (m.opcode = 6)) ∧
    (∃ (s : State) (u : State) (p : Fin 4) (m : StMsg) (n : StMsg), (nextMsg (portSt s p) 0 = some m) ∧ (takeHead p 0 s = some (n, u)) ∧ (m.opcode = 7)) ∧
    (∃ (s : State) (u : State) (p : Fin 4) (m : StMsg) (n : StMsg), (nextMsg (portSt s p) 3 = some m) ∧ (takeHead p 3 s = some (n, u)) ∧ (m.opcode = 0x41)) ∧
    (∃ (s : State) (u : State) (p : Fin 4) (m : StMsg) (n : StMsg), (nextMsg (portSt s p) 3 = some m) ∧ (takeHead p 3 s = some (n, u)) ∧ (m.opcode = 0x42)) ∧
    (∃ (s : State) (u : State) (p : Fin 4) (m : StMsg) (n : StMsg), (nextMsg (portSt s p) 1 = some m) ∧ (takeHead p 1 s = some (n, u)) ∧ (m.opcode = 0x21)) ∧
    (∃ (s : State) (u : State) (p : Fin 4) (m : StMsg) (n : StMsg), (nextMsg (portSt s p) 1 = some m) ∧ (takeHead p 1 s = some (n, u)) ∧ (m.opcode = 0x22)) ∧
    (∃ (s : State) (u : State) (p : Fin 4) (m : StMsg) (n : StMsg), (nextMsg (portSt s p) 1 = some m) ∧ (takeHead p 1 s = some (n, u)) ∧ (m.opcode = 0x23)) ∧
    (∃ (s : State) (u : State) (p : Fin 4) (v : Nat) (m : StMsg) (n : StMsg), (v ∈ [0, 1, 3]) ∧ (nextMsg (portSt s p) v = some m) ∧ (definedOp v m = false) ∧ ((∀ w ∈ [0, 1, 3], w < v → ∀ x, nextMsg (portSt s p) w = some x → definedOp w x = true)) ∧ (takeHead p v s = some (n, u))) ∧
    (∃ (s : State) (p : Fin 4) (l : Fin 9) (d : BitVec 9) (b : BitVec 576) (a : Bool), (let t := trainingBlockIn p l d b a s; ((portSt t p).cold = false ∨ (portSt s p).cold = true))) ∧
    (∃ (s : State) (p : Fin 4) (l : Fin 9) (d : BitVec 9) (b : BitVec 576) (a : Bool), (let t := trainingBlockIn p l d b a s; ((portSt t p).cold = true) ∧ ((portSt s p).cold = false))) :=
  ⟨⟨stDev { rxReq := [mkMsg 1 0] }, ((takeHead 3 0 (stDev { rxReq := [mkMsg 1 0] })).get (by decide +kernel)).2, 3, mkMsg 1 0, ((takeHead 3 0 (stDev { rxReq := [mkMsg 1 0] })).get (by decide +kernel)).1, by decide +kernel⟩,
   ⟨stDev { rxReq := [mkMsg 2 0] }, ((takeHead 3 0 (stDev { rxReq := [mkMsg 2 0] })).get (by decide +kernel)).2, 3, mkMsg 2 0, ((takeHead 3 0 (stDev { rxReq := [mkMsg 2 0] })).get (by decide +kernel)).1, by decide +kernel⟩,
   ⟨stDev { rxReq := [mkMsg 3 0] }, ((takeHead 3 0 (stDev { rxReq := [mkMsg 3 0] })).get (by decide +kernel)).2, 3, mkMsg 3 0, ((takeHead 3 0 (stDev { rxReq := [mkMsg 3 0] })).get (by decide +kernel)).1, by decide +kernel⟩,
   ⟨stDev { rxReq := [mkMsg 4 0] }, ((takeHead 3 0 (stDev { rxReq := [mkMsg 4 0] })).get (by decide +kernel)).2, 3, mkMsg 4 0, ((takeHead 3 0 (stDev { rxReq := [mkMsg 4 0] })).get (by decide +kernel)).1, by decide +kernel⟩,
   ⟨stDev { rxReq := [mkMsg 5 0] }, ((takeHead 3 0 (stDev { rxReq := [mkMsg 5 0] })).get (by decide +kernel)).2, 3, mkMsg 5 0, ((takeHead 3 0 (stDev { rxReq := [mkMsg 5 0] })).get (by decide +kernel)).1, by decide +kernel⟩,
   ⟨stDev { rxReq := [mkMsg 6 0] }, ((takeHead 3 0 (stDev { rxReq := [mkMsg 6 0] })).get (by decide +kernel)).2, 3, mkMsg 6 0, ((takeHead 3 0 (stDev { rxReq := [mkMsg 6 0] })).get (by decide +kernel)).1, by decide +kernel⟩,
   ⟨stDev { rxReq := [mkMsg 7 0] }, ((takeHead 3 0 (stDev { rxReq := [mkMsg 7 0] })).get (by decide +kernel)).2, 3, mkMsg 7 0, ((takeHead 3 0 (stDev { rxReq := [mkMsg 7 0] })).get (by decide +kernel)).1, by decide +kernel⟩,
   ⟨stDev { rxSnp := [mkMsg 65 0] }, ((takeHead 3 3 (stDev { rxSnp := [mkMsg 65 0] })).get (by decide +kernel)).2, 3, mkMsg 65 0, ((takeHead 3 3 (stDev { rxSnp := [mkMsg 65 0] })).get (by decide +kernel)).1, by decide +kernel⟩,
   ⟨stDev { rxSnp := [mkMsg 66 0] }, ((takeHead 3 3 (stDev { rxSnp := [mkMsg 66 0] })).get (by decide +kernel)).2, 3, mkMsg 66 0, ((takeHead 3 3 (stDev { rxSnp := [mkMsg 66 0] })).get (by decide +kernel)).1, by decide +kernel⟩,
   ⟨stDev { rxRsp := [mkMsg 33 0] }, ((takeHead 3 1 (stDev { rxRsp := [mkMsg 33 0] })).get (by decide +kernel)).2, 3, mkMsg 33 0, ((takeHead 3 1 (stDev { rxRsp := [mkMsg 33 0] })).get (by decide +kernel)).1, by decide +kernel⟩,
   ⟨stDev { rxRsp := [mkMsg 34 0] }, ((takeHead 3 1 (stDev { rxRsp := [mkMsg 34 0] })).get (by decide +kernel)).2, 3, mkMsg 34 0, ((takeHead 3 1 (stDev { rxRsp := [mkMsg 34 0] })).get (by decide +kernel)).1, by decide +kernel⟩,
   ⟨stDev { rxRsp := [mkMsg 35 0] }, ((takeHead 3 1 (stDev { rxRsp := [mkMsg 35 0] })).get (by decide +kernel)).2, 3, mkMsg 35 0, ((takeHead 3 1 (stDev { rxRsp := [mkMsg 35 0] })).get (by decide +kernel)).1, by decide +kernel⟩,
   ⟨stDev { rxSnp := [mkMsg 127 0] }, ((takeHead 3 3 (stDev { rxSnp := [mkMsg 127 0] })).get (by decide +kernel)).2, 3, 3, mkMsg 127 0, ((takeHead 3 3 (stDev { rxSnp := [mkMsg 127 0] })).get (by decide +kernel)).1, ⟨by decide +kernel, by decide +kernel, by decide +kernel, (fun w hw h x hx => by simp only [List.mem_cons, List.not_mem_nil, or_false] at hw; rcases hw with rfl | rfl | rfl <;> first | exact absurd h (by decide) | exact nomatch hx.symm.trans (by decide +kernel : nextMsg _ _ = none)), by decide +kernel⟩⟩,
   ⟨({} : State), 3, 8, 0, 0, true, by decide +kernel⟩,
   ⟨stDev { cold := false, map := [0, 1, 2, 3, 4, 5, 6, 7], peerFlags := 3, peerWidths := 15, peerSpeeds := 7, detected := [0, 1, 2, 3, 4, 5, 6, 7], locked := [0, 1, 2, 3, 4, 5, 6, 7], peerMap := [(0, 0), (1, 1), (2, 2), (3, 3), (4, 4), (5, 5), (6, 6), (7, 7), (8, 0xFF)] } [(F.ST_PORT_STATUS.STATE 3, 2), (F.ST_PORT_CFG.MAX_WIDTH 3, 15), (F.ST_PORT_CFG.MAX_SPEED 3, 7)], 3, 0, 0, trainingBlock (stDev { cold := true, map := [0, 1, 2, 3, 4, 5, 6, 7], detected := [0, 1, 2, 3, 4, 5, 6, 7], locked := [0, 1, 2, 3, 4, 5, 6, 7], peerMap := [(0, 0), (1, 1), (2, 2), (3, 3), (4, 4), (5, 5), (6, 6), (7, 7), (8, 0xFF)] } [(F.ST_PORT_STATUS.STATE 3, 2), (F.ST_PORT_CFG.MAX_WIDTH 3, 15), (F.ST_PORT_CFG.MAX_SPEED 3, 7)]) 3 0, true, by decide +kernel⟩⟩

/-- States and operands that meet the hypotheses of each clause of `Obligations.ClutchMessages`. -/
theorem witness_ClutchMessages :
    (∃ (s : State) (u : State) (p : Fin 4) (h : StMsg) (m : StMsg) (act : StMsg → State → State) (i : Instr) (op : Nat), ((i, op, act) ∈ [(Instr.hello p, 1, takeHello), (.roster p, 2, takeRoster),
      (.routeSet p, 3, fun m s => showLinks (applyRoutes (toBytes 64 (m.beats.getD 0 (byteBeat [])).data.toNat) s)),
      (.hold p, 4, fun m s => beginHold m.src.toNat (goingOn m.src.toNat s) s),
      (.held p, 5, fun m s => checkHeld { s with clu := { s.clu with heldFrom := m.src.toNat :: s.clu.heldFrom } }),
      (.resume p, 6, fun m s => if slice m.arg.toNat 8 24 = s.get F.CLU_STATUS.EPOCH % 2 ^ 24 then
        pump { s with clu := { s.clu with hold := false, heldSent := false } } else s),
      (.linkDown p, 7, fun m s => addReport m.src.toNat (slice m.arg.toNat 8 2) (slice m.arg.toNat 16 6) s),
      (.claim p, 8, fun m s => { s with clu := { s.clu with claims := m.src.toNat :: s.clu.claims } }),
      (.level p, 9, fun m s => checkLeaving { s with
        levels := s.levels.set m.src.toNat (some (slice m.arg.toNat 8 2, slice m.arg.toNat 10 22)),
        clu := { s.clu with
          totals := cellInsert m.src.toNat (max (slice m.arg.toNat 10 22) ((cellFind m.src.toNat s.clu.totals).getD 0)) s.clu.totals } }),
      (.recallLeases p, 10, fun m s => recallFrom (slice m.arg.toNat 16 6) s),
      (.leave p, 11, fun m s =>
        if slice m.arg.toNat 16 6 = ownPath s then { s with clu := { s.clu with left := true } } else s)]) ∧ (nextMsg (portSt s p) 0 = some h) ∧ (h.opcode = 8) ∧ (h.arg.toNat % 256 = op) ∧ (takeHead p 0 s = some (m, u)) ∧ (let a := sendCmp p m.tag.toNat m.src.toNat 0 0 0 [] u; (let n := m.mask.toNat % 2 ^ 32; (a.clu.seen.contains (m.src.toNat, n) = true ∨ m.src.toNat = ownPath a)))) ∧
    (∃ (s : State) (u : State) (p : Fin 4) (h : StMsg) (m : StMsg) (act : StMsg → State → State) (i : Instr) (op : Nat), ((i, op, act) ∈ [(Instr.hello p, 1, takeHello), (.roster p, 2, takeRoster),
      (.routeSet p, 3, fun m s => showLinks (applyRoutes (toBytes 64 (m.beats.getD 0 (byteBeat [])).data.toNat) s)),
      (.hold p, 4, fun m s => beginHold m.src.toNat (goingOn m.src.toNat s) s),
      (.held p, 5, fun m s => checkHeld { s with clu := { s.clu with heldFrom := m.src.toNat :: s.clu.heldFrom } }),
      (.resume p, 6, fun m s => if slice m.arg.toNat 8 24 = s.get F.CLU_STATUS.EPOCH % 2 ^ 24 then
        pump { s with clu := { s.clu with hold := false, heldSent := false } } else s),
      (.linkDown p, 7, fun m s => addReport m.src.toNat (slice m.arg.toNat 8 2) (slice m.arg.toNat 16 6) s),
      (.claim p, 8, fun m s => { s with clu := { s.clu with claims := m.src.toNat :: s.clu.claims } }),
      (.level p, 9, fun m s => checkLeaving { s with
        levels := s.levels.set m.src.toNat (some (slice m.arg.toNat 8 2, slice m.arg.toNat 10 22)),
        clu := { s.clu with
          totals := cellInsert m.src.toNat (max (slice m.arg.toNat 10 22) ((cellFind m.src.toNat s.clu.totals).getD 0)) s.clu.totals } }),
      (.recallLeases p, 10, fun m s => recallFrom (slice m.arg.toNat 16 6) s),
      (.leave p, 11, fun m s =>
        if slice m.arg.toNat 16 6 = ownPath s then { s with clu := { s.clu with left := true } } else s)]) ∧ (nextMsg (portSt s p) 0 = some h) ∧ (h.opcode = 8) ∧ (h.arg.toNat % 256 = op) ∧ (takeHead p 0 s = some (m, u)) ∧ (let a := sendCmp p m.tag.toNat m.src.toNat 0 0 0 [] u; (let n := m.mask.toNat % 2 ^ 32; (a.clu.seen.contains (m.src.toNat, n) = false) ∧ (m.src.toNat ≠ ownPath a) ∧ (let f := floodOut (some p) m { a with clu := { a.clu with seen := remember m.src.toNat n a.clu.seen } }; (slice m.mask.toNat 32 1 = 1 ∨ m.dst.toNat = ownPath f))))) ∧
    (∃ (s : State) (u : State) (p : Fin 4) (h : StMsg) (m : StMsg) (act : StMsg → State → State) (i : Instr) (op : Nat), ((i, op, act) ∈ [(Instr.hello p, 1, takeHello), (.roster p, 2, takeRoster),
      (.routeSet p, 3, fun m s => showLinks (applyRoutes (toBytes 64 (m.beats.getD 0 (byteBeat [])).data.toNat) s)),
      (.hold p, 4, fun m s => beginHold m.src.toNat (goingOn m.src.toNat s) s),
      (.held p, 5, fun m s => checkHeld { s with clu := { s.clu with heldFrom := m.src.toNat :: s.clu.heldFrom } }),
      (.resume p, 6, fun m s => if slice m.arg.toNat 8 24 = s.get F.CLU_STATUS.EPOCH % 2 ^ 24 then
        pump { s with clu := { s.clu with hold := false, heldSent := false } } else s),
      (.linkDown p, 7, fun m s => addReport m.src.toNat (slice m.arg.toNat 8 2) (slice m.arg.toNat 16 6) s),
      (.claim p, 8, fun m s => { s with clu := { s.clu with claims := m.src.toNat :: s.clu.claims } }),
      (.level p, 9, fun m s => checkLeaving { s with
        levels := s.levels.set m.src.toNat (some (slice m.arg.toNat 8 2, slice m.arg.toNat 10 22)),
        clu := { s.clu with
          totals := cellInsert m.src.toNat (max (slice m.arg.toNat 10 22) ((cellFind m.src.toNat s.clu.totals).getD 0)) s.clu.totals } }),
      (.recallLeases p, 10, fun m s => recallFrom (slice m.arg.toNat 16 6) s),
      (.leave p, 11, fun m s =>
        if slice m.arg.toNat 16 6 = ownPath s then { s with clu := { s.clu with left := true } } else s)]) ∧ (nextMsg (portSt s p) 0 = some h) ∧ (h.opcode = 8) ∧ (h.arg.toNat % 256 = op) ∧ (takeHead p 0 s = some (m, u)) ∧ (let a := sendCmp p m.tag.toNat m.src.toNat 0 0 0 [] u; (let n := m.mask.toNat % 2 ^ 32; (a.clu.seen.contains (m.src.toNat, n) = false) ∧ (m.src.toNat ≠ ownPath a) ∧ (let f := floodOut (some p) m { a with clu := { a.clu with seen := remember m.src.toNat n a.clu.seen } }; (slice m.mask.toNat 32 1 = 0) ∧ (m.dst.toNat ≠ ownPath f))))) :=
  ⟨⟨stDev { rxReq := [mkMsg 8 0 (arg := 1)] }, ((takeHead 3 0 (stDev { rxReq := [mkMsg 8 0 (arg := 1)] })).get (by decide +kernel)).2, 3, mkMsg 8 0 (arg := 1), ((takeHead 3 0 (stDev { rxReq := [mkMsg 8 0 (arg := 1)] })).get (by decide +kernel)).1, takeHello, .hello 3, 1, ⟨.head _, by decide +kernel⟩⟩,
   ⟨stDev { rxReq := [{ mkMsg 8 0 (arg := 1) (mask := 0x100000001) with src := 5 }] }, ((takeHead 3 0 (stDev { rxReq := [{ mkMsg 8 0 (arg := 1) (mask := 0x100000001) with src := 5 }] })).get (by decide +kernel)).2, 3, { mkMsg 8 0 (arg := 1) (mask := 0x100000001) with src := 5 }, ((takeHead 3 0 (stDev { rxReq := [{ mkMsg 8 0 (arg := 1) (mask := 0x100000001) with src := 5 }] })).get (by decide +kernel)).1, takeHello, .hello 3, 1, ⟨.head _, by decide +kernel⟩⟩,
   ⟨stDev { rxReq := [{ mkMsg 8 9 (arg := 1) with src := 5 }] }, ((takeHead 3 0 (stDev { rxReq := [{ mkMsg 8 9 (arg := 1) with src := 5 }] })).get (by decide +kernel)).2, 3, { mkMsg 8 9 (arg := 1) with src := 5 }, ((takeHead 3 0 (stDev { rxReq := [{ mkMsg 8 9 (arg := 1) with src := 5 }] })).get (by decide +kernel)).1, takeHello, .hello 3, 1, ⟨.head _, by decide +kernel⟩⟩⟩

/-- States and operands that meet the hypotheses of each clause of `Obligations.ClutchTimers`. -/
theorem witness_ClutchTimers :
    (∃ (s : State), (s.inClutch = true) ∧ (fenced s = false) ∧ ((∀ a, s.clu.helloTransit = some a → a + 1000 ≤ s.transit))) ∧
    (∃ (s : State) (a : Nat), (s.clu.beganTb = some a) ∧ (s.get F.CLU_CFG.SETTLE_MS * 1000000 ≤ s.since a) ∧ (s.get F.CLU_STATUS.STATE = 1) ∧ (s.clu.rosterSeen = false) ∧ (s.clu.headTb = none) ∧ ((∀ h ∈ s.clu.hellos, ownPath s ≤ h.path))) ∧
    (∃ (s : State) (a : Nat), (s.clu.headTb = some a) ∧ (s.get F.CLU_STATUS.STATE = 1) ∧ (s.clu.formFailed = false) ∧ (2000000000 ≤ s.since a)) ∧
    (∃ (s : State), (isHead s = true) ∧ ((∀ a, s.clu.rosterTransit = some a → a + 1000 ≤ s.transit))) ∧
    (∃ (s : State) (a : Nat), (s.clu.linkTb = some a) ∧ (isHead s = true) ∧ (s.get F.CLU_CFG.SETTLE_MS * 1000000 ≤ s.since a) ∧ (let m := survivors s (ownPath s); (let b : State := { s with clu := { s.clu with linkTb := none } }; (bitOf m (ownPath s) = true) ∧ (majority b m = true)))) ∧
    (∃ (s : State) (a : Nat), (s.clu.linkTb = some a) ∧ (isHead s = true) ∧ (s.get F.CLU_CFG.SETTLE_MS * 1000000 ≤ s.since a) ∧ (let m := survivors s (ownPath s); (let b : State := { s with clu := { s.clu with linkTb := none } }; (bitOf m (ownPath s) = false ∨ majority b m = false)))) ∧
    (∃ (s : State), ((s.get F.CLU_STATUS.STATE = 2 ∨ s.get F.CLU_STATUS.STATE = 3)) ∧ (isHead s = false) ∧ (s.clu.claimTb = none) ∧ (s.clu.deferTb = none) ∧ (s.get F.CLU_CFG.HEAD_MS * 1000000 ≤ s.since s.clu.heardTb)) ∧
    (∃ (s : State) (a : Nat), (s.clu.claimTb = some a) ∧ (s.get F.CLU_CFG.SETTLE_MS * 1000000 ≤ s.since a) ∧ ((∃ p ∈ s.clu.claims, p < ownPath s))) ∧
    (∃ (s : State) (a : Nat), (s.clu.claimTb = some a) ∧ (s.get F.CLU_CFG.SETTLE_MS * 1000000 ≤ s.since a) ∧ (let m := ofBits ((List.range 64).map (fun p => bitOf (s.get F.CLU_ROSTER.MAP) p && p != s.get F.CLU_STATUS.HEAD && (p == ownPath s || s.clu.claims.contains p))); (let b : State := { s with clu := { s.clu with claimTb := none } }; ((∀ p ∈ s.clu.claims, ownPath s ≤ p)) ∧ (majority b m = false)))) ∧
    (∃ (s : State) (a : Nat), (s.clu.claimTb = some a) ∧ (s.get F.CLU_CFG.SETTLE_MS * 1000000 ≤ s.since a) ∧ (let m := ofBits ((List.range 64).map (fun p => bitOf (s.get F.CLU_ROSTER.MAP) p && p != s.get F.CLU_STATUS.HEAD && (p == ownPath s || s.clu.claims.contains p))); (let b : State := { s with clu := { s.clu with claimTb := none } }; ((∀ p ∈ s.clu.claims, ownPath s ≤ p)) ∧ (majority b m = true)))) ∧
    (∃ (s : State) (a : Nat), (s.clu.deferTb = some a) ∧ (s.get F.CLU_CFG.HEAD_MS * 1000000 ≤ s.since a)) ∧
    (∃ (s : State) (p : Fin 4), ((portSt s p).down = false) ∧ (((∃ a, (portSt s p).leftActive = some a ∧ portState s p ≠ 6 ∧ s.get (F.ST_PORT_CFG.DOWN_US p) * 1000 ≤ s.since a) ∨
      8 ≤ ((portSt s p).resets.filter (fun t => decide (s.transit < t + 1000000))).length)) ∧ (let b := (setPort p (fun x => { x with down := true }) s).log 0x42 p; (b.inClutch = false))) ∧
    (∃ (s : State) (p : Fin 4), ((portSt s p).down = false) ∧ (((∃ a, (portSt s p).leftActive = some a ∧ portState s p ≠ 6 ∧ s.get (F.ST_PORT_CFG.DOWN_US p) * 1000 ≤ s.since a) ∨
      8 ≤ ((portSt s p).resets.filter (fun t => decide (s.transit < t + 1000000))).length)) ∧ (let b := (setPort p (fun x => { x with down := true }) s).log 0x42 p; (b.inClutch = true))) :=
  ⟨⟨{ dev [(F.CLU_CFG.DEPTH, 1)] with clu := {} }, ⟨by decide +kernel, by decide +kernel, by intro a h; cases h⟩⟩,
   ⟨{ dev [(F.CLU_STATUS.STATE, 1)] with clu := { beganTb := some 0 }, tb := 1000000000000 }, 0, by decide +kernel⟩,
   ⟨{ dev [(F.CLU_STATUS.STATE, 1)] with clu := { headTb := some 0 }, tb := 1000000000000 }, 0, by decide +kernel⟩,
   ⟨{ dev [(F.CLU_STATUS.STATE, 3)] with clu := {} }, ⟨by decide +kernel, by intro a h; cases h⟩⟩,
   ⟨{ dev [(F.CLU_STATUS.STATE, 2), (F.CLU_ROSTER.MAP, 1)] with clu := { linkTb := some 0 }, tb := 1000000000000 }, 0, by decide +kernel⟩,
   ⟨{ dev [(F.CLU_STATUS.STATE, 2), (F.CLU_ROSTER.MAP, 7)] with clu := { linkTb := some 0 }, tb := 1000000000000 }, 0, by decide +kernel⟩,
   ⟨{ dev [(F.CLU_STATUS.STATE, 2), (F.CLU_STATUS.HEAD, 3)] with clu := {}, tb := 1000000000000 }, by decide +kernel⟩,
   ⟨{ dev [(F.CLU_CFG.DEPTH, 1), (F.CLU_CFG.PATH, 3)] with clu := { claimTb := some 0, claims := [1] }, tb := 1000000000000 }, 0, by decide +kernel⟩,
   ⟨{ dev [(F.CLU_ROSTER.MAP, 7), (F.CLU_STATUS.HEAD, 2)] with clu := { claimTb := some 0, claims := [] }, tb := 1000000000000 }, 0, by decide +kernel⟩,
   ⟨{ dev [(F.CLU_ROSTER.MAP, 7), (F.CLU_STATUS.HEAD, 2)] with clu := { claimTb := some 0, claims := [1] }, tb := 1000000000000 }, 0, by decide +kernel⟩,
   ⟨{ dev [] with clu := { deferTb := some 0 }, tb := 1000000000000 }, 0, by decide +kernel⟩,
   ⟨{ dev [] with stPorts := ⟨[(3, { resets := [0, 0, 0, 0, 0, 0, 0, 0] })]⟩ }, 3, ⟨by decide +kernel, .inr (by decide +kernel), by decide +kernel⟩⟩,
   ⟨{ dev [(F.CLU_CFG.DEPTH, 1)] with stPorts := ⟨[(3, { leftActive := some 0 })]⟩, tb := 1000000000000 }, 3, ⟨by decide +kernel, .inl ⟨0, by decide +kernel⟩, by decide +kernel⟩⟩⟩

/-- States and operands that meet the hypotheses of each clause of `Obligations.ThermalRows`. -/
theorem witness_ThermalRows :
    (∃ (s : State) (k : Fin 64), (unitWaits s 0x0B k = true) ∧ (sampled s k = true)) ∧
    (∃ (s : State) (k : Fin 64), (unitWaits s 0x0B k = true) ∧ (sampled s k = false)) ∧
    (∃ (s : State), (unitWaits s 0x0C 0 = true)) ∧
    (∃ (s : State) (c : BitVec 16), (16 * (s.get F.THM_CFG.REF_SHUT_C : Int) ≤ toSigned 16 c.toNat)) ∧
    (∃ (s : State), (s.thm.tripped = false)) ∧
    (∃ (s : State) (n : Nat), (n < 6) ∧ (s.get (F.PWR_PL_CFG.VOLT_MV n) < 2 ^ (F.PWR_PL_CFG.VOLT_MV n).width)) ∧
    (∃ (s : State), (s.flag F.HK_REMARGIN_CFG.ENABLE = true) ∧ (s.hk.target = none) ∧ (s.asleep = false) ∧ (s.get F.HK_REMARGIN_CFG.PERIOD_S * 1000000000 ≤ s.since s.hk.passTb)) ∧
    (∃ (s : State) (x : Nat), (s.hk.target = some x) ∧ (unitWaits s 0x10 x = true)) ∧
    (∃ (s : State), (s.asleep = false) ∧ (s.sec.applied = true) ∧ (86400000000000 ≤ s.since s.hk.dayTb)) :=
  ⟨⟨due 11 44 [], 44, by decide +kernel⟩,
   ⟨due 11 63 [(F.PWR_SL_STATUS.STATE, 3)], 63, by decide +kernel⟩,
   ⟨due 12 0 [], by decide +kernel⟩,
   ⟨dev [], 0x7FFF, by decide +kernel⟩,
   ⟨dev [], by decide +kernel⟩,
   ⟨dev [], 5, by decide +kernel⟩,
   ⟨{ dev [(F.HK_REMARGIN_CFG.ENABLE, 1)] with tb := 1000000000000000 }, by decide +kernel⟩,
   ⟨{ due 16 39 [] with hk := { target := some 39 } }, 39, by decide +kernel⟩,
   ⟨{ dev [] with sec := { applied := true }, tb := 86400000000000 }, by decide +kernel⟩⟩

/-- States and operands that meet the hypotheses of each clause of `Obligations.SecurityEvents`. -/
theorem witness_SecurityEvents :
    (∃ (s : State) (j : FuseJob) (b : Nat) (rest : List Nat), (s.sec.fuse = some j) ∧ (j.left = b :: rest) ∧ (j.packet = none ∨ tjInWindow s = true) ∧ (rest = [])) ∧
    (∃ (s : State) (j : FuseJob) (b : Nat) (rest : List Nat), (s.sec.fuse = some j) ∧ (j.left = b :: rest) ∧ (j.packet = none ∨ tjInWindow s = true) ∧ (rest ≠ [])) ∧
    (∃ (b : Nat), (b < 2048) ∧ (b < 906 ∨ 921 < b)) ∧
    (∃ (b : Nat) (i : Nat), (b < 2048) ∧ (b < 906 ∨ 921 < b) ∧ (i ≠ b)) ∧
    (∃ (s : State) (j : FuseJob) (b : Nat) (rest : List Nat), (s.sec.fuse = some j) ∧ (j.left = b :: rest) ∧ (j.packet.isSome = true) ∧ (tjInWindow s = false)) ∧
    (∃ (s : State), (s.sec.running = true) ∧ (s.sec.applied = true) ∧ (s.sec.ctrl.pending = s.get F.SEC_STATUS.RUN_SLOT) ∧ (1000 ≤ s.sec.trialSlots) ∧ (s.inFatal = false) ∧ (s.sec.confirming = false) ∧ (s.sec.norOps.any (fun o => o.who == .bootCtrl) = false)) ∧
    (∃ (s : State) (x : Fin 65), (s.asleep = false) ∧ ((x.val ≠ 64 → s.coreDown = false ∧ ldReached s x = true)) ∧ ((x.val = 64 → s.mgt.rows = [])) ∧ (let a := stdArrived s (x.val == 64); (spdmAnswers a x = true))) ∧
    (∃ (s : State) (x : Fin 65) (i : BitVec 8), (s.asleep = false) ∧ ((x.val ≠ 64 → s.coreDown = false ∧ ldReached s x = true)) ∧ ((x.val = 64 → s.mgt.rows = [])) ∧ (let a := stdArrived s (x.val == 64); (spdmAnswers a x = true) ∧ (1 ≤ i.toNat) ∧ (i.toNat ≤ 6))) ∧
    (∃ (s : State) (x : Fin 65) (n : BitVec 16), (s.asleep = false) ∧ ((x.val ≠ 64 → s.coreDown = false ∧ ldReached s x = true)) ∧ ((x.val = 64 → s.mgt.rows = [])) ∧ (let a := stdArrived s (x.val == 64); (spdmAnswers a x = true) ∧ ((a.sec.sessions.get x).contains n.toNat = true))) ∧
    (∃ (s : State) (x : Fin 65), (s.asleep = false) ∧ ((x.val ≠ 64 → s.coreDown = false ∧ ldReached s x = true)) ∧ ((x.val = 64 → s.mgt.rows = [])) ∧ (let a := stdArrived s (x.val == 64); (spdmAnswers a x = true) ∧ (a.sec.dik = true))) ∧
    (∃ (s : State) (x : Fin 65) (i : BitVec 8), (s.asleep = false) ∧ ((x.val ≠ 64 → s.coreDown = false ∧ ldReached s x = true)) ∧ ((x.val = 64 → s.mgt.rows = [])) ∧ (let a := stdArrived s (x.val == 64); (spdmAnswers a x = true) ∧ (a.sec.dik = true) ∧ (1 ≤ i.toNat) ∧ (i.toNat ≤ 6))) ∧
    (∃ (s : State) (x : Fin 65), (s.asleep = false) ∧ ((x.val ≠ 64 → s.coreDown = false ∧ ldReached s x = true)) ∧ ((x.val = 64 → s.mgt.rows = [])) ∧ (let a := stdArrived s (x.val == 64); (spdmAnswers a x = true) ∧ (a.sec.dik = true) ∧ ((a.sec.sessions.get x).length < 4))) ∧
    (∃ (s : State) (l : Fin 16), (s.asleep = false) ∧ (s.coreDown = false) ∧ (ldReached s (4 * l) = true) ∧ (let a := stdArrived s false; (a.sec.running = true) ∧ ((∃ m ∈ linkSlots s l, s.sec.sessions.get m ≠ [])))) :=
  ⟨⟨{ dev [] with sec := { fuse := some { packet := none, bits := [5], left := [5] } } }, { packet := none, bits := [5], left := [5] }, 5, [], by decide +kernel⟩,
   ⟨{ dev [] with sec := { fuse := some { packet := none, bits := [5, 2047], left := [5, 2047] } } }, { packet := none, bits := [5, 2047], left := [5, 2047] }, 5, [2047], by decide +kernel⟩,
   ⟨2047, by decide +kernel⟩,
   ⟨905, 0, by decide +kernel⟩,
   ⟨{ dev [(F.THM_STATUS.TJ_MAX, 1361)] with sec := { fuse := some { packet := some (pk 0), bits := [5], left := [5] } } }, { packet := some (pk 0), bits := [5], left := [5] }, 5, [], by decide +kernel⟩,
   ⟨{ dev [] with sec := { running := true, applied := true, ctrl := { pending := 0 }, trialSlots := 1000 } }, by decide +kernel⟩,
   ⟨pdev [], 64, by decide +kernel⟩,
   ⟨pdev [], 64, 6, by decide +kernel⟩,
   ⟨{ dev [] with sec := { running := true, sessions := ⟨[(64, [9])]⟩ } }, 64, 9, by decide +kernel⟩,
   ⟨{ dev [] with sec := { running := true, dik := true } }, 64, by decide +kernel⟩,
   ⟨{ dev [] with sec := { running := true, dik := true } }, 64, 1, by decide +kernel⟩,
   ⟨{ dev [] with sec := { running := true, dik := true, sessions := ⟨[(64, [9, 8, 7])]⟩ } }, 64, by decide +kernel⟩,
   ⟨{ hostDev with sec := { running := true, sessions := ⟨[(2, [9])]⟩ } }, 0, by decide +kernel⟩⟩

/-- States and operands that meet the hypotheses of each clause of `Obligations.BootAndRegisters`. -/
theorem witness_BootAndRegisters :
    (∃ (s : State), (s.sec.running = false) ∧ (s.rst.mgtHeld = false) ∧ (s.coreDown = false)) ∧
    (∃ (s : State) (o : NorOp) (rest : List NorOp), (s.sec.norOps = o :: rest) ∧ (s.sec.norBusy = true) ∧ (o.who ≠ .fwWrite) ∧ ((o.who = .bootCtrl → o.erase ≠ 0))) ∧
    (∃ (s : State) (o : NorOp) (rest : List NorOp), (s.sec.norOps = o :: rest) ∧ (s.sec.norBusy = true) ∧ (o.who = .fwWrite)) ∧
    (∃ (s : State) (o : NorOp) (rest : List NorOp), (s.sec.norOps = o :: rest) ∧ (s.sec.norBusy = true) ∧ (o.who = .bootCtrl) ∧ (o.erase = 0)) ∧
    (∃ (s : State) (r : LogRec) (rest : List LogRec), (s.hk.queue = r :: rest) ∧ (s.asleep = false) ∧ (tjInWindow s = true) ∧ (s.sec.applied = true) ∧ (s.sec.norOps.any (fun o => o.who == .logbook) = false)) ∧
    (∃ (s : State) (a : BitVec 32), (s.asleep = false) ∧ (s.rst.mgtHeld = false) ∧ (inBlock a.toNat = false)) ∧
    (∃ (s : State) (a : BitVec 32) (w : Bool), (s.asleep = false) ∧ (s.rst.mgtHeld = false) ∧ (inBlock a.toNat = true) ∧ (a.toNat % (if w then 8 else 4) ≠ 0)) ∧
    (∃ (s : State) (a : BitVec 32) (w : Bool), (s.asleep = false) ∧ (s.rst.mgtHeld = false) ∧ (inBlock a.toNat = true) ∧ (a.toNat % (if w then 8 else 4) = 0) ∧ (inReset s a.toNat = true)) ∧
    (∃ (s : State) (a : BitVec 32) (w : Bool), (s.asleep = false) ∧ (s.rst.mgtHeld = false) ∧ (inBlock a.toNat = true) ∧ (a.toNat % (if w then 8 else 4) = 0) ∧ (inReset s a.toNat = false)) ∧
    (∃ (s : State), (s.asleep = false) ∧ (s.sec.running = true) ∧ ((s.inFatal = true ∨ unitWaits s 0x0A 0 = true))) ∧
    (∃ (s : State) (m : Fin 64) (l : List Byte), ((s.links.get (linkOfSlot m)).up = true) ∧ (packetFits l = true)) ∧
    (∃ (s : State) (m : Fin 64) (l : List Byte), ((s.links.get (linkOfSlot m)).up = true) ∧ (packetFits l = false)) ∧
    (∃ (s : State) (p : Packet), (let q : Packet := { p with muted := false }; (opDefined s p.opcode.toNat = false) ∧ (decidesNow q s = true) ∧ (tagHeld q s = false) ∧ (headerFault q = false) ∧ (goesToHead q (decidedIn q s) = false))) :=
  ⟨⟨dev [], by decide +kernel⟩,
   ⟨{ dev [] with sec := { norOps := [{ who := .logbook, addr := 0xFF0000, bytes := [1] }], norBusy := true } }, { who := .logbook, addr := 0xFF0000, bytes := [1] }, [], by decide +kernel⟩,
   ⟨{ dev [] with sec := { norOps := [{ who := .fwWrite, addr := 0x100000, bytes := [1] }], norBusy := true, fw := some (pk 0, 0) } }, { who := .fwWrite, addr := 0x100000, bytes := [1] }, [], by decide +kernel⟩,
   ⟨{ dev [] with sec := { norOps := [{ who := .bootCtrl, addr := 0, bytes := [1] }], norBusy := true } }, { who := .bootCtrl, addr := 0, bytes := [1] }, [], by decide +kernel⟩,
   ⟨{ dev [] with sec := { applied := true }, hk := { queue := [{ kind := 1, subject := 0, tb := 0, payload := [] }] } }, { kind := 1, subject := 0, tb := 0, payload := [] }, [], by decide +kernel⟩,
   ⟨dev [], 0xFFFFFFFC, by decide +kernel⟩,
   ⟨dev [], 0x120004, true, by decide +kernel⟩,
   ⟨dev [], 0x101000, false, by decide +kernel⟩,
   ⟨dev [], 0x320000, false, by decide +kernel⟩,
   ⟨{ due 10 0 [] with sec := { running := true } }, by decide +kernel⟩,
   ⟨hostDev, 2, le 16 1, by decide +kernel⟩,
   ⟨hostDev, 2, [], by decide +kernel⟩,
   ⟨pdev [], { pk 0 with opcode := 0xFFFF }, by decide +kernel⟩⟩

/-- States and operands that meet the hypotheses of each clause of `Obligations.ResetRows`. -/
theorem witness_ResetRows :
    (∃ (s : State), (s.rst.coreIn = false) ∧ (s.rst.coreHeld = false)) ∧
    (∃ (s : State), (s.rst.coreIn = true) ∧ (s.rst.pwrLow = false)) ∧
    (∃ (s : State), (s.rst.pwrLow = false)) ∧
    (∃ (s : State), (s.rst.pwrLow = true)) ∧
    (∃ (s : State), (s.rst.mgtIn = false) ∧ (s.rst.coreHeld = false)) ∧
    (∃ (s : State), (s.rst.mgtIn = true)) ∧
    (∃ (s : State), (s.asleep = false) ∧ (s.rst.mgtHeld = false)) ∧
    (∃ (s : State), (s.rst.coreHeld = true) ∧ (s.rst.coreIn = false) ∧ (s.rst.pwrLow = false) ∧ (s.rst.off = false) ∧ (10000 ≤ s.since s.rst.coreTb)) ∧
    (∃ (s : State), (s.rst.coreHeld = false) ∧ (s.rst.mgtHeld = true) ∧ (s.rst.mgtIn = false) ∧ (10000 ≤ s.since s.rst.mgtTb)) ∧
    (∃ (s : State) (a : Nat), (s.thm.tripped = true) ∧ (s.thm.stayOff = false) ∧ (s.thm.coolSince = some a) ∧ (1000000000 ≤ s.since a)) :=
  ⟨⟨dev [], by decide +kernel⟩,
   ⟨{ dev [] with rst := { coreIn := true } }, by decide +kernel⟩,
   ⟨dev [], by decide +kernel⟩,
   ⟨{ dev [] with rst := { pwrLow := true } }, by decide +kernel⟩,
   ⟨dev [], by decide +kernel⟩,
   ⟨{ dev [] with rst := { mgtIn := true } }, by decide +kernel⟩,
   ⟨dev [], by decide +kernel⟩,
   ⟨{ dev [] with rst := { coreHeld := true, mgtHeld := true }, tb := 10000 }, by decide +kernel⟩,
   ⟨{ dev [] with rst := { mgtHeld := true }, tb := 10000 }, by decide +kernel⟩,
   ⟨{ dev [] with thm := { tripped := true, coolSince := some 0 }, tb := 1000000000 }, 0, by decide +kernel⟩⟩

/-- States and operands that meet the hypotheses of each clause of `Obligations.TransitsAndHops`. -/
theorem witness_TransitsAndHops :
    (∃ (s : State), (s.rst.off = false)) ∧
    (∃ (s : State) (j : BitVec 8) (i : BitVec 8), (unitWaits s j.toNat i.toNat = true)) ∧
    (∃ (s : State) (j : BitVec 8) (i : BitVec 8) (u : JobUnit) (rest : List JobUnit), ((s.asleep = false ∨ j.toNat = 0x0B ∨ j.toNat = 0x0C)) ∧ (let n := if j.toNat = 0x0A then 0 else i.toNat; (s.jobs.get (jobKey j.toNat n) = u :: rest) ∧ (u.deadline < s.transit))) ∧
    (∃ (a : Fin 16) (b : Fin 16) (h : Hop), (let dx := max (a.val % 4) (b.val % 4) - min (a.val % 4) (b.val % 4); (h ∈ (spineRoute 6 a b).take dx))) ∧
    (∃ (a : Fin 16) (b : Fin 16) (h : Hop), (let dx := max (a.val % 4) (b.val % 4) - min (a.val % 4) (b.val % 4); (h ∈ (spineRoute 6 a b).drop dx))) ∧
    (∃ (s : State) (x : Crossing) (h : Hop) (w : BitVec 65), (crossedHop x = some h) ∧ (evenParity w = false) ∧ ((s.spine.get (hopKey h)).asked = none)) ∧
    (∃ (s : State) (h : Hop) (w : Nat), ((s.spine.get (hopKey h)).asked = some w)) ∧
    (∃ (s : State) (h : Hop) (w : Nat) (a : Nat) (rest : List (Nat × Nat)), ((s.spine.get (hopKey h)).buffer = (w, a) :: rest) ∧ ((s.spine.get (hopKey h)).asked = none) ∧ (4000 ≤ s.since a * clocksPerTransit s)) :=
  ⟨⟨dev [], by decide +kernel⟩,
   ⟨due 3 15 [], 3, 15, by decide +kernel⟩,
   ⟨{ due 3 15 [] with tb := 2000 }, 3, 15, { rel := 0, deadline := 1 }, [], by decide +kernel⟩,
   ⟨0, 15, { stop := 0, dir := 0 }, by decide +kernel⟩,
   ⟨0, 15, { stop := 3, dir := 2 }, by decide +kernel⟩,
   ⟨dev [], { src := 0, dst := 15, leg := 5 }, (crossedHop { src := 0, dst := 15, leg := 5 }).get (by decide +kernel), 1, by decide +kernel⟩,
   ⟨{ dev [] with spine := ⟨[(hopKey { stop := 3, dir := 2 }, { asked := some 5, buffer := [(4, 0), (5, 0)] })]⟩ }, { stop := 3, dir := 2 }, 5, by decide +kernel⟩,
   ⟨{ dev [] with spine := ⟨[(hopKey { stop := 3, dir := 2 }, { buffer := [(31, 0)] })]⟩, tb := 1000000000000 }, { stop := 3, dir := 2 }, 31, 0, [], by decide +kernel⟩⟩

/-- States and operands that meet the hypotheses of each clause of `Obligations.AqzTokens`. -/
theorem witness_AqzTokens :
    (∃ (pad : List Nat) (rest : List Nat) (out : List Nat) (o : List Nat) (fuel : Nat) (c : Nat) (b : Nat) (i : Nat), (0xE0 ≤ c) ∧ (c ≤ 0xE3) ∧ (let n := slice c 0 2 * 256 + b + 1; (aqzBody none pad (fuel + 1) (c :: b :: rest) out.length out = .ok o) ∧ (i < n))) ∧
    (∃ (pad : List Nat) (rest : List Nat) (out : List Nat) (o : List Nat) (fuel : Nat) (c : Nat), (c < 0x80) ∧ (aqzBody none pad (fuel + 1) (c :: rest) out.length out = .ok o)) ∧
    (∃ (out : List Nat) (c : Nat) (b : Nat), (0xE0 ≤ c) ∧ (c ≤ 0xE3) ∧ (let n := slice c 0 2 * 256 + b + 1; (out.length + n ≤ 1024))) ∧
    (∃ (c : Nat) (b : Nat), (0xE0 ≤ c) ∧ (c ≤ 0xE3) ∧ (let n := slice c 0 2 * 256 + b + 1; (n ≤ 1024))) :=
  ⟨⟨[0], [0xFC], [], List.replicate 1024 0, 2, 0xE3, 0xFF, 0, by decide +kernel⟩,
   ⟨[0], [7, 0xFC], List.replicate 1023 5, List.replicate 1023 5 ++ [7], 2, 0, by decide +kernel⟩,
   ⟨[], 0xE3, 0xFF, by decide +kernel⟩,
   ⟨0xE3, 0xFF, by decide +kernel⟩⟩

/-- States and operands that meet the hypotheses of each clause of `Obligations.TreeParents`. -/
theorem witness_TreeParents :
    (∃ (kind : Nat), (kind ≤ 5)) ∧
    (∃ (s : State), (s.nodeRekeys = [])) ∧
    (∃ (s : State) (kind : Nat) (i : Nat) (a : BitVec 512) (b : BitVec 512), (ctrMajor a = ctrMajor b) ∧ (ctrMinor a (metaIndex s kind i % 64) = ctrMinor b (metaIndex s kind i % 64))) :=
  ⟨⟨5, by decide +kernel⟩,
   ⟨dev [], by decide +kernel⟩,
   ⟨dev [], 1, 7, 0, BitVec.ofNat 512 (2 ^ 64), by decide +kernel⟩⟩

/-- States and operands that meet the hypotheses of each clause of `Obligations.CreditReturn`. -/
theorem witness_CreditReturn :
    (∃ (s : State) (p : Nat) (v : Nat), (v < 4) ∧ ((portSt s p).freed.length = 4) ∧ (5 ≤ portState s p) ∧ (transmits s p = true)) ∧
    (∃ (s : State) (p : Nat) (v : Nat), (v < 4) ∧ ((portSt s p).freed.length = 4) ∧ (5 ≤ portState s p) ∧ (transmits s p = true) ∧ (let f := ((portSt s p).freed.getD v 0 + 1) % 2 ^ 24; (8 ≤ (f + 2 ^ 24 - (portSt s p).adv.getD v 0) % 2 ^ 24) ∧ (3 ≤ (portSt s p).gap))) ∧
    (∃ (s : State) (p : Nat) (v : Nat), (v < 4) ∧ ((portSt s p).freed.length = 4) ∧ (5 ≤ portState s p) ∧ (transmits s p = true) ∧ (let f := ((portSt s p).freed.getD v 0 + 1) % 2 ^ 24; (8 ≤ (f + 2 ^ 24 - (portSt s p).adv.getD v 0) % 2 ^ 24) ∧ ((portSt s p).gap < 3))) ∧
    (∃ (s : State) (p : Nat) (v : Nat), (v < 4) ∧ ((portSt s p).freed.length = 4) ∧ (5 ≤ portState s p) ∧ (transmits s p = true) ∧ (let f := ((portSt s p).freed.getD v 0 + 1) % 2 ^ 24; ((f + 2 ^ 24 - (portSt s p).adv.getD v 0) % 2 ^ 24 < 8))) ∧
    (∃ (s : State) (p : Fin 4) (a : Nat), (portState s p = 6) ∧ (transmits s p = true) ∧ (3 ≤ (portSt s p).gap) ∧ ((portSt s p).ackTb = some a) ∧ (200 ≤ s.since a)) :=
  ⟨⟨stDev {}, 3, 3, by decide +kernel⟩,
   ⟨stDev { freed := [64, 64, 256, 39] }, 3, 3, by decide +kernel⟩,
   ⟨stDev { freed := [64, 64, 256, 39], gap := 2 }, 3, 3, by decide +kernel⟩,
   ⟨stDev { freed := [64, 64, 256, 38] }, 3, 3, by decide +kernel⟩,
   ⟨stDev { ackTb := some 0 }, 3, 0, by decide +kernel⟩⟩

/-- States and operands that meet the hypotheses of each clause of `Obligations.StepRunsFront`. -/
theorem witness_StepRunsFront :
    (∃ (s : State), (s.mgt.rows = [] ∨ s.asleep = true)) ∧
    (∃ (s : State) (i : Instr) (rest : List Instr), (s.asleep = false) ∧ (s.mgt.rows = i :: rest)) :=
  ⟨⟨{}, by decide +kernel⟩,
   ⟨{ dev [] with mgt := { rows := [.getLdInfo 2 true] } }, .getLdInfo 2 true, [], by decide +kernel⟩⟩

/-- A state and operands that meet the hypotheses of `Obligations.StepKeepsCanon`. -/
theorem witness_StepKeepsCanon :
    (∃ (s : State) (t : State), (State.Canon s) ∧ (step s = .next t)) :=
  ⟨stDev { spare := some 8 }, tick (stDev { spare := some 8 }), ⟨by constructor <;> decide +kernel, rfl⟩⟩

/-- States and operands that meet the hypotheses of each clause of `Obligations.StepKeepsQueueAndFuses`. -/
theorem witness_StepKeepsQueueAndFuses :
    (∃ (s : State) (t : State) (c : Instr) (rest : List Instr), (s.pending = c :: rest) ∧ (step s = .next t)) ∧
    (∃ (s : State) (t : State) (i : Nat), (step s = .next t) ∧ (s.fuses.getLsbD i = true)) :=
  ⟨⟨{ dev [] with pending := [.thermalModelUpdate] }, _, .thermalModelUpdate, [], ⟨rfl, rfl⟩⟩,
   ⟨{ dev [] with fuses := 1 <<< 2047, pending := [.thermalModelUpdate] }, _, 2047, ⟨rfl, by decide +kernel⟩⟩⟩

/-! ### Ill-formed commands -/

/-- Seventeen sweeps are more than the ranks of a channel. -/
theorem test_ill_formed_eyes :
    (Instr.remarginingQuantum (List.replicate 17 (Vector.replicate 40 { left := 0, right := 0, errors := 0 })) []).wellFormed = false := by
  decide +kernel

/-- Ten lanes are more than those of a stitch port. -/
theorem test_ill_formed_lanes : (Instr.remarginingQuantum [] (List.replicate 10 (0, 0))).wellFormed = false := by decide +kernel

/-- Five allocations are more than the logical devices of a link. -/
theorem test_ill_formed_allocations : (Instr.setLdAllocations 2 false [1, 1, 1, 1, 1]).wellFormed = false := by decide +kernel

/-- A buffer write beyond 4 KiB. -/
theorem test_ill_formed_buffer : (Instr.inPost 3 0 0 0 (List.replicate 4097 0)).wellFormed = false := by decide +kernel

/-- A tunnel payload without a whole header. -/
theorem test_ill_formed_tunnel : (Instr.aqCommandTunnel 2 (List.replicate 15 0)).wellFormed = false := by decide +kernel

/-! ### Single commands -/

/-- No row of the table gives bits. -/
theorem test_no_row_has_bits : decodeTableWord 16 0x1234 = none := rfl

/-- The sector of the worked example of spec/04_aqz_segment_format.md. -/
def sampleSector : List Nat :=
  [0x11, 0x2C, 0x00, 0x00, 0x07, 0x3C, 0x7A, 0x11, 0x02, 0x01, 0x00, 0x20, 0x00, 0xE0, 0x37, 0x10] ++
  [0x01, 0x00, 0x00, 0x00, 0xA5, 0x10, 0x00, 0x00, 0x6B, 0x6F, 0x72, 0x61, 0x00, 0x00, 0x00, 0x00] ++
  [0x02, 0xB0, 0x0F, 0xC4, 0x1F, 0x8D, 0x03, 0xFF, 0xFF, 0x00, 0x80, 0xE1, 0xF7, 0x87, 0xFB, 0xFC] ++ List.replicate 16 0

/-- The record of the worked example, with its first byte. -/
def sampleRecord (b : Nat) : List Nat := [b, 0, 0, 0, 0xA5, 0x10, 0, 0, 0x6B, 0x6F, 0x72, 0x61, 0, 0, 0, 0]

/-- The plaintext of the worked example. -/
def samplePlain : List Nat :=
  [0x3C, 0x7A, 0x11, 0x02, 0x01, 0x00, 0x20, 0x00] ++ List.replicate 56 0 ++
  (List.replicate 14 (sampleRecord 1 ++ sampleRecord 2)).flatten ++ [0xFF, 0xFF, 0x00, 0x80] ++ List.replicate 504 0 ++
  [0x3C, 0x7A, 0x11, 0x02]

/-- The worked example of spec/04_aqz_segment_format.md: a full decode. -/
theorem test_aqz_example : aqzDecode sampleSector (some 1) none = .ok samplePlain := by decide +kernel

/-- The same example: a partial decode of line 1 stops inside the LONG token. -/
theorem test_aqz_partial : aqzDecode sampleSector (some 1) (some 0x80) = .ok (samplePlain.take 0x80) := by decide +kernel

/-- R122: a storage code that is not SECTORS is CODE_MISMATCH. -/
theorem test_aqz_code_mismatch : aqzDecode sampleSector (some 2) none = .error 0xA := by decide +kernel

/-- The worked example of spec/01_architecture.md: the line at 0x0000_0012_3456_8040 is homed at slice 15. -/
theorem test_slice_example : sliceOf 0x001234568040 = 15 := by decide +kernel

/-- R16: from stop 0 to stop 15 there are six hops, along the row first. -/
theorem test_route : (spineRoute 6 0 15).map (fun h => h.stop.val) = [0, 1, 2, 3, 7, 11] := by decide +kernel

/-- The worked example of spec/10_dram_controllers.md: the place of frame 0x031_2E07 with four ranks. -/
theorem test_frame_example :
    placeOf false 2 0x312E07 = { sc := 1, rank := 0, bg := 4, ba := 2, half := 0, row := 0x1897 } := by decide +kernel

/-- The worked example of spec/03_presented_memory_and_tiers.md: a band of 17,355.7 MiB. -/
theorem test_band_example : bandSize 10240 512 (2 ^ 26) * 4 * 10 / 1024 = 173556 := by decide +kernel

/-- R197's examples: E of agent 0, and S of agents 5 and 63 that reads back with agent 62. -/
theorem test_directory_example :
    dirEncode 2 (presBit 0) = 0x8000000000000000 ∧ dirEncode 1 (presBit 5 ||| presBit 63) = 0xC000000000000020 ∧
      dirDecode 0xC000000000000020 = (1, presBit 5 ||| presBit 62 ||| presBit 63) := by decide +kernel

/-- The worked example of spec/19_register_map.md: HP_AGENT20_STATE and TIER_DMR5 TAIL. -/
theorem test_register_addresses :
    (F.HP_AGENT_STATE.STATE 20).addr = 0x00102140 ∧ (F.TIER_DMR_TAIL.TAIL 5).addr = 0x00131150 := by decide +kernel

/-- R384: on an empty queue the timebase goes on by 1 ns. -/
theorem test_tick : (tick {}).tb = 1 := by decide +kernel

/-- R330: a claim while another LD has channel 15 leaves the holder. -/
theorem test_second_claim :
    execCh15Claim 9 { dev [] with claim := some (3, 0) } = .next { dev [] with claim := some (3, 0) } := rfl

/-- R454: a register that is written reads back what was written. -/
theorem test_register_reads_back :
    (writeWord 0x170008 true 5 {}).get F.CLU_EXPECT.EXPECT = 5 := by decide +kernel

/-! ### Places of wires -/

/-- The worked example of spec/20: H2_RX lane 5 on balls 71/73 and 71/72. -/
theorem test_ball_host :
    ballAt 71 73 = .host 2 5 false true ∧ ballAt 71 72 = .host 2 5 false false := by decide +kernel

/-- The worked example of spec/20: the strobe and the second nibble of channel 9's subchannel 1. -/
theorem test_ball_channel :
    ballAt 64 48 = .chan 9 (.sub 1 (.dqsT 3)) ∧ ballAt 64 47 = .chan 9 (.sub 1 (.dqsC 3)) ∧
      ballAt 64 52 = .chan 9 (.sub 1 (.dq 12)) ∧ ballAt 64 49 = .chan 9 (.sub 1 (.dq 15)) := by decide +kernel

/-- The worked example of spec/20: the gate of slot 9. -/
theorem test_ball_gate : ballAt 55 52 = .chan 9 .gate := by decide +kernel

end Sys2Proof.Tests
end

section
/-!
What every step keeps. `Kept s t` says of two states that `t` is canonical if `s` is, that both have the same queue of commands,
and that every fuse bit blown in `s` is blown in `t`. For each function of the model that answers a state there is one lemma
`Kept.<function>`: if the function's argument is kept from `s`, so is its answer. Its proof follows the function's body: a call is
closed by the lemma about the callee, an `if` by `Kept.ite` or one of its variants, a loop by `Kept.forAll`, a record update
by `Kept.update` (with a proof for each table it replaces) or `Kept.beside` (no table). `Answer` and `Maybe` say the same of the
functions that answer an outcome or an optional state. The lemmas stand in the order of the functions in the model.
-/

namespace Sys2Proof.Machine

-- A proof that uses a default argument of `Kept.update` waits until everything before it is checked: one at a time, so that
-- the waiting proofs do not each hold a thread.
set_option Elab.async false

/-- `t` keeps of `s` what every step keeps: the canonical form, the queue of commands and the blown fuses. -/
structure Kept (s t : State) : Prop where
  canon : s.Canon → t.Canon
  pending : t.pending = s.pending
  fuses : ∀ i, s.fuses.getLsbD i = true → t.fuses.getLsbD i = true

/-- Every next state that the outcome can be is kept from `s`. -/
def Answer (s : State) (o : Host.Outcome State Fault Refusal) : Prop := ∀ t, o = .next t → Kept s t

/-- The state, where there is one, is kept from `s`. -/
def Maybe (s : State) (o : Option State) : Prop := ∀ t, o = some t → Kept s t

section
variable {s t u : State}

/-- The state after reset is canonical: none of its tables lists a cell yet. -/
theorem State.canon_reset : State.reset.Canon := by
  constructor <;> rfl

theorem Kept.refl (s : State) : Kept s s := ⟨id, rfl, fun _ h => h⟩

/-- A record update that leaves the queue alone keeps what a step keeps if each table that it replaces is canonical and it clears no
fuse. A part that the update leaves alone needs no argument. -/
theorem Kept.update {out regs' tb freeCtr useCtr nextId err lds' links' ports' reqs ingress almanac' near' wb snoops
      passed dir' stamps' slotStamps' regions' frames' moves walks walkQueue tier reclaim spills' levels' hops'
      recalled metaCache metaSto' roots' quarantine nodeRekeys keys' salt kint keystreams cryptoQ alarms dram'
      chans' markWindow masters' sharedPool qosPending quotas' reservedK cmp cryFaults rings' mbx' claim sb' mgt
      jobs' lastTransit stPorts' clu stOpen stSend fuses' fuseShadow spine' deferred pwr' time thm hk spw' spd' pmu sec'
      rst sramAt'}
    (h : Kept s t)
    (regs : t.Canon → cellsRising regs' = true := by exact State.Canon.regs)
    (lds : t.Canon → lds'.wf = true := by exact State.Canon.lds)
    (links : t.Canon → links'.wf = true := by exact State.Canon.links)
    (ports : t.Canon → ports'.wf = true := by exact State.Canon.ports)
    (almanac : t.Canon → almanac'.wf = true := by exact State.Canon.almanac)
    (near : t.Canon → near'.wf = true := by exact State.Canon.near)
    (dir : t.Canon → dir'.wf = true := by exact State.Canon.dir)
    (stamps : t.Canon → stamps'.wf = true := by exact State.Canon.stamps)
    (slotStamps : t.Canon → slotStamps'.wf = true := by exact State.Canon.slotStamps)
    (regions : t.Canon → regions'.wf = true := by exact State.Canon.regions)
    (frames : t.Canon → frames'.wf = true := by exact State.Canon.frames)
    (spills : t.Canon → spills'.wf = true := by exact State.Canon.spills)
    (levels : t.Canon → levels'.wf = true := by exact State.Canon.levels)
    (hops : t.Canon → hops'.wf = true := by exact State.Canon.hops)
    (metaSto : t.Canon → metaSto'.wf = true := by exact State.Canon.metaSto)
    (roots : t.Canon → roots'.wf = true := by exact State.Canon.roots)
    (keys : t.Canon → keys'.wf = true := by exact State.Canon.keys)
    (dram : t.Canon → dram'.wf = true := by exact State.Canon.dram)
    (chans : t.Canon → chans'.wf = true := by exact State.Canon.chans)
    (masters : t.Canon → masters'.wf = true := by exact State.Canon.masters)
    (quotas : t.Canon → quotas'.wf = true := by exact State.Canon.quotas)
    (rings : t.Canon → rings'.wf = true := by exact State.Canon.rings)
    (mbx : t.Canon → mbx'.wf = true := by exact State.Canon.mbx)
    (jobs : t.Canon → jobs'.wf = true := by exact State.Canon.jobs)
    (stPorts : t.Canon → stPorts'.wf = true := by exact State.Canon.stPorts)
    (spine : t.Canon → spine'.wf = true := by exact State.Canon.spine)
    (spw : t.Canon → spw'.wf = true := by exact State.Canon.spw)
    (spd : t.Canon → spd'.wf = true := by exact State.Canon.spd)
    (sramAt : t.Canon → sramAt'.wf = true := by exact State.Canon.sramAt)
    (sbRing : t.Canon → sb'.ring.wf = true := by exact State.Canon.sbRing)
    (nor : t.Canon → sec'.nor.wf = true := by exact State.Canon.nor)
    (sessions : t.Canon → sec'.sessions.wf = true := by exact State.Canon.sessions)
    (retained : t.Canon → pwr'.retained.all (fun r => r.keys.wf && r.roots.wf) = true := by exact State.Canon.retained)
    (fuses : ∀ i, t.fuses.getLsbD i = true → fuses'.getLsbD i = true := by exact fun _ h => h) :
    Kept s ⟨t.pending, out, regs', tb, freeCtr, useCtr, nextId, err, lds', links', ports', reqs, ingress, almanac',
      near', wb, snoops, passed, dir', stamps', slotStamps', regions', frames', moves, walks, walkQueue, tier,
      reclaim, spills', levels', hops', recalled, metaCache, metaSto', roots', quarantine, nodeRekeys, keys', salt,
      kint, keystreams, cryptoQ, alarms, dram', chans', markWindow, masters', sharedPool, qosPending, quotas',
      reservedK, cmp, cryFaults, rings', mbx', claim, sb', mgt, jobs', lastTransit, stPorts', clu, stOpen, stSend,
      fuses', fuseShadow, spine', deferred, pwr', time, thm, hk, spw', spd', pmu, sec', rst, sramAt'⟩ :=
  ⟨fun c => have c := h.canon c; ⟨regs c, lds c, links c, ports c, almanac c, near c, dir c, stamps c, slotStamps c,
    regions c, frames c, spills c, levels c, hops c, metaSto c, roots c, keys c, dram c, chans c, masters c, quotas
    c, rings c, mbx c, jobs c, stPorts c, spine c, spw c, spd c, sramAt c, sbRing c, nor c, sessions c, retained c⟩,
    h.pending, fun i hi => fuses i (h.fuses i hi)⟩

/-- A record update that touches no table, not the register file, the queue or the fuses. -/
theorem Kept.beside {out tb freeCtr useCtr nextId err reqs ingress wb snoops passed moves walks walkQueue tier
      reclaim recalled metaCache quarantine nodeRekeys salt kint keystreams cryptoQ alarms markWindow sharedPool
      qosPending reservedK cmp cryFaults claim mgt lastTransit clu stOpen stSend fuseShadow deferred time thm hk pmu
      rst} (h : Kept s t) :
    Kept s ⟨t.pending, out, t.regs, tb, freeCtr, useCtr, nextId, err, t.lds, t.links, t.ports, reqs, ingress,
      t.almanac, t.near, wb, snoops, passed, t.dir, t.stamps, t.slotStamps, t.regions, t.frames, moves, walks,
      walkQueue, tier, reclaim, t.spills, t.levels, t.hops, recalled, metaCache, t.metaSto, t.roots, quarantine,
      nodeRekeys, t.keys, salt, kint, keystreams, cryptoQ, alarms, t.dram, t.chans, markWindow, t.masters,
      sharedPool, qosPending, t.quotas, reservedK, cmp, cryFaults, t.rings, t.mbx, claim, t.sb, mgt, t.jobs,
      lastTransit, t.stPorts, clu, stOpen, stSend, t.fuses, fuseShadow, t.spine, deferred, t.pwr, time, thm, hk,
      t.spw, t.spd, pmu, t.sec, rst, t.sramAt⟩ :=
  .update h

/-! ### Rules for the shapes of a function's body -/

theorem Kept.ite {c : Prop} [Decidable c] (ht : Kept s t) (hu : Kept s u) : Kept s (if c then t else u) := by
  split
  · exact ht
  · exact hu

theorem Kept.iteSnd {α : Type} {c : Prop} [Decidable c] {p q : α × State} (hp : Kept s p.2) (hq : Kept s q.2) :
    Kept s (if c then p else q).2 := by
  split
  · exact hp
  · exact hq

/-- A pair that is written out: it names the state for the unifier, which would unfold the function instead. -/
theorem Kept.snd {α : Type} {a : α} (h : Kept s t) : Kept s (a, t).2 := h

theorem Kept.sndSnd {α β : Type} {a : α} {b : β} (h : Kept s t) : Kept s (a, b, t).2.2 := h

theorem Kept.iteSndSnd {α β : Type} {c : Prop} [Decidable c] {p q : α × β × State} (hp : Kept s p.2.2)
    (hq : Kept s q.2.2) : Kept s (if c then p else q).2.2 := by
  split
  · exact hp
  · exact hq

theorem Answer.next (h : Kept s t) : Answer s (.next t) := by
  rintro _ ⟨⟩
  exact h

theorem Answer.ite {c : Prop} [Decidable c] {o p : Host.Outcome State Fault Refusal} (ho : Answer s o)
    (hp : Answer s p) : Answer s (if c then o else p) := by
  split
  · exact ho
  · exact hp

theorem Maybe.some (h : Kept s t) : Maybe s (some t) := by
  rintro _ ⟨⟩
  exact h

theorem Maybe.none : Maybe s none := fun _ h => absurd h.symm (Option.some_ne_none _)

theorem Maybe.ite {c : Prop} [Decidable c] {o p : Option State} (ho : Maybe s o) (hp : Maybe s p) :
    Maybe s (if c then o else p) := by
  split
  · exact ho
  · exact hp

theorem Kept.forAll {α : Type} {l : List α} {f : α → State → State} (hf : ∀ a u, Kept s u → Kept s (f a u))
    (h : Kept s t) : Kept s (Machine.forAll l f t) := by
  unfold Machine.forAll
  induction l generalizing t with
  | nil => exact h
  | cons a l ih => exact ih (hf a t h)

theorem Kept.foldlSnd {α β : Type} {l : List β} {f : α × State → β → α × State} {p : α × State}
    (hf : ∀ p b, Kept s p.2 → Kept s (f p b).2) (h : Kept s p.2) : Kept s (l.foldl f p).2 := by
  induction l generalizing p with
  | nil => exact h
  | cons b l ih => exact ih (hf p b h)

/-- The state of a pair that a `match` has taken apart. -/
theorem Kept.of_eq {α : Type} {p : α × State} {a : α} (he : p = (a, u)) (h : Kept s p.2) : Kept s u := by
  rw [he] at h
  exact h

theorem Kept.of_eq_snd {α β : Type} {p : α × β × State} {a : α} {b : β} (he : p = (a, b, u)) (h : Kept s p.2.2) :
    Kept s u := by
  rw [he] at h
  exact h

theorem Maybe.map {α : Type} {o : Option α} {f : α → State} (h : ∀ a, Kept s (f a)) : Maybe s (o.map f) := by
  cases o with
  | none => exact .none
  | some a => exact .some (h a)

/-! ### The parts of the state -/

theorem State.farDrawn_lds (s : State) : s.farDrawn.lds = s.lds := by
  unfold State.farDrawn
  split
  · rfl
  · rfl

theorem wf_ringPut {m : Tab (Option SbWord) none} {p l} (h : m.wf = true) : (ringPut m p l).wf = true := by
  induction l generalizing m p with
  | nil => exact h
  | cons w l ih => exact ih (Tab.wf_set h _ _)

theorem wf_norBytes {m : Tab Nat 0xFF} {a l} (h : m.wf = true) : (norBytes m a l).wf = true := by
  induction l generalizing m a with
  | nil => exact h
  | cons b l ih => exact ih (Tab.wf_set h _ _)

theorem wf_norLoad {m : Tab Nat 0xFF} {a l} (h : m.wf = true) : (norLoad m a l).wf = true := by
  induction l generalizing m a with
  | nil => exact h
  | cons b l ih => exact ih (Tab.wf_set h _ _)

theorem wf_norApply {m : Tab Nat 0xFF} {o} (h : m.wf = true) : (norApply o m).wf = true := by
  unfold norApply
  split
  · exact wf_norBytes h
  · exact Tab.wf_keep h _

theorem Tab.wf_foldl {α β : Type} {d : α} [DecidableEq α] {l : List β} {f : Tab α d → β → Tab α d}
    (hf : ∀ m b, m.wf = true → (f m b).wf = true) {m : Tab α d} (h : m.wf = true) : (l.foldl f m).wf = true := by
  induction l generalizing m with
  | nil => exact h
  | cons b l ih => exact ih (hf m b h)

theorem wf_portsAfterCore (s : State) : (portsAfterCore s).wf = true :=
  Tab.wf_foldl (fun _ _ h => Tab.wf_set h _ _) rfl

theorem wf_secAfterReset {s : State} (h : s.sec.nor.wf = true) : (secAfterReset s).nor.wf = true := by
  unfold secAfterReset
  extract_lets nor
  show nor.wf = true
  unfold nor
  split
  · split
    · exact wf_norApply h
    · exact h
  · exact h

theorem cellsRising_reachStep {es d l} (h : cellsRising l = true) : cellsRising (reachStep es d l) = true := by
  unfold reachStep
  induction es generalizing l with
  | nil => exact h
  | cons e es ih =>
    simp only [List.foldl_cons]
    refine ih ?_
    split
    · exact cellsRising_insert _ _ h
    · exact h

theorem cellsRising_foldl_reachStep {es l} {ns : List Nat} (h : cellsRising l = true) :
    cellsRising (ns.foldl (fun t d => reachStep es d t) l) = true := by
  induction ns generalizing l with
  | nil => exact h
  | cons d ns ih => exact ih (cellsRising_reachStep h)

theorem cellsRising_distances (es : List LinkEnd) (root : Nat) : cellsRising (distances es root) = true :=
  cellsRising_foldl_reachStep rfl

/-- The hop table lists the distances other than 0 (`showLinks`). -/
theorem wf_hops {l : List (Nat × Nat)} (h : cellsRising l = true) :
    (⟨l.filter (fun x => x.2 != 0)⟩ : Tab Nat 0).wf = true := by
  rw [Tab.wf_iff]
  exact ⟨cellsRising_filter _ h, fun c hc => by simpa using (List.mem_filter.1 hc).2⟩

theorem cancelFix_metaSto (c line : Nat) (s : State) : (cancelFix c line s).metaSto = s.metaSto := by
  unfold cancelFix
  extract_lets n
  split
  · rfl
  · rfl

theorem cancelFix_stamps (c line : Nat) (s : State) : (cancelFix c line s).stamps = s.stamps := by
  unfold cancelFix
  extract_lets n
  split
  · rfl
  · rfl

theorem bandStore_metaSto (place : Nat × Nat) (s : State) : (bandStore place s).metaSto = s.metaSto := by
  simp only [bandStore, dramWrite, cancelFix_metaSto]

theorem bandStore_stamps (place : Nat × Nat) (s : State) : (bandStore place s).stamps = s.stamps := by
  simp only [bandStore, dramWrite, cancelFix_stamps]

/-- The keys and roots that sleep retains are canonical tables. -/
theorem State.Canon.of_retained {s : State} {r : Retained} (c : s.Canon) (hr : s.pwr.retained = some r) :
    r.keys.wf = true ∧ r.roots.wf = true := by
  have hc := c.retained
  rw [hr] at hc
  simpa using hc

theorem all_retained_map {o : Option Retained} {f : Retained → Retained} (hk : ∀ r, (f r).keys = r.keys)
    (hr : ∀ r, (f r).roots = r.roots) (h : o.all (fun r => r.keys.wf && r.roots.wf) = true) :
    (o.map f).all (fun r => r.keys.wf && r.roots.wf) = true := by
  cases o with
  | none => rfl
  | some r => simpa [hk, hr] using h

theorem cellsRising_foldl_insert {l : List (Nat × Nat)} {cs : List (Nat × Nat)} (h : cellsRising cs = true) :
    cellsRising (l.foldl (fun cs c => cellInsert c.1 c.2 cs) cs) = true := by
  induction l generalizing cs with
  | nil => exact h
  | cons c l ih => exact ih (cellsRising_insert _ _ h)

/-! ### The functions of Machine/Ops.lean -/

theorem Kept.put {f v} (h : Kept s t) : Kept s (t.put f v) := .update h
  (regs := fun c => State.put_rising c.regs f v)

theorem Kept.bump {f n} (h : Kept s t) : Kept s (State.bump t f n) := .put h

theorem Kept.wrapAdd {f n} (h : Kept s t) : Kept s (State.wrapAdd t f n) := .put h

theorem Kept.emit {o} (h : Kept s t) : Kept s (State.emit t o) := .beside h

theorem Kept.drawn (h : Kept s t) : Kept s (State.drawn t) := .beside h

theorem Kept.trng (h : Kept s t) : Kept s (State.trng t).2 := .drawn h

theorem Kept.stamp (h : Kept s t) : Kept s (State.stamp t).2 := .beside h

theorem Kept.jobDone {job inst} (h : Kept s t) : Kept s (Machine.jobDone job inst t) :=
  .update h (jobs := fun c => Tab.wf_upd c.jobs _ _)

theorem Kept.setPlate {p} (h : Kept s t) : Kept s (Machine.setPlate p t) := .beside h

theorem Kept.takePlate {trigger ctr} (h : Kept s t) : Kept s (Machine.takePlate trigger ctr t) :=
  .ite (.setPlate h) (.beside (.setPlate (.put h)))

theorem Kept.addCounter {n amt fuel} (h : Kept s t) : Kept s (Machine.addCounter n amt fuel t) := by
  induction fuel generalizing n amt t with
  | zero => exact h
  | succ fuel ih =>
    exact .ite h (.ite (.put h) (.ite (ih (.put h)) (.ite (.takePlate (.put (.put h))) (.put (.put h)))))

theorem Kept.count {ev inst amt} (h : Kept s t) : Kept s (State.count t ev inst amt) :=
  .forAll (fun _ _ h' => .ite (.addCounter h') h') h

theorem Kept.beginExit (h : Kept s t) : Kept s (Machine.beginExit t) :=
  .emit (.emit (.ite (.emit (.update h)) (.update h)))

theorem Kept.wakeRaw {src} (h : Kept s t) : Kept s (Machine.wakeRaw src t) := by
  refine .ite h ?_
  extract_lets t1
  have h1 : Kept s t1 := .put h
  exact .ite h1 (.ite (.update h1) (.ite (.put h1) (.ite (.beginExit h1) h1)))

theorem Kept.advanceTb {n} (h : Kept s t) : Kept s (Machine.advanceTb n t) := by
  unfold Machine.advanceTb
  extract_lets _ t1
  have h1 : Kept s t1 := .beside h
  exact .ite h1 (.ite (.count (.count h1)) (.count h1))

theorem Kept.takeSeq (h : Kept s t) : Kept s (State.takeSeq t).2 := .put h

theorem Kept.queueErr {r seq} (h : Kept s t) : Kept s (State.queueErr t r seq) := by
  refine .ite (.beside h) ?_
  split
  extract_lets
  split
  rename_i t1 he
  have h1 : Kept s t1 := by
    refine .of_eq he ?_
    split
    · exact h
    · exact .iteSnd (.takeSeq h) h
  exact .ite (.bump (.put (.beside h1))) (.beside h1)

theorem Kept.stopRing {r} (h : Kept s t) : Kept s (Machine.stopRing r t) :=
  .put (.put (.update h (rings := fun c => Tab.wf_set c.rings _ _)))

theorem Kept.fatal {r} (h : Kept s t) : Kept s (State.fatal t r) := by
  unfold State.fatal
  split
  rename_i t1 he
  have h1 := Kept.of_eq he (.takeSeq h)
  exact .wakeRaw (.queueErr (.ite (.bump (.beside h1)) (.takePlate (.emit (.forAll (fun _ _ h' => .ite
    (.stopRing h') h') (.put (.put (.beside h1))))))))

theorem Kept.record {r} (h : Kept s t) : Kept s (State.record t r) := by
  refine .ite (.fatal h) ?_
  extract_lets t1
  have h1 : Kept s t1 := .ite (.wakeRaw h) h
  split
  · exact .ite (.beside h1) (.queueErr h1)
  · exact .ite (.put (.beside (.takeSeq h1))) (.queueErr h1)

theorem Kept.logAs {cls source code inst addr detail} (h : Kept s t) :
    Kept s (State.logAs t cls source code inst addr detail) :=
  .record h

theorem Kept.log {code inst addr detail} (h : Kept s t) : Kept s (State.log t code inst addr detail) := .logAs h

theorem Kept.wakeFrom {src} (h : Kept s t) : Kept s (Machine.wakeFrom src t) :=
  .ite (.update h) (.ite (.log (.update h)) (.wakeRaw (.update h)))

theorem Kept.poisonAdd {line} (h : Kept s t) : Kept s (State.poisonAdd t line) := .beside h

theorem Kept.poisonDrop {line} (h : Kept s t) : Kept s (State.poisonDrop t line) := .beside h

theorem Kept.farDrawn (h : Kept s t) : Kept s (State.farDrawn t) := .ite (.drawn h) h

theorem Kept.eventTo {slot e} (h : Kept s t) : Kept s (Machine.eventTo slot e t) :=
  .ite (.emit (.update h (lds := fun c => Tab.wf_upd c.lds _ _))) (.ite (.update h
    (lds := fun c => Tab.wf_upd c.lds _ _)) h)

theorem Kept.eventAll {code detail} (h : Kept s t) : Kept s (Machine.eventAll code detail t) :=
  .forAll (fun _ _ => .eventTo) h

theorem Kept.eventMapping {code cpa} (h : Kept s t) : Kept s (Machine.eventMapping code cpa t) :=
  .forAll (fun _ _ h' => .ite (.eventTo h') h') h

theorem Kept.eventLine {kind code cpa} (h : Kept s t) : Kept s (Machine.eventLine kind code cpa t) := by
  refine .forAll (fun _ _ h' => ?_) h
  split
  · exact .eventTo h'
  · exact h'

theorem Kept.setRegion {r f} (h : Kept s t) : Kept s (State.setRegion t r f) :=
  .update h (regions := fun c => Tab.wf_upd c.regions _ _)

theorem Kept.originate {m what} (h : Kept s t) : Kept s (Machine.originate m what t).2 := .iteSnd h (.beside h)

theorem Kept.wasEnabled {c'} (h : Kept s t) : Kept s (Machine.wasEnabled c' t) :=
  .update h (spw := fun c => Tab.wf_upd c.spw _ _)

/-! ### The functions of Machine/Storage.lean -/

theorem Kept.marksChanged {c'} (h : Kept s t) : Kept s (Machine.marksChanged c' t) :=
  .update h (chans := fun c => Tab.wf_upd c.chans _ _)

theorem Kept.meetMark {c' rank sc dev} (h : Kept s t) : Kept s (Machine.meetMark c' rank sc dev t) := by
  refine .ite h ?_
  split
  · exact .ite h (.log h)
  · exact .log (.marksChanged (.ite (.put (.put h)) (.put (.put h))))

theorem Kept.countSymbols {c' rank sc positions} (h : Kept s t) :
    Kept s (Machine.countSymbols c' rank sc positions t) :=
  .forAll (fun _ _ h' => .ite h' (.ite (.meetMark (.update h' (chans := fun c => Tab.wf_upd c.chans _ _)))
    (.update h' (chans := fun c => Tab.wf_upd c.chans _ _)))) h

theorem Kept.dramUe {c' line known} (h : Kept s t) : Kept s (Machine.dramUe c' line known t) :=
  .record (.bump h)

theorem Kept.dramDecode {c' line w mark known} (h : Kept s t) :
    Kept s (Machine.dramDecode c' line w mark known t).2 := by
  unfold Machine.dramDecode
  extract_lets
  split
  · exact h
  · exact .countSymbols (.count (.ite h (.bump h)))
  · exact .dramUe h

theorem Kept.dramSense {c' line e} (h : Kept s t) : Kept s (Machine.dramSense c' line e t).2 :=
  .ite (.update h (dram := fun c => Tab.wf_set c.dram _ _)) h

theorem Kept.dramRead {c' line e known} (h : Kept s t) : Kept s (Machine.dramRead c' line e known t).2 :=
  .dramDecode (.dramSense h)

theorem Kept.scheduleFix {c' line o} (h : Kept s t) : Kept s (Machine.scheduleFix c' line o t) := by
  unfold Machine.scheduleFix
  split
  · exact .update h (chans := fun c => Tab.wf_upd c.chans _ _)
  · exact h

theorem Kept.cancelFix {c' line} (h : Kept s t) : Kept s (Machine.cancelFix c' line t) :=
  .ite h (.bump (.update h (chans := fun c => Tab.wf_upd c.chans _ _)))

theorem Kept.dramWrite {c' line w} (h : Kept s t) : Kept s (Machine.dramWrite c' line w t) :=
  .update (.cancelFix h) (dram := fun c => Tab.wf_set c.dram _ _)

theorem Kept.storeUnit {chan line c' data} (h : Kept s t) : Kept s (Machine.storeUnit chan line c' data t) :=
  .ite h (.dramWrite h)

theorem Kept.settleKey {k} (h : Kept s t) : Kept s (Machine.settleKey k t) := .ite (.log (.put h)) h

theorem Kept.recountKeys (h : Kept s t) : Kept s (Machine.recountKeys t) :=
  .forAll (fun _ _ h' => .settleKey (.put h')) h

theorem Kept.zeroizeSlot {k} (h : Kept s t) : Kept s (Machine.zeroizeSlot k t) :=
  .ite h (.settleKey (.forAll (fun _ _ h' => .eventLine (.log h')) (.put (.update (.put (.put h))
    (keys := fun c => Tab.wf_set c.keys _ _)))))

theorem Kept.zeroize (h : Kept s t) : Kept s (Machine.zeroize t) :=
  .forAll (fun _ _ => .zeroizeSlot) (.update h (retained := fun _ => rfl))

theorem Kept.checkAlarmLimit (h : Kept s t) : Kept s (Machine.checkAlarmLimit t) := by
  unfold Machine.checkAlarmLimit
  split
  · exact .ite (.zeroize h) h
  · exact h

theorem Kept.alarm {kind sl level page idx key unitId cpa} (h : Kept s t) :
    Kept s (Machine.alarm kind sl level page idx key unitId cpa t) :=
  .ite h (.checkAlarmLimit (.eventMapping (.log (.put (.put (.put (.put (.put (.put (.put (.bump (.beside
    h))))))))))))

theorem Kept.alarmData {kind page idx key} (h : Kept s t) : Kept s (Machine.alarmData kind page idx key t) :=
  .alarm h

theorem Kept.readUnit {chan line c' e mergeRead} (h : Kept s t) :
    Kept s (Machine.readUnit chan line c' e mergeRead t).2 := by
  refine .iteSnd h ?_
  extract_lets
  split
  rename_i t1 he
  have h1 := Kept.of_eq he (.dramRead h)
  extract_lets t2
  have h2 : Kept s t2 := .scheduleFix h1
  split
  · exact .poisonAdd h2
  · split
    · exact h2
    · exact h2
    · exact .alarmData h2

/-! ### The functions of Machine/Mailbox.lean -/

theorem Kept.farIrq {c' dest en} (h : Kept s t) : Kept s (Machine.farIrq c' dest en t) := by
  unfold Machine.farIrq
  split
  · exact .ite (.emit h) h
  · exact h

theorem Kept.postOut {c' o} (h : Kept s t) : Kept s (Machine.postOut c' o t) :=
  .farIrq (.emit (.put (.put (.update h (mbx := fun c => Tab.wf_upd c.mbx _ _)))))

theorem Kept.nameDest {c' slot} (h : Kept s t) : Kept s (Machine.nameDest c' slot t) := by
  unfold Machine.nameDest
  split
  · exact .ite (.put (.put h)) h
  · exact h

theorem Kept.endTag {tag} (h : Kept s t) : Kept s (Machine.endTag tag t) := by
  unfold Machine.endTag
  split
  · exact .beside h
  · exact h

theorem Kept.sendOut {c' slot o tag} (h : Kept s t) : Kept s (Machine.sendOut c' slot o tag t) :=
  .ite (.update h (mbx := fun c => Tab.wf_upd c.mbx _ _)) (.postOut (.nameDest (.endTag h)))

theorem Kept.sendCmdRsp {port tag src o} (h : Kept s t) : Kept s (Machine.sendCmdRsp port tag src o t) :=
  .beside h

theorem Kept.sendOn {path slot o tag} (h : Kept s t) : Kept s (Machine.sendOn path slot o tag t) := by
  unfold Machine.sendOn
  split
  · exact .sendOut h
  · exact .sendCmdRsp (.endTag h)
  · exact .emit (.endTag h)

theorem Kept.discardReply {k} (h : Kept s t) : Kept s (Machine.discardReply k t) := .beside h

theorem Kept.reply {p status det result payload} (h : Kept s t) :
    Kept s (Machine.reply p status det result payload t) :=
  .ite (.discardReply h) (.sendOn h)

theorem Kept.completeLong {c' status det} (h : Kept s t) : Kept s (Machine.completeLong c' status det t) :=
  .ite (.discardReply (.beside h)) (.sendOn (.beside h))

theorem Kept.completeAway {p status det} (h : Kept s t) : Kept s (Machine.completeAway p status det t) :=
  .ite (.discardReply h) (.sendOn h)

theorem Kept.completeLongs {opcode object status det} (h : Kept s t) :
    Kept s (Machine.completeLongs opcode object status det t) :=
  .forAll (fun _ _ => .completeLong) h

theorem Kept.noticeAll {code sideband} (h : Kept s t) : Kept s (Machine.noticeAll code sideband t) :=
  .ite (.emit (.forAll (fun _ _ => .sendOut) h)) (.forAll (fun _ _ => .sendOut) h)

theorem Kept.showClaim (h : Kept s t) : Kept s (Machine.showClaim t) := .put (.put h)

theorem Answer.execInPost {chan slot mgt len bytes} (h : Kept s t) :
    Answer s (Machine.execInPost chan slot mgt len bytes t) := by
  unfold Machine.execInPost
  extract_lets _ _ t1
  have h1 : Kept s t1 := .ite h (.wakeRaw h)
  exact .ite (.next (.put h1)) (.next (.wakeFrom (.showClaim (.put (.put (.update h1
    (mbx := fun c => Tab.wf_upd c.mbx _ _)))))))

theorem Kept.answerBusy {p} (h : Kept s t) : Kept s (Machine.answerBusy p t) := .sendOn h

theorem Kept.holdTag {p} (h : Kept s t) : Kept s (Machine.holdTag p t) := .beside h

theorem Kept.accept {p} (h : Kept s t) : Kept s (Machine.accept p t) :=
  .ite (.answerBusy h) (.beside (.holdTag h))

theorem Kept.arrive {p} (h : Kept s t) : Kept s (Machine.arrive p t) := .beside h

theorem Kept.takeArrival {key} (h : Kept s t) : Kept s (Machine.takeArrival key t) := by
  unfold Machine.takeArrival
  split
  · exact h
  · exact .ite (.accept (.beside h)) h

theorem Kept.emptyIn {c'} (h : Kept s t) : Kept s (Machine.emptyIn c' t) := by
  unfold Machine.emptyIn
  extract_lets t1 t2
  have h1 : Kept s t1 := .put (.put h)
  have h2 : Kept s t2 := .ite (.update h1 (mbx := fun c => Tab.wf_upd c.mbx _ _)) h1
  exact .showClaim (.ite (.beside h2) h2)

theorem Kept.takeIn {c'} (h : Kept s t) : Kept s (Machine.takeIn c' t) :=
  .ite h (.farIrq (.emptyIn (.accept h)))

theorem Answer.execInTaken {chan mgt} (h : Kept s t) : Answer s (Machine.execInTaken chan mgt t) :=
  .ite (.next h) (.ite (.next (.put h)) (.next (.takeIn h)))

theorem Kept.postHeld {c'} (h : Kept s t) : Kept s (Machine.postHeld c' t) := by
  unfold Machine.postHeld
  extract_lets
  split
  · exact h
  · exact .ite h (.postOut (.endTag (.update (.nameDest h) (mbx := fun c => Tab.wf_set c.mbx _ _))))

theorem Answer.execOutPost {chan mgt} (h : Kept s t) : Answer s (Machine.execOutPost chan mgt t) :=
  .ite (.next (.put h)) (.next (.postHeld h))

theorem Kept.emptyOut {c'} (h : Kept s t) : Kept s (Machine.emptyOut c' t) :=
  .update (.put (.put h)) (mbx := fun c => Tab.wf_upd c.mbx _ _)

theorem Answer.execOutTaken {chan slot mgt} (h : Kept s t) :
    Answer s (Machine.execOutTaken chan slot mgt t) := by
  unfold Machine.execOutTaken
  extract_lets t1
  have h1 : Kept s t1 := .ite h (.wakeRaw h)
  exact .ite (.next h1) (.ite (.next (.put h1)) (.next (.emptyOut h1)))

theorem Answer.execCh15Claim {slot} (h : Kept s t) : Answer s (Machine.execCh15Claim slot t) :=
  .ite (.next h) (.next (.showClaim (.beside h)))

theorem Answer.execCh15ClaimRevoke (h : Kept s t) : Answer s (Machine.execCh15ClaimRevoke t) := by
  unfold Machine.execCh15ClaimRevoke
  split
  · exact .ite (.next (.showClaim (.update h (mbx := fun c => Tab.wf_upd c.mbx _ _)))) (.next h)
  · exact .next h

theorem Answer.execMbxBindWrite {chan value} (h : Kept s t) :
    Answer s (Machine.execMbxBindWrite chan value t) := by
  unfold Machine.execMbxBindWrite
  extract_lets _ _ t1
  have h1 : Kept s t1 := .put (.put h)
  exact .ite (.next h) (.next (.ite h1 (.put h1)))

theorem Kept.dropReplies {c' who} (h : Kept s t) : Kept s (Machine.dropReplies c' who t) :=
  .update h (mbx := fun c => Tab.wf_upd c.mbx _ _)

theorem Kept.farEndReset {c'} (h : Kept s t) : Kept s (Machine.farEndReset c' t) :=
  .put (.update (.dropReplies (.emptyOut (.emptyIn h))) (mbx := fun c => Tab.wf_upd c.mbx _ _))

theorem Answer.execFarEndReset {chan} (h : Kept s t) : Answer s (Machine.execFarEndReset chan t) :=
  .next (.farEndReset h)

theorem Kept.farEndLd {m} (h : Kept s t) : Kept s (Machine.farEndLd m t) := by
  unfold Machine.farEndLd
  extract_lets _ _ _ _ _ _ t1 t2
  have h1 : Kept s t1 := .ite (.update (.emptyIn (.dropReplies (.forAll (fun _ _ => .farEndReset) h)))
    (mbx := fun c => Tab.wf_upd c.mbx _ _)) (.dropReplies (.forAll (fun _ _ => .farEndReset) h))
  have h2 : Kept s t2 := .ite (.emptyOut h1) h1
  exact .ite (.put h2) h2

theorem Kept.mailboxMgtReset (h : Kept s t) : Kept s (Machine.mailboxMgtReset t) :=
  .beside (.forAll (fun _ _ h' => .farIrq (.put (.update (.emptyIn h') (mbx := fun c => Tab.wf_upd c.mbx _ _))))
    h)

theorem Kept.showSb (h : Kept s t) : Kept s (Machine.showSb t) := .put (.put (.put (.put h)))

theorem Kept.sbStart (h : Kept s t) : Kept s (Machine.sbStart t) := .showSb (.update h)

theorem Kept.sbDropItem {full} (h : Kept s t) : Kept s (Machine.sbDropItem full t) := .bump (.update h)

theorem Answer.execSbByte {byte} (h : Kept s t) : Answer s (Machine.execSbByte byte t) := by
  unfold Machine.execSbByte
  split
  · exact .next (.ite (.emit h) h)
  · exact .ite (.next (.showSb (.put (.sbDropItem h)))) (.ite (.next (.showSb (.put (.update (.update h)))))
      (.next (.showSb (.update h))))

theorem Kept.sbCommit (h : Kept s t) : Kept s (Machine.sbCommit t) := by
  unfold Machine.sbCommit
  split
  · exact .showSb (.update h)
  · exact .showSb (.update h)
  · exact .showSb (.bump (.update h (sbRing := fun c => wf_ringPut c.sbRing)))

theorem Answer.execSbItemStart (h : Kept s t) : Answer s (Machine.execSbItemStart t) :=
  .next (.wakeFrom (.sbStart (.sbCommit h)))

theorem Answer.execSbItemEnd (h : Kept s t) : Answer s (Machine.execSbItemEnd t) := .next (.sbCommit h)

theorem Answer.execSbBusFault (h : Kept s t) : Answer s (Machine.execSbBusFault t) :=
  .ite (.next (.showSb (.put (.sbDropItem h)))) (.next h)

theorem Kept.showWord {w ce ue} (h : Kept s t) : Kept s (Machine.showWord w ce ue t) :=
  .put (.put (.put (.put (.put (.put h)))))

theorem Kept.sbPop {corrected bad} (h : Kept s t) : Kept s (Machine.sbPop corrected bad t) := by
  refine .ite (.put h) ?_
  split
  · exact h
  · extract_lets _ t1
    have h1 : Kept s t1 := .showWord h
    exact .showSb (.update (.ite (.bump h1) (.ite (.bump h1) h1)))

theorem Answer.execSbDataRead {corrected bad} (h : Kept s t) :
    Answer s (Machine.execSbDataRead corrected bad t) :=
  .next (.sbPop h)

theorem Kept.sbMark (h : Kept s t) : Kept s (Machine.sbMark t) := .showSb (.update h)

theorem Answer.execSbMark (h : Kept s t) : Answer s (Machine.execSbMark t) := .next (.sbMark h)

theorem Kept.sbUndo (h : Kept s t) : Kept s (Machine.sbUndo t) := .update h

theorem Kept.sbRewind (h : Kept s t) : Kept s (Machine.sbRewind t) := by
  unfold Machine.sbRewind
  split
  · exact .showSb (.update h)
  · exact .showSb (.update (.bump (.put h)))

theorem Answer.execSbRewind (h : Kept s t) : Answer s (Machine.execSbRewind t) := .next (.sbRewind h)

theorem Kept.sbPopItem {n} (h : Kept s t) : Kept s (Machine.sbPopItem n t) := by
  induction n generalizing t with
  | zero => exact h
  | succ n ih => exact .ite (.sbPop h) (ih (.sbPop h))

theorem Kept.sidebandUnit (h : Kept s t) : Kept s (Machine.sidebandUnit t) :=
  .sbPopItem (.ite (.sbRewind h) (.sbMark h))

theorem Kept.takeSideband (h : Kept s t) : Kept s (Machine.takeSideband t) := by
  unfold Machine.takeSideband
  split
  · exact .takeArrival h
  · exact .accept (.update h)

theorem Answer.execSbFlush (h : Kept s t) : Answer s (Machine.execSbFlush t) :=
  .next (.showSb (.update (.ite (.put (.sbDropItem h)) h)))

theorem Answer.execUartFrame {bytes} (h : Kept s t) : Answer s (Machine.execUartFrame bytes t) :=
  .ite (.next (.arrive h)) (.next h)

/-! ### The functions of Machine/Near.lean -/

theorem Kept.nearFill {a d owner} (h : Kept s t) : Kept s (Machine.nearFill a d owner t) :=
  .update (.stamp h) (near := fun c => Tab.wf_set c.near _ _)

theorem Kept.nearDrop {a} (h : Kept s t) : Kept s (Machine.nearDrop a t) := by
  unfold Machine.nearDrop
  split
  · exact .update h (near := fun c => Tab.wf_set c.near _ _)
  · exact h

theorem Kept.nearWrite {a d} (h : Kept s t) : Kept s (Machine.nearWrite a d t) := by
  unfold Machine.nearWrite
  split
  · exact .update h (near := fun c => Tab.wf_upd c.near _ _)
  · exact .nearDrop h
  · exact h

/-! ### The functions of Machine/Lanes.lean -/

theorem Kept.placeDecodes (h : Kept s t) : Kept s (Machine.placeDecodes t) :=
  .forAll (fun _ _ => .beside) (.forAll (fun _ _ h' => .ite (.beside h') h') h)

theorem Kept.addDecode {j} (h : Kept s t) : Kept s (Machine.addDecode j t) := .placeDecodes (.beside h)

/-! ### The functions of Machine/Charges.lean -/

theorem Kept.chargeG {m n} (h : Kept s t) : Kept s (Machine.chargeG m n t) :=
  .update h (masters := fun c => Tab.wf_upd c.masters _ _)

theorem Kept.chargeS {m n pool} (h : Kept s t) : Kept s (Machine.chargeS m n pool t) :=
  .update h (masters := fun c => Tab.wf_upd c.masters _ _)

theorem Kept.joinWait {m} (h : Kept s t) : Kept s (Machine.joinWait m t) := by
  refine .ite h ?_
  split
  · exact .update h (masters := fun c => Tab.wf_upd c.masters _ _)
  · exact h

theorem Kept.chargeInternal {m n} (h : Kept s t) : Kept s (Machine.chargeInternal m n t) :=
  .ite h (.update (.joinWait h) (masters := fun c => Tab.wf_upd c.masters _ _))

theorem Kept.writeRegion {r f} (h : Kept s t) : Kept s (State.writeRegion t r f) :=
  .chargeInternal (.setRegion h)

/-! ### The functions of Machine/Metadata.lean -/

theorem Kept.metaFail {sl kind index} (h : Kept s t) : Kept s (Machine.metaFail sl kind index t) :=
  .ite (.wrapAdd (.beside (.alarm h))) (.alarm h)

theorem Kept.metaPut {m} (h : Kept s t) : Kept s (Machine.metaPut m t) := .beside h

theorem Kept.metaDrop {sl kind index} (h : Kept s t) : Kept s (Machine.metaDrop sl kind index t) := .beside h

theorem Kept.metaMakeRoom {sl kind index} (h : Kept s t) : Kept s (Machine.metaMakeRoom sl kind index t) := by
  refine .ite h ?_
  split
  · exact .ite (.metaPut h) (.metaDrop h)
  · exact h

theorem Kept.metaEnter {sl kind index val dirty} (h : Kept s t) :
    Kept s (Machine.metaEnter sl kind index val dirty t) :=
  .metaPut (.metaMakeRoom (.stamp h))

theorem Kept.metaTouch {sl kind index} (h : Kept s t) : Kept s (Machine.metaTouch sl kind index t) := by
  unfold Machine.metaTouch
  split
  · exact .metaPut (.stamp (.ite (.metaMakeRoom h) h))
  · exact h

theorem Kept.bandRead {at_ word} (h : Kept s t) : Kept s (Machine.bandRead at_ word t).2 :=
  .scheduleFix (.dramDecode h)

theorem Kept.bandStore {at_} (h : Kept s t) : Kept s (Machine.bandStore at_ t) := .dramWrite h

theorem Kept.metaStore {sl kind index m} (h : Kept s t) : Kept s (Machine.metaStore sl kind index m t) :=
  .update (.bandStore h) (metaSto := fun c => Tab.wf_set (bandStore_metaSto _ t ▸ c.metaSto) _ _)

theorem Kept.metaRead {sl kind index} (h : Kept s t) : Kept s (Machine.metaRead sl kind index t).2 := by
  refine .iteSnd ?_ (.bandRead h)
  split
  · exact h
  · exact h

theorem Kept.metaFetch {fuel sl kind index} (h : Kept s t) : Kept s (Machine.metaFetch fuel sl kind index t).2
  := by
  induction fuel generalizing sl kind index t with
  | zero => exact h
  | succ fuel ih =>
    refine .iteSnd h (.iteSnd (.metaTouch h) (.iteSnd h (.iteSnd (ih (.chargeInternal (.count h))) ?_)))
    split
    · rename_i t1 he
      exact .metaEnter (.of_eq he (.metaRead (ih (.chargeInternal (.count h)))))
    · rename_i t1 he
      exact .metaFail (.of_eq he (.metaRead (ih (.chargeInternal (.count h)))))
    · rename_i t1 he
      have h1 := Kept.of_eq he (.metaRead (ih (.chargeInternal (.count h))))
      exact .iteSnd (.metaEnter h1) h1

theorem Kept.metaWrite {sl kind index val} (h : Kept s t) : Kept s (Machine.metaWrite sl kind index val t) := by
  refine .ite (.update h (roots := fun c => Tab.wf_set c.roots _ _)) ?_
  split
  · exact .metaPut (.stamp h)
  · exact .metaEnter h

theorem Kept.rekeyChild {r slot} (h : Kept s t) : Kept s (Machine.rekeyChild r slot t) := by
  refine .forAll (fun _ _ h' => ?_) h
  split
  · split
    · rename_i he
      exact .metaStore (.of_eq he (.metaRead (.chargeInternal h')))
    · rename_i he
      exact .metaFail (.of_eq he (.metaRead (.chargeInternal h')))
    · rename_i he
      exact .of_eq he (.metaRead (.chargeInternal h'))
  · exact h'

theorem Kept.startNodeRekey {sl kind index} (h : Kept s t) : Kept s (Machine.startNodeRekey sl kind index t) :=
  .beside (.beside (.metaWrite h))

theorem Kept.metaWriteBack {sl kind index} (h : Kept s t) : Kept s (Machine.metaWriteBack sl kind index t) := by
  unfold Machine.metaWriteBack
  split
  · exact h
  · extract_lets
    split
    rename_i t1 he
    have h1 := Kept.of_eq he (.metaFetch (.chargeInternal h))
    exact .ite (.metaDrop h1) (.metaDrop (.beside (.metaStore (.ite (.startNodeRekey h1) (.metaWrite h1)))))

theorem Kept.setCat {page lo w v} (h : Kept s t) : Kept s (Machine.setCat page lo w v t) := .metaWrite h

theorem Kept.setLocation {page kind loc} (h : Kept s t) : Kept s (Machine.setLocation page kind loc t) :=
  .setCat (.setCat h)

theorem Kept.setCounters {page v} (h : Kept s t) : Kept s (Machine.setCounters page v t) := .metaWrite h

theorem Kept.touchPage {page} (h : Kept s t) : Kept s (Machine.touchPage page t) := .metaTouch (.metaTouch h)

theorem Kept.pageFetch {page} (h : Kept s t) : Kept s (Machine.pageFetch page t).2 := by
  unfold Machine.pageFetch
  extract_lets
  split
  rename_i t1 he
  have h1 := Kept.of_eq he (.metaFetch h)
  split
  rename_i he
  exact .of_eq he (.metaFetch h1)

theorem Kept.heatUpdate {page add} (h : Kept s t) : Kept s (Machine.heatUpdate page add t) :=
  .setCat (.setCat h)

/-! ### The functions of Machine/Tier.lean -/

theorem Kept.updateActive (h : Kept s t) : Kept s (Machine.updateActive t) :=
  .ite (.beside h) (.ite (.beside h) h)

theorem Kept.raiseLevel {n} (h : Kept s t) : Kept s (Machine.raiseLevel n t) := .eventAll (.log h)

theorem Kept.updateLevel (h : Kept s t) : Kept s (Machine.updateLevel t) :=
  .ite h (.forAll (fun _ _ => .raiseLevel) (.beside h))

theorem Kept.poolChanged (h : Kept s t) : Kept s (Machine.poolChanged t) := .updateLevel (.updateActive h)

theorem Kept.takeFrame {reserve use} (h : Kept s t) : Kept s (Machine.takeFrame reserve use t).2 := by
  unfold Machine.takeFrame
  extract_lets
  split
  · exact h
  · split
    · exact h
    · exact .poolChanged (.ite (.wrapAdd (.put (.beside (.update (.drawn h)
        (frames := fun c => Tab.wf_set c.frames _ _))))) (.wrapAdd (.put (.beside (.update (.drawn h)
        (frames := fun c => Tab.wf_set c.frames _ _))))))

theorem Kept.freeFrame {c' f} (h : Kept s t) : Kept s (Machine.freeFrame c' f t) :=
  .poolChanged (.put (.put (.update h (frames := fun c => Tab.wf_set c.frames _ _))))

theorem Kept.occupy {c' f g n} (h : Kept s t) : Kept s (Machine.occupy c' f g n t) :=
  .update h (frames := fun c => Tab.wf_upd c.frames _ _)

theorem Kept.placeRun {pref n reserve} (h : Kept s t) : Kept s (Machine.placeRun pref n reserve t).2 := by
  unfold Machine.placeRun
  extract_lets
  split
  · exact .occupy h
  · split
    · rename_i he
      exact .occupy (.of_eq he (.takeFrame h))
    · rename_i he
      exact .of_eq he (.takeFrame h)

theorem Kept.freeRun {c' g n} (h : Kept s t) : Kept s (Machine.freeRun c' g n t) :=
  .ite h (.ite (.poolChanged (.put (.put (.update h (frames := fun c => Tab.wf_set c.frames _ _))))) (.update h
    (frames := fun c => Tab.wf_upd c.frames _ _)))

theorem Kept.sendSpillFree {member slot} (h : Kept s t) : Kept s (Machine.sendSpillFree member slot t) :=
  .originate h

theorem Kept.releaseLoc {l} (h : Kept s t) : Kept s (Machine.releaseLoc l t) := by
  unfold Machine.releaseLoc
  split
  · exact h
  · exact .freeFrame h
  · exact .freeRun h
  · exact .sendSpillFree (.put h)

theorem Kept.readFrame {page c f n} (h : Kept s t) : Kept s (Machine.readFrame page c f n t).2 := by
  induction n with
  | zero => exact h
  | succ n ih => exact .readUnit ih

theorem Kept.readSectors {page c g i n} (h : Kept s t) : Kept s (Machine.readSectors page c g i n t).2 := by
  induction n with
  | zero => exact h
  | succ n ih => exact .readUnit ih

theorem Kept.loadSegment {page c' g secs k} (h : Kept s t) :
    Kept s (Machine.loadSegment page c' g secs k t).2 := by
  unfold Machine.loadSegment
  extract_lets
  split
  rename_i he
  exact .of_eq he (.readSectors h)

theorem Kept.loadSegments {page c g secs n} (h : Kept s t) : Kept s (Machine.loadSegments page c g secs n t).2
  := by
  induction n with
  | zero => exact h
  | succ n ih => exact .loadSegment ih

theorem Kept.setMove {m} (h : Kept s t) : Kept s (Machine.setMove m t) := .beside h

theorem Kept.unqueuePage {page} (h : Kept s t) : Kept s (Machine.unqueuePage page t) :=
  .update h (chans := fun c => Tab.wf_mapCells c.chans _)

theorem Kept.startMove {m} (h : Kept s t) : Kept s (Machine.startMove m t) := .setCat (.unqueuePage (.beside h))

theorem Kept.waitMove {page k} (h : Kept s t) : Kept s (Machine.waitMove page k t) := .ite h (.beside h)

theorem Kept.dropJobs {page} (h : Kept s t) : Kept s (Machine.dropJobs page t) := .beside h

theorem Kept.abortMove {m} (h : Kept s t) : Kept s (Machine.abortMove m t) := by
  unfold Machine.abortMove
  extract_lets _ _ t1
  have h1 : Kept s t1 := .dropJobs (.ite (.count (.beside h)) (.beside h))
  exact .setCat (.ite (.ite (.sendSpillFree h1) h1) (.releaseLoc h1))

theorem Kept.abortHeld {m} (h : Kept s t) : Kept s (Machine.abortHeld m t) := .setCat (.abortMove h)

theorem Kept.askRekey {page} (h : Kept s t) : Kept s (Machine.askRekey page t) := .ite h (.beside h)

theorem Kept.askSegment {page k} (h : Kept s t) : Kept s (Machine.askSegment page k t) := .originate h

theorem Kept.queueDecode {page k w} (h : Kept s t) : Kept s (Machine.queueDecode page k w t) := by
  unfold Machine.queueDecode
  split
  · exact .addDecode h
  · exact h

theorem Kept.queueDecodes {m} (h : Kept s t) : Kept s (Machine.queueDecodes m t) := by
  refine .forAll (fun _ _ h' => ?_) h
  split
  · exact .queueDecode h'
  · exact h'

theorem Kept.startPromotion {page} (h : Kept s t) : Kept s (Machine.startPromotion page t) := by
  refine .ite (.ite h (.waitMove h)) (.ite h (.ite (.waitMove (.askRekey h)) (.ite (.waitMove h) ?_)))
  split
  · rename_i he
    exact .of_eq he (.takeFrame h)
  · rename_i t1 he
    have h1 := Kept.of_eq he (.takeFrame h)
    split
    · split
      rename_i he
      exact .queueDecodes (.startMove (.of_eq he (.loadSegments h1)))
    · exact .forAll (fun _ _ => .askSegment) (.startMove h1)

theorem Kept.startFill {page} (h : Kept s t) : Kept s (Machine.startFill page t) := by
  refine .ite h (.ite (.askRekey h) ?_)
  split
  · rename_i he
    exact .of_eq he (.takeFrame h)
  · rename_i he
    exact .startMove (.of_eq he (.takeFrame h))

theorem Kept.startPageRekey {page} (h : Kept s t) : Kept s (Machine.startPageRekey page t) := by
  refine .ite h (.ite (.askRekey h) ?_)
  split
  · rename_i he
    exact .of_eq he (.takeFrame h)
  · rename_i t1 he
    have h1 := Kept.of_eq he (.takeFrame h)
    split
    rename_i he
    exact .startMove (.of_eq he (.readFrame h1))

theorem Kept.tryWriteMove {page} (h : Kept s t) : Kept s (Machine.tryWriteMove page t) := by
  unfold Machine.tryWriteMove
  split
  · exact .startFill h
  · exact .startPromotion h
  · exact .startPromotion h
  · exact .ite (.startPageRekey h) h
  · exact h

theorem Kept.queueEncodes {m} (h : Kept s t) : Kept s (Machine.queueEncodes m t) := by
  refine .forAll (fun _ _ h' => ?_) h
  split
  · exact .ite (.beside h') (.beside h')
  · exact h'

theorem Kept.startDemotion {page} (h : Kept s t) : Kept s (Machine.startDemotion page t) := by
  unfold Machine.startDemotion
  split
  rename_i he
  exact .queueEncodes (.startMove (.of_eq he (.readFrame h)))

theorem Kept.keepSegment {page c' g secs k} (h : Kept s t) :
    Kept s (Machine.keepSegment page c' g secs k t).2 := by
  unfold Machine.keepSegment
  extract_lets
  split
  rename_i he
  exact .of_eq he (.readSectors h)

theorem Kept.keepSegments {page c g secs n} (h : Kept s t) : Kept s (Machine.keepSegments page c g secs n t).2
  := by
  induction n with
  | zero => exact h
  | succ n ih => exact .keepSegment ih

theorem Kept.startPlainMove {page kind} (h : Kept s t) : Kept s (Machine.startPlainMove page kind t) := by
  refine .ite (.waitMove h) (.ite h (.ite (.askRekey h) ?_))
  split
  · split
    · rename_i he
      exact .of_eq he (.takeFrame h)
    · rename_i t1 he
      have h1 := Kept.of_eq he (.takeFrame h)
      split
      rename_i he
      exact .startMove (.of_eq he (.readFrame h1))
  · refine .ite (.startMove h) ?_
    split
    · rename_i he
      exact .of_eq he (.placeRun h)
    · rename_i t2 he
      have h2 := Kept.of_eq he (.placeRun h)
      split
      rename_i he
      exact .startMove (.of_eq he (.keepSegments h2))
  · exact h

theorem Kept.wbDrop {a} (h : Kept s t) : Kept s (Machine.wbDrop a t) :=
  .update h (chans := fun c => Tab.wf_mapCells c.chans _)

theorem Kept.commitLine {m key gen major lines j} (h : Kept s t) : Kept s (Machine.commitLine m key gen major
  lines j t) := by
  unfold Machine.commitLine
  extract_lets
  split
  · extract_lets _ t1 t2
    have h1 : Kept s t1 := .ite (.poisonAdd h) h
    have h2 : Kept s t2 := by
      unfold t2
      split
      · exact .nearFill h1
      · exact h1
    exact .wbDrop (.storeUnit h2)
  · exact .storeUnit (.ite (.poisonAdd h) h)

theorem Kept.commitSectors {page c g key gen major i l} (h : Kept s t) :
    Kept s (Machine.commitSectors page c g key gen major i l t) := by
  induction l generalizing i t with
  | nil => exact h
  | cons d l ih => exact ih (.storeUnit h)

theorem Kept.queueRecompress {page} (h : Kept s t) : Kept s (Machine.queueRecompress page t) :=
  .ite h (.ite (.bump h) (.beside h))

theorem Kept.refreshMinor {page w} (h : Kept s t) : Kept s (Machine.refreshMinor page w t) :=
  .beside (.setCounters h)

theorem Kept.countMove {m} (h : Kept s t) : Kept s (Machine.countMove m t) :=
  .ite (.count h) (.ite (.count h) (.ite (.count h) h))

theorem Kept.finishMove {m kind loc ctr} (h : Kept s t) : Kept s (Machine.finishMove m kind loc ctr t) := by
  unfold Machine.finishMove
  extract_lets _ _ _ t1
  have h1 : Kept s t1 := .setCounters (.setCat (.setLocation (.countMove (.beside h))))
  exact .ite (.forAll (fun _ _ => .refreshMinor) (.releaseLoc h1)) (.releaseLoc h1)

theorem Kept.advanceWalk {ctx sl} (h : Kept s t) : Kept s (Machine.advanceWalk ctx sl t) := .beside h

theorem Kept.commitFrame {m} (h : Kept s t) : Kept s (Machine.commitFrame m t) := by
  have h1 := h
  unfold Machine.commitFrame
  split
  extract_lets lines t1
  have h1 : Kept s t1 := .forAll (fun _ _ => .commitLine) h
  exact .finishMove h1

theorem Kept.commitRun {m c' g secs} (h : Kept s t) : Kept s (Machine.commitRun m c' g secs t) :=
  .ite (.finishMove (.commitSectors h)) (.finishMove (.commitSectors h))

theorem Kept.setSeg {page k w} (h : Kept s t) : Kept s (Machine.setSeg page k w t) := .beside h

theorem Kept.putSegment {page member slot k m} (h : Kept s t) :
    Kept s (Machine.putSegment page member slot k m t) := by
  unfold Machine.putSegment
  split
  split
  · exact .originate h
  · exact h

theorem Kept.spillSegment {page c g secs k} (h : Kept s t) : Kept s (Machine.spillSegment page c g secs k t).2
  := by
  unfold Machine.spillSegment
  split
  · rename_i t1 he
    exact .of_eq he (.keepSegment h)
  · exact .keepSegment h

theorem Kept.spillSegments {page c g secs n} (h : Kept s t) : Kept s (Machine.spillSegments page c g secs n t).2
  := by
  induction n with
  | zero => exact h
  | succ n ih => exact .spillSegment ih

theorem Kept.putSpill {page} (h : Kept s t) : Kept s (Machine.putSpill page t) := by
  unfold Machine.putSpill
  split
  · exact .ite (.putSegment h) h
  · exact h

theorem Kept.startSpill {page member} (h : Kept s t) : Kept s (Machine.startSpill page member t) := by
  refine .ite (.waitMove h) ?_
  split
  · split
    rename_i he
    exact .putSpill (.queueDecodes (.startMove (.of_eq he (.spillSegments h))))
  · exact h

theorem Kept.commitDemotion {m} (h : Kept s t) : Kept s (Machine.commitDemotion m t) := by
  refine .ite (.abortHeld h) (.ite (.abortHeld (.bump h)) (.ite (.queueRecompress (.commitRun h)) ?_))
  split
  · rename_i he
    exact .abortHeld (.of_eq he (.placeRun h))
  · rename_i he
    exact .queueRecompress (.commitRun (.of_eq he (.placeRun h)))

theorem Kept.commitRecompression {m} (h : Kept s t) : Kept s (Machine.commitRecompression m t) := by
  refine .ite (.abortMove (.bump h)) (.ite (.abortMove (.bump h)) (.ite (.bump (.commitRun h)) ?_))
  split
  · rename_i he
    exact .of_eq he (.placeRun h)
  · rename_i he
    exact .bump (.commitRun (.of_eq he (.placeRun h)))

theorem Kept.commitMove {m} (h : Kept s t) : Kept s (Machine.commitMove m t) := by
  refine .ite h ?_
  split
  · exact .commitDemotion h
  · exact .commitRecompression h
  · exact .commitFrame h
  · exact .commitFrame h
  · exact .commitFrame h
  · exact .commitFrame h
  · exact .ite (.abortMove h) (.ite (.commitFrame h) (.commitRun h))
  · exact .advanceWalk (.ite (.wrapAdd (.finishMove h)) (.ite (.commitFrame h) (.commitRun h)))
  · exact .ite (.abortMove h) (.ite h (.wrapAdd (.finishMove h)))

theorem Kept.dropNear {page} (h : Kept s t) : Kept s (Machine.dropNear page t) :=
  .update h (near := fun c => Tab.wf_keep c.near _)

theorem Kept.unpin {page} (h : Kept s t) : Kept s (Machine.unpin page t) := .beside h

theorem Kept.discardPage {page} (h : Kept s t) : Kept s (Machine.discardPage page t) := by
  refine .dropNear (.forAll (fun _ _ => .wbDrop) ?_)
  split
  · exact .abortMove h
  · exact h

theorem Kept.zeroPage {page} (h : Kept s t) : Kept s (Machine.zeroPage page t) :=
  .unpin (.releaseLoc (.setCat (.setLocation (.beside (.discardPage h)))))

theorem Kept.losePage {page} (h : Kept s t) : Kept s (Machine.losePage page t) := .setLocation (.discardPage h)

/-! ### The functions of Machine/Queues.lean -/

theorem Kept.setReq {r} (h : Kept s t) : Kept s (Machine.setReq r t) := .beside h

theorem Kept.dropReq {id} (h : Kept s t) : Kept s (Machine.dropReq id t) := .beside h

theorem Kept.addReq {r} (h : Kept s t) : Kept s (Machine.addReq r t) := .beside h

theorem Kept.setSub {c' sc f} (h : Kept s t) : Kept s (Machine.setSub c' sc f t) :=
  .update h (chans := fun c => Tab.wf_upd c.chans _ _)

theorem Kept.pushWrite {w} (h : Kept s t) : Kept s (Machine.pushWrite w t) := by
  refine .ite h ?_
  split
  · exact .ite h (.beside (.setSub (.cancelFix h)))
  · exact h

theorem Kept.pushWrites (h : Kept s t) : Kept s (Machine.pushWrites t) := .forAll (fun _ _ => .pushWrite) h

theorem Kept.takeKeystream {r} (h : Kept s t) : Kept s (Machine.takeKeystream r t) := by
  unfold Machine.takeKeystream
  split
  · exact .setReq h
  · exact .setReq (.beside (.joinWait h))

/-! ### The functions of Machine/MoverOps.lean -/

theorem Kept.issueLine {src agent write cpa d mask hint} (h : Kept s t) :
    Kept s (Machine.issueLine src agent write cpa d mask hint t).2 :=
  .iteSnd (.addReq h) (.iteSnd (.originate (.addReq h)) (.dropReq (.originate (.addReq h))))

theorem Kept.setOp {ring o} (h : Kept s t) : Kept s (Machine.setOp ring o t) :=
  .update h (rings := fun c => Tab.wf_upd c.rings _ _)

theorem Kept.writeLine {ring slot i d} (h : Kept s t) : Kept s (Machine.writeLine ring slot i d t) := by
  unfold Machine.writeLine
  split
  · exact h
  · split
    · exact h
    · exact .ite (.setOp (.issueLine h)) (.issueLine h)

theorem Kept.readLine {ring slot i} (h : Kept s t) : Kept s (Machine.readLine ring slot i t) := by
  unfold Machine.readLine
  split
  · exact h
  · split
    · exact .setOp h
    · split
      rename_i t1 he
      have h1 := Kept.of_eq he (.issueLine h)
      exact .ite (.setOp h1) (.ite (.writeLine (.setOp h1)) (.setOp h1))

theorem Kept.endOp {ring slot status len} (h : Kept s t) : Kept s (Machine.endOp ring slot status len t) := by
  unfold Machine.endOp
  split
  · exact h
  · exact .setOp (.beside h)

theorem Kept.compressStep {ring slot fuel} (h : Kept s t) : Kept s (Machine.compressStep ring slot fuel t) := by
  induction fuel generalizing t with
  | zero => exact h
  | succ fuel ih =>
    unfold Machine.compressStep
    split
    · exact h
    · refine .ite h (.ite (.endOp h) ?_)
      split
      · exact h
      · refine .ite (.ite h (.endOp (.ite (.writeLine h) h))) ?_
        split
        · exact h
        · exact .endOp (.bump h)
        · refine .ite h (.ite (ih ?_) (.endOp (.bump h)))
          split
          · exact .setOp (.forAll (fun _ _ => .writeLine) h)
          · exact .forAll (fun _ _ => .writeLine) h

theorem Kept.decompressPoison {ring slot o} (h : Kept s t) : Kept s (Machine.decompressPoison ring slot o t) :=
  .endOp (.forAll (fun _ _ => .writeLine) h)

theorem Kept.decompressOne {ring slot o again} (hf : ∀ u, Kept s u → Kept s (again u)) (h : Kept s t) :
    Kept s (Machine.decompressOne ring slot o again t) := by
  refine .ite h (.ite (.endOp h) ?_)
  split
  · exact .endOp h
  · refine hf _ ?_
    split
    · exact .setOp (.forAll (fun _ _ => .writeLine) h)
    · exact .forAll (fun _ _ => .writeLine) h
  · refine .ite (.ite (.endOp h) (hf _ (.readLine (.setOp h)))) ?_
    split
    · exact h
    · exact .decompressPoison h
    · refine .ite (.endOp h) (.ite (hf _ (.forAll (fun _ _ => .readLine) (.setOp h))) ?_)
      split
      · exact h
      · exact .ite (.decompressPoison h) (.ite h (.setOp (.addDecode h)))

theorem Kept.decompressStep {ring slot fuel} (h : Kept s t) : Kept s (Machine.decompressStep ring slot fuel t)
  := by
  induction fuel generalizing t with
  | zero => exact h
  | succ fuel ih =>
    unfold Machine.decompressStep
    split
    · exact h
    · exact .decompressOne (fun _ => ih) h

theorem Kept.advanceOp {ring slot} (h : Kept s t) : Kept s (Machine.advanceOp ring slot t) := by
  unfold Machine.advanceOp
  split
  · exact h
  · exact .ite h (.ite (.compressStep h) (.ite (.decompressStep h) (.ite (.endOp h) h)))

theorem Kept.moverLine {ring slot line write d} (h : Kept s t) :
    Kept s (Machine.moverLine ring slot line write d t) := by
  unfold Machine.moverLine
  split
  · exact h
  · extract_lets _ _ t1
    have h1 : Kept s t1 := .setOp h
    refine .ite (.advanceOp (.setOp h)) (.ite (.advanceOp (.writeLine (.setOp h))) (.advanceOp (.ite ?_ h1)))
    split
    · exact .ite (.beside h1) h1
    · exact h1

theorem Kept.moverSegment {ring slot seg out} (h : Kept s t) :
    Kept s (Machine.moverSegment ring slot seg out t) := by
  unfold Machine.moverSegment
  split
  · exact h
  · exact .advanceOp (.setOp h)

theorem Kept.descArrived {ring slot d} (h : Kept s t) : Kept s (Machine.descArrived ring slot d t) :=
  .ite h (.update h (rings := fun c => Tab.wf_set c.rings _ _))

theorem Kept.fetchRing {ring fuel} (h : Kept s t) : Kept s (Machine.fetchRing ring fuel t) := by
  induction fuel generalizing t with
  | zero => exact h
  | succ fuel ih =>
    unfold Machine.fetchRing
    extract_lets _ _ t1 t2
    have h1 : Kept s t1 := .update h (rings := fun c => Tab.wf_set c.rings _ _)
    have h2 : Kept s t2 := by
      unfold t2
      split
      · exact .descArrived h1
      · exact .ite (.issueLine h1) (.descArrived (.issueLine h1))
    exact .ite h (ih h2)

/-! ### The functions of Machine/Home.lean -/

theorem Kept.sendCmp {port tag member status grant arg beats flags} (h : Kept s t) :
    Kept s (Machine.sendCmp port tag member status grant arg beats t flags) :=
  .beside h

theorem Kept.answerPeer {port tag member r d grant} (h : Kept s t) :
    Kept s (Machine.answerPeer port tag member r d grant t) :=
  .ite (.sendCmp h) (.ite (.sendCmp h) (.sendCmp (.beside h)))

theorem Kept.passGrant {r grant} (h : Kept s t) : Kept s (Machine.passGrant r grant t) := by
  unfold Machine.passGrant
  split
  · exact h
  · exact .ite (.beside h) (.ite (.beside h) h)

theorem Kept.replyTo {r d grant} (h : Kept s t) : Kept s (Machine.replyTo r d grant t) := by
  unfold Machine.replyTo
  split
  · extract_lets _ t1
    have h1 : Kept s t1 := .ite (.passGrant h) h
    exact .ite (.emit (.ite (.count (.emit h1)) h1)) h1
  · exact .answerPeer h
  · exact .moverLine h
  · exact .descArrived h
  · exact h

theorem Kept.readPromote {page} (h : Kept s t) : Kept s (Machine.readPromote page t) :=
  .ite (.startPromotion h) h

theorem Kept.reserveMinor {page j} (h : Kept s t) : Kept s (Machine.reserveMinor page j t).2 :=
  .iteSnd h (.iteSnd h (.setCounters h))

theorem Kept.countWrite {page} (h : Kept s t) : Kept s (Machine.countWrite page t) := by
  unfold Machine.countWrite
  split
  · exact .ite (.abortMove (.bump h)) (.setMove h)
  · exact h

theorem Kept.hintFill {a hint} (h : Kept s t) : Kept s (Machine.hintFill a hint t) := by
  unfold Machine.hintFill
  split
  · refine .ite h (.ite (.nearFill h) ?_)
    split
    · exact .nearFill h
    · exact .beside h
  · exact h

theorem Kept.placeWrite {r reserved} (h : Kept s t) : Kept s (Machine.placeWrite r reserved t) := by
  unfold Machine.placeWrite
  extract_lets _ _ _ t1 _ t2 t3 t4 t5
  have h1 : Kept s t1 := .ite (.heatUpdate h) h
  have h2 : Kept s t2 := .ite (.poisonDrop (.countWrite h1)) (.countWrite h1)
  have h3 : Kept s t3 := .ite (.poisonAdd h2) h2
  have h4 : Kept s t4 := by
    unfold t4
    split
    · exact .nearWrite h3
    · exact h3
  have h5 : Kept s t5 := by
    unfold t5
    split
    · exact .beside h4
    · exact .beside (.reserveMinor h4)
  exact .ite h (.ite (.log h) (.ite h (.pushWrites (.tryWriteMove (.hintFill h5)))))

theorem Kept.almPut {k st p} (h : Kept s t) : Kept s (Machine.almPut k st p t) :=
  .update h (almanac := fun c => Tab.wf_upd c.almanac _ _)

theorem Kept.almTouch {k} (h : Kept s t) : Kept s (Machine.almTouch k t) :=
  .update (.stamp h) (almanac := fun c => Tab.wf_upd c.almanac _ _)

theorem Kept.dirStamp {line} (h : Kept s t) : Kept s (Machine.dirStamp line t) :=
  .update (.bandStore h) (stamps := fun c => Tab.wf_set (bandStore_stamps _ t ▸ c.stamps) _ _)

theorem Kept.dirWrite {a st p} (h : Kept s t) : Kept s (Machine.dirWrite a st p t) :=
  .dirStamp (.update h (dir := fun c => Tab.wf_set c.dir _ _))

theorem Kept.chargedWrite {r reserved} (h : Kept s t) : Kept s (Machine.chargedWrite r reserved t) :=
  .placeWrite (.ite h (.chargeInternal h))

theorem Kept.internalWrite {r reserved} (h : Kept s t) : Kept s (Machine.internalWrite r reserved t) :=
  .ite (.addReq h) (.ite (.chargedWrite (.pageFetch h)) (.pageFetch h))

theorem Kept.writeMarker {a master} (h : Kept s t) : Kept s (Machine.writeMarker a master t) := .internalWrite h

theorem Kept.loseLine {a han} (h : Kept s t) : Kept s (Machine.loseLine a han t) :=
  .bump (.log (.writeMarker h))

theorem Kept.filterBacking {region sl line} (h : Kept s t) : Kept s (Machine.filterBacking region sl line t) :=
  .ite h (.forAll (fun _ _ h' => .ite h' (.ite (.loseLine (.dirWrite h')) (.dirWrite h'))) h)

theorem Kept.raiseRecall {a} (h : Kept s t) : Kept s (Machine.raiseRecall a t) := .addReq h

theorem Kept.recallLine {a} (h : Kept s t) : Kept s (Machine.recallLine a t) := by
  unfold Machine.recallLine
  extract_lets t1
  have h1 : Kept s t1 := .dirWrite h
  split
  · exact .update h1 (almanac := fun c => Tab.wf_upd c.almanac _ _)
  · exact .ite h1 (.raiseRecall h1)

theorem Kept.loseBacking {region sl line} (h : Kept s t) : Kept s (Machine.loseBacking region sl line t) :=
  .forAll (fun _ _ => .recallLine) (.bump (.log h))

theorem Kept.setBacking {line data cells} (h : Kept s t) : Kept s (Machine.setBacking line data cells t) :=
  .update (.update (.forAll (fun _ _ h' => .update h' (dir := fun c => Tab.wf_set c.dir _ _)) h)
    (stamps := fun c => Tab.wf_set c.stamps _ _)) (dram := fun c => Tab.wf_set c.dram _ _)

theorem Kept.readBacking {region sl line} (h : Kept s t) : Kept s (Machine.readBacking region sl line t).2.2 :=
  by
  unfold Machine.readBacking
  extract_lets k place cells
  clear_value place cells
  refine .iteSndSnd (.sndSnd (.filterBacking h)) ?_
  split
  next o t1 he =>
  have h1 : Kept s t1 := .of_eq he (.dramDecode h)
  split
  · exact .sndSnd (.loseBacking h1)
  · extract_lets t2 t3
    have h2 : Kept s t2 := .ite h1 (.setBacking h1)
    have h3 : Kept s t3 := .scheduleFix h2
    exact .sndSnd (.filterBacking h3)

theorem Kept.chargeBacking {before} (h : Kept s t) : Kept s (Machine.chargeBacking before t) :=
  .ite h (.chargeInternal h)

theorem Kept.fetchBacking {region sl line} (h : Kept s t) : Kept s (Machine.fetchBacking region sl line t) :=
  .chargeBacking (.readBacking (.chargeInternal h))

theorem Kept.almFree {k} (h : Kept s t) : Kept s (Machine.almFree k t) :=
  .update (.ite (.put h) h) (almanac := fun c => Tab.wf_set c.almanac _ _)

theorem Kept.almEvict {k} (h : Kept s t) : Kept s (Machine.almEvict k t) :=
  .almFree (.ite (.dirWrite (.fetchBacking h)) h)

theorem Kept.dropAlmanac {region} (h : Kept s t) : Kept s (Machine.dropAlmanac region t) :=
  .forAll (fun _ _ => .almFree) h

theorem Kept.keepWay {r k} (h : Kept s t) : Kept s (Machine.keepWay r k t) :=
  .update (.almEvict h) (almanac := fun c => Tab.wf_set c.almanac _ _)

theorem Kept.dropWay {r} (h : Kept s t) : Kept s (Machine.dropWay r t) := by
  unfold Machine.dropWay
  split
  · exact .update h (almanac := fun c => Tab.wf_set c.almanac _ _)
  · exact h

theorem Kept.almPin {k up} (h : Kept s t) : Kept s (Machine.almPin k up t) :=
  .update h (almanac := fun c => Tab.wf_upd c.almanac _ _)

theorem Kept.giveWay {k} (h : Kept s t) : Kept s (Machine.giveWay k t) := by
  unfold Machine.giveWay
  split
  · exact .keepWay h
  · exact h

theorem Kept.almUnpin {k} (h : Kept s t) : Kept s (Machine.almUnpin k t) :=
  .ite (.giveWay (.almPin h)) (.almPin h)

theorem Kept.freeTracker {r} (h : Kept s t) : Kept s (Machine.freeTracker r t) := by
  refine .ite h ?_
  extract_lets _ t1
  have h1 : Kept s t1 := .ite h (.put h)
  refine .ite (.dropWay h1) ?_
  split
  · exact .almUnpin h1
  · exact h1

theorem Kept.finish {r d} (h : Kept s t) : Kept s (Machine.finish r d t) := by
  unfold Machine.finish
  extract_lets t1
  have h1 : Kept s t1 := .freeTracker (.replyTo h)
  exact .ite (.setReq h1) (.dropReq h1)

theorem Kept.finishRead {r d fromStorage} (h : Kept s t) : Kept s (Machine.finishRead r d fromStorage t) := by
  refine .finish ?_
  split
  · exact .ite (.nearFill h) h
  · exact h

theorem Kept.serveRead {r} (h : Kept s t) : Kept s (Machine.serveRead r t) := by
  unfold Machine.serveRead
  extract_lets t1 _ plan t2
  have h1 : Kept s t1 := .ite (.heatUpdate h) h
  have h2 : Kept s t2 := by
    unfold t2
    split
    · exact .count (.update (.stamp h1) (near := fun c => Tab.wf_upd c.near _ _))
    · exact .count h1
  clear_value plan
  split
  · exact .setReq h2
  · exact .finishRead (.ite (.readPromote h2) h2)
  · exact .ite (.readPromote (.takeKeystream h2)) (.takeKeystream h2)
  · split
    next t3 he =>
    have h3 : Kept s t3 := .of_eq he (.originate h2)
    exact .ite (.ite (.readPromote (.setReq h3)) (.setReq h3)) (.finish h3)

theorem Kept.acceptWrite {r} (h : Kept s t) : Kept s (Machine.acceptWrite r t) :=
  .ite (.finish (.placeWrite h)) (.setReq h)

theorem Kept.serveWrite {r} (h : Kept s t) : Kept s (Machine.serveWrite r t) :=
  .ite (.finish (.chargedWrite h)) (.ite (.finish (.placeWrite h)) (.setReq (.joinWait h)))

theorem Kept.serveData {r} (h : Kept s t) : Kept s (Machine.serveData r t) :=
  .ite (.finish h) (.ite (.setReq h) (.ite (.serveWrite (.touchPage h)) (.serveRead (.touchPage h))))

theorem Kept.trySnoop {n} (h : Kept s t) : Kept s (Machine.trySnoop n t) := by
  refine .ite h (.ite h (.ite h (.ite (.originate (.beside h)) ?_)))
  split
  · exact .beside h
  · exact .ite (.beside h) (.ite (.beside h) (.count (.emit (.beside (.beside (.update h
      (links := fun c => Tab.wf_upd c.links _ _)))))))

theorem Kept.retrySnoops (h : Kept s t) : Kept s (Machine.retrySnoops t) :=
  .forAll (fun _ _ => .trySnoop) (.forAll (fun _ _ h' => .forAll (fun _ _ => .trySnoop) h') h)

theorem Kept.applyTx {r k} (h : Kept s t) : Kept s (Machine.applyTx r k t) := by
  unfold Machine.applyTx
  split
  extract_lets t1
  have h1 : Kept s t1 := .almPut h
  split
  · exact .finish h1
  · exact .ite (.serveData (.setReq h1)) (.finish h1)

theorem Kept.filterOpen {k} (h : Kept s t) : Kept s (Machine.filterOpen k t) := .almPut (.ite (.loseLine h) h)

theorem Kept.openTx {r k} (h : Kept s t) : Kept s (Machine.openTx r k t) := by
  unfold Machine.openTx
  extract_lets
  split
  extract_lets _ t1
  have h1 : Kept s t1 := .setReq (.almTouch (.filterOpen h))
  exact .ite (.applyTx h1) (.retrySnoops (.beside h1))

theorem Kept.settleLines {fuel} (h : Kept s t) : Kept s (Machine.settleLines fuel t) := by
  induction fuel generalizing t with
  | zero => exact h
  | succ fuel ih =>
    unfold Machine.settleLines
    split
    · exact h
    · split
      · exact ih (.openTx h)
      · exact h

theorem Kept.servePrivate {r} (h : Kept s t) : Kept s (Machine.servePrivate r t) := by
  unfold Machine.servePrivate
  extract_lets
  split
  · exact .finish h
  · exact .ite (.ite (.setReq h) (.serveData h)) (.finish h)

theorem Kept.resumeOrder (h : Kept s t) : Kept s (Machine.resumeOrder t) :=
  .forAll (fun _ _ h' => .ite h' (.servePrivate h')) h

theorem Kept.resumeKeystreams (h : Kept s t) : Kept s (Machine.resumeKeystreams t) :=
  .forAll (fun _ _ => .takeKeystream) h

theorem Kept.settle (h : Kept s t) : Kept s (Machine.settle t) :=
  .pushWrites (.resumeKeystreams (.resumeOrder (.settleLines h)))

theorem Kept.joinLine {r k} (h : Kept s t) : Kept s (Machine.joinLine r k t) := .ite (.setReq h) (.openTx h)

theorem Kept.answerSnoop {req han keep} (h : Kept s t) : Kept s (Machine.answerSnoop req han keep t) := by
  unfold Machine.answerSnoop
  split
  · exact h
  · extract_lets t1 t2
    have h1 : Kept s t1 := .beside h
    have h2 : Kept s t2 := by
      unfold t2
      split
      · exact h1
      · exact .ite (.ite (.almPut h1) (.almPut h1)) h1
    split
    · extract_lets _ t3
      have h3 : Kept s t3 := .retrySnoops (.setReq h2)
      exact .ite (.applyTx h3) h3
    · exact .retrySnoops h2

theorem Kept.installEntry {r k} (h : Kept s t) : Kept s (Machine.installEntry r k t) :=
  .bump (.update (.stamp h) (almanac := fun c => Tab.wf_set c.almanac _ _))

theorem Kept.lookup {r} (h : Kept s t) : Kept s (Machine.lookup r t) := by
  unfold Machine.lookup
  split
  · exact .joinLine (.almPin (.setReq (.count h)))
  · extract_lets
    split
    · exact .setReq (.keepWay (.count h))
    · exact .count (.bump (.setReq (.count h)))

theorem Kept.takeTracker {r} (h : Kept s t) : Kept s (Machine.takeTracker r t) := .lookup (.ite h (.put h))

theorem Kept.denyLease {code r} (h : Kept s t) : Kept s (Machine.denyLease code r t) := .finish (.logAs h)

theorem Kept.leaseBreakEvent {region holder} (h : Kept s t) :
    Kept s (Machine.leaseBreakEvent region holder t) := by
  unfold Machine.leaseBreakEvent
  extract_lets t1
  have h1 : Kept s t1 := .log h
  split
  · exact .eventTo h1
  · exact .ite (.emit h1) h1

theorem Kept.serveLeased {r} (h : Kept s t) : Kept s (Machine.serveLeased r t) :=
  .ite (.denyLease h) (.ite (.setReq h) (.ite (.servePrivate h) (.ite (.leaseBreakEvent (.writeRegion (.setReq
    h))) (.setReq h))))

theorem Kept.refuseOp {ring slot} (h : Kept s t) : Kept s (Machine.refuseOp ring slot t) := by
  unfold Machine.refuseOp
  split
  · exact .ite (.endOp h) h
  · exact h

theorem Kept.refusePeer {r} (h : Kept s t) : Kept s (Machine.refusePeer r t) := by
  unfold Machine.refusePeer
  split
  · exact .dropReq (.sendCmp h)
  · exact .finish h

theorem Kept.dispatchReq {r} (h : Kept s t) : Kept s (Machine.dispatchReq r t) := by
  refine .ite (.finish (.log h)) (.ite (.finish h) (.ite (.finish h) (.ite (.takeTracker h) (.ite ?_
    (.servePrivate h)))))
  split
  · exact .ite (.servePrivate h) (.serveLeased h)
  · exact .ite (.serveLeased h) (.ite (.servePrivate h) (.finish (.refuseOp h)))
  · exact .ite (.servePrivate h) (.serveLeased h)
  · exact .ite (.serveLeased h) (.ite (.servePrivate h) (.refusePeer h))
  · exact .serveLeased h

theorem Kept.resumeLease {region} (h : Kept s t) : Kept s (Machine.resumeLease region t) := by
  refine .forAll (fun _ _ h' => ?_) h
  split
  · exact .serveLeased h'
  · exact h'

theorem Kept.resumeSlice {sl} (h : Kept s t) : Kept s (Machine.resumeSlice sl t) := by
  refine .forAll (fun _ _ h' => ?_) (.forAll (fun _ _ h' => .ite (.acceptWrite h') h') h)
  split
  · exact .serveRead h'
  · exact h'

/-! ### The functions of Machine/Requests.lean -/

theorem Kept.logProtocol {slot} (h : Kept s t) : Kept s (Machine.logProtocol slot t) := .log h

theorem Kept.keepForHome {n r} (h : Kept s t) : Kept s (Machine.keepForHome n r t) := .beside h

theorem Kept.route {slot hpa r} (h : Kept s t) : Kept s (Machine.route slot hpa r t) := by
  unfold Machine.route
  split
  · exact .replyTo (.logProtocol h)
  · refine .ite (.replyTo h) (.ite (.replyTo (.log h)) ?_)
    split
    · exact .replyTo (.log h)
    · refine .ite (.replyTo (.log h)) (.ite (.addReq h) (.ite (.replyTo h) ?_))
      split
      · exact .replyTo (.keepForHome h)
      · exact .ite (.originate (.addReq h)) (.dropReq (.replyTo (.log (.originate (.addReq h)))))

theorem Kept.receive {slot hpa r} (h : Kept s t) : Kept s (Machine.receive slot hpa r t) := by
  refine .ite h ?_
  extract_lets t1
  have h1 : Kept s t1 := .ite (.count h) (.ite (.count h) h)
  exact .ite (.wakeRaw (.beside h1)) (.route (.wakeRaw h1))

theorem Answer.execMemRd {slot tag hpa mv data} (h : Kept s t) :
    Answer s (Machine.execMemRd slot tag hpa mv data t) :=
  .next (.receive h)

theorem Answer.execMemWr {slot tag hpa mv line poison} (h : Kept s t) :
    Answer s (Machine.execMemWr slot tag hpa mv line poison t) :=
  .next (.receive h)

theorem Answer.execMemWrPtl {slot tag hpa mv line mask poison} (h : Kept s t) :
    Answer s (Machine.execMemWrPtl slot tag hpa mv line mask poison t) :=
  .next (.receive h)

theorem Answer.execMemInv {slot tag hpa mv} (h : Kept s t) : Answer s (Machine.execMemInv slot tag hpa mv t) :=
  .next (.receive h)

theorem Answer.execMemClnEvct {slot tag hpa} (h : Kept s t) :
    Answer s (Machine.execMemClnEvct slot tag hpa t) :=
  .next (.receive h)

theorem Answer.execMemSpecRd {_slot _tag _hpa} (h : Kept s t) :
    Answer s (Machine.execMemSpecRd _slot _tag _hpa t) :=
  .next h

theorem Answer.execMemFwd {slot _tag _hpa} (h : Kept s t) : Answer s (Machine.execMemFwd slot _tag _hpa t) :=
  .next (.logProtocol h)

theorem Answer.execUnknownMemOpcode {slot tag _hpa data} (h : Kept s t) :
    Answer s (Machine.execUnknownMemOpcode slot tag _hpa data t) :=
  .next (.receive h)

theorem Kept.applyOwnerWb {r} (h : Kept s t) : Kept s (Machine.applyOwnerWb r t) := by
  unfold Machine.applyOwnerWb
  extract_lets _ _ _ t1 t2 t3 snoop _ t4
  have h1 : Kept s t1 := .fetchBacking h
  have h2 : Kept s t2 := by
    unfold t2
    split
    · exact .almTouch (.almPut h)
    · split
      · exact .bump (.update (.stamp (.almEvict h1)) (almanac := fun c => Tab.wf_set c.almanac _ _))
      · exact .dirWrite (.chargeInternal h1)
  have h3 : Kept s t3 := .pageFetch h2
  have h4 : Kept s t4 := by
    unfold t4
    clear_value snoop
    split
    · exact .beside h3
    · exact h3
  exact .finish (.placeWrite (.ite h4 (.chargeG h4)))

theorem Kept.noteWrite {r} (h : Kept s t) : Kept s (Machine.noteWrite r t) :=
  .ite h (.forAll (fun _ _ h' => .update h' (rings := fun c => Tab.wf_upd c.rings _ _)) h)

theorem Kept.acceptNext {sl} (h : Kept s t) : Kept s (Machine.acceptNext sl t) := by
  unfold Machine.acceptNext
  split
  · exact h
  · exact .ite (.settle (.applyOwnerWb (.noteWrite h))) (.settle (.dispatchReq (.beside (.noteWrite h))))

theorem Kept.losePresence {k} (h : Kept s t) : Kept s (Machine.losePresence k t) :=
  .ite h (.raiseRecall (.almPut (.bump (.logAs h))))

theorem Kept.loseTag {sl} (h : Kept s t) : Kept s (Machine.loseTag sl t) := .logAs h

theorem Kept.checkEntry {found k} (h : Kept s t) : Kept s (Machine.checkEntry found k t) := by
  unfold Machine.checkEntry
  split
  · exact h
  · exact .bump h
  · exact .losePresence h
  · exact .loseTag h
  · exact h

theorem Kept.struck {place err f} (hf : ∀ u, Kept s u → Kept s (f u)) (h : Kept s t) : Kept s (Machine.struck
  place err f t) := by
  unfold Machine.struck
  extract_lets k before t1
  have h1 : Kept s t1 := hf _ (.update h (dram := fun c => Tab.wf_set c.dram _ _))
  exact .ite (.update h1 (dram := fun c => Tab.wf_set c.dram _ _)) h1

theorem Kept.acceptShared {sl found r} (h : Kept s t) : Kept s (Machine.acceptShared sl found r t) := by
  unfold Machine.acceptShared
  split
  · exact .acceptNext (.checkEntry h)
  · exact .struck (fun _ => .acceptNext) h
  · exact .acceptNext h

theorem Answer.execArbiterAccept {slice entry} (h : Kept s t) :
    Answer s (Machine.execArbiterAccept slice entry t) := by
  unfold Machine.execArbiterAccept
  split
  · exact .next (.acceptShared h)
  · exact .next (.acceptNext h)

theorem Answer.execPinWaitGrant {slice set} (h : Kept s t) :
    Answer s (Machine.execPinWaitGrant slice set t) := by
  unfold Machine.execPinWaitGrant
  split
  · exact .next h
  · extract_lets t1
    have h1 : Kept s t1 := .put h
    split
    · exact .next (.settle (.joinLine (.almPin (.dropWay h1))))
    · exact .next (.setReq h1)
    · exact .next (.setReq (.keepWay h1))
    · exact .next h

theorem Answer.execBackingFetchComplete {slice err} (h : Kept s t) :
    Answer s (Machine.execBackingFetchComplete slice err t) := by
  unfold Machine.execBackingFetchComplete
  split
  · exact .next h
  · extract_lets _ _ t1
    have h1 : Kept s t1 := .struck (fun _ => .fetchBacking) h
    split
    · exact .next (.settle (.joinLine (.almPin (.dropWay h1))))
    · exact .next (.settle (.joinLine (.installEntry h1)))
    · exact .next (.setReq h1)

theorem Kept.stallFetch {r} (h : Kept s t) : Kept s (Machine.stallFetch r t) := .ite h (.bump (.setReq h))

theorem Answer.execMetadataFetchComplete {slice found} (h : Kept s t) :
    Answer s (Machine.execMetadataFetchComplete slice found t) := by
  refine .ite (.next h) ?_
  extract_lets _ t1
  have h1 : Kept s t1 := .forAll (fun _ _ => .stallFetch) h
  split
  · exact .next h1
  · extract_lets _ t2
    have h2 : Kept s t2 := .ite (.put h1) h1
    exact .ite (.next (.settle (.serveData (.struck (fun _ => .pageFetch) h2)))) (.next (.settle (.finish
      (.struck (fun _ => .pageFetch) h2))))

theorem Answer.execMetadataEvictUpdate {slice} (h : Kept s t) :
    Answer s (Machine.execMetadataEvictUpdate slice t) := by
  refine .ite (.next h) ?_
  extract_lets
  split
  · exact .next (.metaWriteBack h)
  · exact .next h

theorem Answer.execNodeRekeyComplete {slice} (h : Kept s t) :
    Answer s (Machine.execNodeRekeyComplete slice t) := by
  unfold Machine.execNodeRekeyComplete
  split
  · exact .next h
  · exact .next (.beside (.forAll (fun _ _ => .rekeyChild) h))

theorem Answer.execMergeReadComplete {slice err} (h : Kept s t) :
    Answer s (Machine.execMergeReadComplete slice err t) := by
  unfold Machine.execMergeReadComplete
  split
  · exact .next h
  · exact .next (.settle (.resumeSlice (.hintFill (.beside (.ite (.nearDrop (.poisonAdd (.readUnit h)))
      (.readUnit h))))))

theorem Answer.execWriteBufferDrain {slice} (h : Kept s t) :
    Answer s (Machine.execWriteBufferDrain slice t) := by
  unfold Machine.execWriteBufferDrain
  split
  · exact .next h
  · refine .next (.settle (.resumeSlice (.retrySnoops (.wbDrop ?_))))
    split
    · exact .bump (.storeUnit h)
    · exact .storeUnit h

theorem Kept.retryMoves {sl} (h : Kept s t) : Kept s (Machine.retryMoves sl t) :=
  .forAll (fun _ _ => .tryWriteMove) h

theorem Answer.execStorageWaitResume {slice} (h : Kept s t) :
    Answer s (Machine.execStorageWaitResume slice t) :=
  .next (.pushWrites (.retryMoves h))

theorem Answer.execCapacityStallRepeat (h : Kept s t) : Answer s (Machine.execCapacityStallRepeat t) :=
  .ite (.next (.raiseLevel h)) (.next h)

theorem Kept.answerHome {n keep} (h : Kept s t) : Kept s (Machine.answerHome n keep t) := by
  unfold Machine.answerHome
  split
  · exact h
  · exact .beside h

theorem Answer.execBirsp {slot addr answer} (h : Kept s t) :
    Answer s (Machine.execBirsp slot addr answer t) := by
  unfold Machine.execBirsp
  split
  · exact .next (.logProtocol h)
  · split
    extract_lets t1
    have h1 : Kept s t1 := .ite (.logProtocol h) h
    exact .ite (.next (.answerHome h1)) (.next (.settle (.answerSnoop h1)))

theorem Answer.execBiconflict {slot addr} (h : Kept s t) : Answer s (Machine.execBiconflict slot addr t) :=
  .ite (.next (.emit h)) (.next (.logProtocol h))

theorem Answer.execBiCreditReturn {link n} (h : Kept s t) : Answer s (Machine.execBiCreditReturn link n t) :=
  .next (.retrySnoops (.update h (links := fun c => Tab.wf_upd c.links _ _)))

/-! ### The functions of Machine/Regulator.lean -/

theorem Kept.publishSlots {c'} (h : Kept s t) : Kept s (Machine.publishSlots c' t) :=
  .put (.put (.put (.put h)))

theorem Kept.certify (h : Kept s t) : Kept s (Machine.certify t) := .put (.put (.put h))

theorem Kept.applyQos (h : Kept s t) : Kept s (Machine.applyQos t) :=
  .put (.beside (.forAll (fun _ _ h' => .put (.put (.put (.put h')))) h))

theorem Kept.scaleG (h : Kept s t) : Kept s (Machine.scaleG t) := .forAll (fun _ _ => .put) (.put (.put h))

theorem Kept.refillBuckets (h : Kept s t) : Kept s (Machine.refillBuckets t) :=
  .beside (.update h (masters := fun c => Tab.wf_foldl (fun _ _ h => Tab.wf_upd h _ _) c.masters))

theorem Kept.publishMstat (h : Kept s t) : Kept s (Machine.publishMstat t) :=
  .ite h (.ite (.update h (masters := fun c => Tab.wf_mapCells c.masters _)) (.forAll (fun _ _ h' => .update
    (.put (.put h')) (masters := fun c => Tab.wf_set c.masters _ _)) h))

theorem Kept.setQuotas (h : Kept s t) : Kept s (Machine.setQuotas t) :=
  .update h (quotas := fun _ => Tab.wf_foldl (fun _ _ h => Tab.wf_set h _ _) rfl)

theorem Kept.refill (h : Kept s t) : Kept s (Machine.refill t) :=
  .setQuotas (.publishMstat (.refillBuckets (.scaleG (.certify (.applyQos (.forAll (fun _ _ => .publishSlots)
    h))))))

theorem Kept.admitReq {r} (h : Kept s t) : Kept s (Machine.admitReq r t) := by
  refine .ite (.acceptWrite h) ?_
  split
  · exact .setReq (.setSub h)
  · exact h

theorem Kept.admitWaiter {w} (h : Kept s t) : Kept s (Machine.admitWaiter w t) := by
  unfold Machine.admitWaiter
  split
  · exact .admitReq h
  · exact .update h (masters := fun c => Tab.wf_upd c.masters _ _)

theorem Maybe.admitOne (h : Kept s t) : Maybe s (Machine.admitOne t) := by
  refine .ite ?_ ?_
  · split
    · exact .some (.admitReq h)
    · exact .map fun _ => .admitWaiter h
  · split
    · exact .some (.admitWaiter (.count (.chargeG h)))
    · exact .map fun _ => .admitWaiter (.count (.chargeS h))

theorem Kept.admitLoop {n} (h : Kept s t) : Kept s (Machine.admitLoop n t) := by
  induction n generalizing t with
  | zero => exact h
  | succ n ih =>
    unfold Machine.admitLoop
    split
    · rename_i he
      exact ih (Maybe.admitOne h _ he)
    · exact h

theorem Kept.markThrottled (h : Kept s t) : Kept s (Machine.markThrottled t) := .beside h

theorem Answer.execAdmission (h : Kept s t) : Answer s (Machine.execAdmission t) :=
  .ite (.next h) (.next (.settle (.markThrottled (.admitLoop h))))

theorem Answer.execRegulatorShortfallCheck (h : Kept s t) : Answer s (Machine.execRegulatorShortfallCheck t) :=
  .ite (.next h) (.ite (.next (.put (.bump (.log (.jobDone h))))) (.next (.jobDone h)))

theorem Answer.execQosCtrlWrite {value} (h : Kept s t) : Answer s (Machine.execQosCtrlWrite value t) := by
  unfold Machine.execQosCtrlWrite
  extract_lets _ _ _ _ _ _ t1 t2
  have h1 : Kept s t1 := .ite (.put (.put h)) (.put h)
  have h2 : Kept s t2 := .ite (.put h1) h1
  exact .next (.ite (.put (.put h2)) (.put h2))

/-! ### The functions of Machine/Dram.lean -/

theorem Kept.setRank {c' k f} (h : Kept s t) : Kept s (Machine.setRank c' k f t) :=
  .update h (chans := fun c => Tab.wf_upd c.chans _ _)

theorem Kept.updateDrain {c' sc} (h : Kept s t) : Kept s (Machine.updateDrain c' sc t) := .setSub h

theorem Kept.sendDram {c' sc cmd} (h : Kept s t) : Kept s (Machine.sendDram c' sc cmd t) := .emit h

theorem Kept.burst {c' bucket} (h : Kept s t) : Kept s (Machine.burst c' bucket t) :=
  .update h (chans := fun c => Tab.wf_upd c.chans _ _)

theorem Kept.columnAccess {c' sc d p} (h : Kept s t) : Kept s (Machine.columnAccess c' sc d p t) :=
  .sendDram (.burst (.count (.count (.setRank (.update (.ite (.beside (.setSub h)) (.setSub h))
    (chans := fun c => Tab.wf_upd c.chans _ _))))))

theorem Kept.openRow {c' p} (h : Kept s t) : Kept s (Machine.openRow c' p t) :=
  .update h (chans := fun c => Tab.wf_upd c.chans _ _)

theorem Kept.closeRow {c' r} (h : Kept s t) : Kept s (Machine.closeRow c' r t) :=
  .sendDram (.update h (chans := fun c => Tab.wf_upd c.chans _ _))

theorem Kept.takeMaint {c' n} (h : Kept s t) : Kept s (Machine.takeMaint c' n t) :=
  .update h (chans := fun c => Tab.wf_upd c.chans _ _)

theorem Kept.issueFix {c' w} (h : Kept s t) : Kept s (Machine.issueFix c' w t) :=
  .burst (.takeMaint (.bump (.update h (dram := fun c => Tab.wf_set c.dram _ _)
    (chans := fun c => Tab.wf_upd c.chans _ _))))

theorem Answer.execDramCommandIssue {chan sc blocked} (h : Kept s t) :
    Answer s (Machine.execDramCommandIssue chan sc blocked t) := by
  unfold Machine.execDramCommandIssue
  extract_lets _ t1
  have h1 : Kept s t1 := .updateDrain h
  refine .ite (.next h) ?_
  split
  · exact .next (.closeRow h)
  · exact .next (.issueFix h)
  · split
    · split
      · exact .next (.issueFix h1)
      · exact .next h1
    · refine .ite (.next (.sendDram (.setRank h1))) ?_
      split
      · exact .ite (.next (.closeRow h1)) (.ite (.next (.pushWrites (.updateDrain (.columnAccess h1)))) (.next
          h1))
      · exact .next (.sendDram (.count (.openRow h1)))

theorem Answer.execRowCloseTimeout {chan sc} (h : Kept s t) :
    Answer s (Machine.execRowCloseTimeout chan sc t) := by
  unfold Machine.execRowCloseTimeout
  split
  · exact .next (.closeRow h)
  · exact .next h

theorem Answer.execPowerDownEntry {chan rank} (h : Kept s t) :
    Answer s (Machine.execPowerDownEntry chan rank t) :=
  .ite (.next h) (.next (.sendDram (.sendDram (.setRank h))))

theorem Kept.issueRefab {c' k} (h : Kept s t) : Kept s (Machine.issueRefab c' k t) := by
  unfold Machine.issueRefab
  extract_lets _ t1
  have h1 : Kept s t1 := .ite (.sendDram (.sendDram h)) h
  exact .sendDram (.sendDram (.count (.setRank (.ite (.put (.put h1)) (.put h1)))))

theorem Answer.execRefabIssue {chan rank} (h : Kept s t) : Answer s (Machine.execRefabIssue chan rank t) :=
  .ite (.next (.issueRefab h)) (.next h)

theorem Kept.accrue {c' k elapsed} (h : Kept s t) : Kept s (Machine.accrue c' k elapsed t) := .put (.put h)

theorem Answer.execRefreshPlanning {chan} (h : Kept s t) : Answer s (Machine.execRefreshPlanning chan t) :=
  .ite (.next h) (.next (.jobDone (.update (.forAll (fun _ _ => .accrue) h)
    (chans := fun c => Tab.wf_upd c.chans _ _))))

theorem Kept.setRate {c' k fast} (h : Kept s t) : Kept s (Machine.setRate c' k fast t) := by
  unfold Machine.setRate
  extract_lets _ _ t1 _ _ _ t2
  have h1 : Kept s t1 := .put (.put h)
  have h2 : Kept s t2 := .put (.put h)
  exact .ite h (.ite (.setRank (.ite h1 (.put h1))) (.ite (.setRank (.ite (.put h2) h2)) h2))

theorem Kept.readDimm {c' d sensor bands} (h : Kept s t) : Kept s (Machine.readDimm c' d sensor bands t).2 := by
  unfold Machine.readDimm
  extract_lets _ _ _ _ t1
  have h1 : Kept s t1 := .ite (.log h) h
  refine .forAll (fun _ _ h' => ?_) (.ite (.log h1) h1)
  extract_lets _ t2
  have h2 : Kept s t2 := .put h'
  split
  · exact .setRate h2
  · exact .ite (.setRate h2) (.ite (.setRate h2) h2)

theorem Answer.execDimmTemperatureRead {chan sensors bands} (h : Kept s t) :
    Answer s (Machine.execDimmTemperatureRead chan sensors bands t) :=
  .ite (.next h) (.next (.jobDone (.update (.takeMaint (.forAll (fun _ _ => .burst)
    (.foldlSnd (fun _ _ => .readDimm) h))) (chans := fun c => Tab.wf_upd c.chans _ _))))

theorem Kept.dropKeystream {id unit} (h : Kept s t) : Kept s (Machine.dropKeystream id unit t) := .beside h

theorem Kept.unitsDone {r} (h : Kept s t) : Kept s (Machine.unitsDone r t) :=
  .ite (.ite (.dropReq h) (.setReq h)) (.ite (.ite (.finishRead h) (.setReq h)) (.ite (.finishRead (.poisonAdd
    h)) (.ite (.setReq h) (.setReq (.addDecode h)))))

theorem Answer.execDramReadComplete {chan sc err} (h : Kept s t) :
    Answer s (Machine.execDramReadComplete chan sc err t) := by
  unfold Machine.execDramReadComplete
  split
  · exact .next h
  · extract_lets
    split
    · exact .next (.setSub h)
    · extract_lets
      split
      rename_i t1 he
      have h1 := Kept.of_eq he (.dramSense (.setSub h))
      split
      rename_i t2 he
      have h2 := Kept.of_eq he (.dramDecode h1)
      extract_lets
      split
      · exact .next (.settle (.unitsDone (.dropKeystream (.poisonAdd (.scheduleFix h2)))))
      · exact .next (.beside (.setReq (.scheduleFix h2)))

theorem Answer.execKeystreamReady {engine} (h : Kept s t) : Answer s (Machine.execKeystreamReady engine t) := by
  unfold Machine.execKeystreamReady
  split
  · exact .next h
  · exact .next (.beside h)

theorem Kept.checkUnit {r u'} (h : Kept s t) : Kept s (Machine.checkUnit r u' t).2 := by
  refine .iteSnd h ?_
  split
  · exact h
  · exact h
  · exact .alarmData (.poisonAdd (.count h))

theorem Answer.execCryptoReadUnit {engine} (h : Kept s t) : Answer s (Machine.execCryptoReadUnit engine t) := by
  unfold Machine.execCryptoReadUnit
  split
  · exact .next h
  · extract_lets t1
    have h1 : Kept s t1 := .beside h
    split
    · exact .next h1
    · split
      · exact .next h1
      · exact .next (.settle (.unitsDone (.checkUnit (.count (.bump (.dropKeystream h1))))))

theorem Kept.scrubLine {c' e} (h : Kept s t) : Kept s (Machine.scrubLine c' e t) := by
  unfold Machine.scrubLine
  extract_lets
  split
  rename_i t1 he
  have h1 := Kept.of_eq he (.dramSense h)
  extract_lets
  split
  rename_i t2 he
  have h2 := Kept.of_eq he (.dramDecode h1)
  extract_lets t3
  have h3 : Kept s t3 := .burst (.takeMaint (.scheduleFix h2))
  exact .ite (.bump (.put h3)) (.put h3)

theorem Answer.execPatrolScrubQuantum {chan errs} (h : Kept s t) :
    Answer s (Machine.execPatrolScrubQuantum chan errs t) :=
  .ite (.next h) (.ite (.next (.forAll (fun _ _ => .scrubLine) (.jobDone h))) (.next (.jobDone h)))

theorem Answer.execMarkWindowEnd (h : Kept s t) : Answer s (Machine.execMarkWindowEnd t) :=
  .ite (.next h) (.next (.update h (chans := fun c => Tab.wf_mapCells c.chans _)))

theorem Kept.markWrite {c' rank sc valid dev} (h : Kept s t) :
    Kept s (Machine.markWrite c' rank sc valid dev t) := by
  unfold Machine.markWrite
  extract_lets _ _ t1
  have h1 : Kept s t1 := .ite (.put h) h
  exact .ite h (.ite (.log (.marksChanged (.put h1))) h1)

theorem Answer.execDcMarkWrite {chan rank value} (h : Kept s t) :
    Answer s (Machine.execDcMarkWrite chan rank value t) :=
  .ite (.next h) (.next (.markWrite (.markWrite h)))

/-! ### The functions of Machine/Training.lean -/

theorem Kept.cfgFields {c' v} (h : Kept s t) : Kept s (Machine.cfgFields c' v t) := by
  refine .ite h ?_
  extract_lets _ t1 t2
  have h1 : Kept s t1 := .put (.put (.put (.put h)))
  have h2 : Kept s t2 := .ite (.put h1) h1
  exact .ite (.put h2) h2

theorem Kept.lockCfg {c' same maxFrames rated} (h : Kept s t) :
    Kept s (Machine.lockCfg c' same maxFrames rated t) :=
  .ite h (.ite (.update (.put h) (chans := fun c => Tab.wf_upd c.chans _ _)) (.log (.put (.update (.put h)
    (chans := fun c => Tab.wf_upd c.chans _ _)))))

theorem Kept.writeEnable {c' v} (h : Kept s t) : Kept s (Machine.writeEnable c' v t) :=
  .ite (.ite (.wasEnabled (.put h)) h) (.ite (.put (.put h)) h)

theorem Answer.execDcCfgWrite {chan value same maxFrames rated} (h : Kept s t) :
    Answer s (Machine.execDcCfgWrite chan value same maxFrames rated t) := by
  unfold Machine.execDcCfgWrite
  extract_lets _ _ _ t1 t2
  have h1 : Kept s t1 := .ite h (.cfgFields h)
  have h2 : Kept s t2 := .ite (.put h1) h1
  exact .next (.writeEnable (.ite (.lockCfg h2) h2))

theorem Kept.goStep {c'} (h : Kept s t) : Kept s (Machine.goStep c' t) :=
  .ite h (.ite (.put h) (.update (.put h) (chans := fun c => Tab.wf_upd c.chans _ _)))

theorem Answer.execTrainingGo {chan value} (h : Kept s t) : Answer s (Machine.execTrainingGo chan value t) := by
  unfold Machine.execTrainingGo
  extract_lets _ _ t1 t2 _ t3 _ t4
  have h1 : Kept s t1 := .ite (.put h) h
  have h2 : Kept s t2 := .ite (.put h1) h1
  have h3 : Kept s t3 := .ite (.put h2) (.put (.put h2))
  have h4 : Kept s t4 := .put (.put (.ite (.put h3) h3))
  exact .next (.ite h4 (.goStep h4))

theorem Kept.centreLane {c' key sc l e} (h : Kept s t) : Kept s (Machine.centreLane c' key sc l e t) :=
  .ite h (.ite (.put h) (.ite (.put h) (.ite (.put h) (.update h (chans := fun c => Tab.wf_upd c.chans _ _)))))

theorem Kept.centreStep {c' lanes} (h : Kept s t) : Kept s (Machine.centreStep c' lanes t) := by
  unfold Machine.centreStep
  split
  refine .ite h (.update (.forAll (fun _ _ h' => ?_) h) (chans := fun c => Tab.wf_upd c.chans _ _))
  split
  · exact .centreLane h'
  · exact h'

theorem Kept.recordEye {c' i e} (h : Kept s t) : Kept s (Machine.recordEye c' i e t) := .put (.put (.put h))

theorem Kept.liveProbe {c'} (h : Kept s t) : Kept s (Machine.liveProbe c' t) := .takeMaint (.burst (.burst h))

theorem Answer.execTrainingStepComplete {chan lanes} (h : Kept s t) :
    Answer s (Machine.execTrainingStepComplete chan lanes t) := by
  unfold Machine.execTrainingStepComplete
  extract_lets c
  refine .ite (.next h) ?_
  split
  extract_lets t1
  have h1 : Kept s t1 := by
    refine .forAll (fun _ _ h' => ?_) h
    split
    · exact .recordEye h'
    · exact h'
  exact .next (.centreStep (.put (.put (.ite (.liveProbe h1) h1))))

theorem Kept.setTrainer {c' t'} (h : Kept s t) : Kept s (Machine.setTrainer c' t' t) :=
  .update h (chans := fun c => Tab.wf_upd c.chans _ _)

theorem Kept.timingFields {c' v w} (h : Kept s t) : Kept s (Machine.timingFields c' v w t) :=
  .put (.forAll (fun _ _ => .put) (.forAll (fun _ _ => .put) h))

theorem Kept.startTraining {c'} (h : Kept s t) : Kept s (Machine.startTraining c' t) := by
  unfold Machine.startTraining
  extract_lets _ _ t1 t2
  have h1 : Kept s t1 := .update h (chans := fun c => Tab.wf_upd c.chans _ _)
  have h2 : Kept s t2 := .ite h1 (.timingFields (.cfgFields h1))
  exact .ite h1 (.ite (.lockCfg h2) (.setTrainer (.lockCfg h2)))

theorem Kept.endTraining {c'} (h : Kept s t) : Kept s (Machine.endTraining c' t) :=
  .ite (.put (.forAll (fun _ _ => .log) (.update (.setTrainer h) (chans := fun c => Tab.wf_upd c.chans _ _))))
    (.forAll (fun _ _ => .log) (.update (.setTrainer h) (chans := fun c => Tab.wf_upd c.chans _ _)))

theorem Kept.trainUnit {c'} (h : Kept s t) : Kept s (Machine.trainUnit c' t) := by
  unfold Machine.trainUnit
  split
  · exact h
  · refine .ite (.setTrainer h) (.ite ?_ (.goStep (.setTrainer (.put (.put (.put h))))))
    extract_lets
    split
    · exact .setTrainer (.put h)
    · exact .endTraining (.put h)

/-! ### The functions of Machine/Engines.lean -/

theorem Kept.cmpErr {fault path engine page seg} (h : Kept s t) :
    Kept s (Machine.cmpErr fault path engine page seg t) :=
  .put (.put (.put (.put (.put (.put h)))))

theorem Answer.execEncoderDispatch {engine} (h : Kept s t) :
    Answer s (Machine.execEncoderDispatch engine t) := by
  refine .ite (.next h) ?_
  split
  · exact .next h
  · exact .next (.put (.beside h))

theorem Kept.segEncoded {page k out} (h : Kept s t) : Kept s (Machine.segEncoded page k out t) := by
  unfold Machine.segEncoded
  split
  · exact h
  · split
    · refine .ite ?_ ?_
      · split
        · exact .ite (.setSeg h) (.setSeg h)
        · exact .setSeg h
      · split
        · exact .setSeg h
        · exact .setSeg (.bump h)
    · exact h

theorem Kept.deliverEncode {j out} (h : Kept s t) : Kept s (Machine.deliverEncode j out t) := by
  unfold Machine.deliverEncode
  split
  · exact .segEncoded h
  · exact .moverSegment h
  · exact h

theorem Kept.endBarred (h : Kept s t) : Kept s (Machine.endBarred t) :=
  .forAll (fun _ _ => .deliverEncode) (.beside h)

theorem Kept.failEngine {n unit} (h : Kept s t) : Kept s (Machine.failEngine n unit t) :=
  .ite (.endBarred (.log (.put (.beside h)))) (.beside h)

theorem Answer.execEncodeComplete {engine fault} (h : Kept s t) :
    Answer s (Machine.execEncodeComplete engine fault t) := by
  unfold Machine.execEncodeComplete
  extract_lets _ _ _ _ t1
  have h1 : Kept s t1 := .count (.bump (.put (.beside h)))
  split
  · exact .next h
  · split
    · exact .next (.deliverEncode (.ite (.count h1) h1))
    · extract_lets _ _ t2
      have h2 : Kept s t2 := .failEngine (.cmpErr (.bump (.log (.put (.beside h)))))
      exact .ite (.ite (.next (.beside h2)) (.ite (.next (.beside h2)) (.next (.beside h2)))) (.next
        (.deliverEncode h2))

theorem Kept.resumeHeld (h : Kept s t) : Kept s (Machine.resumeHeld t) :=
  .forAll (fun _ _ h' => .forAll (fun _ _ h'' => .ite (.advanceOp h'') h'') h') h

theorem Answer.execDecoderDispatch (h : Kept s t) : Answer s (Machine.execDecoderDispatch t) := by
  unfold Machine.execDecoderDispatch
  extract_lets t1
  have h1 : Kept s t1 := .placeDecodes h
  split
  · exact .next h1
  · split
    · exact .next h1
    · exact .next (.resumeHeld (.placeDecodes (.beside h1)))

theorem Kept.deliverDecode {j n path r} (h : Kept s t) : Kept s (Machine.deliverDecode j n path r t) := by
  unfold Machine.deliverDecode
  extract_lets _ t1
  have h1 : Kept s t1 := by
    unfold t1
    split
    · exact .cmpErr (.log h)
    · exact h
  split
  · split
    · exact h1
    · split
      · exact .finishRead h1
      · exact .finishRead (.poisonAdd h1)
  · split
    · exact h1
    · refine .ite ?_ (.ite (.putSpill (.setSeg h1)) (.setSeg h1))
      split
      · exact .beside (.setSeg h1)
      · exact .abortMove h1
  · exact .moverSegment h1

theorem Answer.execDecodeComplete {engine lane} (h : Kept s t) :
    Answer s (Machine.execDecodeComplete engine lane t) := by
  unfold Machine.execDecodeComplete
  extract_lets
  split
  · exact .next h
  · split
    · exact .next h
    · exact .next (.settle (.deliverDecode (.count (.bump (.beside h)))))

theorem Answer.execDecoderParityError {engine lane} (h : Kept s t) :
    Answer s (Machine.execDecoderParityError engine lane t) := by
  unfold Machine.execDecoderParityError
  extract_lets _ _ _ _ t1
  have h1 : Kept s t1 := .failEngine (.bump (.beside h))
  split
  · exact .next h
  · exact .ite (.next (.beside h1)) (.next (.settle (.deliverDecode h1)))

theorem Kept.recompSegment {page c' g secs k} (h : Kept s t) :
    Kept s (Machine.recompSegment page c' g secs k t).2 := by
  unfold Machine.recompSegment
  extract_lets code
  have h1 : Kept s (Machine.readSectors page c' g (secStart secs k) (secCount code) t).2 := .readSectors h
  exact .iteSnd h (.iteSnd h1 (.iteSnd h1 h1))

theorem Kept.recompSegments {page c g secs n} (h : Kept s t) : Kept s (Machine.recompSegments page c g secs n
  t).2 := by
  induction n with
  | zero => exact h
  | succ n ih => exact .recompSegment ih

theorem Kept.startRecompression {page} (h : Kept s t) : Kept s (Machine.startRecompression page t) := by
  unfold Machine.startRecompression
  split
  · split
    rename_i t1 he
    have h1 := Kept.of_eq he (.recompSegments h)
    extract_lets
    split
    · exact .queueEncodes (.queueDecodes (.startMove h1))
    · exact .startMove h1
  · exact h

theorem Answer.execRecompressorDequeue (h : Kept s t) : Answer s (Machine.execRecompressorDequeue t) := by
  refine .ite (.next h) ?_
  split
  · exact .next h
  · split
    · exact .next h
    · refine .ite (.next (.beside h)) ?_
      split
      rename_i t1 he
      have h1 := Kept.of_eq he (.pageFetch (.beside h))
      exact .ite (.ite (.next (.askRekey h1)) (.next (.startRecompression (.chargeInternal (.beside h1)))))
        (.next (.beside h1))

theorem Answer.execRecompressionTimeout {page} (h : Kept s t) :
    Answer s (Machine.execRecompressionTimeout page t) := by
  unfold Machine.execRecompressionTimeout
  split
  · exact .next h
  · exact .ite (.next (.settle (.abortMove (.bump h)))) (.next h)

theorem Kept.cmpOffline {n off} (h : Kept s t) : Kept s (Machine.cmpOffline n off t).2 :=
  .iteSnd (.iteSnd h (.iteSnd (.put h) (.endBarred (.put (.put h))))) (.iteSnd (.put (.put h)) (.iteSnd (.put h)
    h))

theorem Answer.execCmpEngOfflineWrite {engine offline} (h : Kept s t) :
    Answer s (Machine.execCmpEngOfflineWrite engine offline t) :=
  .next (.cmpOffline h)

theorem Kept.cmpSelftest {n} (h : Kept s t) : Kept s (Machine.cmpSelftest n t) := .ite (.put h) h

theorem Answer.execCmpEngSelftestWrite {engine} (h : Kept s t) :
    Answer s (Machine.execCmpEngSelftestWrite engine t) :=
  .next (.cmpSelftest h)

theorem Answer.execCmpSelftestComplete {engine pass} (h : Kept s t) :
    Answer s (Machine.execCmpSelftestComplete engine pass t) :=
  .ite (.next (.put (.put h))) (.next h)

theorem Answer.execEngineDrained {crypto engine} (h : Kept s t) :
    Answer s (Machine.execEngineDrained crypto engine t) :=
  .ite (.ite (.next (.put h)) (.next h)) (.ite (.next (.put h)) (.next h))

theorem Answer.execTierDisableWrite {value} (h : Kept s t) :
    Answer s (Machine.execTierDisableWrite value t) := by
  unfold Machine.execTierDisableWrite
  extract_lets _ t1 t2 t3
  have h1 : Kept s t1 := .ite (.put h) h
  have h2 : Kept s t2 := .ite h1 (.put h1)
  have h3 : Kept s t3 := .ite (.put h2) h2
  exact .next (.put (.ite (.put h3) h3))

/-! ### The functions of Machine/Keys.lean -/

theorem Kept.loadKey {k loaded imported} (h : Kept s t) : Kept s (Machine.loadKey k loaded imported t) :=
  .put (.put (.put (.update (.bump h) (keys := fun c => Tab.wf_set c.keys _ _))))

theorem Answer.execKeyFlush {key} (h : Kept s t) : Answer s (Machine.execKeyFlush key t) :=
  .ite (.next (.log (.put (.put (.update h (near := fun c => Tab.wf_keep c.near _)
    (keys := fun c => Tab.wf_set c.keys _ _)))))) (.next h)

theorem Kept.showWalk {w x} (h : Kept s t) : Kept s (Machine.showWalk w x t) :=
  .put (.put (.put (.put (.put (.put h)))))

theorem Kept.hideWalk {w} (h : Kept s t) : Kept s (Machine.hideWalk w t) := .forAll (fun _ _ => .put) h

theorem Kept.walkSkip {w page} (h : Kept s t) : Kept s (Machine.walkSkip w page t) :=
  .advanceWalk (.setCounters h)

theorem Kept.walkSlice {w sl fuel} (h : Kept s t) : Kept s (Machine.walkSlice w sl fuel t) := by
  induction fuel generalizing t with
  | zero => exact h
  | succ fuel ih =>
    unfold Machine.walkSlice
    split
    · exact h
    · refine .ite h (.ite h (.ite h (.ite (ih (.advanceWalk (.pageFetch h))) (.ite (.askRekey (.pageFetch h))
        ?_))))
      split
      · exact ih (.walkSkip (.pageFetch h))
      · exact .ite (.pageFetch h) (.forAll (fun _ _ => .askSegment) (.startMove (.pageFetch h)))
      · exact .startPlainMove (.pageFetch h)

theorem Kept.walksAt {sl} (h : Kept s t) : Kept s (Machine.walksAt sl t) := by
  refine .forAll (fun _ _ h' => ?_) h
  extract_lets
  split
  · exact .showWalk (.walkSlice h')
  · exact .walkSlice h'

theorem Kept.startWalk {w q} (h : Kept s t) : Kept s (Machine.startWalk w q t) :=
  .ite (.beside h) (.forAll (fun _ _ => .walksAt) (.recountKeys (.showWalk (.beside (.writeRegion (.beside
    h))))))

theorem Answer.execWalkStart (h : Kept s t) : Answer s (Machine.execWalkStart t) := by
  unfold Machine.execWalkStart
  split
  · exact .next (.startWalk h)
  · exact .next h

theorem Kept.endWalk {w x} (h : Kept s t) : Kept s (Machine.endWalk w x t) :=
  .recountKeys (.hideWalk (.beside (.writeRegion h)))

theorem Kept.endWalks (h : Kept s t) : Kept s (Machine.endWalks t) :=
  .forAll (fun _ _ h' => .ite (.endWalk h') h') h

theorem Kept.dropWalk {region} (h : Kept s t) : Kept s (Machine.dropWalk region t) :=
  .forAll (fun _ _ h' => .ite (.endWalk (.forAll (fun _ _ => .abortMove) h')) h') (.beside h)

theorem Kept.cryptoReset (h : Kept s t) : Kept s (Machine.cryptoReset t) :=
  .forAll (fun _ _ h' => .ite h' (.put (.put (.put h')))) (.put (.put (.update (.trng (.trng h))
    (regs := fun c => cellsRising_filter _ c.regs) (regions := fun c => Tab.wf_mapCells c.regions _)
    (metaSto := fun _ => Tab.wf_empty) (roots := fun _ => Tab.wf_empty) (keys := fun _ => Tab.wf_empty))))

theorem Kept.lostRegionsEvent (h : Kept s t) : Kept s (Machine.lostRegionsEvent t) :=
  .forAll (fun _ _ h' => .ite (.eventTo h') h') h

theorem Kept.useSpare (h : Kept s t) : Kept s (Machine.useSpare t) := by
  unfold Machine.useSpare
  split
  · exact .put h
  · exact h

theorem Kept.rerunUnits {e t' ids} (h : Kept s t) : Kept s (Machine.rerunUnits e t' ids t) := .beside h

theorem Answer.execCryFault {engine} (h : Kept s t) : Answer s (Machine.execCryFault engine t) := by
  unfold Machine.execCryFault
  extract_lets _ t1 _ _ t2 t3
  have h1 : Kept s t1 := .bump (.log h)
  have h2 : Kept s t2 := by
    unfold t2
    split
    · exact .rerunUnits (.beside h1)
    · exact .beside h1
  have h3 : Kept s t3 := .useSpare (.put h2)
  refine .ite ?_ (.next h2)
  split
  · exact .next (.rerunUnits (.logAs h3))
  · exact .next (.log (.logAs h3))

theorem Kept.cryOffline {n off} (h : Kept s t) : Kept s (Machine.cryOffline n off t).2 :=
  .iteSnd (.iteSnd h (.iteSnd (.put h) (.put (.put (.useSpare h))))) (.iteSnd (.put (.put h)) (.iteSnd (.put h)
    h))

theorem Answer.execCryEngOfflineWrite {engine offline} (h : Kept s t) :
    Answer s (Machine.execCryEngOfflineWrite engine offline t) :=
  .next (.cryOffline h)

theorem Kept.crySelftest {n} (h : Kept s t) : Kept s (Machine.crySelftest n t) := .ite (.put h) h

theorem Answer.execCryEngSelftestWrite {engine} (h : Kept s t) :
    Answer s (Machine.execCryEngSelftestWrite engine t) :=
  .next (.crySelftest h)

theorem Answer.execCrySelftestComplete {engine pass} (h : Kept s t) :
    Answer s (Machine.execCrySelftestComplete engine pass t) :=
  .ite (.next (.put (.put h))) (.next h)

theorem Answer.execCryCtrlWrite {value} (h : Kept s t) : Answer s (Machine.execCryCtrlWrite value t) := by
  unfold Machine.execCryCtrlWrite
  extract_lets _ t1 _ _ t2
  have h1 : Kept s t1 := .ite (.put h) h
  have h2 : Kept s t2 := .ite (.put h1) (.put (.put h1))
  exact .ite (.next h2) (.next (.checkAlarmLimit h2))

/-! ### The functions of Machine/Sweep.lean -/

theorem Kept.sizePools (h : Kept s t) : Kept s (Machine.sizePools t) :=
  .forAll (fun _ _ h' => .ite (.put (.put (.put h'))) (.put h')) (.beside h)

theorem Kept.clearBands (h : Kept s t) : Kept s (Machine.clearBands t) :=
  .update h (dram := fun c => Tab.wf_keep c.dram _)

theorem Answer.execMetadataInit (h : Kept s t) : Answer s (Machine.execMetadataInit t) :=
  .ite (.next h) (.ite (.next (.put h)) (.next (.poolChanged (.beside (.clearBands (.ite (.sizePools (.update
    (.put h) (metaSto := fun _ => Tab.wf_empty) (roots := fun _ => Tab.wf_empty))) (.update (.put h)
    (metaSto := fun _ => Tab.wf_empty) (roots := fun _ => Tab.wf_empty))))))))

theorem Kept.startFreeing {r} (h : Kept s t) : Kept s (Machine.startFreeing r t) :=
  .beside (.writeRegion (.dropWalk h))

theorem Kept.dropPassSlot {d} (h : Kept s t) : Kept s (Machine.dropPassSlot d t) := .beside h

theorem Kept.endFreeing {r} (h : Kept s t) : Kept s (Machine.endFreeing r t) :=
  .recountKeys (.beside (.writeRegion (.ite (.dropPassSlot (.dropAlmanac h)) h)))

theorem Kept.freePage {page} (h : Kept s t) : Kept s (Machine.freePage page t) := by
  unfold Machine.freePage
  split
  rename_i t1 he
  have h1 := Kept.of_eq he (.metaFetch h)
  exact .ite (.zeroPage h1) (.discardPage h1)

theorem Kept.freeingWork {sl n} (h : Kept s t) : Kept s (Machine.freeingWork sl n t).2 := by
  induction n generalizing t with
  | zero => exact h
  | succ n ih =>
    unfold Machine.freeingWork
    split
    · exact h
    · exact .iteSnd h (ih (.ite (.endFreeing (.beside (.freePage h))) (.beside (.freePage h))))

theorem Kept.sweepT2 {page} (h : Kept s t) : Kept s (Machine.sweepT2 page t) :=
  .ite (.log (.losePage h)) (.ite (.startPromotion h) h)

theorem Kept.countPass {sl found} (h : Kept s t) : Kept s (Machine.countPass sl found t) := .beside h

theorem Kept.spillPage {page} (h : Kept s t) : Kept s (Machine.spillPage page t) := by
  unfold Machine.spillPage
  split
  · exact .ite (.askRekey h) (.startSpill h)
  · exact h

theorem Kept.sweepEntry {sl page} (h : Kept s t) : Kept s (Machine.sweepEntry sl page t) := by
  unfold Machine.sweepEntry
  have hf : Kept s (if pageRoom t page then Machine.pageFetch page t else (false, t)).2 := .iteSnd (.pageFetch
    h) h
  revert hf
  generalize (if pageRoom t page then Machine.pageFetch page t else (false, t)) = p
  obtain ⟨ok, t1⟩ := p
  intro h1
  refine .ite h1 ?_
  extract_lets t2 ev t3
  have h3 : Kept s t3 := .countPass (.heatUpdate h1)
  clear_value ev
  split
  · exact .startPlainMove h3
  · exact .ite (.sweepT2 h3) (.ite (.startPromotion h3) (.ite (.setCat h3) (.ite (.ite (.askRekey h3)
      (.startDemotion h3)) (.ite (.spillPage h3) h3))))

theorem Kept.resumeMove {w} (h : Kept s t) : Kept s (Machine.resumeMove w t) := by
  unfold Machine.resumeMove
  extract_lets _ t1
  have h1 : Kept s t1 := .beside h
  split
  · exact .ite (.startPromotion h1) h1
  · exact .ite (.startPlainMove h1) h1
  · exact .ite (.spillPage h1) h1
  · exact h1

theorem Kept.resumeMoves {sl} (h : Kept s t) : Kept s (Machine.resumeMoves sl t) :=
  .forAll (fun _ _ => .resumeMove) h

theorem Kept.sweepWork {sl n} (h : Kept s t) : Kept s (Machine.sweepWork sl n t) := by
  induction n generalizing t with
  | zero => exact h
  | succ n ih => exact ih (.beside (.ite h (.sweepEntry h)))

theorem Kept.endEvacuations (h : Kept s t) : Kept s (Machine.endEvacuations t) :=
  .forAll (fun _ _ h' => .ite (.put (.put (.beside h'))) h') h

theorem Answer.execDemotionSweepQuantum (h : Kept s t) : Answer s (Machine.execDemotionSweepQuantum t) := by
  refine .ite (.next h) (.ite (.next (.jobDone h)) ?_)
  split
  rename_i he
  exact .next (.settle (.endEvacuations (.sweepWork (.resumeMoves (.walksAt (.of_eq he (.freeingWork (.jobDone
    h))))))))

theorem Answer.execHeatEpochAdvance (h : Kept s t) : Answer s (Machine.execHeatEpochAdvance t) :=
  .ite (.next (.jobDone (.wrapAdd h))) (.next h)

theorem Kept.takeBand {c n} (h : Kept s t) : Kept s (Machine.takeBand c n t) := by
  induction n generalizing t with
  | zero => exact h
  | succ n ih =>
    unfold Machine.takeBand
    split
    · exact h
    · exact ih (.put (.beside (.update (.drawn h) (frames := fun c => Tab.wf_set c.frames _ _))))

theorem Kept.returnBand {p} (h : Kept s t) : Kept s (Machine.returnBand p t) :=
  .put (.update h (frames := fun c => Tab.wf_keep c.frames _))

theorem Kept.startEvacuation {c'} (h : Kept s t) : Kept s (Machine.startEvacuation c' t) :=
  .poolChanged (.beside (.takeBand (.put h)))

theorem Kept.startReturn {c'} (h : Kept s t) : Kept s (Machine.startReturn c' t) :=
  .startTraining (.put (.put (.put h)))

theorem Kept.moveBand {sl before} (h : Kept s t) : Kept s (Machine.moveBand sl before t) :=
  .forAll (fun _ _ h' => .update h' (dram := fun c => Tab.wf_set c.dram _ _)) (.update (.forAll
    (fun _ _ h' => .forAll (fun _ _ => .cancelFix) h') h) (dram := fun c => Tab.wf_keep c.dram _))

theorem Answer.execBandCopyComplete {chan} (h : Kept s t) : Answer s (Machine.execBandCopyComplete chan t) :=
  .ite (.next h) (.ite (.next (.moveBand (.chargeInternal (.put (.beside h))))) (.ite (.next (.poolChanged
    (.moveBand (.chargeInternal (.put (.put (.update (.returnBand (.put (.put (.wasEnabled (.put h)))))
    (frames := fun c => Tab.wf_keep c.frames _)))))))) (.next h)))

theorem Answer.execMoveCommit {page} (h : Kept s t) : Answer s (Machine.execMoveCommit page t) := by
  unfold Machine.execMoveCommit
  split
  · exact .next h
  · refine .ite (.next h) ?_
    extract_lets _ t1
    have h1 : Kept s t1 := .commitMove (.chargeInternal h)
    exact .next (.settle (.resumeSlice (.resumeMoves (.retryMoves (.walksAt (.ite h1 (.chargeInternal h1)))))))

/-! ### The functions of Machine/Directory.lean -/

theorem Kept.keepLease {region} (h : Kept s t) : Kept s (Machine.keepLease region t) :=
  .forAll (fun _ _ => .denyLease) (.writeRegion h)

theorem Kept.releaseLease {region} (h : Kept s t) : Kept s (Machine.releaseLease region t) :=
  .ite (.resumeLease (.writeRegion h)) (.writeRegion h)

theorem Answer.execLeaseTimeout {region} (h : Kept s t) : Answer s (Machine.execLeaseTimeout region t) :=
  .next (.ite (.settle (.keepLease h)) h)

theorem Kept.declareDead {h'} (h : Kept s t) : Kept s (Machine.declareDead h' t) :=
  .beside (.put (.put (.put (.put (.put (.put (.wrapAdd h)))))))

theorem Kept.enterReclaiming {slot} (h : Kept s t) : Kept s (Machine.enterReclaiming slot t) := by
  unfold Machine.enterReclaiming
  extract_lets _ _ _ t1
  have h1 : Kept s t1 := .farEndLd (.update (.beside (.forAll (fun _ _ h' => .ite (.stopRing h') h') (.put (.put
    (.put h))))) (lds := fun c => Tab.wf_upd c.lds _ _))
  exact .ite (.declareDead h1) h1

theorem Kept.cancelReq {r} (h : Kept s t) : Kept s (Machine.cancelReq r t) :=
  .dropReq (.finish (.update h (chans := fun c => Tab.wf_mapCells c.chans _)))

theorem Kept.dropSnoop {h' n} (h : Kept s t) : Kept s (Machine.dropSnoop h' n t) := by
  refine .ite (.answerHome h) (.answerSnoop ?_)
  split
  · exact .ite (.almPut (.loseLine h)) h
  · exact h

theorem Kept.beginReclaim {h'} (h : Kept s t) : Kept s (Machine.beginReclaim h' t) := by
  refine .settle (.forAll (fun _ _ h' => .resumeLease (.writeRegion h')) (.forAll (fun _ _ h' => .resumeLease
    (.writeRegion h')) (.forAll (fun _ _ => .denyLease) (.forAll (fun _ _ h' => ?_) (.forAll
    (fun _ _ => .dropSnoop) h)))))
  split
  · exact .cancelReq (.log h')
  · exact h'

theorem Kept.reclaimEntry {dead k} (h : Kept s t) : Kept s (Machine.reclaimEntry dead k t) :=
  .ite h (.almPut (.ite (.loseLine h) h))

theorem Kept.ldDead {m} (h : Kept s t) : Kept s (Machine.ldDead m t) :=
  .update (.put h) (lds := fun c => Tab.wf_upd c.lds _ _)

theorem Kept.endReclaim (h : Kept s t) : Kept s (Machine.endReclaim t) := by
  unfold Machine.endReclaim
  extract_lets _ t1
  have h1 : Kept s t1 := .forAll (fun _ _ h' => .forAll (fun _ _ => .ldDead) (.put h')) h
  exact .ite (.put (.beside h1)) (.beside h1)

theorem Answer.execReclamationQuantum (h : Kept s t) : Answer s (Machine.execReclamationQuantum t) :=
  .ite (.next h) (.ite (.next (.jobDone h)) (.next (.endReclaim (.beside (.bump (.forAll
    (fun _ _ => .reclaimEntry) (.forAll (fun _ _ => .beginReclaim) (.jobDone h))))))))

theorem Kept.beginPasses (h : Kept s t) : Kept s (Machine.beginPasses t) := .beside h

theorem Kept.endPasses (h : Kept s t) : Kept s (Machine.endPasses t) := .beside (.forAll (fun _ _ => .put) h)

theorem Kept.rewriteBacking {region sl line} (h : Kept s t) :
    Kept s (Machine.rewriteBacking region sl line t) := by
  refine .forAll (fun _ _ h' => ?_) (.dirStamp h)
  extract_lets
  split
  · exact .ite (.dirWrite h') h'
  · exact h'

theorem Kept.scrubBacking {region sl line} (h : Kept s t) : Kept s (Machine.scrubBacking region sl line t) :=
  .ite (.rewriteBacking (.chargeInternal (.readBacking h))) (.readBacking h)

theorem Kept.scrubStruck {region sl line err} (h : Kept s t) :
    Kept s (Machine.scrubStruck region sl line err t) := by
  unfold Machine.scrubStruck
  split
  · exact .struck (fun _ => .scrubBacking) h
  · exact .scrubBacking h

theorem Answer.execDirectoryScrubQuantum {lines errs} (h : Kept s t) :
    Answer s (Machine.execDirectoryScrubQuantum lines errs t) := by
  refine .ite (.next h) ?_
  extract_lets
  split
  · exact .next (.endPasses (.beside (.jobDone h)))
  · exact .next (.settle (.endPasses (.beside (.beside (.forAll (fun _ _ => .scrubStruck) (.chargeInternal
      (.jobDone h)))))))

theorem Answer.execAlmanacEccScrubQuantum {corrected presenceBad tagBad} (h : Kept s t) :
    Answer s (Machine.execAlmanacEccScrubQuantum corrected presenceBad tagBad t) :=
  .ite (.next h) (.next (.settle (.beside (.forAll (fun _ _ => .loseTag) (.forAll (fun _ _ => .losePresence)
    (.bump (.jobDone h)))))))

/-! ### The functions of Machine/Links.lean -/

theorem Kept.ioAccess {m k} (hf : ∀ u, Kept s u → Kept s (k u)) (h : Kept s t) : Kept s (Machine.ioAccess m k t)
  :=
  .ite h (.ite (.wakeRaw h) (hf _ (.wakeRaw h)))

theorem Kept.sidebandAccess {row k} (hf : ∀ u, Kept s u → Kept s (k u)) (h : Kept s t) :
    Kept s (Machine.sidebandAccess row k t) := .ite (.beside h) (hf _ h)

theorem Kept.holdSnoops {slot} (h : Kept s t) : Kept s (Machine.holdSnoops slot t) := by
  unfold Machine.holdSnoops
  split
  · exact h
  · exact .beside h

theorem Kept.resetLd {slot} (h : Kept s t) : Kept s (Machine.resetLd slot t) :=
  .update (.put (.put (.put (.put (.ite (.enterReclaiming (.holdSnoops h)) h)))))
    (lds := fun c => Tab.wf_upd c.lds _ _)

theorem Kept.muteLink {l} (h : Kept s t) : Kept s (Machine.muteLink l t) := .beside h

theorem Kept.linkOff {l} (h : Kept s t) : Kept s (Machine.linkOff l t) :=
  .forAll (fun _ _ => .put) (.update (.muteLink h) (links := fun c => Tab.wf_upd c.links _ _))

theorem Kept.resetPortLinks {p} (h : Kept s t) : Kept s (Machine.resetPortLinks p t) :=
  .forAll (fun _ _ h' => .linkOff (.forAll (fun _ _ => .resetLd) h')) h

theorem Kept.emptyIngress {p} (h : Kept s t) : Kept s (Machine.emptyIngress p t) :=
  .settle (.forAll (fun _ _ h' => .dropReq (.freeTracker h')) (.beside h))

theorem Kept.resetPort {p} (h : Kept s t) : Kept s (Machine.resetPort p t) :=
  .update (.update (.forAll (fun _ _ => .put) (.emptyIngress (.resetPortLinks h)))
    (links := fun c => Tab.wf_keep c.links _)) (ports := fun c => Tab.wf_upd c.ports _ _)

theorem Answer.execHostPortCtrlWrite {port value} (h : Kept s t) :
    Answer s (Machine.execHostPortCtrlWrite port value t) :=
  .ite (.next (.resetPort (.put h))) (.next (.put h))

theorem Answer.execPortResetRelease {port} (h : Kept s t) : Answer s (Machine.execPortResetRelease port t) :=
  .ite (.next (.update h (ports := fun c => Tab.wf_set c.ports _ _))) (.next h)

theorem Answer.execHostPortCfgWrite {port value} (h : Kept s t) :
    Answer s (Machine.execHostPortCfgWrite port value t) := by
  unfold Machine.execHostPortCfgWrite
  extract_lets _ _ _ t1 _ t2 t3
  have h1 : Kept s t1 := .ite (.put h) h
  have h2 : Kept s t2 := .ite (.put h1) (.put (.put h1))
  have h3 : Kept s t3 := .ite h2 (.put h2)
  exact .ite (.next h1) (.ite (.next (.put h1)) (.next (.ite (.put h3) h3)))

theorem Answer.execPerst {port asserted} (h : Kept s t) : Answer s (Machine.execPerst port asserted t) :=
  .next (.ite (.resetPortLinks (.update h (ports := fun c => Tab.wf_upd c.ports _ _))) (.update h
    (ports := fun c => Tab.wf_upd c.ports _ _)))

theorem Kept.dropLink {l lost} (h : Kept s t) : Kept s (Machine.dropLink l lost t) :=
  .ite h (.forAll (fun _ _ h' => .ite (.holdSnoops (.update (.put (.put (.put (.put (.bump h')))))
    (lds := fun c => Tab.wf_upd c.lds _ _))) (.put (.put (.put (.bump h'))))) (.linkOff h))

theorem Answer.execLinkDrop {link lostWrites} (h : Kept s t) :
    Answer s (Machine.execLinkDrop link lostWrites t) :=
  .next (.dropLink h)

theorem Answer.execLinkResetWrite {link lostWrites} (h : Kept s t) :
    Answer s (Machine.execLinkResetWrite link lostWrites t) :=
  .next (.ite (.dropLink h) h)

theorem Answer.execLinkDisableWrite {link disable lostWrites} (h : Kept s t) :
    Answer s (Machine.execLinkDisableWrite link disable lostWrites t) :=
  .ite (.next h) (.next (.ite (.dropLink (.put h)) (.put h)))

theorem Kept.sendHeldIrq {m} (h : Kept s t) : Kept s (Machine.sendHeldIrq m t) :=
  .ite (.emit (.update h (lds := fun c => Tab.wf_set c.lds _ _))) h

theorem Kept.ldUp {m} (h : Kept s t) : Kept s (Machine.ldUp m t) :=
  .ite (.sendHeldIrq (.put h)) (.ite (.put h) h)

theorem Kept.ldsUp {l} (h : Kept s t) : Kept s (Machine.ldsUp l t) := .ite h (.forAll (fun _ _ => .ldUp) h)

theorem Kept.deadCheck {m} (h : Kept s t) : Kept s (Machine.deadCheck m t) := .ite (.enterReclaiming (.log h)) h

theorem Kept.deadFirst {l} (h : Kept s t) : Kept s (Machine.deadFirst l t) :=
  .ite (.forAll (fun _ _ => .deadCheck) h) h

theorem Answer.execLinkUp {link width speed flit68 lds ptm} (h : Kept s t) :
    Answer s (Machine.execLinkUp link width speed flit68 lds ptm t) :=
  .ite (.next (.wakeFrom (.settle (.retrySnoops (.ldsUp (.forAll (fun _ _ => .put) (.update (.deadFirst h)
    (links := fun c => Tab.wf_upd c.links _ _)))))))) (.next h)

theorem Answer.execDlUp {link} (h : Kept s t) : Answer s (Machine.execDlUp link t) :=
  .ite (.next (.settle (.retrySnoops (.ldsUp (.forAll (fun _ _ => .put) (.update (.deadFirst h)
    (links := fun c => Tab.wf_upd c.links _ _))))))) (.next h)

theorem Answer.execMemorySpaceEnable {slot on} (h : Kept s t) :
    Answer s (Machine.execMemorySpaceEnable slot on t) :=
  .next (.ite (.ldUp (.update h (lds := fun c => Tab.wf_upd c.lds _ _))) (.update h
    (lds := fun c => Tab.wf_upd c.lds _ _)))

theorem Answer.execHotReset {link ld} (h : Kept s t) : Answer s (Machine.execHotReset link ld t) := by
  unfold Machine.execHotReset
  split
  · exact .next (.resetLd h)
  · exact .next (.update (.linkOff (.forAll (fun _ _ => .resetLd) h))
      (links := fun c => Tab.wf_upd c.links _ _))

theorem Answer.execHostDeadTimeout {slot} (h : Kept s t) : Answer s (Machine.execHostDeadTimeout slot t) :=
  .next (.ite (.deadCheck h) h)

theorem Answer.execL0pChange {link width} (h : Kept s t) : Answer s (Machine.execL0pChange link width t) :=
  .ite (.next (.update h (links := fun c => Tab.wf_set c.links _ _))) (.next h)

theorem Answer.execIdeIntegrityFailure {link lostWrites} (h : Kept s t) :
    Answer s (Machine.execIdeIntegrityFailure link lostWrites t) :=
  .ite (.next (.dropLink (.update h (links := fun c => Tab.wf_upd c.links _ _)))) (.next h)

theorem Answer.execGlobalPersistentFlush {link phase} (h : Kept s t) :
    Answer s (Machine.execGlobalPersistentFlush link phase t) :=
  .next (.ite (.emit h) h)

theorem Answer.execHanMapWrite {slot value} (h : Kept s t) : Answer s (Machine.execHanMapWrite slot value t) :=
  .ite (.next h) (.ite (.next (.put h)) (.ite (.next (.log h)) (.next (.put (.put (.put h))))))

theorem Answer.execHdmDecoderCommit {slot decoder base size ways gran dpa} (h : Kept s t) :
    Answer s (Machine.execHdmDecoderCommit slot decoder base size ways gran dpa t) :=
  .next (.update h (lds := fun c => Tab.wf_set c.lds _ _))

theorem Answer.execStreamCtrlWrite {slot value} (h : Kept s t) :
    Answer s (Machine.execStreamCtrlWrite slot value t) :=
  .next (.ite (.put h) h)

/-! ### The functions of Machine/Mover.lean -/

theorem Answer.execDmrCtrlWrite {ring value} (h : Kept s t) :
    Answer s (Machine.execDmrCtrlWrite ring value t) := by
  unfold Machine.execDmrCtrlWrite
  extract_lets _ _ _ t1 t2 t3
  have h1 : Kept s t1 := .ite (.put (.put h)) (.put h)
  have h2 : Kept s t2 := .put (.put h1)
  have h3 : Kept s t3 := .ite (.put h2) h2
  exact .ite (.next (.ite h1 (.stopRing h1))) (.ite (.next (.fetchRing (.update (.put h3)
    (rings := fun c => Tab.wf_upd c.rings _ _)))) (.next h3))

theorem Kept.ringTail {ring tail} (h : Kept s t) : Kept s (Machine.ringTail ring tail t) := .fetchRing (.put h)

theorem Answer.execDmrDoorbell {ring tail page} (h : Kept s t) :
    Answer s (Machine.execDmrDoorbell ring tail page t) := by
  unfold Machine.execDmrDoorbell
  split
  · exact .next (.ringTail h)
  · exact .next (.ioAccess (fun _ h' => .ite (.ringTail h') h') h)

theorem Answer.execDescriptorFetch {ring} (h : Kept s t) : Answer s (Machine.execDescriptorFetch ring t) := by
  unfold Machine.execDescriptorFetch
  extract_lets
  split
  · exact .next h
  · exact .next (.stopRing h)
  · exact .next (.update h (rings := fun c => Tab.wf_set c.rings _ _))

theorem Kept.zeroRange {ring slot d} (h : Kept s t) : Kept s (Machine.zeroRange ring slot d t) := by
  refine .ite h (.forAll (fun _ _ h' => ?_) h)
  extract_lets
  split
  · exact .ite (.freePage h') (.forAll (fun _ _ => .writeLine) h')
  · exact h'

theorem Kept.runOp {ring slot d} (h : Kept s t) : Kept s (Machine.runOp ring slot d t) :=
  .advanceOp (.ite (.forAll (fun _ _ => .readLine) h) (.ite (.forAll (fun _ _ => .writeLine) h) (.ite
    (.zeroRange h) h)))

theorem Kept.startOp {ring p} (h : Kept s t) : Kept s (Machine.startOp ring p t) := by
  unfold Machine.startOp
  split
  · exact h
  · exact .ite (.endOp (.setOp h)) (.ite (.endOp (.log (.setOp h))) (.ite (.endOp (.setOp h)) (.runOp (.setOp
      h))))

theorem Answer.execDmCopy {ring} (h : Kept s t) : Answer s (Machine.execDmCopy ring t) := .next (.startOp h)

theorem Answer.execDmFill {ring} (h : Kept s t) : Answer s (Machine.execDmFill ring t) := .next (.startOp h)

theorem Answer.execDmZero {ring} (h : Kept s t) : Answer s (Machine.execDmZero ring t) := .next (.startOp h)

theorem Answer.execDmCompress {ring} (h : Kept s t) : Answer s (Machine.execDmCompress ring t) :=
  .next (.startOp h)

theorem Answer.execDmDecompress {ring} (h : Kept s t) : Answer s (Machine.execDmDecompress ring t) :=
  .next (.startOp h)

theorem Answer.execDmFence {ring} (h : Kept s t) : Answer s (Machine.execDmFence ring t) := .next (.startOp h)

theorem Answer.execDmNop {ring} (h : Kept s t) : Answer s (Machine.execDmNop ring t) := .next (.startOp h)

theorem Answer.execDmReservedOpcode {ring} (h : Kept s t) : Answer s (Machine.execDmReservedOpcode ring t) :=
  .next (.startOp h)

theorem Kept.advanceHead {ring fuel} (h : Kept s t) : Kept s (Machine.advanceHead ring fuel t) := by
  induction fuel generalizing t with
  | zero => exact h
  | succ fuel ih =>
    unfold Machine.advanceHead
    extract_lets
    split
    · exact .ite (ih (.put (.update h (rings := fun c => Tab.wf_set c.rings _ _)))) h
    · exact h

theorem Kept.writeBack {ring o} (h : Kept s t) : Kept s (Machine.writeBack ring o t) := by
  unfold Machine.writeBack
  extract_lets
  split
  · exact .issueLine h
  · exact h

theorem Answer.execDmOperationComplete {ring} (h : Kept s t) :
    Answer s (Machine.execDmOperationComplete ring t) := by
  unfold Machine.execDmOperationComplete
  split
  · exact .next h
  · extract_lets _ _ t1
    have h1 : Kept s t1 := .count (.writeBack (.setOp (.forAll (fun _ _ => .freePage) h)))
    exact .ite (.next h) (.next (.advanceHead (.ite (.emit h1) h1)))

/-! ### The functions of Machine/StitchPort.lean -/

theorem Kept.setPort {p f} (h : Kept s t) : Kept s (Machine.setPort p f t) :=
  .update h (stPorts := fun c => Tab.wf_upd c.stPorts _ _)

theorem Kept.sendFlit {p bits} (h : Kept s t) : Kept s (Machine.sendFlit p bits t) :=
  .ite (.emit (.setPort h)) h

theorem Kept.putCtrl {p flags lane} (h : Kept s t) : Kept s (Machine.putCtrl p flags lane t) :=
  .setPort (.sendFlit (.setPort h))

theorem Kept.flushCtrl {p} (h : Kept s t) : Kept s (Machine.flushCtrl p t) := by
  unfold Machine.flushCtrl
  split
  · exact h
  · exact .ite (.putCtrl (.setPort h)) h

theorem Kept.sendCtrl {p flags lane} (h : Kept s t) : Kept s (Machine.sendCtrl p flags lane t) :=
  .ite h (.ite (.putCtrl h) (.flushCtrl (.setPort h)))

theorem Kept.idleSlot {p} (h : Kept s t) : Kept s (Machine.idleSlot p t) :=
  .ite h (.ite (.flushCtrl h) (.sendFlit h))

theorem Kept.freeCredit {p v} (h : Kept s t) : Kept s (Machine.freeCredit p v t) :=
  .ite (.sendCtrl (.setPort h)) (.setPort h)

theorem Kept.pumpPort {p fuel} (h : Kept s t) : Kept s (Machine.pumpPort p fuel t) := by
  induction fuel generalizing t with
  | zero => exact h
  | succ fuel ih =>
    refine .ite h ?_
    split
    · exact h
    · split
      · exact h
      · exact ih (.flushCtrl (.sendFlit (.count (.setPort h))))

theorem Kept.queueMsg {p m} (h : Kept s t) : Kept s (Machine.queueMsg p m t) := .setPort h

theorem Kept.sendOpen {o} (h : Kept s t) : Kept s (Machine.sendOpen o t) := by
  refine .ite h ?_
  extract_lets
  split
  · exact h
  · exact .ite h (.queueMsg (.beside h))

theorem Kept.pump (h : Kept s t) : Kept s (Machine.pump t) :=
  .forAll (fun _ _ => .pumpPort) (.forAll (fun _ _ h' => .ite (.queueMsg h') h') (.beside (.forAll
    (fun _ _ => .sendOpen) h)))

theorem Kept.resendAll {p} (h : Kept s t) : Kept s (Machine.resendAll p t) :=
  .setPort (.forAll (fun _ _ h' => .flushCtrl (.sendFlit h')) h)

theorem Kept.leaveActive {p} (h : Kept s t) : Kept s (Machine.leaveActive p t) :=
  .put (.put (.put (.put (.forAll (fun _ _ => .put) (.setPort h)))))

theorem Kept.linkReset {p} (h : Kept s t) : Kept s (Machine.linkReset p t) := .setPort (.leaveActive (.bump h))

theorem Kept.coldStart {p} (h : Kept s t) : Kept s (Machine.coldStart p t) := .setPort (.leaveActive h)

theorem Kept.protocolError {p} (h : Kept s t) : Kept s (Machine.protocolError p t) :=
  .linkReset (.log (.bump h))

theorem Kept.sendNak {p} (h : Kept s t) : Kept s (Machine.sendNak p t) :=
  .ite (.linkReset (.setPort (.sendCtrl h))) (.setPort (.sendCtrl h))

theorem Kept.crcError {p} (h : Kept s t) : Kept s (Machine.crcError p t) := by
  unfold Machine.crcError
  extract_lets t1
  have h1 : Kept s t1 := .count (.log (.bump h))
  exact .ite h1 (.sendNak h1)

theorem Kept.release {p a} (h : Kept s t) : Kept s (Machine.release p a t).2 := .iteSnd h (.setPort h)

theorem Kept.startReplay {p} (h : Kept s t) : Kept s (Machine.startReplay p t) := by
  unfold Machine.startReplay
  extract_lets _ t1
  have h1 : Kept s t1 := .setPort (.count (.bump h))
  exact .ite (.setPort h) (.ite (.linkReset (.resendAll h1)) (.resendAll h1))

theorem Kept.recordSpare {p lane} (h : Kept s t) : Kept s (Machine.recordSpare p lane t) := .log (.put (.put h))

theorem Kept.takeSpareReq {p lane} (h : Kept s t) : Kept s (Machine.takeSpareReq p lane t) := by
  unfold Machine.takeSpareReq
  extract_lets _ t1
  have h1 : Kept s t1 := .setPort h
  exact .sendCtrl (.ite h1 (.ite (.log h1) (.recordSpare h1)))

theorem Kept.takeSpareAck {p lane} (h : Kept s t) : Kept s (Machine.takeSpareAck p lane t) :=
  .ite h (.recordSpare (.setPort h))

theorem Kept.takeSync {p a cred} (h : Kept s t) : Kept s (Machine.takeSync p a cred t) :=
  .ite (.sendCtrl (.setPort (.release h))) (.setPort (.setPort (.release h)))

theorem Kept.takeCtrl {p pay} (h : Kept s t) : Kept s (Machine.takeCtrl p pay t) := by
  unfold Machine.takeCtrl
  extract_lets _ _ _ _ t1 t2 _ t3 t4 t5
  have h1 : Kept s t1 := .ite (.takeSync h) h
  have h2 : Kept s t2 := .ite (.setPort h1) h1
  have h3 : Kept s t3 := .ite (.release (.setPort h2)) (.setPort h2)
  have h4 : Kept s t4 := .ite (.startReplay h3) h3
  have h5 : Kept s t5 := .ite (.takeSpareReq h4) h4
  exact .ite (.protocolError h) (.pump (.ite (.takeSpareAck h5) h5))

theorem Kept.placeFlit {p f} (h : Kept s t) : Kept s (Machine.placeFlit p f t) :=
  .ite (.freeCredit (.setPort h)) (.ite (.freeCredit (.setPort h)) (.setPort h))

theorem Kept.takeFlitSeq {p f} (h : Kept s t) : Kept s (Machine.takeSeq p f t) := by
  unfold Machine.takeSeq
  extract_lets _ _ _ t1
  have h1 : Kept s t1 := .placeFlit (.count (.setPort h))
  exact .ite (.ite (.protocolError h) (.ite (.sendCtrl h1) h1)) (.ite (.sendCtrl (.bump h)) (.ite h (.sendNak
    h)))

theorem Kept.countFlit {p bits copy} (h : Kept s t) : Kept s (Machine.countFlit p bits copy t) :=
  .ite (.bump (.setPort h)) (.setPort h)

theorem Kept.takeFlit {p bits copy} (h : Kept s t) : Kept s (Machine.takeFlit p bits copy t) := by
  refine .ite h ?_
  extract_lets t1
  have h1 : Kept s t1 := .countFlit h
  exact .ite (.crcError h1) (.ite (.ite (.protocolError h1) h1) (.ite (.ite (.protocolError h1) (.takeCtrl h1))
    (.ite (.protocolError h1) (.ite (.protocolError h1) (.takeFlitSeq h1)))))

theorem Answer.execFlitReceived {port flit copy} (h : Kept s t) :
    Answer s (Machine.execFlitReceived port flit copy t) :=
  .next (.takeFlit h)

theorem Answer.execCtrlFlitReceived {port flit copy} (h : Kept s t) :
    Answer s (Machine.execCtrlFlitReceived port flit copy t) :=
  .next (.takeFlit h)

theorem Answer.execAckTimer {port} (h : Kept s t) : Answer s (Machine.execAckTimer port t) := by
  unfold Machine.execAckTimer
  extract_lets
  split
  · exact .ite (.next (.sendCtrl (.setPort h))) (.next h)
  · exact .next h

theorem Answer.execNakResendTimer {port} (h : Kept s t) : Answer s (Machine.execNakResendTimer port t) := by
  unfold Machine.execNakResendTimer
  extract_lets
  split
  · exact .ite (.next (.sendNak h)) (.next h)
  · exact .next h

theorem Answer.execReplayTimer {port} (h : Kept s t) : Answer s (Machine.execReplayTimer port t) := by
  unfold Machine.execReplayTimer
  split
  · exact .ite (.next (.startReplay h)) (.next h)
  · exact .next h

theorem Kept.sendBlocks {p} (h : Kept s t) : Kept s (Machine.sendBlocks p t) :=
  .ite (.ite (.beside (.setPort (.forAll (fun _ _ => .emit) h))) (.setPort (.forAll (fun _ _ => .emit) h))) h

theorem Kept.portSlot {p} (h : Kept s t) : Kept s (Machine.portSlot p t) :=
  .ite (.ite (.sendBlocks h) h) (.idleSlot h)

theorem Kept.fillSlots {p} (h : Kept s t) : Kept s (Machine.fillSlots p t) :=
  .ite h (.forAll (fun _ _ => .portSlot) h)

theorem Kept.enterTraining {p st} (h : Kept s t) : Kept s (Machine.enterTraining p st t) := by
  unfold Machine.enterTraining
  extract_lets _ t1
  have h1 : Kept s t1 := .ite (.setPort (.put (.put h))) (.put h)
  exact .ite (.sendBlocks (.setPort h1)) (.setPort h1)

theorem Kept.mapLanes {p k} (h : Kept s t) : Kept s (Machine.mapLanes p k t) := by
  unfold Machine.mapLanes
  extract_lets
  split
  · exact h
  · exact .setPort h

theorem Kept.remap {p} (h : Kept s t) : Kept s (Machine.remap p t) :=
  .ite (.ite h (.sendBlocks (.mapLanes h))) h

theorem Kept.meetCold {p} (h : Kept s t) : Kept s (Machine.meetCold p t) := .ite (.setPort (.log h)) h

theorem Kept.endConfig {p} (h : Kept s t) : Kept s (Machine.endConfig p t) := by
  refine .ite h ?_
  split
  · exact .enterTraining (.put (.put (.meetCold h)))
  · exact .leaveActive h

theorem Kept.trainingBlockIn {port lane detected block advance} (h : Kept s t) :
    Kept s (Machine.trainingBlockIn port lane detected block advance t) := by
  unfold Machine.trainingBlockIn
  extract_lets p off t1 st b type lock t2 t3
  have h1 : Kept s t1 := .ite (.enterTraining (.setPort h)) h
  have h2 : Kept s t2 := .put (.put (.setPort h1))
  have h3 : Kept s t3 := .ite (.remap (.setPort h1)) h1
  exact .ite h1 (.ite (.ite (.enterTraining (.mapLanes h2)) h2) (.ite (.ite (.endConfig h3) h3)
    (.ite (.ite (.enterTraining h1) h1) (.ite (.enterTraining h1) h1))))

theorem Answer.execTrainingAttemptTimeout {port} (h : Kept s t) :
    Answer s (Machine.execTrainingAttemptTimeout port t) :=
  .ite (.next (.leaveActive h)) (.next h)

theorem Answer.execSyncSend {port} (h : Kept s t) : Answer s (Machine.execSyncSend port t) :=
  .ite (.next (.setPort (.sendCtrl h))) (.next h)

theorem Answer.execLinkActive {port} (h : Kept s t) : Answer s (Machine.execLinkActive port t) :=
  .ite (.next (.pump (.resendAll (.setPort (.ite (.setPort (.put h)) (.put h)))))) (.next h)

theorem Kept.failLane {p lane} (h : Kept s t) : Kept s (Machine.failLane p lane t) := .sendCtrl (.setPort h)

theorem Answer.execSpareWindowEnd {port} (h : Kept s t) : Answer s (Machine.execSpareWindowEnd port t) := by
  unfold Machine.execSpareWindowEnd
  extract_lets _ t1
  have h1 : Kept s t1 := .forAll (fun _ _ => .put) (.setPort h)
  refine .ite (.next h) ?_
  split
  · exact .next h1
  · exact .next (.failLane h1)
  · exact .next (.put h1)

theorem Answer.execLaneLockLoss {port lane} (h : Kept s t) : Answer s (Machine.execLaneLockLoss port lane t) :=
  .ite (.next h) (.ite (.next (.ite h (.ite (.linkReset h) (.put h)))) (.ite (.next h) (.ite (.next (.failLane
    h)) (.ite (.next h) (.next (.linkReset h))))))

theorem Answer.execSpareReq {port lane} (h : Kept s t) : Answer s (Machine.execSpareReq port lane t) :=
  .next (.ite (.takeSpareReq h) h)

theorem Answer.execSpareAck {port lane} (h : Kept s t) : Answer s (Machine.execSpareAck port lane t) :=
  .next (.ite (.takeSpareAck h) h)

theorem Answer.execSpareReqRepeat {port} (h : Kept s t) : Answer s (Machine.execSpareReqRepeat port t) := by
  unfold Machine.execSpareReqRepeat
  extract_lets
  split
  · exact .ite (.next (.failLane h)) (.next h)
  · exact .next h

theorem Answer.execStRetrainWrite {port} (h : Kept s t) : Answer s (Machine.execStRetrainWrite port t) :=
  .next (.ite h (.linkReset h))

/-! ### The functions of Machine/Stitch.lean -/

theorem Kept.sendAnswer {p tag m} (h : Kept s t) : Kept s (Machine.sendAnswer p tag m t) := .beside h

theorem Kept.refuseMsg {p m status} (h : Kept s t) : Kept s (Machine.refuseMsg p m status t) :=
  .ite (.sendAnswer h) (.ite (.sendAnswer h) (.sendCmp h))

theorem Kept.forwardMsg {p m} (h : Kept s t) : Kept s (Machine.forwardMsg p m t) :=
  .ite (.refuseMsg h) (.count (.beside h))

theorem Kept.servePeer {p m write mask} (h : Kept s t) : Kept s (Machine.servePeer p m write mask t) :=
  .ite (.sendCmp h) (.addReq h)

theorem Kept.showHeld (h : Kept s t) : Kept s (Machine.showHeld t) := .put h

theorem Kept.storeSpill {n k codes beats} (h : Kept s t) : Kept s (Machine.storeSpill n k codes beats t) := by
  refine .forAll (fun _ _ h' => ?_) h
  split
  · exact .dramWrite h'
  · exact h'

theorem Kept.setSpill {n v} (h : Kept s t) : Kept s (Machine.setSpill n v t) :=
  .dramWrite (.update h (spills := fun c => Tab.wf_set c.spills _ _))

theorem Kept.holdSpill {p m} (h : Kept s t) : Kept s (Machine.holdSpill p m t) := by
  refine .ite (.sendCmp h) ?_
  extract_lets
  split
  · exact .sendCmp h
  · exact .sendCmp (.showHeld (.storeSpill (.chargeInternal (.setSpill h))))

theorem Kept.readSpill {n first i} (h : Kept s t) : Kept s (Machine.readSpill n first i t).2 := by
  induction i with
  | zero => exact h
  | succ i ih => exact .scheduleFix (.dramRead ih)

theorem Kept.giveSpill {p m} (h : Kept s t) : Kept s (Machine.giveSpill p m t) := by
  unfold Machine.giveSpill
  extract_lets
  split
  · refine .ite (.sendCmp h) ?_
    extract_lets
    split
    rename_i he
    exact .sendCmp (.of_eq he (.readSpill (.chargeInternal h)))
  · exact .sendCmp h

theorem Kept.dropSpill {p m} (h : Kept s t) : Kept s (Machine.dropSpill p m t) := by
  unfold Machine.dropSpill
  extract_lets
  split
  · exact .ite (.sendCmp (.showHeld (.setSpill h))) (.sendCmp h)
  · exact .sendCmp h

theorem Kept.openSpilled {page idx u'} (h : Kept s t) : Kept s (Machine.openSpilled page idx u' t).2 := by
  unfold Machine.openSpilled
  extract_lets
  split
  · exact h
  · refine .iteSnd h ?_
    split
    · exact h
    · exact h
    · exact .alarmData h

theorem Kept.openSectors {page first l} (h : Kept s t) : Kept s (Machine.openSectors page first l t).2 := by
  induction l generalizing first t with
  | nil => exact h
  | cons u l ih => exact ih (.openSpilled h)

theorem Kept.spilledSegment {page k m} (h : Kept s t) : Kept s (Machine.spilledSegment page k m t).2 := by
  refine .iteSnd h (.iteSnd h ?_)
  split
  rename_i he
  exact .of_eq he (.openSectors h)

theorem Kept.finishSpillRead {id k m} (h : Kept s t) : Kept s (Machine.finishSpillRead id k m t) := by
  unfold Machine.finishSpillRead
  split
  · exact h
  · split
    next t1 he => exact .finish (.of_eq he (.spilledSegment h))
    next code l t1 he =>
    extract_lets t2 poisoned want bytes good
    have h2 : Kept s t2 := .chargeInternal (.of_eq he (.spilledSegment h))
    have hp : Kept s (poisoned t2) := .finishRead (.poisonAdd h2)
    refine .ite (.finishRead h2) (.ite ?_ (.ite (.setReq (.addDecode h2)) hp))
    split
    · exact .finishRead h2
    · exact hp

theorem Kept.finishSpillMove {page k m} (h : Kept s t) : Kept s (Machine.finishSpillMove page k m t) := by
  unfold Machine.finishSpillMove
  split
  · exact h
  · refine .ite h ?_
    split
    rename_i t1 he
    have h1 := Kept.of_eq he (.spilledSegment h)
    extract_lets _ _ t2
    have h2 : Kept s t2 := .queueDecode (.setSeg h1)
    split
    · exact h2
    · exact .ite h2 (.ite (.putSegment h2) (.setMove h2))

theorem Kept.finishSpillPut {o page k m} (h : Kept s t) : Kept s (Machine.finishSpillPut o page k m t) := by
  unfold Machine.finishSpillPut
  extract_lets
  split
  · exact .ite (.sendSpillFree h) h
  · exact .ite (.abortMove h) (.ite (.forAll (fun _ _ => .putSegment) (.setMove h)) (.ite h (.setMove h)))

theorem Kept.closeOpen {o} (h : Kept s t) : Kept s (Machine.closeOpen o t) := .beside h

theorem Kept.finishRemote {id d grant} (h : Kept s t) : Kept s (Machine.finishRemote id d grant t) := by
  unfold Machine.finishRemote
  split
  · exact .retrySnoops (.finish h)
  · exact h

theorem Kept.leaseStops {id m} (h : Kept s t) : Kept s (Machine.leaseStops id m t) := by
  unfold Machine.leaseStops
  split
  · split
    · exact .ite (.refuseOp h) h
    · exact h
  · exact h

theorem Kept.takeCmp {p m} (h : Kept s t) : Kept s (Machine.takeCmp p m t) := by
  unfold Machine.takeCmp
  split
  · exact h
  · extract_lets t1
    have h1 : Kept s t1 := .closeOpen h
    split
    · exact .sendAnswer h1
    · exact h1
    · exact h1
    · exact .finishRemote (.leaseStops h1)
    · exact .finishRemote (.leaseStops h1)
    · exact .finishSpillRead h1
    · exact .finishSpillMove h1
    · exact .finishSpillPut h1
    · exact .answerSnoop h1
    · exact .reply h1

theorem Kept.takeSnpRsp {p m} (h : Kept s t) : Kept s (Machine.takeSnpRsp p m t) := by
  unfold Machine.takeSnpRsp
  split
  · exact h
  · extract_lets t1
    have h1 : Kept s t1 := .closeOpen h
    split
    · exact .sendAnswer h1
    · refine .answerSnoop ?_
      split
      · exact .internalWrite h1
      · exact .ite (.loseLine h1) h1
    · exact h1

theorem Kept.takeCmdRsp {p m} (h : Kept s t) : Kept s (Machine.takeCmdRsp p m t) := by
  unfold Machine.takeCmdRsp
  split
  · exact h
  · extract_lets b more t1
    have h1 : Kept s t1 := .closeOpen h
    split
    · exact .sendAnswer (.ite h h1)
    · extract_lets t2
      have h2 : Kept s t2 := .ite (.beside h1) h1
      exact .ite (.completeAway h2) (.reply h2)
    · exact h1

theorem Kept.sendAgain {o} (h : Kept s t) : Kept s (Machine.sendAgain o t) := .beside h

theorem Kept.endOpen {gone o} (h : Kept s t) : Kept s (Machine.endOpen gone o t) := by
  unfold Machine.endOpen
  split
  · exact .ite (.finishRemote (.closeOpen h)) (.sendAgain h)
  · exact .finishRemote (.ite (.log (.closeOpen h)) (.log (.closeOpen h)))
  · extract_lets
    split
    · exact .abortMove (.closeOpen h)
    · exact .closeOpen h
  · refine .ite ?_ (.sendAgain h)
    split
    · exact .finish (.closeOpen h)
    · exact .closeOpen h
  · exact .ite (.finishSpillMove (.closeOpen h)) (.sendAgain h)
  · exact .ite (.closeOpen h) (.sendAgain h)
  · exact .ite (.closeOpen h) (.sendAgain h)
  · exact .ite (.completeAway (.closeOpen h)) (.reply (.closeOpen h))
  · exact .closeOpen h
  · exact .closeOpen h

theorem Kept.endPortOpens {p} (h : Kept s t) : Kept s (Machine.endPortOpens p t) := by
  refine .forAll (fun _ _ h' => ?_) h
  split
  · exact .ite (.sendCmp (.log (.closeOpen h'))) (.ite (.refuseMsg (.closeOpen h')) (.sendAgain h'))
  · exact .endOpen h'

/-- A message that leaves a receive queue leaves a state that keeps what a step keeps. -/
theorem Kept.of_takeHead {p v m} (h : Kept s t) (he : Machine.takeHead p v t = some (m, u)) : Kept s u := by
  unfold Machine.takeHead at he
  extract_lets at he
  split at he
  · cases he
  · split at he
    · cases he
    · cases he
      exact .ite (.setPort h) (.freeCredit (.setPort h))

theorem Kept.onMsg {p v want act} (hf : ∀ m u, Kept s u → Kept s (act m u)) (h : Kept s t) :
    Kept s (Machine.onMsg p v want act t) := by
  unfold Machine.onMsg
  split
  · exact h
  · refine .ite ?_ h
    split
    · rename_i he
      exact .pump (.settle (hf _ _ (.of_takeHead h he)))
    · exact h

theorem Kept.here {act p m} (hf : ∀ p m u, Kept s u → Kept s (act p m u)) (h : Kept s t) :
    Kept s (Machine.here act p m t) := .ite (hf _ _ _ h) (.forwardMsg h)

theorem Answer.execStRd {port} (h : Kept s t) : Answer s (Machine.execStRd port t) :=
  .next (.onMsg (fun _ _ h' => .here (fun _ _ _ => .servePeer) h') h)

theorem Answer.execStWr {port} (h : Kept s t) : Answer s (Machine.execStWr port t) :=
  .next (.onMsg (fun _ _ h' => .here (fun _ _ _ => .servePeer) h') h)

theorem Answer.execStWrPtl {port} (h : Kept s t) : Answer s (Machine.execStWrPtl port t) :=
  .next (.onMsg (fun _ _ h' => .here (fun _ _ _ => .servePeer) h') h)

theorem Answer.execSpillPut {port} (h : Kept s t) : Answer s (Machine.execSpillPut port t) :=
  .next (.onMsg (fun _ _ h' => .here (fun _ _ _ => .holdSpill) h') h)

theorem Answer.execSpillGet {port} (h : Kept s t) : Answer s (Machine.execSpillGet port t) :=
  .next (.onMsg (fun _ _ h' => .here (fun _ _ _ => .giveSpill) h') h)

theorem Answer.execSpillFree {port} (h : Kept s t) : Answer s (Machine.execSpillFree port t) :=
  .next (.onMsg (fun _ _ h' => .here (fun _ _ _ => .dropSpill) h') h)

theorem Kept.takeCmd {p m} (h : Kept s t) : Kept s (Machine.takeCmd p m t) :=
  .ite (.arrive h) (.ite (.arrive h) (.ite (.refuseMsg h) (.beside h)))

theorem Answer.execStCmd {port} (h : Kept s t) : Answer s (Machine.execStCmd port t) :=
  .next (.onMsg (fun _ _ h' => .here (fun _ _ _ => .takeCmd) h') h)

theorem Kept.takeSnoop {p m} (h : Kept s t) : Kept s (Machine.takeSnoop p m t) :=
  .ite (.answerHome h) (.retrySnoops (.beside h))

theorem Answer.execSnpInv {port} (h : Kept s t) : Answer s (Machine.execSnpInv port t) :=
  .next (.onMsg (fun _ _ h' => .here (fun _ _ _ => .takeSnoop) h') h)

theorem Answer.execSnpData {port} (h : Kept s t) : Answer s (Machine.execSnpData port t) :=
  .next (.onMsg (fun _ _ h' => .here (fun _ _ _ => .takeSnoop) h') h)

theorem Answer.execStUndefinedOpcode {port} (h : Kept s t) :
    Answer s (Machine.execStUndefinedOpcode port t) := by
  unfold Machine.execStUndefinedOpcode
  extract_lets
  split
  · exact .next (.onMsg (fun _ _ => .sendCmp) h)
  · exact .next h

theorem Answer.execTrainingBlockReceived {port lane detected block advance} (h : Kept s t) :
    Answer s (Machine.execTrainingBlockReceived port lane detected block advance t) :=
  .next (.pump (.ite (.endPortOpens (.trainingBlockIn h)) (.trainingBlockIn h)))

theorem Answer.execStPortResetWrite {port} (h : Kept s t) : Answer s (Machine.execStPortResetWrite port t) :=
  .next (.pump (.endPortOpens (.coldStart (.forAll (fun _ _ => .farEndReset) h))))

theorem Answer.execStDisableWrite {port disable} (h : Kept s t) :
    Answer s (Machine.execStDisableWrite port disable t) :=
  .next (.ite (.leaveActive (.put h)) (.put h))

/-! ### The functions of Machine/Clutch.lean -/

theorem Kept.floodOut {except m} (h : Kept s t) : Kept s (Machine.floodOut except m t) := .pump (.beside h)

theorem Kept.flood {op arg dst beats} (h : Kept s t) : Kept s (Machine.flood op arg dst beats t) :=
  .floodOut (.beside h)

theorem Kept.onClu {p op act} (hf : ∀ m u, Kept s u → Kept s (act m u)) (h : Kept s t) :
    Kept s (Machine.onClu p op act t) :=
  .onMsg (fun _ _ h' => .ite (.sendCmp h') (.ite (hf _ _ (.floodOut (.beside (.sendCmp h')))) (.floodOut
    (.beside (.sendCmp h'))))) h

theorem Kept.applyRoutes {b} (h : Kept s t) : Kept s (Machine.applyRoutes b t) :=
  .forAll (fun _ _ h' => .put (.put h')) h

theorem Kept.showLinks (h : Kept s t) : Kept s (Machine.showLinks t) :=
  .update (.put (.put h)) (hops := fun _ => wf_hops (cellsRising_distances _ _))

theorem Kept.fence (h : Kept s t) : Kept s (Machine.fence t) := .beside (.put h)

theorem Kept.applyHans {hans} (h : Kept s t) : Kept s (Machine.applyHans hans t) := by
  refine .forAll (fun _ _ h' => ?_) (.forAll (fun _ _ h' => .put (.put (.put (.put h')))) h)
  split
  · exact .put (.put h')
  · exact .put h'

theorem Kept.survive {f} (h : Kept s t) : Kept s (Machine.survive f t) :=
  .forAll (fun _ _ => .endOpen) (.showHeld (.forAll (fun _ _ => .setSpill) (.forAll (fun _ _ h' => .ite h'
    (.declareDead h')) h)))

theorem Kept.memberEvent {f} (h : Kept s t) : Kept s (Machine.memberEvent f t) := .eventAll h

theorem Kept.applyRoster {r} (h : Kept s t) : Kept s (Machine.applyRoster r t) := by
  unfold Machine.applyRoster
  extract_lets _ _ _ _ t1
  have h1 : Kept s t1 := .put (.put (.put (.put (.put (.put h)))))
  exact .update (.showLinks (.forAll (fun _ _ => .completeLongs) (.forAll (fun _ _ h' => .memberEvent (.survive
    h')) (.applyHans (.ite h1 (.ite (.put h1) (.ite (.fence h1) h1)))))))
    (levels := fun c => Tab.wf_keep c.levels _)

theorem Kept.heartbeat {r} (h : Kept s t) : Kept s (Machine.heartbeat r t) := .ite (.beside h) h

theorem Kept.endRouted {m} (h : Kept s t) : Kept s (Machine.endRouted m t) := by
  refine .forAll (fun _ _ h' => ?_) h
  split
  · exact .closeOpen h'
  · exact .endOpen h'

theorem Kept.makeChange {members failed state resume} (h : Kept s t) :
    Kept s (Machine.makeChange members failed state resume t) := by
  unfold Machine.makeChange
  extract_lets
  split
  extract_lets _ _ _ _ _ _ _ t1
  have h1 : Kept s t1 := .applyRoster (.beside (.flood (.applyRoutes (.forAll (fun _ _ => .flood) (.ite (.log h)
    h)))))
  exact .ite (.forAll (fun _ _ => .flood) (.pump (.beside (.flood h1)))) h1

theorem Kept.checkHeld (h : Kept s t) : Kept s (Machine.checkHeld t) := by
  unfold Machine.checkHeld
  split
  · exact h
  · exact .ite (.makeChange h) h

theorem Kept.tryHeld (h : Kept s t) : Kept s (Machine.tryHeld t) :=
  .ite h (.ite (.checkHeld (.beside (.beside h))) (.flood (.beside h)))

theorem Kept.beginHold {src m} (h : Kept s t) : Kept s (Machine.beginHold src m t) :=
  .tryHeld (.endRouted (.beside h))

theorem Kept.startChange {members failed state} (h : Kept s t) :
    Kept s (Machine.startChange members failed state t) :=
  .beginHold (.flood (.beside h))

theorem Answer.execStCmp {port} (h : Kept s t) : Answer s (Machine.execStCmp port t) :=
  .next (.tryHeld (.onMsg (fun _ _ => .takeCmp) h))

theorem Answer.execSnpRsp {port} (h : Kept s t) : Answer s (Machine.execSnpRsp port t) :=
  .next (.tryHeld (.onMsg (fun _ _ => .takeSnpRsp) h))

theorem Answer.execCmdRsp {port} (h : Kept s t) : Answer s (Machine.execCmdRsp port t) :=
  .next (.tryHeld (.onMsg (fun _ _ => .takeCmdRsp) h))

theorem Kept.tryForm (h : Kept s t) : Kept s (Machine.tryForm t) := .ite h (.ite (.makeChange h) h)

theorem Kept.beginForming (h : Kept s t) : Kept s (Machine.beginForming t) := .ite (.beside (.put h)) h

theorem Kept.takeHello {m} (h : Kept s t) : Kept s (Machine.takeHello m t) := by
  unfold Machine.takeHello
  extract_lets _ _ _ t1
  have h1 : Kept s t1 := .beside h
  exact .ite (.tryForm (.ite h1 (.log h1))) (.ite (.ite h1 (.ite (.log (.drawn h1)) (.ite h1 (.startChange
    (.drawn h1))))) h1)

theorem Answer.execHello {port} (h : Kept s t) : Answer s (Machine.execHello port t) :=
  .next (.onClu (fun _ _ => .takeHello) h)

theorem Answer.execHelloTimer (h : Kept s t) : Answer s (Machine.execHelloTimer t) :=
  .ite (.next (.flood (.beginForming (.beside h)))) (.next h)

theorem Answer.execHeadElection (h : Kept s t) : Answer s (Machine.execHeadElection t) := by
  unfold Machine.execHeadElection
  split
  · exact .ite (.next (.tryForm (.forAll (fun _ _ => .log) (.beside (.put h))))) (.next h)
  · exact .next h

theorem Answer.execFormationDeadline (h : Kept s t) : Answer s (Machine.execFormationDeadline t) := by
  unfold Machine.execFormationDeadline
  split
  · exact .ite (.ite (.next (.makeChange h)) (.next (.log (.beside h)))) (.next h)
  · exact .next h

theorem Kept.takeRoster {m} (h : Kept s t) : Kept s (Machine.takeRoster m t) := by
  unfold Machine.takeRoster
  extract_lets _ _ t1
  have h1 : Kept s t1 := .beside h
  exact .ite (.applyRoster (.beside h1)) (.ite (.heartbeat h1) h1)

theorem Answer.execRoster {port} (h : Kept s t) : Answer s (Machine.execRoster port t) :=
  .next (.onClu (fun _ _ => .takeRoster) h)

theorem Answer.execRosterHeartbeat (h : Kept s t) : Answer s (Machine.execRosterHeartbeat t) :=
  .ite (.next (.flood (.beside h))) (.next h)

theorem Answer.execRouteSet {port} (h : Kept s t) : Answer s (Machine.execRouteSet port t) :=
  .next (.onClu (fun _ _ h' => .showLinks (.applyRoutes h')) h)

theorem Answer.execHold {port} (h : Kept s t) : Answer s (Machine.execHold port t) :=
  .next (.onClu (fun _ _ => .beginHold) h)

theorem Answer.execHeld {port} (h : Kept s t) : Answer s (Machine.execHeld port t) :=
  .next (.onClu (fun _ _ h' => .checkHeld (.beside h')) h)

theorem Answer.execResume {port} (h : Kept s t) : Answer s (Machine.execResume port t) :=
  .next (.onClu (fun _ _ h' => .ite (.pump (.beside h')) h') h)

theorem Kept.addReport {src port partner} (h : Kept s t) : Kept s (Machine.addReport src port partner t) :=
  .beside h

theorem Answer.execLinkDown {port} (h : Kept s t) : Answer s (Machine.execLinkDown port t) :=
  .next (.onClu (fun _ _ => .addReport) h)

theorem Answer.execStitchDown {port} (h : Kept s t) : Answer s (Machine.execStitchDown port t) := by
  unfold Machine.execStitchDown
  extract_lets _ _ _ t1
  have h1 : Kept s t1 := .log (.setPort h)
  exact .ite (.ite (.next h1) (.next (.addReport (.flood h1)))) (.next h)

theorem Answer.execFailureDecision (h : Kept s t) : Answer s (Machine.execFailureDecision t) := by
  unfold Machine.execFailureDecision
  split
  · exact .next h
  · exact .ite (.ite (.next (.fence (.beside h))) (.next (.startChange (.beside h)))) (.next h)

theorem Answer.execHeartbeatLoss (h : Kept s t) : Answer s (Machine.execHeartbeatLoss t) :=
  .ite (.next (.flood (.beside h))) (.next h)

theorem Answer.execClaim {port} (h : Kept s t) : Answer s (Machine.execClaim port t) :=
  .next (.onClu (fun _ _ => .beside) h)

theorem Answer.execClaimSettle (h : Kept s t) : Answer s (Machine.execClaimSettle t) := by
  unfold Machine.execClaimSettle
  split
  · exact .next h
  · refine .ite (.next h) ?_
    extract_lets _ _ t1
    have h1 : Kept s t1 := .beside h
    exact .ite (.next (.beside h1)) (.ite (.next (.fence h1)) (.next (.put (.startChange h1))))

theorem Answer.execDeferredClaimTimeout (h : Kept s t) : Answer s (Machine.execDeferredClaimTimeout t) := by
  unfold Machine.execDeferredClaimTimeout
  split
  · exact .ite (.next (.fence h)) (.next h)
  · exact .next h

theorem Kept.sendLevel (h : Kept s t) : Kept s (Machine.sendLevel t) := .ite (.flood (.beside h)) h

theorem Kept.removeMember {p} (h : Kept s t) : Kept s (Machine.removeMember p t) :=
  .startChange (.ite (.beside (.flood h)) (.flood h))

theorem Kept.checkLeaving (h : Kept s t) : Kept s (Machine.checkLeaving t) := by
  refine .ite h ?_
  split
  · exact .removeMember h
  · exact h

theorem Answer.execLevel {port} (h : Kept s t) : Answer s (Machine.execLevel port t) :=
  .next (.onClu (fun _ _ h' => .checkLeaving (.update h' (levels := fun c => Tab.wf_set c.levels _ _))) h)

theorem Kept.recallFrom {p} (h : Kept s t) : Kept s (Machine.recallFrom p t) := .ite h (.beside h)

theorem Answer.execRecallLeases {port} (h : Kept s t) : Answer s (Machine.execRecallLeases port t) :=
  .next (.onClu (fun _ _ => .recallFrom) h)

theorem Answer.execLeave {port} (h : Kept s t) : Answer s (Machine.execLeave port t) :=
  .next (.onClu (fun _ _ h' => .ite (.beside h') h') h)

/-! ### The functions of Machine/Mgmt.lean -/

theorem Kept.refuse {reason index} (h : Kept s t) : Kept s (Machine.refuse reason index t).2 := h

theorem Kept.refuseState {index} (h : Kept s t) : Kept s (Machine.refuseState index t).2 := .refuse h

theorem Kept.refuseLimit {index} (h : Kept s t) : Kept s (Machine.refuseLimit index t).2 := .refuse h

theorem Kept.refuseRange {offset} (h : Kept s t) : Kept s (Machine.refuseRange offset t).2 := .refuse h

theorem Kept.refuseConflict {index} (h : Kept s t) : Kept s (Machine.refuseConflict index t).2 := .refuse h

theorem Kept.busy (h : Kept s t) : Kept s (Machine.busy t).2 := h

theorem Kept.ok (h : Kept s t) : Kept s (Machine.ok t).2 := h

theorem Kept.answer {p v} (h : Kept s t) : Kept s (Machine.answer p v t) := .ite h (.reply h)

theorem Kept.relay {dst p} (h : Kept s t) : Kept s (Machine.relay dst p t) := by
  unfold Machine.relay
  extract_lets
  split
  · rename_i t1 he
    exact .pump (.of_eq he (.originate h))
  · rename_i t1 he
    exact .answer (.of_eq he (.originate h))

theorem Kept.recallAll {path} (h : Kept s t) : Kept s (Machine.recallAll path t) := .recallFrom (.flood h)

theorem Kept.decideWith {eff p} (hf : ∀ p u, Kept s u → Kept s (eff p u).2) (h : Kept s t) :
    Kept s (Machine.decideWith eff p t) := by
  refine .ite (.answer (.count h)) (.ite (.relay (.count h)) ?_)
  split
  · exact .answer (.count h)
  · split
    · exact .relay (.drawn (.ite (.recallAll (.count h)) (.count h)))
    · exact .answer (hf _ _ (.count h))

theorem Kept.wakeArrival {p} (h : Kept s t) : Kept s (Machine.wakeArrival p t) := by
  refine .ite h ?_
  split
  · exact .wakeRaw h
  · exact .wakeRaw h
  · exact .wakeRaw h
  · exact .wakeFrom h
  · exact h

theorem Kept.runCmd {op eff p} (hf : ∀ p u, Kept s u → Kept s (eff p u).2) (h : Kept s t) :
    Kept s (Machine.runCmd op eff p t) :=
  .ite (.arrive (.wakeArrival h)) (.ite (.answerBusy h) (.decideWith hf (.holdTag h)))

theorem Kept.startLong {p object arg} (h : Kept s t) : Kept s (Machine.startLong p object arg t).2 := .beside h

theorem Kept.identify {p} (h : Kept s t) : Kept s (Machine.identify p t).2 := h

theorem Kept.clearDirectory {region d} (h : Kept s t) : Kept s (Machine.clearDirectory region d t) :=
  .update (.chargeInternal (.dropAlmanac h)) (dir := fun c => Tab.wf_keep c.dir _)
    (stamps := fun c => Tab.wf_keep c.stamps _) (slotStamps := fun c => Tab.wf_set c.slotStamps _ _)
    (dram := fun c => Tab.wf_keep c.dram _)

theorem Kept.setClass {region cls} (h : Kept s t) : Kept s (Machine.setClass region cls t) :=
  .ite (.clearDirectory (.writeRegion h)) (.writeRegion h)

theorem Kept.regionAlloc {p} (h : Kept s t) : Kept s (Machine.regionAlloc p t).2 := by
  unfold Machine.regionAlloc
  extract_lets cls k n
  clear_value cls k n
  refine .iteSnd (.refuseRange h) (.iteSnd (.refuseRange h) (.iteSnd (.refuseState h) (.iteSnd (.refuseLimit h)
    ?_)))
  split
  · exact .refuseLimit h
  · extract_lets t1
    have h1 : Kept s t1 := .forAll (fun _ _ h' => .setClass (.writeRegion h')) h
    clear_value t1
    exact .snd (.recountKeys h1)

theorem Kept.regionFree {p} (h : Kept s t) : Kept s (Machine.regionFree p t).2 :=
  .iteSnd (.busy h) (.iteSnd (.refuseConflict h) (.iteSnd (.refuseState (.farDrawn h)) (.startLong
    (.startFreeing (.farDrawn h)))))

theorem Kept.regionClass {p} (h : Kept s t) : Kept s (Machine.regionClass p t).2 :=
  .iteSnd (.refuseRange h) (.iteSnd (.refuseConflict h) (.iteSnd (.refuseState (.farDrawn h)) (.iteSnd (.ok
    (.farDrawn h)) (.iteSnd (.refuseLimit (.farDrawn h)) (.ok (.setClass (.ite (.dropPassSlot (.clearDirectory
    (.farDrawn h))) (.farDrawn h))))))))

theorem Kept.extentSet {p} (h : Kept s t) : Kept s (Machine.extentSet p t).2 := by
  refine .iteSnd (.refuseRange h) (.iteSnd (.refuseRange h) (.iteSnd (.refuseRange h) (.iteSnd (.refuseRange h)
    (.iteSnd (.refuseRange h) (.iteSnd (.refuseState h) (.iteSnd (.refuseLimit h) ?_))))))
  split
  · exact .refuseState (.farDrawn h)
  · exact .ok (.update (.farDrawn h) (lds := fun c => Tab.wf_upd (State.farDrawn_lds t ▸ c.lds) _ _))

theorem Kept.dropExtent {slot e} (h : Kept s t) : Kept s (Machine.dropExtent slot e t) :=
  .update h (lds := fun c => Tab.wf_upd c.lds _ _)

theorem Kept.extentClear {p} (h : Kept s t) : Kept s (Machine.extentClear p t).2 := by
  refine .iteSnd (.refuseRange h) ?_
  split
  · exact .refuseRange h
  · exact .iteSnd (.refuseState h) (.ok (.dropExtent h))

theorem Kept.regionRekey {p} (h : Kept s t) : Kept s (Machine.regionRekey p t).2 :=
  .iteSnd (.busy h) (.iteSnd (.refuseConflict h) (.iteSnd (.refuseState h) (.iteSnd (.refuseConflict h)
    (.startLong (.beside h)))))

theorem Kept.pinPage {on page} (h : Kept s t) : Kept s (Machine.pinPage on page t) := by
  unfold Machine.pinPage
  extract_lets _ t1
  have h1 : Kept s t1 := .setCat (.unpin (.pageFetch h))
  exact .ite h1 (.ite (.startPromotion (.beside h1)) (.beside h1))

theorem Kept.tierPin {p} (h : Kept s t) : Kept s (Machine.tierPin p t).2 := by
  refine .iteSnd (.refuseRange h) (.iteSnd (.refuseRange h) (.iteSnd (.refuseRange h) ?_))
  split
  · exact .refuseState h
  · exact .iteSnd (.refuseLimit h) (.ok (.poolChanged (.forAll (fun _ _ => .pinPage) h)))

theorem Kept.channelEvacuate {p} (h : Kept s t) : Kept s (Machine.channelEvacuate p t).2 :=
  .iteSnd (.busy h) (.iteSnd (.refuseConflict h) (.iteSnd (.refuseState h) (.iteSnd (.refuseState h) (.iteSnd
    (.refuseLimit h) (.startLong (.ite (.recallAll (.startEvacuation h)) (.startEvacuation h)))))))

theorem Kept.channelReturn {p} (h : Kept s t) : Kept s (Machine.channelReturn p t).2 :=
  .iteSnd (.busy h) (.iteSnd (.refuseConflict h) (.iteSnd (.refuseState h) (.startLong (.startReturn h))))

theorem Kept.keyLoad {p} (h : Kept s t) : Kept s (Machine.keyLoad p t).2 :=
  .iteSnd (.refuseRange h) (.iteSnd (.refuseState h) (.iteSnd (.iteSnd (.ok (.loadKey h)) (.refuseState h)) (.ok
    (.loadKey (.trng h)))))

theorem Kept.retireKey {k target} (h : Kept s t) : Kept s (Machine.retireKey k target t) := by
  unfold Machine.retireKey
  extract_lets
  split
  · exact .put h
  · exact .beside (.put h)

theorem Kept.keyRetire {p} (h : Kept s t) : Kept s (Machine.keyRetire p t).2 :=
  .iteSnd (.busy h) (.iteSnd (.refuseState h) (.iteSnd (.iteSnd (.refuseState h) (.startLong (.retireKey h)))
    (.iteSnd (.refuseState h) (.startLong (.retireKey h)))))

theorem Kept.leaseAnswer {p} (h : Kept s t) : Kept s (Machine.leaseAnswer p t).2 :=
  .iteSnd (.refuseState h) (.ok (.settle (.ite (.releaseLease h) (.ite (.keepLease h) h))))

theorem Kept.leaseClearOrphan {p} (h : Kept s t) : Kept s (Machine.leaseClearOrphan p t).2 :=
  .iteSnd (.refuseState h) (.ok (.writeRegion h))

theorem Kept.qosConfig {p} (h : Kept s t) : Kept s (Machine.qosConfig p t).2 := by
  refine .iteSnd (.refuseRange h) ?_
  split
  · exact .refuseRange h
  · exact .iteSnd (.refuseLimit h) (.iteSnd (.refuseLimit h) (.ok (.beside h)))

theorem Kept.engineSet {p} (h : Kept s t) : Kept s (Machine.engineSet p t).2 :=
  .iteSnd (.refuseRange h) (.iteSnd (.refuseRange h) (.iteSnd (.iteSnd (.ok (.ite (.crySelftest h) (.cmpSelftest
    h))) (.refuseState h)) (.iteSnd (.ok (.iteSnd (.cryOffline h) (.cmpOffline h))) (.refuseState (.iteSnd
    (.cryOffline h) (.cmpOffline h))))))

theorem Kept.memberJoin {p} (h : Kept s t) : Kept s (Machine.memberJoin p t).2 :=
  .iteSnd (.refuseState h) (.ok (.put h))

theorem Kept.memberRemove {p} (h : Kept s t) : Kept s (Machine.memberRemove p t).2 := by
  unfold Machine.memberRemove
  extract_lets m t1 _ t2
  have h2 : Kept s t2 := .beside (.drawn h)
  have h3 : Kept s (Machine.startLong p m 0 t2).2 := .startLong h2
  refine .iteSnd (.busy h) (.iteSnd (.refuseState (.drawn h)) ?_)
  revert h3
  generalize Machine.startLong p m 0 t2 = q
  obtain ⟨v, t3⟩ := q
  exact fun h3 => .snd (.checkLeaving (.recallAll h3))

theorem Answer.execIdentify {p} (h : Kept s t) : Answer s (Machine.execIdentify p t) :=
  .next (.runCmd (fun _ _ => .identify) h)

theorem Answer.execRegionAlloc {p} (h : Kept s t) : Answer s (Machine.execRegionAlloc p t) :=
  .next (.runCmd (fun _ _ => .regionAlloc) h)

theorem Answer.execRegionFree {p} (h : Kept s t) : Answer s (Machine.execRegionFree p t) :=
  .next (.runCmd (fun _ _ => .regionFree) h)

theorem Answer.execRegionClass {p} (h : Kept s t) : Answer s (Machine.execRegionClass p t) :=
  .next (.runCmd (fun _ _ => .regionClass) h)

theorem Answer.execExtentSet {p} (h : Kept s t) : Answer s (Machine.execExtentSet p t) :=
  .next (.runCmd (fun _ _ => .extentSet) h)

theorem Answer.execExtentClear {p} (h : Kept s t) : Answer s (Machine.execExtentClear p t) :=
  .next (.runCmd (fun _ _ => .extentClear) h)

theorem Answer.execRegionRekey {p} (h : Kept s t) : Answer s (Machine.execRegionRekey p t) :=
  .next (.runCmd (fun _ _ => .regionRekey) h)

theorem Answer.execTierPin {p} (h : Kept s t) : Answer s (Machine.execTierPin p t) :=
  .next (.runCmd (fun _ _ => .tierPin) h)

theorem Answer.execTierUnpin {p} (h : Kept s t) : Answer s (Machine.execTierUnpin p t) :=
  .next (.runCmd (fun _ _ => .tierPin) h)

theorem Answer.execChannelEvacuate {p} (h : Kept s t) : Answer s (Machine.execChannelEvacuate p t) :=
  .next (.runCmd (fun _ _ => .channelEvacuate) h)

theorem Answer.execChannelReturn {p} (h : Kept s t) : Answer s (Machine.execChannelReturn p t) :=
  .next (.runCmd (fun _ _ => .channelReturn) h)

theorem Answer.execKeyLoadGenerate {p} (h : Kept s t) : Answer s (Machine.execKeyLoadGenerate p t) :=
  .next (.runCmd (fun _ _ => .keyLoad) h)

theorem Answer.execKeyLoadImport {p} (h : Kept s t) : Answer s (Machine.execKeyLoadImport p t) :=
  .next (.runCmd (fun _ _ => .keyLoad) h)

theorem Answer.execKeyRetire {p} (h : Kept s t) : Answer s (Machine.execKeyRetire p t) :=
  .next (.runCmd (fun _ _ => .keyRetire) h)

theorem Answer.execLeaseRelease {p} (h : Kept s t) : Answer s (Machine.execLeaseRelease p t) :=
  .next (.runCmd (fun _ _ => .leaseAnswer) h)

theorem Answer.execLeaseKeep {p} (h : Kept s t) : Answer s (Machine.execLeaseKeep p t) :=
  .next (.runCmd (fun _ _ => .leaseAnswer) h)

theorem Answer.execLeaseClearOrphan {p} (h : Kept s t) : Answer s (Machine.execLeaseClearOrphan p t) :=
  .next (.runCmd (fun _ _ => .leaseClearOrphan) h)

theorem Answer.execQosConfig {p} (h : Kept s t) : Answer s (Machine.execQosConfig p t) :=
  .next (.runCmd (fun _ _ => .qosConfig) h)

theorem Answer.execEngineSetOnline {p} (h : Kept s t) : Answer s (Machine.execEngineSetOnline p t) :=
  .next (.runCmd (fun _ _ => .engineSet) h)

theorem Answer.execEngineSetOffline {p} (h : Kept s t) : Answer s (Machine.execEngineSetOffline p t) :=
  .next (.runCmd (fun _ _ => .engineSet) h)

theorem Answer.execEngineSetSelftest {p} (h : Kept s t) : Answer s (Machine.execEngineSetSelftest p t) :=
  .next (.runCmd (fun _ _ => .engineSet) h)

theorem Answer.execMemberJoin {p} (h : Kept s t) : Answer s (Machine.execMemberJoin p t) :=
  .next (.runCmd (fun _ _ => .memberJoin) h)

theorem Answer.execMemberRemove {p} (h : Kept s t) : Answer s (Machine.execMemberRemove p t) :=
  .next (.runCmd (fun _ _ => .memberRemove) h)

/-! ### The functions of Machine/Errors.lean -/

theorem Kept.errRead {_p} (h : Kept s t) : Kept s (Machine.errRead _p t).2 := .beside h

theorem Kept.errClear {_p} (h : Kept s t) : Kept s (Machine.errClear _p t).2 := .ok (.put (.put (.beside h)))

theorem Answer.execErrRead {p} (h : Kept s t) : Answer s (Machine.execErrRead p t) :=
  .next (.runCmd (fun _ _ => .errRead) h)

theorem Answer.execErrClear {p} (h : Kept s t) : Answer s (Machine.execErrClear p t) :=
  .next (.runCmd (fun _ _ => .errClear) h)

theorem Answer.execErrorRecord {code inst fatal addr detail} (h : Kept s t) :
    Answer s (Machine.execErrorRecord code inst fatal addr detail t) :=
  .ite (.next h) (.next (.logAs h))

theorem Kept.metaSramUe {sl kind index} (h : Kept s t) : Kept s (Machine.metaSramUe sl kind index t) := by
  unfold Machine.metaSramUe
  split
  · exact h
  · exact .ite (.log (.metaDrop h)) (.ite (.log (.metaWrite (.forAll (fun _ _ => .losePage) h))) (.ite (.log
      (.losePage h)) (.log (.ite (.metaDrop h) (.wrapAdd (.beside (.metaDrop h)))))))

theorem Answer.execSramUe {slice kind index} (h : Kept s t) :
    Answer s (Machine.execSramUe slice kind index t) :=
  .ite (.ite (.next (.log (.update h (near := fun c => Tab.wf_set c.near _ _)))) (.next h)) (.next (.metaSramUe
    h))

theorem Answer.execSramScrubStep {slice array corrected} (h : Kept s t) :
    Answer s (Machine.execSramScrubStep slice array corrected t) :=
  .ite (.next h) (.next (.ite (.bump (.update h (sramAt := fun c => Tab.wf_set c.sramAt _ _))) (.update h
    (sramAt := fun c => Tab.wf_set c.sramAt _ _))))

/-! ### The functions of Machine/Power.lean -/

theorem Kept.sendVoltage {level} (h : Kept s t) : Kept s (Machine.sendVoltage level t) := .emit (.update h)

theorem Kept.reserveTransit (h : Kept s t) : Kept s (Machine.reserveTransit t) := .update h

theorem Kept.startPl (h : Kept s t) : Kept s (Machine.startPl t) :=
  .ite h (.ite (.sendVoltage (.update (.put (.update h)))) (.reserveTransit (.put (.update h))))

theorem Kept.finishPl (h : Kept s t) : Kept s (Machine.finishPl t) := by
  unfold Machine.finishPl
  extract_lets _ _ _ t1 _ _ t2
  have h1 : Kept s t1 := .count (.put (.update h))
  have h2 : Kept s t2 := by
    unfold t2
    split
    · exact .answer (.update h1)
    · exact h1
  exact .startPl h2

theorem Kept.setPl {p} (h : Kept s t) : Kept s (Machine.setPl p t).2 := by
  unfold Machine.setPl
  extract_lets _ t1
  have h1 : Kept s t1 := .startPl (.put h)
  exact .iteSnd (.refuseRange h) (.iteSnd (.busy h) (.iteSnd (.update h1) h1))

theorem Answer.execSetPl {p} (h : Kept s t) : Answer s (Machine.execSetPl p t) :=
  .next (.runCmd (fun _ _ => .setPl) h)

theorem Answer.execPlVoltageSettled (h : Kept s t) : Answer s (Machine.execPlVoltageSettled t) := by
  unfold Machine.execPlVoltageSettled
  split
  · exact .next (.reserveTransit h)
  · exact .next (.finishPl h)
  · exact .next h

theorem Answer.execPlClockSwitch (h : Kept s t) : Answer s (Machine.execPlClockSwitch t) :=
  .ite (.ite (.next (.sendVoltage (.update (.put h)))) (.next (.finishPl (.put h)))) (.next h)

theorem Kept.setThermalMin {n} (h : Kept s t) : Kept s (Machine.setThermalMin n t) := .startPl (.put h)

theorem Kept.flushMeta {fuel} (h : Kept s t) : Kept s (Machine.flushMeta fuel t) := by
  induction fuel generalizing t with
  | zero => exact h
  | succ fuel ih =>
    unfold Machine.flushMeta
    split
    · exact ih (.metaWriteBack h)
    · exact h

theorem Kept.emptyCaches (h : Kept s t) : Kept s (Machine.emptyCaches t) :=
  .update (.flushMeta (.forAll (fun _ _ => .almEvict) h)) (near := fun _ => Tab.wf_empty)

theorem Kept.enterSelfRefresh {c'} (h : Kept s t) : Kept s (Machine.enterSelfRefresh c' t) :=
  .ite h (.forAll (fun _ _ h' => .sendDram (.sendDram (.setRank (.forAll (fun _ _ => .issueRefab) h'))))
    (.update h (chans := fun c => Tab.wf_upd c.chans _ _)))

theorem Kept.leaveSelfRefresh {c'} (h : Kept s t) : Kept s (Machine.leaveSelfRefresh c' t) :=
  .ite h (.forAll (fun _ _ h' => .ite h' (.sendDram (.sendDram (.put (.put (.put (.setRank h'))))))) (.update h
    (chans := fun c => Tab.wf_upd c.chans _ _)))

theorem Kept.narrowLinks {target} (h : Kept s t) : Kept s (Machine.narrowLinks target t) :=
  .forAll (fun _ _ h' => .ite h' (.ite (.update h' (links := fun c => Tab.wf_set c.links _ _)) (.update h'
    (links := fun c => Tab.wf_set c.links _ _)))) h

theorem Kept.widenLinks (h : Kept s t) : Kept s (Machine.widenLinks t) :=
  .forAll (fun _ _ h' => .ite (.update h' (links := fun c => Tab.wf_set c.links _ _)) h') h

theorem Kept.stopAction {target b} (h : Kept s t) : Kept s (Machine.stopAction target b t) := by
  unfold Machine.stopAction
  split
  · exact .ite (.emptyCaches h) h
  · exact .ite (.update (.beside h) (retained := fun c => by simp only [Option.all_some, c.keys, c.roots,
      Bool.and_self])) (.beside h)
  · exact .forAll (fun _ _ => .enterSelfRefresh) (.update h (retained := fun c => all_retained_map
      (fun _ => rfl) (fun _ => rfl) c.retained))
  · exact .narrowLinks h
  · exact h

theorem Kept.abortForSleep (h : Kept s t) : Kept s (Machine.abortForSleep t) :=
  .forAll (fun _ _ => .abortHeld) (.forAll (fun _ _ => .abortMove) h)

theorem Kept.releaseIngress (h : Kept s t) : Kept s (Machine.releaseIngress t) :=
  .forAll (fun _ _ => .route) (.beside (.forAll (fun _ _ => .fetchRing) h))

theorem Kept.stopRefused {x} (h : Kept s t) : Kept s (Machine.stopRefused x t) :=
  .answer (.settle (.releaseIngress (.put (.put (.ite (.forAll (fun _ _ => .leaveSelfRefresh) (.update h
    (retained := fun _ => rfl))) (.update h (retained := fun _ => rfl)))))))

theorem Kept.askBlock {x} (h : Kept s t) : Kept s (Machine.askBlock x t) :=
  .ite (.stopRefused h) (.ite (.abortForSleep (.update h)) (.update h))

theorem Kept.loseCore (h : Kept s t) : Kept s (Machine.loseCore t) :=
  .emit (.update h (roots := fun _ => Tab.wf_empty) (keys := fun _ => Tab.wf_empty))

theorem Kept.dropUnits (h : Kept s t) : Kept s (Machine.dropUnits t) :=
  .update h (jobs := fun c => Tab.wf_keep c.jobs _)

theorem Kept.enterSleep {x} (h : Kept s t) : Kept s (Machine.enterSleep x t) := by
  unfold Machine.enterSleep
  extract_lets _ _ _ t1 _ _ t2
  have h1 : Kept s t1 := .put (.put (.answer (.update h)))
  have h2 : Kept s t2 := .ite (.loseCore (.dropUnits (.wrapAdd h1))) (.emit (.emit (.dropUnits (.wrapAdd h1))))
  exact .ite (.beginExit h2) h2

theorem Kept.sleepCmd {p} (h : Kept s t) : Kept s (Machine.sleepCmd p t).2 := by
  unfold Machine.sleepCmd
  extract_lets tt x
  clear_value x
  refine .iteSnd (.busy h) (.iteSnd (.refuseRange h) (.iteSnd (.refuseState h) (.iteSnd (.refuseConflict h)
    (.iteSnd (.ok (.put h)) ?_))))
  split
  · exact .refuseState h
  · refine .iteSnd (.refuseLimit h) ?_
    have h1 : Kept s (t.put F.PWR_SL_STATUS.IN_ENTRY 1) := .put h
    exact .snd (.askBlock h1)

theorem Answer.execSleep {p} (h : Kept s t) : Answer s (Machine.execSleep p t) :=
  .next (.runCmd (fun _ _ => .sleepCmd) h)

theorem Answer.execBlockStopComplete (h : Kept s t) : Answer s (Machine.execBlockStopComplete t) := by
  unfold Machine.execBlockStopComplete
  split
  · exact .next h
  · exact .ite (.next h) (.ite (.next (.enterSleep (.stopAction h))) (.next (.askBlock (.stopAction h))))

theorem Answer.execStopBudgetExpiry (h : Kept s t) : Answer s (Machine.execStopBudgetExpiry t) := by
  unfold Machine.execStopBudgetExpiry
  split
  · exact .next h
  · exact .ite (.next h) (.next (.stopRefused h))

theorem Answer.execWakePin {pin} (h : Kept s t) : Answer s (Machine.execWakePin pin t) := .next (.wakeFrom h)

theorem Answer.execWakeTimer (h : Kept s t) : Answer s (Machine.execWakeTimer t) :=
  .ite (.next h) (.next (.wakeRaw (.update h)))

theorem Answer.execWakeMaskClear {src} (h : Kept s t) : Answer s (Machine.execWakeMaskClear src t) :=
  .next (.update h)

theorem Answer.execPllLock (h : Kept s t) : Answer s (Machine.execPllLock t) :=
  .ite (.next (.ite (.put (.update h)) (.update h))) (.next h)

theorem Kept.restore {ue} (h : Kept s t) : Kept s (Machine.restore ue t) := by
  unfold Machine.restore
  split
  · exact h
  next r he =>
  extract_lets _ t1 t2
  have h1 : Kept s t1 := .update h (retained := fun _ => rfl)
  have h2 : Kept s t2 := by
    refine ⟨fun c => ?_, h.pending, h.fuses⟩
    obtain ⟨hk, hr⟩ := (h.canon c).of_retained he
    exact (Kept.update (.refl t1) (keys := fun _ => hk) (roots := fun _ => hr)).canon (h1.canon c)
  clear_value t1 t2
  exact .ite (.lostRegionsEvent (.cryptoReset (.log h1)))
    (.update h2 (regs := fun c => cellsRising_foldl_insert c.regs))

theorem Kept.applyLevel (h : Kept s t) : Kept s (Machine.applyLevel t) := .ite h (.sendVoltage (.put h))

theorem Answer.execSlExitComplete {retentionUe} (h : Kept s t) :
    Answer s (Machine.execSlExitComplete retentionUe t) := by
  unfold Machine.execSlExitComplete
  extract_lets from3 t1 t2 _ t3
  have h1 : Kept s t1 := .ite (.restore h) h
  have h2 : Kept s t2 := .applyLevel (.widenLinks (.forAll (fun _ _ => .leaveSelfRefresh) h1))
  clear_value t2
  have h3 : Kept s t3 := .update h2
  exact .ite (.next (.settle (.releaseIngress (.log (.put (.count h3)))))) (.next h)

theorem Answer.execPtmExchange {offset} (h : Kept s t) : Answer s (Machine.execPtmExchange offset t) := by
  unfold Machine.execPtmExchange
  split
  · exact .next (.put h)
  · extract_lets _ _ _ _ t1 _ _ t2
    have h1 : Kept s t1 := .put (.put h)
    have h2 : Kept s t2 := .ite (.put (.put (.put h1))) (.put (.put h1))
    exact .ite (.next h) (.ite (.next (.put (.beside h2))) (.next (.put (.beside h2))))

theorem Answer.execXtalTrimUpdate {trim} (h : Kept s t) : Answer s (Machine.execXtalTrimUpdate trim t) :=
  .ite (.next (.put (.beside h))) (.next h)

/-! ### The functions of Machine/Pmu.lean -/

theorem Kept.addSlots {c' bucket n} (h : Kept s t) : Kept s (Machine.addSlots c' bucket n t) :=
  .ite h (.count (.update h (chans := fun c => Tab.wf_upd c.chans _ _)))

theorem Kept.passSlots {c' n} (h : Kept s t) : Kept s (Machine.passSlots c' n t) :=
  .addSlots (.addSlots (.forAll (fun _ _ => .addSlots) (.update h (chans := fun c => Tab.wf_upd c.chans _ _))))

theorem Kept.runSlots {c' n} (h : Kept s t) : Kept s (Machine.runSlots c' n t) :=
  .passSlots (.update h (chans := fun c => Tab.wf_upd c.chans _ _))

theorem Kept.snapshotSlots {c'} (h : Kept s t) : Kept s (Machine.snapshotSlots c' t) :=
  .update (.put (.put (.put (.put (.put (.put (.put (.put (.passSlots h)))))))))
    (chans := fun c => Tab.wf_upd c.chans _ _)

theorem Kept.snapshotAll {transit} (h : Kept s t) : Kept s (Machine.snapshotAll transit t) :=
  .put (.forAll (fun _ _ => .snapshotSlots) h)

theorem Kept.runClocks {k} (h : Kept s t) : Kept s (Machine.runClocks k t) :=
  .forAll (fun _ _ h' => .ite h' (.addCounter h')) h

theorem Kept.elapse {n} (h : Kept s t) : Kept s (Machine.elapse n t) := by
  refine .ite h ?_
  extract_lets _ _ _ _ _ t1
  have h1 : Kept s t1 := .ite (.runClocks (.beside (.advanceTb h))) (.advanceTb h)
  exact .ite (.forAll (fun _ _ => .runSlots) h1) h1

theorem Kept.crystalEdge (h : Kept s t) : Kept s (Machine.crystalEdge t) := .put (.advanceTb (.beside h))

theorem Kept.slewNs (h : Kept s t) : Kept s (Machine.slewNs t) := by
  refine .ite h ?_
  extract_lets _ _ _ _ t1
  have h1 : Kept s t1 := .ite (.put (.beside h)) (.beside h)
  exact .ite (.beside h) (.ite (.elapse h1) h1)

theorem Kept.stepTb (h : Kept s t) : Kept s (Machine.stepTb t) :=
  .ite h (.forAll (fun _ _ h' => .update h' (chans := fun c => Tab.wf_upd c.chans _ _)) (.put (.advanceTb
    (.beside h))))

theorem Kept.tick (h : Kept s t) : Kept s (Machine.tick t) :=
  .ite h (.ite (.crystalEdge h) (.forAll (fun _ _ => .portSlot) (.pump (.ite (.slewNs h) (.elapse (.slewNs
    h))))))

theorem Kept.setCounter {n cfg} (h : Kept s t) : Kept s (Machine.setCounter n cfg t) :=
  .put (.put (.put (.put (.put (.put (.put (.put (.put (.put h)))))))))

theorem Kept.pmuConfig {p} (h : Kept s t) : Kept s (Machine.pmuConfig p t).2 := by
  refine .iteSnd (.refuseRange h) ?_
  split
  · exact .refuseRange h
  · exact .ok (.forAll (fun _ _ => .setCounter) h)

theorem Kept.pmuPlate {_p} (h : Kept s t) : Kept s (Machine.pmuPlate _p t).2 := .takePlate h

theorem Kept.userPage {m on} (h : Kept s t) : Kept s (Machine.userPage m on t) :=
  .put (.update h (lds := fun c => Tab.wf_upd c.lds _ _))

theorem Kept.pmuUserPage {p} (h : Kept s t) : Kept s (Machine.pmuUserPage p t).2 := .ok (.userPage h)

theorem Answer.execPmuConfig {p} (h : Kept s t) : Answer s (Machine.execPmuConfig p t) :=
  .next (.runCmd (fun _ _ => .pmuConfig) h)

theorem Answer.execPmuPlate {p} (h : Kept s t) : Answer s (Machine.execPmuPlate p t) :=
  .next (.runCmd (fun _ _ => .pmuPlate) h)

theorem Answer.execPmuUserPageOpen {p} (h : Kept s t) : Answer s (Machine.execPmuUserPageOpen p t) :=
  .next (.runCmd (fun _ _ => .pmuUserPage) h)

theorem Answer.execPmuUserPageClose {p} (h : Kept s t) : Answer s (Machine.execPmuUserPageClose p t) :=
  .next (.runCmd (fun _ _ => .pmuUserPage) h)

theorem Answer.execPmuValueWrite {ctr value} (h : Kept s t) :
    Answer s (Machine.execPmuValueWrite ctr value t) :=
  .next (.put (.put (.put h)))

theorem Answer.execPmuPlateWrite (h : Kept s t) : Answer s (Machine.execPmuPlateWrite t) := .next (.takePlate h)

theorem Answer.execCounterWrap {ctr inc} (h : Kept s t) : Answer s (Machine.execCounterWrap ctr inc t) :=
  .ite (.next (.addCounter h)) (.next h)

theorem Answer.execPmuUe {ctr} (h : Kept s t) : Answer s (Machine.execPmuUe ctr t) :=
  .ite (.next h) (.next (.log (.bump (.put h))))

theorem Answer.execPeriodicPlate (h : Kept s t) : Answer s (Machine.execPeriodicPlate t) :=
  .ite (.next h) (.next (.takePlate h))

/-! ### The functions of Machine/Slots.lean -/

theorem Kept.setSlot {c' f} (h : Kept s t) : Kept s (Machine.setSlot c' f t) :=
  .update h (spw := fun c => Tab.wf_upd c.spw _ _)

theorem Kept.slotGo {c' st} (h : Kept s t) : Kept s (Machine.slotGo c' st t) := .setSlot (.put h)

theorem Kept.resetChannel {c'} (h : Kept s t) : Kept s (Machine.resetChannel c' t) :=
  .setSlot (.put (.put (.update h (regs := fun c => cellsRising_filter _ c.regs)
    (chans := fun c => Tab.wf_set c.chans _ _))))

theorem Kept.loseBand {sl} (h : Kept s t) : Kept s (Machine.loseBand sl t) :=
  .update (.forAll (fun _ _ => .discardPage) h) (metaSto := fun c => Tab.wf_keep c.metaSto _)

theorem Kept.channelFails {c'} (h : Kept s t) : Kept s (Machine.channelFails c' t) :=
  .ite (.loseBand (.forAll (fun _ _ => .losePage) (.forAll (fun _ _ => .log) h))) (.forAll
    (fun _ _ => .losePage) (.forAll (fun _ _ => .log) h))

theorem Kept.loseTables {c'} (h : Kept s t) : Kept s (Machine.loseTables c' t) :=
  .forAll (fun _ _ h' => .update h' (metaSto := fun c => Tab.wf_set c.metaSto _ _)) (.forAll
    (fun _ _ h' => .update h' (stamps := fun c => Tab.wf_set c.stamps _ _)) (.forAll (fun _ _ h' => .update h'
    (dir := fun c => Tab.wf_set c.dir _ _)) h))

theorem Kept.loseContents {c'} (h : Kept s t) : Kept s (Machine.loseContents c' t) :=
  .loseTables (.forAll (fun _ _ h' => .update h' (dram := fun c => Tab.wf_set c.dram _ _)) (.drawn (.ite
    (.channelFails h) h)))

theorem Kept.tryStart {c'} (h : Kept s t) : Kept s (Machine.tryStart c' t) := by
  unfold Machine.tryStart
  extract_lets _ t1
  have h1 : Kept s t1 := .ite (.resetChannel h) h
  exact .ite h (.ite h1 (.slotGo h1))

theorem Answer.execInsertionDelayExpiry {slot} (h : Kept s t) :
    Answer s (Machine.execInsertionDelayExpiry slot t) :=
  .ite (.next (.slotGo h)) (.next h)

theorem Answer.execSlotFullyOn {slot} (h : Kept s t) : Answer s (Machine.execSlotFullyOn slot t) :=
  .ite (.next h) (.ite (.next (.setSlot (.slotGo h))) (.next h))

theorem Answer.execPgDelayExpiry {slot} (h : Kept s t) : Answer s (Machine.execPgDelayExpiry slot t) :=
  .ite (.next (.setSlot (.put (.put (.slotGo h))))) (.next h)

theorem Kept.gateOff {c' st} (h : Kept s t) : Kept s (Machine.gateOff c' st t) := by
  unfold Machine.gateOff
  extract_lets _ _ t1
  have h1 : Kept s t1 := .put (.put (.put (.put (.slotGo h))))
  exact .ite (.loseContents (.setSlot h1)) (.setSlot h1)

theorem Kept.forceOff {c'} (h : Kept s t) : Kept s (Machine.forceOff c' t) :=
  .ite (.setSlot h) (.gateOff (.put h))

theorem Kept.powerLost {c'} (h : Kept s t) : Kept s (Machine.powerLost c' t) :=
  .forAll (fun _ _ => .forceOff) (.log h)

theorem Kept.slotDrop {c' cause} (h : Kept s t) : Kept s (Machine.slotDrop c' cause t) := by
  unfold Machine.slotDrop
  extract_lets _ t1
  have h1 : Kept s t1 := .wakeRaw (.gateOff (.put h))
  exact .ite (.powerLost h1) h1

theorem Kept.slotLatch {c' cause} (h : Kept s t) : Kept s (Machine.slotLatch c' cause t) := by
  unfold Machine.slotLatch
  extract_lets _ _ t1
  have h1 : Kept s t1 := .wakeRaw (.log (.bump (.gateOff (.put h))))
  exact .ite (.powerLost h1) h1

theorem Answer.execRampTimeout {slot} (h : Kept s t) : Answer s (Machine.execRampTimeout slot t) :=
  .ite (.next (.slotLatch h)) (.next h)

theorem Answer.execCurrentLimitOnset {slot} (h : Kept s t) : Answer s (Machine.execCurrentLimitOnset slot t) :=
  .ite (.next h) (.next (.setSlot (.put (.put h))))

theorem Answer.execCurrentLimitRelease {slot} (h : Kept s t) :
    Answer s (Machine.execCurrentLimitRelease slot t) :=
  .ite (.next h) (.next (.setSlot (.put (.put h))))

theorem Answer.execFaultTimerExpiry {slot} (h : Kept s t) : Answer s (Machine.execFaultTimerExpiry slot t) := by
  unfold Machine.execFaultTimerExpiry
  extract_lets
  split
  · exact .ite (.next (.slotLatch h)) (.next h)
  · exact .next h

theorem Answer.execSlotDownEnd {slot low} (h : Kept s t) : Answer s (Machine.execSlotDownEnd slot low t) :=
  .ite (.next (.setSlot (.put (.put (.slotGo h))))) (.next h)

theorem Answer.execPresenceChange {slot prsnt0 prsnt1} (h : Kept s t) :
    Answer s (Machine.execPresenceChange slot prsnt0 prsnt1 t) := by
  unfold Machine.execPresenceChange
  extract_lets _ _ _ _ _ t1
  have h1 : Kept s t1 := .wakeFrom (.put (.put h))
  exact .ite (.next h) (.ite (.next (.ite (.slotDrop h1) h1)) (.ite (.next (.slotGo h1)) (.next (.tryStart
    h1))))

theorem Answer.execVinWindowChange {slot vin} (h : Kept s t) :
    Answer s (Machine.execVinWindowChange slot vin t) := by
  unfold Machine.execVinWindowChange
  extract_lets _ _ _ t1
  have h1 : Kept s t1 := .setSlot h
  exact .ite (.next (.tryStart h1)) (.ite (.next (.slotDrop h1)) (.ite (.next (.slotGo h1)) (.next h1)))

theorem Kept.slotPower {p} (h : Kept s t) : Kept s (Machine.slotPower p t).2 :=
  .iteSnd (.busy h) (.iteSnd (.refuseConflict h) (.iteSnd (.iteSnd (.busy h) (.iteSnd (.refuseState h)
    (.startLong (.tryStart (.setSlot h))))) (.iteSnd (.startLong (.slotGo h)) (.iteSnd (.refuseState h) (.iteSnd
    (.startLong (.setSlot h)) (.startLong (.setSlot (.gateOff h))))))))

theorem Answer.execSlotPowerOn {p} (h : Kept s t) : Answer s (Machine.execSlotPowerOn p t) :=
  .next (.runCmd (fun _ _ => .slotPower) h)

theorem Answer.execSlotPowerOff {p} (h : Kept s t) : Answer s (Machine.execSlotPowerOff p t) :=
  .next (.runCmd (fun _ _ => .slotPower) h)

theorem Answer.execMeterUpdate {slot current vout vin power energy} (h : Kept s t) :
    Answer s (Machine.execMeterUpdate slot current vout vin power energy t) :=
  .next (.wrapAdd (.put (.put (.put (.put h)))))

theorem Answer.execSpdReadStart {slot} (h : Kept s t) : Answer s (Machine.execSpdReadStart slot t) := by
  unfold Machine.execSpdReadStart
  extract_lets
  split
  · exact .ite (.next (.setSlot h)) (.next h)
  · exact .next h

theorem Kept.mirrorHub {c' d h'} (h : Kept s t) : Kept s (Machine.mirrorHub c' d h' t) :=
  .update h (spd := fun c => Tab.wf_setList c.spd _ _)

theorem Answer.execSpdReadComplete {slot hub0 hub1 same} (h : Kept s t) :
    Answer s (Machine.execSpdReadComplete slot hub0 hub1 same t) := by
  unfold Machine.execSpdReadComplete
  extract_lets _ _ _ _ _ _ _ _ t1 _ t2
  have h1 : Kept s t1 := .put (.put (.mirrorHub (.mirrorHub h)))
  have h2 : Kept s t2 := .ite (.put (.setSlot h1)) (.put (.setSlot h1))
  exact .ite (.next h) (.next (.ite (.startTraining h2) h2))

/-! ### The functions of Machine/Nor.lean -/

theorem Kept.stopFwWrite (h : Kept s t) : Kept s (Machine.stopFwWrite t) := by
  unfold Machine.stopFwWrite
  extract_lets
  split
  · exact .answer (.update h)
  · exact .update h

theorem Kept.issueNor (h : Kept s t) : Kept s (Machine.issueNor t) :=
  .ite h (.ite (.put (.update h)) (.ite (.stopFwWrite h) h))

theorem Kept.norQueue {ops} (h : Kept s t) : Kept s (Machine.norQueue ops t) := .issueNor (.update h)

theorem Kept.bctlWrite {active pending} (h : Kept s t) : Kept s (Machine.bctlWrite active pending t) :=
  .norQueue h

theorem Kept.showLog (h : Kept s t) : Kept s (Machine.showLog t) := .put h

theorem Kept.logRecord {kind subject payload} (h : Kept s t) :
    Kept s (Machine.logRecord kind subject payload t) := by
  unfold Machine.logRecord
  extract_lets _ _ _ _ _ t1
  have h1 : Kept s t1 := .bump (.beside h)
  exact .ite (.showLog (.beside h)) (.ite (.showLog (.beside h)) (.showLog (.ite h1 (.log h1))))

theorem Kept.appendRecord {r} (h : Kept s t) : Kept s (Machine.appendRecord r t) := .put (.update h)

theorem Kept.turnSector {skip} (h : Kept s t) : Kept s (Machine.turnSector skip t) :=
  .ite h (.update (.forAll (fun _ _ => .appendRecord) (.beside h)))

theorem Answer.execLogbookWrite (h : Kept s t) : Answer s (Machine.execLogbookWrite t) := by
  unfold Machine.execLogbookWrite
  split
  · exact .next h
  · exact .ite (.next h) (.next (.issueNor (.appendRecord (.turnSector (.showLog (.beside h))))))

/-! ### The functions of Machine/Thermal.lean -/

theorem Kept.trackCooling (h : Kept s t) : Kept s (Machine.trackCooling t) := .ite h (.beside h)

theorem Answer.execSurveySubround {chan value selfCheck} (h : Kept s t) :
    Answer s (Machine.execSurveySubround chan value selfCheck t) := by
  unfold Machine.execSurveySubround
  extract_lets _ _ _ t1
  have h1 : Kept s t1 := .put (.put (.jobDone h))
  exact .ite (.next h) (.ite (.next (.put (.jobDone h))) (.next (.trackCooling (.ite (.beside h1) h1))))

theorem Kept.takeRef (h : Kept s t) : Kept s (Machine.takeRef t).2.2 := by
  refine .iteSndSnd (.put (.put (.beside h))) ?_
  extract_lets _ _ _ t1
  have h1 : Kept s t1 := .ite (.log (.put (.beside h))) (.beside h)
  refine .iteSndSnd h1 ?_
  split
  · exact .put h1
  · exact .put h1

theorem Kept.showZones {tref} (h : Kept s t) : Kept s (Machine.showZones tref t) :=
  .put (.put (.put (.forAll (fun _ _ h' => .put (.put (.put h'))) h)))

theorem Kept.setCap {n} (h : Kept s t) : Kept s (Machine.setCap n t) := by
  unfold Machine.setCap
  extract_lets _ t1
  have h1 : Kept s t1 := .put (.put h)
  exact .ite (.log h1) (.ite (.log h1) h1)

theorem Kept.capControl (h : Kept s t) : Kept s (Machine.capControl t) :=
  .ite (.setCap (.put h)) (.ite (.ite (.setCap (.put h)) (.put h)) (.put h))

theorem Kept.applyCap {forced} (h : Kept s t) : Kept s (Machine.applyCap forced t) :=
  .update (.ite (.setThermalMin h) (.ite h (.setThermalMin h)))

theorem Kept.warnControl (h : Kept s t) : Kept s (Machine.warnControl t) :=
  .ite (.ite (.put h) h) (.ite (.wakeRaw (.log (.put h))) h)

theorem Kept.abandonSleep (h : Kept s t) : Kept s (Machine.abandonSleep t) :=
  .put (.put (.update (.ite (.count h) h) (retained := fun _ => rfl)))

theorem Kept.cutLinks (h : Kept s t) : Kept s (Machine.cutLinks t) :=
  .forAll (fun _ _ => .leaveActive) (.emit (.forAll (fun _ _ => .dropLink) h))

theorem Kept.trip {cause temp zone} (h : Kept s t) : Kept s (Machine.trip cause temp zone t) := by
  unfold Machine.trip
  extract_lets trips t1 t2 _ t3 t4 lost t5 t6
  have h3 : Kept s t3 := .beside (.put (.put (.put (.put (.put (.put h))))))
  have h6 : Kept s t6 := .forAll (fun _ _ => .log) (.forAll (fun _ _ => .forceOff) (.cutLinks (.abandonSleep
    (.log h3))))
  clear_value t6
  exact .ite h (.emit (.update h6 (roots := fun _ => Tab.wf_empty) (keys := fun _ => Tab.wf_empty)))

theorem Answer.execRefComparatorTrip {temp} (h : Kept s t) : Answer s (Machine.execRefComparatorTrip temp t) :=
  .ite (.next (.trip h)) (.next h)

theorem Answer.execThermalModelUpdate (h : Kept s t) : Answer s (Machine.execThermalModelUpdate t) := by
  refine .ite (.next h) ?_
  extract_lets t1
  have h1 : Kept s t1 := .jobDone h
  split
  next tref forced t2 he =>
  have h2 : Kept s t2 := .of_eq_snd he (.takeRef h1)
  extract_lets dt _ t3 t4 t5
  have h4 : Kept s t4 := .applyCap (.warnControl (.capControl (.showZones (.beside h2))))
  have h5 : Kept s t5 := .ite (.trip h4) h4
  exact .next (.ite h5 (.issueNor h5))

theorem Kept.releaseTarget {fuel n} (h : Kept s t) : Kept s (Machine.releaseTarget fuel n t) := by
  induction fuel generalizing n t with
  | zero => exact h
  | succ fuel ih => exact .ite (.bump (.put (.beside h))) (.ite (ih (.bump (.put h))) (.beside (.put h)))

theorem Answer.execRemarginPassStart (h : Kept s t) : Answer s (Machine.execRemarginPassStart t) :=
  .ite (.next h) (.next (.releaseTarget (.put (.beside h))))

theorem Kept.liveRead {c' k sc eyes} (h : Kept s t) : Kept s (Machine.liveRead c' k sc eyes t) := by
  refine .put (.liveProbe (.forAll (fun _ _ h' => ?_) (.put (.put (.put (.put h))))))
  split
  · exact h'
  · exact .ite (.recordEye h') (.put (.recordEye h'))

theorem Kept.channelMargin {c' eyes} (h : Kept s t) : Kept s (Machine.channelMargin c' eyes t) := by
  unfold Machine.channelMargin
  extract_lets _ _ _ _ t1
  have h1 : Kept s t1 := .logRecord (.forAll (fun _ _ => .liveRead) h)
  split
  extract_lets _ t2
  have h2 : Kept s t2 := .ite (.log h1) (.ite (.log h1) h1)
  exact .ite h2 (.logRecord (.beside h2))

theorem Kept.serdesMargin {t' steps} (h : Kept s t) : Kept s (Machine.serdesMargin t' steps t) := by
  refine .forAll (fun _ _ h' => ?_) (.logRecord h)
  split
  · exact .ite (.log h') h'
  · exact h'

theorem Answer.execRemarginingQuantum {eyes steps} (h : Kept s t) :
    Answer s (Machine.execRemarginingQuantum eyes steps t) := by
  unfold Machine.execRemarginingQuantum
  split
  · exact .next h
  · exact .ite (.next h) (.next (.releaseTarget (.ite (.channelMargin (.jobDone h)) (.serdesMargin (.jobDone
      h)))))

theorem Kept.planLevel {a n} (h : Kept s t) : Kept s (Machine.planLevel a n t) :=
  .ite (.put h) (.log (.put (.put h)))

theorem Answer.execRoDay {ageing} (h : Kept s t) : Answer s (Machine.execRoDay ageing t) :=
  .ite (.next h) (.next (.logRecord (.forAll (fun _ _ => .planLevel) (.put (.logRecord (.beside h))))))

/-! ### The functions of Machine/Security.lean -/

theorem Kept.fuseStop {j status result} (h : Kept s t) : Kept s (Machine.fuseStop j status result t) := by
  unfold Machine.fuseStop
  extract_lets _ t1
  have h1 : Kept s t1 := .put (.update h)
  split
  · exact .answer h1
  · exact h1

theorem Kept.fuseProgram {p} (h : Kept s t) : Kept s (Machine.fuseProgram p t).2 := by
  refine .iteSnd (.busy h) (.iteSnd (.refuseRange h) ?_)
  split
  · exact .refuseRange h
  · exact .iteSnd (.refuseState h) (.iteSnd h (.put (.update h)))

theorem Answer.execFuseProgram {p} (h : Kept s t) : Answer s (Machine.execFuseProgram p t) :=
  .next (.runCmd (fun _ _ => .fuseProgram) h)

/-- Programming a fuse adds its bit to the array. -/
theorem Kept.blow {b} (h : Kept s t) : Kept s (Machine.blow b t) := by
  unfold Machine.blow
  extract_lets one t1
  have h1 : Kept s t1 := .update h (fuses := fun i hi => by simp [hi])
  clear_value t1
  exact .ite (.checkAlarmLimit h1) h1

theorem Answer.execFuseBitProgram {result} (h : Kept s t) : Answer s (Machine.execFuseBitProgram result t) := by
  unfold Machine.execFuseBitProgram
  split
  · exact .next h
  · split
    · exact .next (.fuseStop h)
    · refine .ite (.next (.fuseStop h)) ?_
      extract_lets t1
      have h1 : Kept s t1 := .ite (.log h) (.ite (.put (.blow h)) (.blow h))
      exact .ite (.next (.fuseStop h1)) (.next (.update h1))

theorem Kept.fwWrite {p} (h : Kept s t) : Kept s (Machine.fwWrite p t).2 :=
  .iteSnd (.busy h) (.iteSnd (.refuseRange h) (.iteSnd (.refuseConflict h) (.iteSnd (.ok h) (.norQueue (.update
    h)))))

theorem Answer.execFwWrite {p} (h : Kept s t) : Answer s (Machine.execFwWrite p t) :=
  .next (.runCmd (fun _ _ => .fwWrite) h)

theorem Kept.fwActivate {p} (h : Kept s t) : Kept s (Machine.fwActivate p t).2 :=
  .iteSnd (.busy h) (.iteSnd (.refuseState h) (.iteSnd (.ok (.bctlWrite (.update h))) (.ok (.bctlWrite (.update
    h)))))

theorem Answer.execFwActivate {p} (h : Kept s t) : Answer s (Machine.execFwActivate p t) :=
  .next (.runCmd (fun _ _ => .fwActivate) h)

theorem Answer.execTrialConfirm (h : Kept s t) : Answer s (Machine.execTrialConfirm t) :=
  .ite (.next (.bctlWrite (.update h))) (.next h)

theorem Kept.debugUnlock {p} (h : Kept s t) : Kept s (Machine.debugUnlock p t).2 := by
  unfold Machine.debugUnlock
  extract_lets good _ t1 t2
  have h1 : Kept s t1 := .update h
  have h2 : Kept s t2 := .lostRegionsEvent (.cryptoReset (.zeroize h1))
  clear_value t2
  exact .iteSnd (.refuseState h) (.iteSnd (.update (.trng h)) (.iteSnd (.refuseRange h)
    (.iteSnd (.ok (.put (.update h2))) (.refuseState (.bump h1)))))

theorem Answer.execDebugUnlockChallenge {p} (h : Kept s t) : Answer s (Machine.execDebugUnlockChallenge p t) :=
  .next (.runCmd (fun _ _ => .debugUnlock) h)

theorem Answer.execDebugUnlockAnswer {p} (h : Kept s t) : Answer s (Machine.execDebugUnlockAnswer p t) :=
  .next (.runCmd (fun _ _ => .debugUnlock) h)

theorem Answer.spdmCommand {row n k} (hf : ∀ u, Kept s u → Kept s (k u)) (h : Kept s t) :
    Answer s (Machine.spdmCommand row n k t) :=
  .next (.ite (.sidebandAccess (fun u h' => .ite (hf u h') h') h) (.ioAccess (fun u h' => .ite (hf u h') h') h))

theorem Kept.spdmReply {t' a} (h : Kept s t) : Kept s (Machine.spdmReply t' a t) := .emit h

theorem Kept.signature (h : Kept s t) : Kept s (State.signature t).2 := .drawn h

theorem Answer.execSpdmGetCertificate {transport certSlot} (h : Kept s t) :
    Answer s (Machine.execSpdmGetCertificate transport certSlot t) :=
  .spdmCommand (fun _ h' => .ite (.spdmReply h') (.spdmReply h')) h

theorem Answer.execSpdmChallenge {transport certSlot} (h : Kept s t) :
    Answer s (Machine.execSpdmChallenge transport certSlot t) :=
  .spdmCommand (fun _ h' => .ite (.spdmReply h') (.ite (.spdmReply h') (.spdmReply (.signature h')))) h

theorem Answer.execSpdmGetMeasurements {transport index signed} (h : Kept s t) :
    Answer s (Machine.execSpdmGetMeasurements transport index signed t) :=
  .spdmCommand (fun _ h' => .ite (.spdmReply h') (.ite (.spdmReply h') (.ite (.spdmReply h') (.spdmReply
    (.signature h'))))) h

theorem Answer.execSpdmKeyExchange {transport} (h : Kept s t) :
    Answer s (Machine.execSpdmKeyExchange transport t) :=
  .spdmCommand (fun _ h' => .ite (.spdmReply h') (.ite (.spdmReply h') (.spdmReply (.update (.signature h')
    (sessions := fun c => Tab.wf_set c.sessions _ _))))) h

theorem Kept.inSession {transport session} (h : Kept s t) : Kept s (Machine.inSession transport session t) :=
  .spdmReply h

theorem Answer.execSpdmKeyUpdate {transport session} (h : Kept s t) :
    Answer s (Machine.execSpdmKeyUpdate transport session t) :=
  .spdmCommand (fun _ => .inSession) h

theorem Answer.execSpdmHeartbeat {transport session} (h : Kept s t) :
    Answer s (Machine.execSpdmHeartbeat transport session t) :=
  .spdmCommand (fun _ => .inSession) h

theorem Answer.execSpdmSessionEnd {transport session} (h : Kept s t) :
    Answer s (Machine.execSpdmSessionEnd transport session t) :=
  .next (.update h (sessions := fun c => Tab.wf_upd c.sessions _ _))

theorem Answer.execIdeKm {link key containment} (h : Kept s t) :
    Answer s (Machine.execIdeKm link key containment t) :=
  .next (.ioAccess (fun _ h' => .ite h' (.emit (.ite (.settle (.retrySnoops (.forAll (fun _ _ => .ldUp) (.update
    h' (links := fun c => Tab.wf_upd c.links _ _))))) (.update h' (links := fun c => Tab.wf_upd c.links _ _)))))
    h)

/-! ### The functions of Machine/RegMap.lean -/

theorem Kept.dvsecRead {m o} (h : Kept s t) : Kept s (Machine.dvsecRead m o t) :=
  .emit (.ite (.update h (lds := fun c => Tab.wf_upd c.lds _ _)) (.ite (.update h
    (lds := fun c => Tab.wf_upd c.lds _ _)) (.ite (.put (.put (.put h))) h)))

theorem Kept.runTo {o} (ho : Answer s o) (h : Kept s t) : Kept s (Machine.runTo o t) := by
  unfold Machine.runTo
  split
  · exact ho _ rfl
  · exact h

theorem Kept.writeField {locked x v mask} (h : Kept s t) : Kept s (Machine.writeField locked x v mask t) := by
  unfold Machine.writeField
  extract_lets
  split
  · exact .ite (.put h) h
  · exact .ite (.put h) h
  · exact .put h
  · exact .put h
  · exact h

theorem Kept.plainWrite {addr value mask} (h : Kept s t) : Kept s (Machine.plainWrite addr value mask t) := by
  unfold Machine.plainWrite
  split
  · exact h
  · exact .forAll (fun _ _ => .writeField) h

theorem Kept.writePtmSel {value mask} (h : Kept s t) : Kept s (Machine.writePtmSel value mask t) :=
  .ite (.plainWrite h) h

theorem Kept.writeThmCfg {value mask} (h : Kept s t) : Kept s (Machine.writeThmCfg value mask t) :=
  .ite (.plainWrite h) (.put (.put (.put (.plainWrite h))))

theorem Kept.writeAge {value mask} (h : Kept s t) : Kept s (Machine.writeAge value mask t) :=
  .ite (.put (.plainWrite h)) (.plainWrite h)

theorem Kept.resetAssigned (h : Kept s t) : Kept s (Machine.resetAssigned t) := .forAll (fun _ _ => .put) h

theorem Kept.writeCluCfg {value mask} (h : Kept s t) : Kept s (Machine.writeCluCfg value mask t) :=
  .ite (.put (.plainWrite h)) (.resetAssigned (.put (.plainWrite h)))

theorem Kept.writeLinkCtrl {l v} (h : Kept s t) : Kept s (Machine.writeLinkCtrl l v t) := by
  unfold Machine.writeLinkCtrl
  extract_lets _ t1
  have h1 : Kept s t1 := .ite h (.runTo (.execLinkDisableWrite h) h)
  exact .ite (.runTo (.execLinkResetWrite h1) h1) h1

theorem Kept.writeStCtrl {p v} (h : Kept s t) : Kept s (Machine.writeStCtrl p v t) := by
  unfold Machine.writeStCtrl
  extract_lets _ t1 t2
  have h1 : Kept s t1 := .ite h (.runTo (.execStDisableWrite h) h)
  have h2 : Kept s t2 := .ite (.runTo (.execStPortResetWrite h1) h1) h1
  exact .ite (.runTo (.execStRetrainWrite h2) h2) h2

theorem Kept.writeEngine {crypto n v} (h : Kept s t) : Kept s (Machine.writeEngine crypto n v t) := by
  unfold Machine.writeEngine
  extract_lets _ t1
  have h1 : Kept s t1 := .ite (.runTo (.execCryEngOfflineWrite h) h) (.runTo (.execCmpEngOfflineWrite h) h)
  exact .ite h1 (.ite (.runTo (.execCryEngSelftestWrite h1) h1) (.runTo (.execCmpEngSelftestWrite h1) h1))

theorem Kept.writeDoorbell {c' v} (h : Kept s t) : Kept s (Machine.writeDoorbell c' v t) := by
  unfold Machine.writeDoorbell
  extract_lets _ _ t1 t2 t3
  have h1 : Kept s t1 := .ite (.runTo (.execInTaken h) h) h
  have h2 : Kept s t2 := .ite h1 (.ite (.put h1) (.runTo (.execOutPost h1) h1))
  have h3 : Kept s t3 := .ite (.runTo (.execInPost h2) h2) h2
  exact .ite (.runTo (.execOutTaken h3) h3) h3

theorem Kept.writeSbCtrl {v} (h : Kept s t) : Kept s (Machine.writeSbCtrl v t) := by
  unfold Machine.writeSbCtrl
  extract_lets t1 t2
  have h1 : Kept s t1 := .ite (.runTo (.execSbMark h) h) h
  have h2 : Kept s t2 := .ite (.runTo (.execSbRewind h1) h1) h1
  exact .ite (.runTo (.execSbFlush h2) h2) h2

theorem Kept.writeScrub {c' addr value mask} (h : Kept s t) :
    Kept s (Machine.writeScrub c' addr value mask t) :=
  .ite (.log (.plainWrite h)) (.plainWrite h)

theorem Kept.writeCtr {n addr value mask} (h : Kept s t) : Kept s (Machine.writeCtr n addr value mask t) :=
  .ite (.plainWrite h) (.runTo (.execPmuValueWrite h) h)

theorem Kept.writePmuCtrl {value mask} (h : Kept s t) : Kept s (Machine.writePmuCtrl value mask t) :=
  .ite (.takePlate (.plainWrite h)) (.plainWrite h)

theorem Kept.regWrite {addr value mask} (h : Kept s t) : Kept s (Machine.regWrite addr value mask t) :=
  .ite h (.ite (.runTo (.execHanMapWrite h) h) (.ite (.writeLinkCtrl h) (.ite (.runTo (.execHostPortCtrlWrite h)
    h) (.ite (.runTo (.execHostPortCfgWrite h) h) (.ite (.writePtmSel h) (.ite (.writeStCtrl h) (.ite (.runTo
    (.execDmrCtrlWrite h) h) (.ite (.poolChanged (.plainWrite h)) (.ite (.ite h (.plainWrite h)) (.ite (.runTo
    (.execDmrDoorbell h) h) (.ite (.runTo (.execTierDisableWrite h) h) (.ite (.writeEngine h) (.ite (.runTo
    (.execCryCtrlWrite h) h) (.ite (.writeEngine h) (.ite (.runTo (.execQosCtrlWrite h) h) (.ite (.writeCluCfg
    h) (.ite (.ite (.runTo (.execDcCfgWrite h) h) (.ite (.writeScrub h) (.ite (.runTo (.execDcMarkWrite h) h)
    (.ite (.runTo (.execTrainingGo h) h) (.plainWrite h))))) (.ite (.runTo (.execMbxBindWrite h) h) (.ite
    (.writeDoorbell h) (.ite (.writeSbCtrl h) (.ite (.plainWrite (.update h)) (.ite (.writeThmCfg h) (.ite
    (.writeAge h) (.ite (.writePmuCtrl h) (.ite (.writeCtr h) (.plainWrite h))))))))))))))))))))))))))

theorem Kept.accessError {addr cause write} (h : Kept s t) : Kept s (Machine.accessError addr cause write t) :=
  .bump (.put (.put (.put (.put h))))

theorem Kept.writeWord {addr wide value} (h : Kept s t) : Kept s (Machine.writeWord addr wide value t) :=
  .ite (.ite (.regWrite h) (.ite (.regWrite h) (.regWrite h))) (.ite (.regWrite (.regWrite h)) (.regWrite h))

theorem Kept.clearRc {addr lo hi} (h : Kept s t) : Kept s (Machine.clearRc addr lo hi t) :=
  .forAll (fun _ _ => .put) h

theorem Kept.loadWord {addr wide} (h : Kept s t) : Kept s (Machine.loadWord addr wide t) := by
  unfold Machine.loadWord
  extract_lets _ _ t1
  have h1 : Kept s t1 := .ite (.runTo (.execSbDataRead h) h) h
  exact .emit (.ite (.clearRc (.clearRc h1)) (.ite (.clearRc h1) (.clearRc (.clearRc h1))))

theorem Answer.execRegisterWrite {addr wide access} (h : Kept s t) :
    Answer s (Machine.execRegisterWrite addr wide access t) := by
  refine .ite (.next h) (.ite (.next (.ite (.accessError h) (.emit (.accessError h)))) ?_)
  split
  · exact .next (.writeWord h)
  · exact .next (.loadWord h)

theorem Kept.storeIn {m c' o v} (h : Kept s t) : Kept s (Machine.storeIn m c' o v t) :=
  .ite h (.ite (.put h) (.update h (mbx := fun c => Tab.wf_upd c.mbx _ _)))

theorem Kept.farDoorbell {m c' v} (h : Kept s t) : Kept s (Machine.farDoorbell m c' v t) := by
  unfold Machine.farDoorbell
  extract_lets _ _ t1 t2 t3
  have h1 : Kept s t1 := .ite (.runTo (.execInPost h) h) h
  have h2 : Kept s t2 := .ite (.runTo (.execInTaken h1) h1) h1
  have h3 : Kept s t3 := .ite (.runTo (.execOutPost h2) h2) h2
  exact .ite (.runTo (.execOutTaken h3) h3) h3

theorem Kept.mailboxStore {m c' o v} (h : Kept s t) : Kept s (Machine.mailboxStore m c' o v t) :=
  .ite h (.ite (.plainWrite h) (.ite (.farDoorbell h) (.ite (.ite (.runTo (.execCh15Claim h) h) h) (.ite h (.ite
    (.storeIn h) (.ite (.put h) h))))))

theorem Answer.execTbLoRead {slot read} (h : Kept s t) : Answer s (Machine.execTbLoRead slot read t) := by
  unfold Machine.execTbLoRead
  extract_lets
  split
  · exact .next (.ite h (.dvsecRead h))
  · exact .next (.ioAccess (fun _ => .emit) h)
  · exact .next (.ioAccess (fun _ => .emit) h)
  · exact .next (.ioAccess (fun _ => .emit) h)
  · exact .next (.ioAccess (fun _ => .emit) h)
  · exact .next (.ioAccess (fun _ => .emit) h)
  · exact .next (.ite h (.emit h))
  · exact .next (.ite h (.mailboxStore (.wakeRaw h)))

theorem Kept.readReg {p} (h : Kept s t) : Kept s (Machine.readReg p t).2 :=
  .iteSnd h (.iteSnd (.refuseRange h) h)

theorem Answer.execReadReg {p} (h : Kept s t) : Answer s (Machine.execReadReg p t) :=
  .next (.runCmd (fun _ _ => .readReg) h)

theorem Kept.readLogbook {p} (h : Kept s t) : Kept s (Machine.readLogbook p t).2 :=
  .iteSnd (.refuseRange h) (.iteSnd (.refuseRange h) h)

theorem Answer.execReadLogbook {p} (h : Kept s t) : Answer s (Machine.execReadLogbook p t) :=
  .next (.runCmd (fun _ _ => .readLogbook) h)

theorem Kept.dbgWrite {p} (h : Kept s t) : Kept s (Machine.dbgWrite p t).2 :=
  .iteSnd h (.iteSnd (.refuseRange h) (.iteSnd (.refuseRange h) (.iteSnd (.ok h) (.ok (.writeWord h)))))

theorem Answer.execDbgWrite {p} (h : Kept s t) : Answer s (Machine.execDbgWrite p t) :=
  .next (.runCmd (fun _ _ => .dbgWrite) h)

/-! ### The functions of Machine/Boot.lean -/

theorem Kept.restoreMarks {c'} (h : Kept s t) : Kept s (Machine.restoreMarks c' t) := by
  unfold Machine.restoreMarks
  split
  · exact h
  · exact .ite h (.forAll (fun _ _ h' => .put (.put (.put (.put h')))) h)

theorem Kept.restoreRecord {r} (h : Kept s t) : Kept s (Machine.restoreRecord r t) :=
  .ite (.put (.forAll (fun _ _ => .put) h)) (.ite (.beside h) h)

theorem Kept.findLogEnd (h : Kept s t) : Kept s (Machine.findLogEnd t) := by
  unfold Machine.findLogEnd
  split
  · exact .put (.beside h)
  · exact .put (.beside h)

theorem Kept.recordTrip (h : Kept s t) : Kept s (Machine.recordTrip t) := .ite h (.logRecord h)

theorem Kept.configRecord {b} (h : Kept s t) : Kept s (Machine.configRecord b t) :=
  .ite (.log h) (.ite (.accessError h) (.ite (.accessError h) (.ite (.accessError h) (.writeWord h))))

theorem Kept.applyConfig {slot} (h : Kept s t) : Kept s (Machine.applyConfig slot t) :=
  .forAll (fun _ _ => .configRecord) h

theorem Kept.chooseSlot (h : Kept s t) : Kept s (Machine.chooseSlot t).2 :=
  .iteSnd h (.iteSnd h (.put (.put h)))

theorem Kept.startSlot {slot} (h : Kept s t) : Kept s (Machine.startSlot slot t) :=
  .update (.put (.put (.put h)))

theorem Kept.startFirmware {slot} (h : Kept s t) : Kept s (Machine.startFirmware slot t) := by
  unfold Machine.startFirmware
  extract_lets t1 t2 t3 t4 t5
  have h2 : Kept s t2 := .applyConfig (.findLogEnd (.forAll (fun _ _ => .restoreRecord) h))
  have h4 : Kept s t4 := .forAll (fun _ _ => .startTraining) (.forAll (fun _ _ => .restoreMarks) h2)
  clear_value t4
  exact .noticeAll (.recordTrip (.update h4))

theorem Kept.openIdentity (h : Kept s t) : Kept s (Machine.openIdentity t) := .put (.update (.beside h))

theorem Kept.bootRom (h : Kept s t) : Kept s (Machine.bootRom t) := by
  unfold Machine.bootRom
  extract_lets ctrl _ t1
  have h1 : Kept s t1 := .put (.update h)
  clear_value t1
  split
  next first t2 he =>
  have h2 : Kept s t2 := .of_eq he (.chooseSlot h1)
  extract_lets found
  clear_value found
  split
  · exact .put (.update h2)
  · extract_lets fallback t3 t4
    have h4 : Kept s t4 := .startFirmware (.startSlot (.put h2))
    exact .ite (.log h4) h4

theorem Answer.execBoot {identity} (h : Kept s t) : Answer s (Machine.execBoot identity t) :=
  .ite (.next h) (.next (.bootRom (.openIdentity (.update h (nor := fun c => wf_norLoad c.nor)))))

theorem Kept.fwPageDone {n} (h : Kept s t) : Kept s (Machine.fwPageDone n t) := by
  unfold Machine.fwPageDone
  split
  · exact h
  · exact .ite (.update h) (.answer (.update h))

theorem Kept.bootCtrlDone (h : Kept s t) : Kept s (Machine.bootCtrlDone t) := by
  unfold Machine.bootCtrlDone
  extract_lets _ _ t1
  have h1 : Kept s t1 := .put (.update h)
  exact .ite (.bootRom (.put (.update h1))) h1

theorem Answer.execNorWriteComplete (h : Kept s t) : Answer s (Machine.execNorWriteComplete t) := by
  unfold Machine.execNorWriteComplete
  split
  · exact .next h
  · refine .ite (.next h) ?_
    extract_lets _ t1 t2
    have h1 : Kept s t1 := .put (.update h (nor := fun c => wf_norApply c.nor))
    have h2 : Kept s t2 := .ite (.fwPageDone h1) h1
    exact .next (.issueNor (.ite (.bootCtrlDone h2) h2))

theorem Answer.execZeroInitComplete {chan} (h : Kept s t) : Answer s (Machine.execZeroInitComplete chan t) :=
  .ite (.next h) (.next (.put (.update (.restoreMarks h) (dram := fun c => Tab.wf_keep c.dram _)
    (chans := fun c => Tab.wf_upd c.chans _ _))))

/-! ### The functions of Machine/Executive.lean -/

theorem Kept.effectOf {op p} (h : Kept s t) : Kept s (Machine.effectOf op p t).2 := by
  unfold Machine.effectOf
  split
  · exact .identify h
  · exact .readReg h
  · exact .readLogbook h
  · exact .regionAlloc h
  · exact .regionFree h
  · exact .regionClass h
  · exact .extentSet h
  · exact .extentClear h
  · exact .regionRekey h
  · exact .tierPin h
  · exact .channelEvacuate h
  · exact .channelReturn h
  · exact .keyLoad h
  · exact .keyRetire h
  · exact .leaseAnswer h
  · exact .leaseClearOrphan h
  · exact .qosConfig h
  · exact .engineSet h
  · exact .setPl h
  · exact .sleepCmd h
  · exact .slotPower h
  · exact .memberJoin h
  · exact .memberRemove h
  · exact .pmuConfig h
  · exact .pmuPlate h
  · exact .pmuUserPage h
  · exact .errRead h
  · exact .errClear h
  · exact .fwWrite h
  · exact .fwActivate h
  · exact .fuseProgram h
  · exact .debugUnlock h
  · exact .dbgWrite h
  · exact h

theorem Kept.decidePacket {p} (h : Kept s t) : Kept s (Machine.decidePacket p t) := .decideWith
  (fun _ _ => .effectOf) h

theorem Answer.execUnsupportedCommand {p} (h : Kept s t) : Answer s (Machine.execUnsupportedCommand p t) :=
  .ite (.next h) (.next (.runCmd (fun _ _ => .effectOf) h))

theorem Answer.execAqCommandTunnel {slot bytes} (h : Kept s t) : Answer s (Machine.execAqCommandTunnel slot
  bytes t) :=
  .ite (.next h) (.ite (.next (.emit h)) (.next (.runCmd (fun _ _ => .effectOf) h)))

theorem Kept.grantLease {region} (h : Kept s t) : Kept s (Machine.grantLease region t) := by
  unfold Machine.grantLease
  split
  · exact h
  · exact .settle (.resumeLease (.writeRegion h))

theorem Kept.fatalTask (h : Kept s t) : Kept s (Machine.fatalTask t) := .noticeAll (.beside h)

theorem Kept.dramNotice {r} (h : Kept s t) : Kept s (Machine.dramNotice r t) := by
  unfold Machine.dramNotice
  split
  · exact .eventLine h
  · exact .forAll (fun _ _ => .eventTo) h

theorem Kept.saveMarks {c'} (h : Kept s t) : Kept s (Machine.saveMarks c' t) :=
  .logRecord (.update h (chans := fun c => Tab.wf_upd c.chans _ _))

theorem Kept.recordTask {r} (h : Kept s t) : Kept s (Machine.recordTask r t) := by
  unfold Machine.recordTask
  extract_lets _ t1
  have h1 : Kept s t1 := .beside h
  exact .ite (.eventAll h1) (.ite (.ite (.dramNotice h1) (.eventLine h1)) h1)

theorem Kept.walkTask (h : Kept s t) : Kept s (Machine.walkTask t) := by
  refine .ite h ?_
  split
  · exact .startWalk h
  · exact h

theorem Kept.runTask {t'} (h : Kept s t) : Kept s (Machine.runTask t' t) := by
  unfold Machine.runTask
  split
  · exact .fatalTask h
  · exact .grantLease h
  · exact .ite (.settle (.keepLease h)) h
  · exact .walkTask h
  · exact .endWalks h
  · exact .decidePacket (.beside h)
  · split
    · exact .completeLong h
    · exact h
  · exact .sidebandUnit h
  · exact .trainUnit h
  · exact .saveMarks h
  · exact .recordTask h

theorem Kept.takeChannel {c'} (h : Kept s t) : Kept s (Machine.takeChannel c' t) :=
  .ite h (.ite (.takeArrival h) (.takeIn h))

theorem Kept.acceptScan (h : Kept s t) : Kept s (Machine.acceptScan t) :=
  .forAll (fun _ _ => .takeArrival) (.forAll (fun _ _ h' => .ite (.takeChannel h') (.takeSideband h')) h)

theorem Kept.runTasks {waits n used took} (h : Kept s t) : Kept s (Machine.runTasks waits n used took t).2 := by
  induction n generalizing used took t with
  | zero => exact h
  | succ n ih =>
    unfold Machine.runTasks
    split
    · exact .iteSnd (ih (.bump (.runTask h))) h
    · exact h

theorem Kept.endSlot {waits cycles} (h : Kept s t) : Kept s (Machine.endSlot waits cycles t) :=
  .count (.ite (.update (.put (.put (.beside h)))) (.put (.put (.beside h))))

theorem Answer.execFrameExecutiveSlot {units cycles} (h : Kept s t) :
    Answer s (Machine.execFrameExecutiveSlot units cycles t) := by
  refine .ite (.next h) ?_
  extract_lets
  split
  rename_i he
  exact .next (.endSlot (.of_eq he (.runTasks (.acceptScan (.jobDone h)))))

/-! ### The functions of Machine/Standard.lean -/

theorem Kept.stdServe {m sideband cls eff} (hf : ∀ u, Kept s u → Kept s (eff u).2) (h : Kept s t) :
    Kept s (Machine.stdServe m sideband cls eff t) :=
  .ite h (.ite (.emit h) (.ite (.emit h) (.ite (.emit h) (.emit (hf _ h)))))

theorem Kept.stdCommand {m cls eff} (hf : ∀ u, Kept s u → Kept s (eff u).2) (h : Kept s t) :
    Kept s (Machine.stdCommand m cls eff t) := .ioAccess (fun _ => .stdServe hf) h

theorem Kept.fmCommand {row m sideband cls eff} (hf : ∀ u, Kept s u → Kept s (eff u).2) (h : Kept s t) :
    Kept s (Machine.fmCommand row m sideband cls eff t) :=
  .ite (.sidebandAccess (fun _ => .stdServe hf) h) (.stdCommand hf h)

theorem Kept.stdInfo {m f} (h : Kept s t) : Kept s (Machine.stdInfo m f t) := .stdCommand (fun _ h' => h') h

theorem Kept.stdFail {c'} (h : Kept s t) : Kept s (Machine.stdFail c' t).2 := h

theorem Answer.execIdentifyMemoryDevice {slot} (h : Kept s t) :
    Answer s (Machine.execIdentifyMemoryDevice slot t) :=
  .next (.stdInfo h)

theorem Answer.execGetPartitionInfo {slot} (h : Kept s t) : Answer s (Machine.execGetPartitionInfo slot t) :=
  .next (.stdInfo h)

theorem Answer.execGetSupportedLogs {slot} (h : Kept s t) : Answer s (Machine.execGetSupportedLogs slot t) :=
  .next (.stdInfo h)

theorem Answer.execGetLog {slot} (h : Kept s t) : Answer s (Machine.execGetLog slot t) := .next (.stdInfo h)

theorem Answer.execGetEventRecords {slot} (h : Kept s t) : Answer s (Machine.execGetEventRecords slot t) :=
  .next (.stdCommand (fun _ => .emit) h)

theorem Answer.execClearEventRecords {slot n} (h : Kept s t) :
    Answer s (Machine.execClearEventRecords slot n t) :=
  .next (.stdCommand (fun _ h' => .update h' (lds := fun c => Tab.wf_upd c.lds _ _)) h)

theorem Answer.execGetEventInterruptPolicy {slot} (h : Kept s t) :
    Answer s (Machine.execGetEventInterruptPolicy slot t) :=
  .next (.stdInfo h)

theorem Answer.execSetEventInterruptPolicy {slot vector} (h : Kept s t) :
    Answer s (Machine.execSetEventInterruptPolicy slot vector t) :=
  .next (.stdCommand (fun _ h' => .update h' (lds := fun c => Tab.wf_upd c.lds _ _)) h)

theorem Answer.execSetTimestamp {slot ns} (h : Kept s t) : Answer s (Machine.execSetTimestamp slot ns t) :=
  .next (.stdCommand (fun _ h' => .update h' (lds := fun c => Tab.wf_upd c.lds _ _)) h)

theorem Answer.execGetHealthInfo {slot} (h : Kept s t) : Answer s (Machine.execGetHealthInfo slot t) :=
  .next (.stdInfo h)

theorem Answer.execGetPoisonList {slot dpa len} (h : Kept s t) :
    Answer s (Machine.execGetPoisonList slot dpa len t) :=
  .next (.stdCommand (fun _ => .beside) h)

theorem Kept.writeDpa {m dpa d poison} (h : Kept s t) : Kept s (Machine.writeDpa m dpa d poison t).2 := by
  unfold Machine.writeDpa
  split
  · exact .stdFail h
  · refine .iteSnd (.stdFail h) (.iteSnd (.addReq h) ?_)
    extract_lets
    split
    · rename_i he
      exact .of_eq he (.originate (.addReq h))
    · exact .stdFail h

theorem Answer.execInjectPoison {slot dpa} (h : Kept s t) : Answer s (Machine.execInjectPoison slot dpa t) :=
  .next (.stdCommand (fun _ => .writeDpa) h)

theorem Answer.execClearPoison {slot dpa line} (h : Kept s t) :
    Answer s (Machine.execClearPoison slot dpa line t) :=
  .next (.stdCommand (fun _ => .writeDpa) h)

theorem Kept.sanitizeLd {m} (h : Kept s t) : Kept s (Machine.sanitizeLd m t).2 :=
  .forAll (fun _ _ h' => .ite (.retireKey h') h') (.forAll (fun _ _ => .startFreeing) (.farDrawn h))

theorem Answer.execSanitize {slot} (h : Kept s t) : Answer s (Machine.execSanitize slot t) :=
  .next (.stdCommand (fun _ => .sanitizeLd) h)

theorem Answer.execSecureErase {slot} (h : Kept s t) : Answer s (Machine.execSecureErase slot t) :=
  .next (.stdCommand (fun _ => .sanitizeLd) h)

theorem Answer.execGetDcConfiguration {slot} (h : Kept s t) :
    Answer s (Machine.execGetDcConfiguration slot t) :=
  .next (.stdInfo h)

theorem Answer.execGetDcExtentList {slot} (h : Kept s t) : Answer s (Machine.execGetDcExtentList slot t) :=
  .next (.stdInfo h)

theorem Maybe.addDc {m l} (h : Kept s t) : Maybe s (Machine.addDc m l t) := by
  induction l generalizing t with
  | nil => exact .some h
  | cons e l ih => exact .ite (ih (.update h (lds := fun c => Tab.wf_upd c.lds _ _))) .none

theorem Kept.offerDc {m extents} (h : Kept s t) : Kept s (Machine.offerDc m extents t) :=
  .ite (.emit h) (.ite (.emit (.farDrawn h)) (.forAll (fun _ _ => .eventTo)
    (.update (.farDrawn h) (lds := fun c => Tab.wf_upd (State.farDrawn_lds t ▸ c.lds) _ _))))

theorem Kept.acceptDc {m extents} (h : Kept s t) : Kept s (Machine.acceptDc m extents t).2 := by
  refine .iteSnd (.stdFail h) (.iteSnd (.stdFail h) ?_)
  split
  · rename_i t1 he
    exact .update (.farDrawn (Maybe.addDc h _ he))
      (lds := fun c => Tab.wf_upd (State.farDrawn_lds t1 ▸ c.lds) _ _)
  · exact .stdFail (.farDrawn h)

theorem Answer.execAddDcResponse {slot dc} (h : Kept s t) : Answer s (Machine.execAddDcResponse slot dc t) := by
  unfold Machine.execAddDcResponse
  split
  · exact .next (.ite (.offerDc h) h)
  · exact .next (.stdCommand (fun _ => .acceptDc) h)

theorem Kept.releaseExtent {m x} (h : Kept s t) : Kept s (Machine.releaseExtent m x t) := by
  unfold Machine.releaseExtent
  split
  · exact h
  · exact .forAll (fun _ _ h' => .ite (.startFreeing h') h') (.farDrawn (.dropExtent h))

theorem Answer.execReleaseDc {slot extents} (h : Kept s t) : Answer s (Machine.execReleaseDc slot extents t) :=
  .next (.stdCommand (fun _ h' => .iteSnd (.forAll (fun _ _ => .releaseExtent) h') (.stdFail h')) h)

theorem Answer.execGetLdInfo {slot sideband} (h : Kept s t) :
    Answer s (Machine.execGetLdInfo slot sideband t) :=
  .next (.fmCommand (fun _ h' => h') h)

theorem Answer.execGetLdAllocations {slot sideband} (h : Kept s t) :
    Answer s (Machine.execGetLdAllocations slot sideband t) :=
  .next (.fmCommand (fun _ h' => h') h)

theorem Maybe.growLd {m n} (h : Kept s t) : Maybe s (Machine.growLd m n t) := by
  unfold Machine.growLd
  extract_lets
  split
  · exact .none
  · refine .ite .none ?_
    extract_lets
    split
    exact .ite .none (.some (.recountKeys (.update (.forAll (fun _ _ h' => .setClass (.writeRegion h')) h)
      (lds := fun c => Tab.wf_upd c.lds _ _))))

theorem Maybe.shrinkLd {m fuel n} (h : Kept s t) : Maybe s (Machine.shrinkLd m fuel n t) := by
  induction fuel generalizing n t with
  | zero => exact .some h
  | succ fuel ih =>
    unfold Machine.shrinkLd
    extract_lets
    refine .ite (.some h) ?_
    split
    · exact .some h
    · exact .ite .none (ih (.forAll (fun _ _ h' => .ite (.startFreeing h') h')
        (.farDrawn (.update (.dropExtent h) (lds := fun c => Tab.wf_upd c.lds _ _)))))

theorem Kept.allocLds {l} (h : Kept s t) : Kept s (Machine.allocLds l t).2 := by
  induction l generalizing t with
  | nil => exact h
  | cons e l ih =>
    obtain ⟨m, want⟩ := e
    unfold Machine.allocLds
    extract_lets
    split
    · exact .stdFail h
    · rename_i he
      exact ih (Maybe.ite (.growLd h) (.shrinkLd h) _ he)

theorem Answer.execSetLdAllocations {slot sideband gib} (h : Kept s t) :
    Answer s (Machine.execSetLdAllocations slot sideband gib t) := by
  refine .next (.fmCommand (fun _ h' => (.iteSnd (.stdFail h') ?_)) h)
  split
  rename_i he
  exact .ite (.of_eq he (.allocLds h')) h'

theorem Answer.execUnsupportedMailboxOpcode {slot opcode} (h : Kept s t) :
    Answer s (Machine.execUnsupportedMailboxOpcode slot opcode t) :=
  .ite (.next h) (.next (.stdCommand (fun _ => .stdFail) h))

/-! ### The functions of Machine/Resets.lean -/

theorem Kept.dropSequence (h : Kept s t) : Kept s (Machine.dropSequence t) := by
  unfold Machine.dropSequence
  split
  · exact h
  · exact .settle (.releaseIngress (.put (.ite (.forAll (fun _ _ => .leaveSelfRefresh) (.update h
      (retained := fun _ => rfl))) (.update h (retained := fun _ => rfl)))))

theorem Kept.clearMgmt (h : Kept s t) : Kept s (Machine.clearMgmt t) := by
  unfold Machine.clearMgmt
  extract_lets t1 _ _ _ _ t2 t3
  have h1 : Kept s t1 := .mailboxMgtReset h
  clear_value t1
  have h2 : Kept s t2 := .update h1 (regs := fun c => cellsRising_filter _ c.regs)
    (mbx := fun _ => Tab.wf_empty)
    (sbRing := fun _ => Tab.wf_empty) (nor := fun c => wf_secAfterReset c.nor)
      (sessions := fun _ => Tab.wf_empty)
  clear_value t2
  exact .showLog (.forAll (fun _ _ => .put) (.put h2))

theorem Kept.managementReset {why} (h : Kept s t) : Kept s (Machine.managementReset why t) :=
  .put (.put (.put (.clearMgmt (.dropSequence h))))

/-- The core reset keeps DRAM, the NOR array and the tables of the domains above core, and empties the other
  tables. -/
theorem Kept.coreBlank (h : Kept s t) : Kept s (Machine.coreBlank t) :=
  ⟨fun c => by
    have c := h.canon c
    constructor
    case regs => exact cellsRising_filter _ c.regs
    case ports => exact wf_portsAfterCore t
    case dram => exact c.dram
    case chans => exact Tab.wf_foldl (fun _ _ h => Tab.wf_set h _ _) Tab.wf_empty
    case spw => exact Tab.wf_mapCells c.spw _
    case spd => exact c.spd
    case nor => exact wf_secAfterReset c.nor
    all_goals rfl, h.pending, h.fuses⟩

theorem Kept.coreReset {why} (h : Kept s t) : Kept s (Machine.coreReset why t) := by
  unfold Machine.coreReset
  extract_lets _ _ _ _ _ _ _ t1
  have h1 : Kept s t1 := .emit (.showLog (.put (.put (.put (.put (.put (.put (.put (.put (.put (.cryptoReset
    (.coreBlank (.ite (.count h) h)))))))))))))
  exact .ite (.emit h1) h1

theorem Kept.holdCore (h : Kept s t) : Kept s (Machine.holdCore t) := .ite h (.beside (.coreReset h))

theorem Kept.letCore (h : Kept s t) : Kept s (Machine.letCore t) := .ite h (.beside h)

theorem Answer.execCoreRst {asserted} (h : Kept s t) : Answer s (Machine.execCoreRst asserted t) :=
  .ite (.next h) (.next (.ite (.holdCore (.beside h)) (.letCore (.beside h))))

theorem Answer.execPwrOkLow {low} (h : Kept s t) : Answer s (Machine.execPwrOkLow low t) :=
  .ite (.next h) (.next (.ite (.forAll (fun _ _ => .forceOff) (.holdCore (.beside h))) (.letCore (.beside h))))

theorem Answer.execMgtRst {asserted} (h : Kept s t) : Answer s (Machine.execMgtRst asserted t) := by
  refine .ite (.next h) ?_
  extract_lets _ t1
  have h1 : Kept s t1 := .beside h
  exact .ite (.next (.beside h1)) (.ite (.next h1) (.next (.beside (.managementReset h1))))

theorem Answer.execMgtLockstep (h : Kept s t) : Answer s (Machine.execMgtLockstep t) :=
  .ite (.next h) (.next (.beside (.managementReset (.log h))))

theorem Answer.execResetRelease (h : Kept s t) : Answer s (Machine.execResetRelease t) :=
  .ite (.ite (.next h) (.next (.ite (.put (.beside h)) (.beside h)))) (.ite (.next (.beside h)) (.next h))

theorem Answer.execThermalRestart (h : Kept s t) : Answer s (Machine.execThermalRestart t) :=
  .ite (.next h) (.next (.letCore (.beside (.put (.put (.coreReset (.beside h)))))))

/-- A blank device keeps DRAM and the NOR array and empties the other tables. -/
theorem Kept.blank (h : Kept s t) : Kept s (Machine.blank t) := by
  unfold Machine.blank
  extract_lets t1
  have h1 : Kept s t1 := .forAll (fun _ _ => .loseContents) h
  clear_value t1
  refine ⟨fun c => ?_, h1.pending, h1.fuses⟩
  constructor
  case dram => exact (h1.canon c).dram
  case nor => exact (h1.canon c).nor
  all_goals rfl

theorem Kept.blankDrawn (h : Kept s t) : Kept s (Machine.drawn t) := .beside (.trng (.trng h))

theorem Answer.execPowerOn (h : Kept s t) : Answer s (Machine.execPowerOn t) :=
  .next (.beside (.blankDrawn (.blank h)))

theorem Answer.execBrownOut (h : Kept s t) : Answer s (Machine.execBrownOut t) :=
  .next (.put (.put (.put (.beside (.blankDrawn (.blank h))))))

theorem Answer.execVaux1v8Loss (h : Kept s t) : Answer s (Machine.execVaux1v8Loss t) :=
  .next (.beside (.blank h))

/-! ### The functions of Machine/Jobs.lean -/

theorem Kept.missSurvey {t'} (h : Kept s t) : Kept s (Machine.missSurvey t' t) := .ite (.put h) h

theorem Kept.releaseUnit {t' u'} (h : Kept s t) : Kept s (Machine.releaseUnit t' u' t) :=
  .update h (jobs := fun c => Tab.wf_upd c.jobs _ _)

theorem Kept.reserveClocks (h : Kept s t) : Kept s (Machine.reserveClocks t) := .ite (.beside h) (.beside h)

theorem Kept.releaseJobs (h : Kept s t) : Kept s (Machine.releaseJobs t) :=
  .ite (.update h (jobs := fun c => Tab.wf_mapCells c.jobs _)) (.forAll (fun _ _ => .releaseUnit) (.beside h))

theorem Kept.agentChecks (h : Kept s t) : Kept s (Machine.agentChecks t) :=
  .forAll (fun _ _ h' => .ite (.ldDead h') (.deadCheck h')) h

theorem Kept.transitActions {ended} (h : Kept s t) : Kept s (Machine.transitActions ended t) :=
  .beginPasses (.agentChecks (.forAll (fun _ _ h' => .update h' (chans := fun c => Tab.wf_upd c.chans _ _))
    (.refill (.reserveClocks (.snapshotAll h)))))

theorem Kept.toBoundary (h : Kept s t) : Kept s (Machine.toBoundary t) :=
  .ite (.ite (.elapse h) (.forAll (fun _ _ => .fillSlots) (.elapse h))) h

theorem Answer.execTransitStart (h : Kept s t) : Answer s (Machine.execTransitStart t) := by
  refine .ite (.next h) ?_
  extract_lets _ _ t1 _ t2
  have h1 : Kept s t1 := .count (.beside (.stepTb (.toBoundary h)))
  have h2 : Kept s t2 := .releaseJobs (.missSurvey (.forAll (fun _ _ => .tryStart) (.ite (.publishMstat h1)
    (.transitActions h1))))
  exact .next (.ite h2 (.pump (.sendLevel (.tryHeld (.settle h2)))))

theorem Kept.jobEffect {job inst} (h : Kept s t) : Kept s (Machine.jobEffect job inst t) := by
  unfold Machine.jobEffect
  split
  · exact .runTo (.execRefreshPlanning h) h
  · exact .runTo (.execPatrolScrubQuantum h) h
  · exact .runTo (.execDirectoryScrubQuantum h) h
  · exact .runTo (.execAlmanacEccScrubQuantum h) h
  · exact .runTo (.execDemotionSweepQuantum h) h
  · exact .runTo (.execHeatEpochAdvance h) h
  · exact .runTo (.execFrameExecutiveSlot h) h
  · exact .runTo (.execThermalModelUpdate h) h
  · exact .runTo (.execRegulatorShortfallCheck h) h
  · exact .runTo (.execReclamationQuantum h) h
  · exact h

theorem Answer.execPeriodicUnitComplete {job inst} (h : Kept s t) :
    Answer s (Machine.execPeriodicUnitComplete job inst t) :=
  .ite (.next (.jobEffect h)) (.next h)

theorem Kept.countOverrun (h : Kept s t) : Kept s (Machine.countOverrun t) := .ite (.put h) (.bump h)

theorem Kept.recordOverrun {job inst consec transit} (h : Kept s t) :
    Kept s (Machine.recordOverrun job inst consec transit t) :=
  .put (.put (.put (.put (.put h))))

theorem Kept.overrun {job inst shown u' rest} (h : Kept s t) :
    Kept s (Machine.overrun job inst shown u' rest t) := by
  unfold Machine.overrun
  extract_lets _ _ t1 _ t2
  have h1 : Kept s t1 := .recordOverrun (.countOverrun (.update h (jobs := fun c => Tab.wf_set c.jobs _ _)))
  have h2 : Kept s t2 := .log (.count (.ite (.put h1) h1))
  exact .ite (.log h2) h2

theorem Answer.execTransitOverrun {job inst} (h : Kept s t) :
    Answer s (Machine.execTransitOverrun job inst t) := by
  refine .ite (.next h) ?_
  split
  · exact .next h
  · exact .ite (.next h) (.next (.overrun (.ite (.sbUndo h) h)))

theorem Kept.setHop {h' f} (h : Kept s t) : Kept s (Machine.setHop h' f t) :=
  .update h (spine := fun c => Tab.wf_upd c.spine _ _)

theorem Kept.failWord {hop n earlier later} (h : Kept s t) : Kept s (Machine.failWord hop n earlier later t) :=
  .ite (.log (.log (.setHop h))) (.log (.setHop h))

theorem Answer.execSpineParityError {at_ seq earlier later word} (h : Kept s t) :
    Answer s (Machine.execSpineParityError at_ seq earlier later word t) := by
  unfold Machine.execSpineParityError
  split
  · exact .next h
  · exact .ite (.next h) (.next (.failWord h))

theorem Answer.execSpineReplayRequest {hop parityOk} (h : Kept s t) :
    Answer s (Machine.execSpineReplayRequest hop parityOk t) := by
  unfold Machine.execSpineReplayRequest
  extract_lets
  split
  · exact .next h
  · exact .next (.emit (.setHop h))

theorem Answer.execSpineReplayRelease {hop} (h : Kept s t) :
    Answer s (Machine.execSpineReplayRelease hop t) := by
  unfold Machine.execSpineReplayRelease
  extract_lets
  split
  · exact .next h
  · exact .ite (.next h) (.next (.setHop h))

/-! ### The functions of Machine/Dispatch.lean -/

theorem Answer.exec {i} (h : Kept s t) : Answer s (Machine.exec i t) := by
  unfold Machine.exec
  split
  · exact .execTransitStart h
  · exact .execPeriodicPlate h
  · exact .execPeriodicUnitComplete h
  · exact .execTransitOverrun h
  · exact .execSpineParityError h
  · exact .execSpineReplayRequest h
  · exact .execSpineReplayRelease h
  · exact .execRefreshPlanning h
  · exact .execPatrolScrubQuantum h
  · exact .execDirectoryScrubQuantum h
  · exact .execAlmanacEccScrubQuantum h
  · exact .execDemotionSweepQuantum h
  · exact .execHeatEpochAdvance h
  · exact .execFrameExecutiveSlot h
  · exact .execSurveySubround h
  · exact .execThermalModelUpdate h
  · exact .execRegulatorShortfallCheck h
  · exact .execDimmTemperatureRead h
  · exact .execReclamationQuantum h
  · exact .execRemarginingQuantum h
  · exact .execRemarginPassStart h
  · exact .execMemRd h
  · exact .execMemWr h
  · exact .execMemWrPtl h
  · exact .execMemInv h
  · exact .execMemClnEvct h
  · exact .execMemSpecRd h
  · exact .execMemFwd h
  · exact .execUnknownMemOpcode h
  · exact .execArbiterAccept h
  · exact .execPinWaitGrant h
  · exact .execAdmission h
  · exact .execCapacityStallRepeat h
  · exact .execStorageWaitResume h
  · exact .execBackingFetchComplete h
  · exact .execMetadataFetchComplete h
  · exact .execMetadataEvictUpdate h
  · exact .execNodeRekeyComplete h
  · exact .execKeystreamReady h
  · exact .execDramCommandIssue h
  · exact .execRowCloseTimeout h
  · exact .execPowerDownEntry h
  · exact .execRefabIssue h
  · exact .execDramReadComplete h
  · exact .execMarkWindowEnd h
  · exact .execCryptoReadUnit h
  · exact .execCryFault h
  · exact .execMergeReadComplete h
  · exact .execWriteBufferDrain h
  · exact .execMoveCommit h
  · exact .execBandCopyComplete h
  · exact .execEncoderDispatch h
  · exact .execEncodeComplete h
  · exact .execDecoderDispatch h
  · exact .execDecodeComplete h
  · exact .execDecoderParityError h
  · exact .execRecompressorDequeue h
  · exact .execRecompressionTimeout h
  · exact .execEngineDrained h
  · exact .execCmpSelftestComplete h
  · exact .execCrySelftestComplete h
  · exact .execCmpEngOfflineWrite h
  · exact .execCmpEngSelftestWrite h
  · exact .execTierDisableWrite h
  · exact .execCryEngOfflineWrite h
  · exact .execCryEngSelftestWrite h
  · exact .execCryCtrlWrite h
  · exact .execKeyFlush h
  · exact .execWalkStart h
  · exact .execMetadataInit h
  · exact .execHostPortCtrlWrite h
  · exact .execPortResetRelease h
  · exact .execHostPortCfgWrite h
  · exact .execLinkResetWrite h
  · exact .execLinkDisableWrite h
  · exact .execHanMapWrite h
  · exact .execLinkUp h
  · exact .execMemorySpaceEnable h
  · exact .execLinkDrop h
  · exact .execDlUp h
  · exact .execHotReset h
  · exact .execPerst h
  · exact .execHostDeadTimeout h
  · exact .execL0pChange h
  · exact .execBiCreditReturn h
  · exact .execBirsp h
  · exact .execBiconflict h
  · exact .execIdeKm h
  · exact .execIdeIntegrityFailure h
  · exact .execGlobalPersistentFlush h
  · exact .execHdmDecoderCommit h
  · exact .execStreamCtrlWrite h
  · exact .execTbLoRead h
  · exact .execIdentifyMemoryDevice h
  · exact .execGetPartitionInfo h
  · exact .execGetSupportedLogs h
  · exact .execGetLog h
  · exact .execGetEventRecords h
  · exact .execClearEventRecords h
  · exact .execGetEventInterruptPolicy h
  · exact .execSetEventInterruptPolicy h
  · exact .execSetTimestamp h
  · exact .execGetHealthInfo h
  · exact .execGetPoisonList h
  · exact .execInjectPoison h
  · exact .execClearPoison h
  · exact .execSanitize h
  · exact .execSecureErase h
  · exact .execGetDcConfiguration h
  · exact .execGetDcExtentList h
  · exact .execAddDcResponse h
  · exact .execReleaseDc h
  · exact .execGetLdInfo h
  · exact .execGetLdAllocations h
  · exact .execSetLdAllocations h
  · exact .execAqCommandTunnel h
  · exact .execUnsupportedMailboxOpcode h
  · exact .execIdentify h
  · exact .execReadReg h
  · exact .execReadLogbook h
  · exact .execRegionAlloc h
  · exact .execRegionFree h
  · exact .execRegionClass h
  · exact .execExtentSet h
  · exact .execExtentClear h
  · exact .execRegionRekey h
  · exact .execTierPin h
  · exact .execTierUnpin h
  · exact .execChannelEvacuate h
  · exact .execChannelReturn h
  · exact .execKeyLoadGenerate h
  · exact .execKeyLoadImport h
  · exact .execKeyRetire h
  · exact .execLeaseRelease h
  · exact .execLeaseKeep h
  · exact .execLeaseTimeout h
  · exact .execLeaseClearOrphan h
  · exact .execQosConfig h
  · exact .execEngineSetOnline h
  · exact .execEngineSetOffline h
  · exact .execEngineSetSelftest h
  · exact .execSetPl h
  · exact .execSleep h
  · exact .execSlotPowerOn h
  · exact .execSlotPowerOff h
  · exact .execMemberJoin h
  · exact .execMemberRemove h
  · exact .execPmuConfig h
  · exact .execPmuPlate h
  · exact .execPmuUserPageOpen h
  · exact .execPmuUserPageClose h
  · exact .execErrRead h
  · exact .execErrClear h
  · exact .execFwWrite h
  · exact .execFwActivate h
  · exact .execFuseProgram h
  · exact .execDebugUnlockChallenge h
  · exact .execDebugUnlockAnswer h
  · exact .execDbgWrite h
  · exact .execUnsupportedCommand h
  · exact .execInPost h
  · exact .execInTaken h
  · exact .execOutPost h
  · exact .execOutTaken h
  · exact .execCh15Claim h
  · exact .execCh15ClaimRevoke h
  · exact .execMbxBindWrite h
  · exact .execFarEndReset h
  · exact .execSbItemStart h
  · exact .execSbByte h
  · exact .execSbItemEnd h
  · exact .execSbBusFault h
  · exact .execSbDataRead h
  · exact .execSbMark h
  · exact .execSbRewind h
  · exact .execSbFlush h
  · exact .execUartFrame h
  · exact .execFuseBitProgram h
  · exact .execNorWriteComplete h
  · exact .execBoot h
  · exact .execTrialConfirm h
  · exact .execSpdmGetCertificate h
  · exact .execSpdmChallenge h
  · exact .execSpdmGetMeasurements h
  · exact .execSpdmKeyExchange h
  · exact .execSpdmKeyUpdate h
  · exact .execSpdmHeartbeat h
  · exact .execPlVoltageSettled h
  · exact .execPlClockSwitch h
  · exact .execBlockStopComplete h
  · exact .execWakePin h
  · exact .execWakeTimer h
  · exact .execWakeMaskClear h
  · exact .execPllLock h
  · exact .execSlExitComplete h
  · exact .execBrownOut h
  · exact .execPtmExchange h
  · exact .execXtalTrimUpdate h
  · exact .execRefComparatorTrip h
  · exact .execThermalRestart h
  · exact .execRoDay h
  · exact .execLogbookWrite h
  · exact .execPresenceChange h
  · exact .execVinWindowChange h
  · exact .execInsertionDelayExpiry h
  · exact .execSlotFullyOn h
  · exact .execRampTimeout h
  · exact .execPgDelayExpiry h
  · exact .execCurrentLimitOnset h
  · exact .execCurrentLimitRelease h
  · exact .execFaultTimerExpiry h
  · exact .execSlotDownEnd h
  · exact .execMeterUpdate h
  · exact .execSpdReadStart h
  · exact .execSpdReadComplete h
  · exact .execDcCfgWrite h
  · exact .execDcMarkWrite h
  · exact .execZeroInitComplete h
  · exact .execTrainingGo h
  · exact .execTrainingStepComplete h
  · exact .execQosCtrlWrite h
  · exact .execDmrCtrlWrite h
  · exact .execDmrDoorbell h
  · exact .execDescriptorFetch h
  · exact .execDmCopy h
  · exact .execDmFill h
  · exact .execDmZero h
  · exact .execDmCompress h
  · exact .execDmDecompress h
  · exact .execDmFence h
  · exact .execDmNop h
  · exact .execDmReservedOpcode h
  · exact .execDmOperationComplete h
  · exact .execStRetrainWrite h
  · exact .execStPortResetWrite h
  · exact .execStDisableWrite h
  · exact .execTrainingAttemptTimeout h
  · exact .execTrainingBlockReceived h
  · exact .execSyncSend h
  · exact .execLinkActive h
  · exact .execFlitReceived h
  · exact .execCtrlFlitReceived h
  · exact .execAckTimer h
  · exact .execNakResendTimer h
  · exact .execReplayTimer h
  · exact .execStitchDown h
  · exact .execSpareWindowEnd h
  · exact .execLaneLockLoss h
  · exact .execSpareReq h
  · exact .execSpareAck h
  · exact .execSpareReqRepeat h
  · exact .execStRd h
  · exact .execStWr h
  · exact .execStWrPtl h
  · exact .execSpillPut h
  · exact .execSpillGet h
  · exact .execSpillFree h
  · exact .execStCmd h
  · exact .execStCmp h
  · exact .execSnpRsp h
  · exact .execCmdRsp h
  · exact .execSnpInv h
  · exact .execSnpData h
  · exact .execStUndefinedOpcode h
  · exact .execHello h
  · exact .execHelloTimer h
  · exact .execRoster h
  · exact .execRosterHeartbeat h
  · exact .execRouteSet h
  · exact .execHold h
  · exact .execHeld h
  · exact .execResume h
  · exact .execLinkDown h
  · exact .execClaim h
  · exact .execLevel h
  · exact .execRecallLeases h
  · exact .execLeave h
  · exact .execHeadElection h
  · exact .execFormationDeadline h
  · exact .execHeartbeatLoss h
  · exact .execClaimSettle h
  · exact .execFailureDecision h
  · exact .execErrorRecord h
  · exact .execMgtLockstep h
  · exact .execSramUe h
  · exact .execSramScrubStep h
  · exact .execPmuValueWrite h
  · exact .execPmuPlateWrite h
  · exact .execCounterWrap h
  · exact .execPmuUe h
  · exact .execPowerOn h
  · exact .execCoreRst h
  · exact .execMgtRst h
  · exact .execPwrOkLow h
  · exact .execResetRelease h
  · exact .execRegisterWrite h
  · exact .execStopBudgetExpiry h
  · exact .execDeferredClaimTimeout h
  · exact .execVaux1v8Loss h
  · exact .execSpdmSessionEnd h

/-! ### The functions of Machine/Idle.lean -/

theorem Answer.idle (h : Kept s t) : Answer s (Machine.idle t) := by
  unfold Machine.idle
  split
  · refine .ite (.next (.tick h)) ?_
    split
    next t1 he => exact .next (.beside (Answer.exec (.beside h) _ he))
    next hne => exact fun u hu => absurd hu (hne u)
  · exact .next (.tick h)

/-! ### The functions of Machine/Step.lean -/

/-- The front command's removal from the queue leaves the tables as they are. -/
theorem State.Canon.withPending (c : s.Canon) (rest : List Instr) : State.Canon { s with pending := rest } := by
  cases c
  constructor <;> assumption

/-- A step out of a canonical state answers a canonical state. -/
theorem State.Canon.step (c : s.Canon) (hs : Machine.step s = .next t) : t.Canon := by
  cases hp : s.pending with
  | nil =>
    rw [step_nil s hp] at hs
    exact (Answer.idle (.refl s) t hs).canon c
  | cons i rest =>
    rw [step_cons s i rest hp] at hs
    exact (Answer.exec (.refl _) t hs).canon (c.withPending rest)

end

end Sys2Proof.Machine

open Sys2Proof.Machine in
/-- Settles O58: at reset every table is empty. -/
theorem canonAtReset : Obligations.CanonAtReset :=
  ⟨State.canon_reset, rfl, rfl, rfl, rfl, rfl⟩

open Sys2Proof.Machine in
/-- Settles O59: every function that a step can call keeps the canonical form (`Kept`), so the whole step does. -/
theorem stepKeepsCanon : Obligations.StepKeepsCanon := fun _ _ => State.Canon.step
end

section
/-!
Host requests (R22, R26, R28, R47, R192). What a port notes of a request before it is routed, the count of the event and the latch of
the wake source, changes registers of the PMU and PWR blocks and what stands behind them (`Noted`); nothing that the way of a request
to its home reads. A served request is therefore queued as it would be in the state before it.
-/

namespace Sys2Proof.Machine

section
variable {s t u : State}

/-! ### Counting an event -/

/-- R443, R447, R450: the register fields that an event's count may change: a counter's VALUE and OVF, and PLATE_NO. -/
def CounterFld (f : Fld) : Prop :=
  0x450000 ≤ f.addr ∧ f.addr < 0x460000 ∧ (f.lo = 0 ∨ f.lo = 32 ∨ f.lo = 62)

/-- `t` differs from `s` only as the count of an event may make it differ. -/
structure Counts (s t : State) : Prop where
  rest : t = { s with regs := t.regs, pmu := t.pmu }
  get : ∀ f : Fld, (∀ g, CounterFld g → f.key ≠ g.key) → t.get f = s.get f

theorem Counts.refl (s : State) : Counts s s := ⟨rfl, fun _ _ => rfl⟩

theorem Counts.trans (h : Counts s t) (k : Counts t u) : Counts s u := by
  refine ⟨?_, fun f hf => (k.get f hf).trans (h.get f hf)⟩
  have hu := k.rest
  rw [h.rest] at hu
  exact hu

theorem Counts.put (h : Counts s t) {f : Fld} (hf : CounterFld f) (v : Nat) : Counts s (t.put f v) :=
  h.trans ⟨rfl, fun _ hg => State.get_put_ne (hg f hf) _ _⟩

theorem Counts.pmu (h : Counts s t) (p) : Counts s { t with pmu := p } := h.trans ⟨rfl, fun _ _ => rfl⟩

theorem counterFld_plateNo : CounterFld F.PMU_STATUS.PLATE_NO := ⟨by decide, by decide, .inr (.inl rfl)⟩

theorem counterFld_value {n : Nat} (hn : n < 256) : CounterFld (F.PMU_CTR_VALUE.VALUE n) := by
  simp only [CounterFld, F.PMU_CTR_VALUE.VALUE, true_or, and_true]; omega

theorem counterFld_ovf {n : Nat} (hn : n < 256) : CounterFld (F.PMU_CTR_VALUE.OVF n) := by
  simp only [CounterFld, F.PMU_CTR_VALUE.OVF, or_true, and_true]; omega

theorem Counts.takePlate (h : Counts s t) (trigger ctr : Nat) : Counts s (takePlate trigger ctr t) := by
  unfold Machine.takePlate
  extract_lets
  split
  · exact h.pmu _
  · exact ((h.put counterFld_plateNo _).pmu _).pmu _

theorem Counts.addCounter {n amt fuel : Nat} (h : Counts s t) (hn : n < 256) : Counts s (addCounter n amt fuel t) := by
  induction fuel generalizing n amt t with
  | zero => exact h
  | succ fuel ih =>
    unfold Machine.addCounter
    extract_lets v t1 t2
    have h1 : Counts s t1 := h.put (counterFld_value hn) _
    have h2 : Counts s t2 := h1.put (counterFld_ovf hn) _
    split
    · exact h
    split
    · exact h1
    split
    next hc => exact ih h1 (by omega)
    split
    · exact h2.takePlate _ _
    · exact h2

theorem Counts.forAll {α : Type} {l : List α} {f : α → State → State} (hf : ∀ a ∈ l, ∀ t, Counts t (f a t)) (h : Counts s t) :
    Counts s (forAll l f t) := by
  induction l generalizing t with
  | nil => exact h
  | cons a l ih => exact ih (fun b hb => hf b (List.mem_cons_of_mem _ hb)) (h.trans (hf a List.mem_cons_self t))

theorem counts_count (s : State) (ev inst amt : Nat) : Counts s (s.count ev inst amt) := by
  unfold State.count
  refine Counts.forAll (fun n hn t => ?_) (.refl s)
  split
  · exact (Counts.refl t).addCounter (enabledCtrs_lt hn)
  · exact .refl t

/-! ### What a port notes of a request -/

/-- The register fields that the count of an event or the latch of a wake source may change. -/
def NotedFld (f : Fld) : Prop := CounterFld f ∨ f = F.PWR_WAKE_STATUS.SRC ∨ f = F.PWR_SL_STATUS.STATE

/-- `t` differs from `s` only as the count of an event and the latch of a wake source may make it differ. -/
structure Noted (s t : State) : Prop where
  rest : t = { s with regs := t.regs, out := t.out, pwr := t.pwr, pmu := t.pmu }
  get : ∀ f : Fld, (∀ g, NotedFld g → f.key ≠ g.key) → t.get f = s.get f

theorem Noted.refl (s : State) : Noted s s := ⟨rfl, fun _ _ => rfl⟩

theorem Noted.trans (h : Noted s t) (k : Noted t u) : Noted s u := by
  refine ⟨?_, fun f hf => (k.get f hf).trans (h.get f hf)⟩
  have hu := k.rest
  rw [h.rest] at hu
  exact hu

theorem Noted.put (h : Noted s t) {f : Fld} (hf : NotedFld f) (v : Nat) : Noted s (t.put f v) :=
  h.trans ⟨rfl, fun _ hg => State.get_put_ne (hg f hf) _ _⟩

theorem Counts.noted (h : Counts s t) : Noted s t := by
  refine ⟨?_, fun f hf => h.get f fun g hg => hf g (.inl hg)⟩
  have ht := h.rest
  rw [ht]

theorem noted_beginExit (s : State) : Noted s (beginExit s) := by
  unfold beginExit
  dsimp only
  split
  · exact ⟨rfl, fun _ _ => rfl⟩
  · exact ⟨rfl, fun _ _ => rfl⟩

theorem noted_wakeRaw (src : Nat) (s : State) : Noted s (wakeRaw src s) := by
  unfold wakeRaw
  split
  · exact .refl s
  extract_lets w
  have hw : Noted s w := (Noted.refl s).put (.inr (.inl rfl)) _
  split
  · exact hw
  split
  · exact hw.trans ⟨rfl, fun _ _ => rfl⟩
  split
  · exact hw.put (.inr (.inr rfl)) _
  split
  · exact hw.trans (noted_beginExit w)
  · exact hw

/-! ### What noting leaves as it is -/

theorem NotedFld.place {g : Fld} (hg : NotedFld g) :
    reportReg g.addr = true ∧ (g.lo = 0 ∨ g.lo = 32 ∨ g.lo = 62) := by
  obtain ⟨hlow, hhigh, hlo⟩ | rfl | rfl := hg
  · exact ⟨by simp only [reportReg, Bool.or_eq_true, decide_eq_true_eq]; omega, hlo⟩
  · exact ⟨by decide, .inl rfl⟩
  · exact ⟨by decide, .inl rfl⟩

/-- A field of a register that reporting does not change is not noted in. -/
theorem Noted.reg (h : Noted s t) (f : Fld) (hf : f.lo < 64) (hr : reportReg f.addr = false) : t.get f = s.get f := by
  refine h.get f fun g hg => ?_
  obtain ⟨hrep, hlo⟩ := hg.place
  refine Fld.key_ne_of_addr (fun he => ?_) (by omega) hf
  rw [he, hrep] at hr
  cases hr

/-- No field with this lowest bit is noted in, at whatever address. -/
theorem Noted.get_of_lo (h : Noted s t) (f : Fld) (hf : f.lo = 12 ∨ f.lo = 13) : t.get f = s.get f := by
  refine h.get f fun g hg => ?_
  obtain ⟨-, hlo⟩ := hg.place
  simp only [Fld.key]
  omega

theorem Noted.flag {f : Fld} (hf : t.get f = s.get f) : t.flag f = s.flag f := congrArg (· != 0) hf

theorem Noted.lds (h : Noted s t) : t.lds = s.lds := by rw [h.rest]
theorem Noted.clu (h : Noted s t) : t.clu = s.clu := by rw [h.rest]
theorem Noted.regions (h : Noted s t) : t.regions = s.regions := by rw [h.rest]
theorem Noted.err (h : Noted s t) : t.err = s.err := by rw [h.rest]

theorem reportReg_slot {k n : Nat} (hk : k ≤ 8) (hn : n < 64) : reportReg (0x102000 + k + 0x10 * n) = false := by
  simp only [reportReg, Bool.or_eq_false_iff, decide_eq_false_iff_not]; omega

theorem reportReg_hint {n : Nat} (hn : n < 64) : reportReg (0x130400 + 0x8 * n) = false := by
  simp only [reportReg, Bool.or_eq_false_iff, decide_eq_false_iff_not]; omega

theorem Noted.inFatal (h : Noted s t) : t.inFatal = s.inFatal := by simp only [State.inFatal, h.err]

theorem Noted.fenced (h : Noted s t) : fenced t = fenced s := by
  simp only [Machine.fenced, h.reg F.CLU_STATUS.STATE (by decide) (by decide)]

theorem Noted.inClutch (h : Noted s t) : t.inClutch = s.inClutch := by
  rw [State.inClutch, State.inClutch, h.clu, h.reg F.CLU_CFG.DEPTH (by decide) (by decide),
    Noted.flag (h.reg F.CLU_STATUS.CFG_ERR (by decide) (by decide)), h.reg F.CLU_STATUS.STATE (by decide) (by decide)]

theorem Noted.path (h : Noted s t) : t.path = s.path := by
  simp only [State.path, h.inClutch, h.reg F.CLU_CFG.PATH (by decide) (by decide)]

theorem Noted.homePath (h : Noted s t) (cpa : Nat) : homePath t cpa = homePath s cpa := by
  simp only [Machine.homePath, h.inClutch, h.path]

theorem Noted.homeAddr (h : Noted s t) (cpa : Nat) : homeAddr t cpa = homeAddr s cpa := by
  simp only [Machine.homeAddr, h.inClutch]

theorem Noted.agentState (h : Noted s t) {m : Nat} (hm : m < 64) : agentState t m = agentState s m :=
  h.reg (F.HP_AGENT_STATE.STATE m) (by simp [F.HP_AGENT_STATE.STATE]) (reportReg_slot (k := 0) (by decide) hm)

theorem Noted.hanOf (h : Noted s t) {m : Nat} (hm : m < 64) : hanOf t m = hanOf s m := by
  have map (f : Fld) (hf : f.lo < 64) (ha : f.addr = 0x102008 + 0x10 * m) : t.get f = s.get f :=
    h.reg f hf (ha ▸ reportReg_slot (k := 8) (by decide) hm)
  rw [Machine.hanOf, Machine.hanOf, Noted.flag (map (F.HP_HAN_MAP.ASSIGNED m) (by simp [F.HP_HAN_MAP.ASSIGNED]) rfl),
    map (F.HP_HAN_MAP.HAN m) (by simp [F.HP_HAN_MAP.HAN]) rfl, Noted.flag
      (h.reg (F.HP_AGENT_STATE.FLIT68 m) (by simp [F.HP_AGENT_STATE.FLIT68]) (reportReg_slot (k := 0) (by decide) hm))]

theorem mem_slots {m : Nat} (hm : m ∈ slots) : m < 64 := List.mem_range.1 hm

theorem Noted.slotOfHan (h : Noted s t) (n : Nat) : slotOfHan t n = slotOfHan s n := by
  unfold Machine.slotOfHan
  exact List.find?_congr fun m hm => by rw [h.hanOf (mem_slots hm)]

theorem Noted.hanAlive (h : Noted s t) (n : Nat) : hanAlive t n = hanAlive s n := by
  simp only [Machine.hanAlive, h.slotOfHan]
  cases hm : Machine.slotOfHan s n with
  | some m => simp only [h.agentState (mem_slots (List.mem_of_find?_eq_some hm))]
  | none =>
    rw [h.inClutch, Noted.flag (h.get_of_lo (F.CLU_HAN.VALID n) (.inr rfl)), Noted.flag (h.get_of_lo (F.CLU_HAN.DEAD n) (.inl rfl))]

theorem Noted.ldHint (h : Noted s t) {m : Nat} (hm : m < 64) : ldHint t m = ldHint s m := by
  simp only [Machine.ldHint, h.hanOf hm, h.hanAlive,
    h.reg (F.TIER_NC_HINT.HAN m) (by simp [F.TIER_NC_HINT.HAN]) (reportReg_hint hm),
    Noted.flag (h.reg (F.TIER_NC_HINT.VALID m) (by simp [F.TIER_NC_HINT.VALID]) (reportReg_hint hm))]

theorem Noted.mapHpa (h : Noted s t) (m hpa : Nat) : mapHpa t m hpa = mapHpa s m hpa := by
  simp only [Machine.mapHpa, h.lds]

theorem Noted.region (h : Noted s t) (r : Nat) : t.region r = s.region r := by simp only [State.region, h.regions]

theorem Noted.presented (h : Noted s t) : t.presented = s.presented :=
  h.reg F.TIER_CAP_CFG.PRESENTED_REGIONS (by decide) (by decide)

theorem Noted.mapsShared (h : Noted s t) (m cpa : Nat) : mapsShared t m cpa = mapsShared s m cpa := by
  simp only [Machine.mapsShared, h.lds]

theorem Noted.backed (h : Noted s t) {m : Nat} (hm : m < 64) (cpa : Nat) : backed t m cpa = backed s m cpa := by
  simp only [Machine.backed, h.mapsShared, h.region, h.presented, h.homePath, h.homeAddr, h.path, h.clu, h.hanOf hm,
    h.reg F.CLU_ROSTER.MAP (by decide) (by decide)]

theorem Counts.portsStopped (h : Counts s t) : portsStopped t = portsStopped s := by
  have state : sleepState t = sleepState s :=
    h.get _ fun g ⟨hlow, _, _⟩ => by simp only [Fld.key, F.PWR_SL_STATUS.STATE]; omega
  have pwr : t.pwr = s.pwr := by rw [h.rest]
  have thm : t.thm = s.thm := by rw [h.rest]
  have rst : t.rst = s.rst := by rw [h.rest]
  have down : t.coreDown = s.coreDown := by simp only [State.coreDown, thm, rst]
  have asleep : t.asleep = s.asleep := by simp only [State.asleep, state, down]
  simp only [Machine.portsStopped, asleep, pwr]

/-! ### A request on its way to its home -/

/-- The request that enters the queue of its home slice for the one received at a port. -/
def homed (s : State) (slot cpa : Nat) (r : Req) : Req :=
  { r with addr := lineAddr (homeAddr s cpa), hint := if r.write then ldHint s slot else none }

/-- R246: the home of a served request is this member's own path, in a clutch or alone. -/
theorem HostServed.home_path {slot hpa cpa : Nat} (h : HostServed s slot hpa cpa) : homePath s cpa = s.path := by
  have home := h.home
  cases hc : s.inClutch with
  | true => simpa [State.path, hc] using home
  | false => simp [homePath, hc]

/-- R47, R48, R248: a request of a known opcode that is served here is queued. -/
theorem route_served {slot hpa cpa : Nat} {r : Req} (h : HostServed s slot hpa cpa) (hs : slot < 64)
    (known : ∀ d, r.intent ≠ .unknown d) (n : Noted s t) : route slot hpa r t = addReq (homed s slot cpa r) t := by
  unfold route
  split
  next d hd => exact absurd hd (known d)
  · simp [n.inFatal, h.fatal, n.fenced, h.fence, n.agentState hs, h.alive, n.mapHpa, h.maps, n.backed hs, h.back, n.homePath, n.path,
      h.home_path, n.homeAddr, n.ldHint hs, homed]

/-- R22, R26, R65: a request of a known opcode that is served and finds an ingress entry is counted, wakes the device, and is
queued. -/
theorem receive_served {slot hpa cpa : Nat} {r : Req} (h : HostServed s slot hpa cpa) (hs : slot < 64)
    (known : ∀ d, r.intent ≠ .unknown d) (room : ingressFull s slot r.write = false) :
    ∃ t, Noted s t ∧ receive slot hpa r s = addReq (homed s slot cpa r) t := by
  unfold receive
  extract_lets c
  have counted : Counts s c := by
    unfold c
    split
    · exact counts_count s _ _ _
    split
    · exact counts_count s _ _ _
    · exact .refl s
  have noted : Noted s (wakeRaw 0 c) := counted.noted.trans (noted_wakeRaw 0 c)
  refine ⟨wakeRaw 0 c, noted, ?_⟩
  simp [h.link, h.alive, room, counted.portsStopped, h.ports, route_served h hs known noted]

/-- One new request, last in the queue, and every stored, buffered or cached line as before: the state after a served request. -/
def QueuedOne (s : State) (slot cpa : Nat) (r : Req) (t : State) : Prop :=
  t.reqs = s.reqs ++ [{ homed s slot cpa r with id := s.nextId, since := s.now }] ∧
  t.nextId = s.nextId + 1 ∧ t.dram = s.dram ∧ t.wb = s.wb ∧ t.almanac = s.almanac ∧ t.near = s.near ∧ t.frames = s.frames ∧
  t.regions = s.regions

theorem Noted.queuedOne (h : Noted s t) (slot cpa : Nat) (r : Req) :
    QueuedOne s slot cpa r (addReq (homed s slot cpa r) t) := by
  unfold QueuedOne addReq State.now
  rw [h.rest]
  exact ⟨rfl, rfl, rfl, rfl, rfl, rfl, rfl, rfl⟩

theorem receive_queues {slot hpa cpa : Nat} {r : Req} (h : HostServed s slot hpa cpa) (hs : slot < 64)
    (known : ∀ d, r.intent ≠ .unknown d) (room : ingressFull s slot r.write = false) :
    ∃ t, (.next (receive slot hpa r s) : Host.Outcome State Fault Refusal) = .next t ∧ QueuedOne s slot cpa r t := by
  obtain ⟨t, noted, ht⟩ := receive_served h hs known room
  exact ⟨_, rfl, ht ▸ noted.queuedOne slot cpa r⟩

/-! ### Intents of the host's opcodes (R192) -/

theorem readIntent_known (mv : Meta) (data : Bool) :
    isWrite (readIntent mv data) = false ∧ ∀ d, readIntent mv data ≠ .unknown d := by
  cases data <;> cases mv <;> exact ⟨rfl, nofun⟩

theorem writeIntent_known (s : State) (slot : Nat) (mv : Meta) :
    isWrite (writeIntent s slot mv) = true ∧ ∀ d, writeIntent s slot mv ≠ .unknown d := by
  unfold writeIntent
  split
  · exact ⟨rfl, nofun⟩
  · exact ⟨rfl, nofun⟩

/-- A host's request with an intent of its own opcodes is queued when it is served and its kind finds an ingress entry. -/
theorem hostReq_queues {slot hpa cpa tag : Nat} {i : Intent} {w : Bool} (h : HostServed s slot hpa cpa) (hs : slot < 64)
    (hi : isWrite i = w ∧ ∀ d, i ≠ .unknown d) (room : ingressFull s slot w = false) (d : BitVec 512) (mask : BitVec 64)
    (poison : Bool) :
    ∃ t, (.next (receive slot hpa (hostReq s slot tag i d mask poison) s) : Host.Outcome State Fault Refusal) = .next t ∧
      QueuedOne s slot cpa (hostReq s slot tag i d mask poison) t :=
  receive_queues h hs hi.2 (by simpa only [hostReq, hi.1] using room)

end

end Sys2Proof.Machine

open Sys2Proof.Machine in
/-- Settles O6: what the port notes before the request is routed is nothing that the way to its home reads (`Noted`). -/
theorem hostRequestsQueue : Obligations.HostRequestsQueue := by
  intro s m tag hpa mv cpa served queued
  refine ⟨fun room => ⟨fun data => ?_, ?_, ?_⟩, fun room line mask poison => ⟨?_, ?_⟩⟩
  · rw [exec_memRd, execMemRd]
    exact hostReq_queues served m.isLt (readIntent_known mv data) room 0 0 false
  · rw [exec_memInv, execMemInv.eq_def]
    refine hostReq_queues served m.isLt ?_ room 0 0 false
    cases mv <;> exact ⟨rfl, nofun⟩
  · rw [exec_memClnEvct, execMemClnEvct]
    exact hostReq_queues (i := .evict) served m.isLt ⟨rfl, nofun⟩ room 0 0 false
  · rw [exec_memWr, execMemWr]
    exact hostReq_queues served m.isLt (writeIntent_known s m mv) room line (BitVec.allOnes 64) poison
  · rw [exec_memWrPtl, execMemWrPtl]
    exact hostReq_queues served m.isLt (writeIntent_known s m mv) room line mask poison
end

section
/-!
The write buffer's rows (R27, R175, R176): what a merge read and a drain answer where there is a line to serve.
-/

open Sys2Proof.Machine in
/-- Settles O10: each row serves the line it finds, with the unit that is read (merge) or stored (drain). -/
theorem writeBufferRows : Obligations.WriteBufferRows := by
  refine ⟨fun s sl err w o u hw hr => ?_, fun s sl err w u hw hr => ?_, fun s sl w hw => ?_⟩
  · rw [exec_mergeReadComplete, execMergeReadComplete, hw]
    dsimp only
    rw [hr]
    rfl
  · rw [exec_mergeReadComplete, execMergeReadComplete, hw]
    dsimp only
    rw [hr]
    rfl
  · rw [exec_writeBufferDrain]
    unfold execWriteBufferDrain
    split
    next absent => cases hw.symm.trans absent
    next found =>
      cases hw.symm.trans found
      rfl
end

section
/-!
The data mover's operations (R40, R106 to R108): what the start of a ring's oldest operation answers.
-/

namespace Sys2Proof.Machine

section
variable {s : State} {r : Nat} {p : Nat → Bool} {o : MoverOp}

/-- R40, R106 to R109: an operation that may start, with nothing against it, begins its work. -/
theorem startOp_runs (h : MoverStarts s r p o) :
    startOp r p s = runOp r o.slot o.desc (setOp r { o with started := true } s) := by
  have known : (decide (o.desc.opcode ≤ 5) || o.desc.opcode == 0x0F) = true := by simpa using h.known
  simp only [startOp, h.oldest, known, h.fits, h.maps, h.lease, Bool.not_true, Bool.or_self, Bool.false_eq_true, if_false]

/-- R108: an operation with a reserved opcode that may start ends with REFUSED. -/
theorem startOp_reserved (h : startable p [] (s.rings.get r).ops = some o) (high : 5 < o.desc.opcode)
    (other : o.desc.opcode ≠ 0x0F) :
    startOp r p s = endOp r o.slot 0x0B 0 (setOp r { o with started := true } s) := by
  have unknown : (decide (o.desc.opcode ≤ 5) || o.desc.opcode == 0x0F) = false := by simpa using ⟨high, other⟩
  simp only [startOp, h, unknown, Bool.not_false, Bool.true_or, if_true]

/-- A ring without operations starts none. -/
theorem startOp_empty (h : (s.rings.get r).ops = []) : startOp r p s = s := by
  rw [startOp, h, startable]

end

end Sys2Proof.Machine

open Sys2Proof.Machine in
/-- Settles O27: every opcode's row is `startOp` with that opcode, whose three ends are `startOp_runs`, `startOp_reserved` and
`startOp_empty`. -/
theorem dataMoverOperations : Obligations.DataMoverOperations := by
  refine ⟨fun s r o => ?_, fun s r o h high other => congrArg _ (startOp_reserved h high other), fun s r h => ?_⟩
  · refine ⟨?_, ?_, ?_, ?_, ?_, ?_, ?_⟩ <;> exact fun h => congrArg _ (startOp_runs h)
  · refine ⟨?_, ?_, ?_, ?_, ?_, ?_, ?_, ?_⟩ <;> exact congrArg _ (startOp_empty h)
end

section
/-!
Job units and the spine (R16 to R19, R33, R36): what an overrun leaves, how a route runs, and what a hop's rows do to the hop.
-/

namespace Sys2Proof.Machine

section
variable {s : State}

/-! ### Overruns -/

/-- R36: what TB_OVR_LAST shows. -/
theorem recordOverrun_get (s : State) (job inst consec transit : Nat) :
    (recordOverrun job inst consec transit s).get F.TB_OVR_LAST.JOB_ID = job % 2 ^ F.TB_OVR_LAST.JOB_ID.width ∧
    (recordOverrun job inst consec transit s).get F.TB_OVR_LAST.VALID = 1 := by
  refine ⟨?_, State.get_put_same _ _ _⟩
  unfold recordOverrun
  rw [State.get_put_ne (by decide), State.get_put_ne (by decide), State.get_put_ne (by decide), State.get_put_ne (by decide),
    State.get_put_same]

theorem recordOverrun_rest (s : State) (job inst consec transit : Nat) :
    recordOverrun job inst consec transit s = { s with regs := (recordOverrun job inst consec transit s).regs } := rfl

theorem countOverrun_rest (s : State) : countOverrun s = { s with regs := (countOverrun s).regs } := by
  unfold countOverrun
  split
  · rfl
  · rfl

/-- A survey channel's STALE lies in no field of TB_OVR_LAST. -/
theorem stale_key_ne {f : Fld} (inst : Nat) (ha : f.addr = 0x400110) (hf : f.lo < 64) : f.key ≠ (F.HK_SURVEY.STALE inst).key := by
  simp only [Fld.key, F.HK_SURVEY.STALE]
  omega

/-- R33, R36: a unit that overran stays at the head of its queue with a new deadline and one more overrun; TB_OVR_LAST names its
job; no stored line changes. -/
theorem overrun_leaves (job inst shown : Nat) (u : JobUnit) (rest : List JobUnit) (s : State) :
    (overrun job inst shown u rest s).jobs =
      s.jobs.set (jobKey job inst) ({ u with deadline := s.transit + jobSpan job inst - 1, consec := u.consec + 1 } :: rest) ∧
    (overrun job inst shown u rest s).get F.TB_OVR_LAST.JOB_ID = job % 2 ^ F.TB_OVR_LAST.JOB_ID.width ∧
    (overrun job inst shown u rest s).get F.TB_OVR_LAST.VALID = 1 ∧
    (overrun job inst shown u rest s).dram = s.dram := by
  unfold overrun
  extract_lets x a b c d
  obtain ⟨shownId, shownValid⟩ := recordOverrun_get (countOverrun a) job shown x.consec u.deadline
  have hb : b = { a with regs := b.regs } := by
    unfold b
    rw [recordOverrun_rest, countOverrun_rest]
  have hc : c.jobs = a.jobs ∧ c.dram = s.dram ∧ c.get F.TB_OVR_LAST.JOB_ID = b.get F.TB_OVR_LAST.JOB_ID ∧
      c.get F.TB_OVR_LAST.VALID = b.get F.TB_OVR_LAST.VALID := by
    unfold c
    split
    · exact ⟨by rw [State.put_jobs, hb], by rw [State.put_dram, hb], State.get_put_ne (stale_key_ne inst rfl (by decide)) _ _,
        State.get_put_ne (stale_key_ne inst rfl (by decide)) _ _⟩
    · exact ⟨by rw [hb], by rw [hb], rfl, rfl⟩
  obtain ⟨jobs, dram, jobId, valid⟩ := hc
  have reported : Quiet c (if x.consec = 16 then d.log 0x04 shown 0 job else d) := by
    have hd : Quiet c d := quiet_log (quiet_count (.refl c) _ _ _) _ _ _ _
    split
    · exact quiet_log hd _ _ _ _
    · exact hd
  exact ⟨reported.jobs.trans jobs, (reported.reg _ (by decide) (by decide)).trans (jobId.trans shownId),
    (reported.reg _ (by decide) (by decide)).trans (valid.trans shownValid), reported.dram.trans dram⟩

/-- R33, R340: a unit whose deadline has passed overruns; a sideband unit's effect is undone first. -/
theorem exec_transitOverrun_late {j i : BitVec 8} {u : JobUnit} {rest : List JobUnit}
    (runs : s.asleep = false ∨ j.toNat = 0x0B ∨ j.toNat = 0x0C)
    (queue : s.jobs.get (jobKey j.toNat (if j.toNat = 0x0A then 0 else i.toNat)) = u :: rest) (late : u.deadline < s.transit) :
    exec (.transitOverrun j i) s = .next (overrun j.toNat (if j.toNat = 0x0A then 0 else i.toNat) i.toNat u rest
      (if j.toNat = 0x0A ∧ i = 5 then sbUndo s else s)) := by
  have awake : (s.asleep && j.toNat != 0x0B && j.toNat != 0x0C) = false := by
    rcases runs with runs | runs | runs <;> simp [runs]
  simp only [exec_transitOverrun, execTransitOverrun, awake, Bool.false_eq_true, if_false, queue, Nat.not_le.2 late]

/-- R32, R340: undoing a sideband unit's effect leaves the time and the stored lines. -/
theorem sbUndo_leaves (c : Prop) [Decidable c] (s : State) :
    (if c then sbUndo s else s).transit = s.transit ∧ (if c then sbUndo s else s).dram = s.dram := by
  split
  · exact ⟨rfl, rfl⟩
  · exact ⟨rfl, rfl⟩

/-! ### Routes -/

/-- R16: columns between two stops. -/
def colGap (a b : Nat) : Nat := max (a % 4) (b % 4) - min (a % 4) (b % 4)

/-- R16: rows between two stops. -/
def rowGap (a b : Nat) : Nat := max (a / 4) (b / 4) - min (a / 4) (b / 4)

/-- R16: a word in another column than its target's takes a hop along its row. -/
theorem spineHop_row {a b : Nat} (ha : a < 16) (hc : colGap a b ≠ 0) :
    ∃ h, spineHop a b = some h ∧ h.stop.val = a ∧ hopEnd h / 4 = a / 4 ∧ colGap (hopEnd h) b + 1 = colGap a b := by
  unfold colGap at *
  rcases Nat.lt_or_ge (a % 4) (b % 4) with hlt | hge
  · refine ⟨⟨Fin.ofNat 16 a, 0⟩, by simp [spineHop, hlt], Nat.mod_eq_of_lt ha, ?_⟩
    rw [show hopEnd _ = a + 1 from congrArg (· + 1) (Nat.mod_eq_of_lt ha)]
    omega
  · refine ⟨⟨Fin.ofNat 16 a, 1⟩, ?_, Nat.mod_eq_of_lt ha, ?_⟩
    · simp only [spineHop, Nat.not_lt.2 hge, if_false, show b % 4 < a % 4 by omega, if_true]
      rfl
    rw [show hopEnd _ = a - 1 from congrArg (· - 1) (Nat.mod_eq_of_lt ha)]
    omega

/-- R16: a word in its target's column takes a hop along that column. -/
theorem spineHop_col {a b : Nat} (ha : a < 16) (hb : b < 16) (hc : colGap a b = 0) (hr : rowGap a b ≠ 0) :
    ∃ h, spineHop a b = some h ∧ h.stop.val = a ∧ hopEnd h < 16 ∧ colGap (hopEnd h) b = 0 ∧ rowGap (hopEnd h) b + 1 = rowGap a b := by
  unfold colGap rowGap at *
  rcases Nat.lt_or_ge (a / 4) (b / 4) with hlt | hge
  · refine ⟨⟨Fin.ofNat 16 a, 2⟩, ?_, Nat.mod_eq_of_lt ha, ?_⟩
    · simp only [spineHop, show ¬a % 4 < b % 4 by omega, show ¬b % 4 < a % 4 by omega, hlt, if_false, if_true]
      rfl
    rw [show hopEnd _ = a + 4 from congrArg (· + 4) (Nat.mod_eq_of_lt ha)]
    omega
  · refine ⟨⟨Fin.ofNat 16 a, 3⟩, ?_, Nat.mod_eq_of_lt ha, ?_⟩
    · simp only [spineHop, show ¬a % 4 < b % 4 by omega, show ¬b % 4 < a % 4 by omega, show ¬a / 4 < b / 4 by omega,
        show b / 4 < a / 4 by omega, if_false, if_true]
      rfl
    rw [show hopEnd _ = a - 4 from congrArg (· - 4) (Nat.mod_eq_of_lt ha)]
    omega

/-- R16: a route runs along the row of its source to the target's column, then along that column. -/
theorem spineRoute_row_col {n a b : Nat} (ha : a < 16) (hb : b < 16) (hn : colGap a b + rowGap a b ≤ n) :
    (spineRoute n a b).length = colGap a b + rowGap a b ∧
      (∀ h ∈ (spineRoute n a b).take (colGap a b), h.stop.val / 4 = a / 4) ∧
      (∀ h ∈ (spineRoute n a b).drop (colGap a b), h.stop.val % 4 = b % 4) := by
  induction n generalizing a with
  | zero =>
    have : colGap a b = 0 ∧ rowGap a b = 0 := by omega
    simp [spineRoute, this]
  | succ n ih =>
    by_cases hc : colGap a b = 0
    · by_cases hr : rowGap a b = 0
      · have stays : spineHop a b = none := by
          unfold colGap rowGap at *
          simp only [spineHop, show ¬a % 4 < b % 4 by omega, show ¬b % 4 < a % 4 by omega, show ¬a / 4 < b / 4 by omega,
            show ¬b / 4 < a / 4 by omega, if_false]
        simp [spineRoute, stays, hc, hr]
      · obtain ⟨h, hop, stop, inside, col, row⟩ := spineHop_col ha hb hc hr
        have column : a % 4 = b % 4 := by unfold colGap at hc; omega
        obtain ⟨len, -, rest⟩ := ih (a := hopEnd h) inside (by omega)
        rw [col] at rest
        simp only [spineRoute, hop, hc, List.length_cons, len, col, List.take_zero, List.drop_zero, List.forall_mem_cons, stop]
        exact ⟨by omega, nofun, column, rest⟩
    · obtain ⟨h, hop, stop, row, col⟩ := spineHop_row ha hc
      have rows : rowGap (hopEnd h) b = rowGap a b := by unfold rowGap; rw [row]
      obtain ⟨len, along, rest⟩ := ih (a := hopEnd h) (by omega) (by omega)
      simp only [spineRoute, hop, ← col, List.length_cons, len, List.take_succ_cons, List.drop_succ_cons, List.forall_mem_cons, stop]
      exact ⟨by omega, ⟨trivial, fun x hx => (along x hx).trans row⟩, rest⟩

/-! ### Hops -/

/-- R17, R18: a hop after word `n` has failed its check there. -/
def failedHop (n earlier later : Nat) (s : State) (x : HopSt) : HopSt :=
  { buffer := if x.await = some n then keepWords n later s.now (clocksPerTransit s) x.buffer
      else keepWords ((n + 32 - earlier) % 32) (earlier + later) s.now (clocksPerTransit s) x.buffer
    await := some n, asked := some n, fails := if x.await = some n then x.fails + 1 else 1 }

/-- R17, R18, R20: a word that fails its check changes its hop and is reported. -/
theorem failWord_quiet (hop : Hop) (n earlier later : Nat) (s : State) :
    Quiet (setHop hop (failedHop n earlier later s) s) (failWord hop n earlier later s) := by
  unfold failWord
  extract_lets h again fails t u
  have ht : t = setHop hop (failedHop n earlier later s) s := by
    simp [t, setHop, Tab.upd, failedHop, fails, again, h]
  have logged : Quiet t u := quiet_log (.refl t) _ _ _ _
  rw [← ht]
  split
  · exact quiet_log logged _ _ _ _
  · exact logged

/-- R18: a replay request is served: nothing changes besides the hop and what leaves. -/
theorem exec_spineReplayRequest_asked {h : Hop} {ok : Bool} {w : Nat} (asked : (s.spine.get (hopKey h)).asked = some w) :
    ∃ t, exec (.spineReplayRequest h ok) s = .next t ∧ (t.spine.get (hopKey h)).asked = none ∧
      t.out = s.out ++ [.spineResend h.stop.val h.dir.val
        ((if ok then (s.spine.get (hopKey h)).buffer.dropWhile (fun x => x.1 != w)
          else (s.spine.get (hopKey h)).buffer).map (·.1))] ∧
      t = { s with spine := t.spine, out := t.out } := by
  rw [exec_spineReplayRequest, execSpineReplayRequest]
  simp only [asked]
  refine ⟨_, rfl, ?_, rfl, rfl⟩
  simp [setHop]

/-- R18: the oldest word that no request names leaves the buffer 4 clocks after it was sent. -/
theorem exec_spineReplayRelease_due {h : Hop} {w a : Nat} {rest : List (Nat × Nat)}
    (buffer : (s.spine.get (hopKey h)).buffer = (w, a) :: rest) (quiet : (s.spine.get (hopKey h)).asked = none)
    (long : 4000 ≤ s.since a * clocksPerTransit s) :
    ∃ t, exec (.spineReplayRelease h) s = .next t ∧ (t.spine.get (hopKey h)).buffer = rest ∧
      ((s.spine.get (hopKey h)).await = some w → (t.spine.get (hopKey h)).await = none) ∧ t = { s with spine := t.spine } := by
  rw [exec_spineReplayRelease, execSpineReplayRelease]
  simp only [buffer, quiet, Nat.not_lt.2 long]
  refine ⟨_, rfl, ?_, fun got => ?_, rfl⟩
  · simp [setHop]
  · simp [setHop, got]

end

end Sys2Proof.Machine

open Sys2Proof.Machine in
/-- Settles O52: the rows of transits and units by their definitions, an overrun by `overrun_leaves`, routes by induction along the
row and then the column, a failed word by `failWord_quiet`. -/
theorem transitsAndHops : Obligations.TransitsAndHops := by
  refine ⟨fun s on => ?_, fun s j i waits => ?_, fun s j i u rest runs => ?_, fun a b => ?_,
    fun s x h q e l w hop odd quiet => ?_, fun s h ok w asked => ?_, fun s h w a rest buffer quiet long => ?_⟩
  · exact if_neg (by simp [on])
  · exact if_pos waits
  · intro n queue late
    obtain ⟨time, lines⟩ := sbUndo_leaves (j.toNat = 0x0A ∧ i = 5) s
    obtain ⟨jobs, jobId, valid, dram⟩ := overrun_leaves j.toNat n i.toNat u rest
      (if j.toNat = 0x0A ∧ i = 5 then sbUndo s else s)
    refine ⟨_, exec_transitOverrun_late runs queue late, ?_, jobId, valid, dram.trans lines⟩
    rw [jobs, time, Tab.get_set_same]
  · exact spineRoute_row_col a.isLt b.isLt (by unfold colGap rowGap; omega)
  · have row : exec (.spineParityError x q e l w) s = .next (failWord h q.toNat e.toNat l.toNat s) := by
      simp [exec_spineParityError, execSpineParityError, hop, odd, quiet]
    have failed := failWord_quiet h q.toNat e.toNat l.toNat s
    refine ⟨_, row, ?_⟩
    rw [failed.spine, setHop, Tab.get_upd_same]
    exact ⟨rfl, rfl, rfl, rfl, fun k hk => Tab.get_upd_other hk _ _, failed.dram⟩
  · exact exec_spineReplayRequest_asked asked
  · exact exec_spineReplayRelease_due buffer quiet long
end

section
/-!
The rows of the home slices (R194 to R207): what the arbiter's row answers for what the lookup of the line finds, and what a row of
the directory, of the metadata or of the pin queues does for the request that it serves.
-/

namespace Sys2Proof.Machine

section
variable {s : State} {sl : Fin 16} {r : Req}

/-! ### The arbiter -/

theorem acceptNext_none (h : arbiterTakes s sl = none) : acceptNext sl s = s := by
  rw [acceptNext, h]

/-- R199, R202, R203: a writeback of the line's owner is applied at once; another request goes to the back of the queue and is
dispatched. -/
theorem acceptNext_taken (h : arbiterTakes s sl = some r) :
    acceptNext sl s = if ownerWb (noteWrite r s) r then settle (applyOwnerWb r (noteWrite r s))
      else settle (dispatchReq r { noteWrite r s with reqs := (noteWrite r s).reqs.filter (fun x => x.id != r.id) ++ [r] }) := by
  rw [acceptNext, h]

/-- R195: a request of a shared region is accepted with what the lookup of its line finds. -/
theorem exec_arbiterAccept_shared (h : arbiterTakes s sl = some r) (shared : (s.region (regionOf r.page)).cls = 1)
    (e : SramCheck) : exec (.arbiterAccept sl e) s = .next (acceptShared sl e r s) := by
  rw [exec_arbiterAccept, execArbiterAccept, h, Option.filter_some_pos (by simp [shared])]

theorem acceptShared_hit {k : Nat} (h : almFind s r.addr = some k) (e : SramCheck) :
    acceptShared sl e r s = acceptNext sl (checkEntry e k s) := by
  simp only [acceptShared, h]

theorem acceptShared_miss {x : Nat × Nat × Nat} (h : almFind s r.addr = none) (reads : missReads s r = some x) (err : MemErr) :
    acceptShared sl (.backing err) r s = struck (regionBacking s x.1 x.2.1 x.2.2) err (acceptNext sl) s := by
  simp only [acceptShared, h, reads]

theorem acceptShared_sound (sl : Fin 16) (r : Req) (s : State) : acceptShared sl .sound r s = acceptNext sl s := by
  unfold acceptShared
  split
  · rfl
  next found => cases found
  · rfl

/-- A lookup that finds the entry sound leaves the slice to accept the request as it is. -/
theorem exec_arbiterAccept_sound (s : State) (sl : Fin 16) : exec (.arbiterAccept sl .sound) s = .next (acceptNext sl s) := by
  rw [exec_arbiterAccept, execArbiterAccept]
  split
  · rw [acceptShared_sound]
  · rfl

/-- R203: with nothing that the arbiter takes, the row changes nothing. -/
theorem exec_arbiterAccept_none (h : arbiterTakes s sl = none) (e : SramCheck) : exec (.arbiterAccept sl e) s = .next s := by
  rw [exec_arbiterAccept, execArbiterAccept, h, Option.filter_none]
  exact congrArg _ (acceptNext_none h)

/-! ### Rows that find nothing to serve -/

theorem exec_pinWaitGrant_none (h : ∀ r ∈ s.reqs, r.stage ≠ .pinWait) (set : BitVec 14) :
    exec (.pinWaitGrant sl set) s = .next s := by
  rw [exec_pinWaitGrant, execPinWaitGrant, List.find?_eq_none.2 fun r hr => by simp [h r hr]]

/-- R168, R199, R306: while META's accesses are not admitted, the rows that need them wait. -/
theorem exec_meta_waits (h : accessesIn s 67 = false) :
    (∀ err, exec (.backingFetchComplete sl err) s = .next s) ∧ (∀ found, exec (.metadataFetchComplete sl found) s = .next s) ∧
    exec (.metadataEvictUpdate sl) s = .next s ∧ exec (.nodeRekeyComplete sl) s = .next s := by
  refine ⟨fun err => ?_, fun found => if_pos (by simp [h]), if_pos (by simp [h]), ?_⟩
  · rw [exec_backingFetchComplete, execBackingFetchComplete, List.find?_eq_none.2 fun r _ => by simp [h]]
  · rw [exec_nodeRekeyComplete, execNodeRekeyComplete, List.find?_eq_none.2 fun r _ => by simp [h]]

/-! ### Metadata -/

/-- R165, R168, R82: the first waiting request of the slice whose page has room has its lines fetched, and is served where they then
stand in the cache. -/
theorem exec_metadataFetchComplete_serves {found : MetaFetch} (admitted : accessesIn s 67 = true) {w b u : State}
    (hw : w = forAll (s.reqs.filter (fun r => r.stage == .metaWait && sliceOf r.addr == sl.val)) stallFetch s)
    (first : (w.reqs.filter (fun r => r.stage == .metaWait && sliceOf r.addr == sl.val)).find? (fun r => pageRoom w r.page) = some r)
    (hb : b = if r.metaOk then
        w.put F.HA_PIN_STALL.MAX_NS (min (2 ^ 32 - 1) (max (w.get F.HA_PIN_STALL.MAX_NS) (w.since r.since))) else w)
    (hu : u = struck (metaPlace b sl found.kind (pathLine b r.page found.kind)) found.err (fun s => (pageFetch r.page s).2) b) :
    exec (.metadataFetchComplete sl found) s =
      .next (settle (if metaReady u r.page then serveData r u else finish r none u)) := by
  subst hw
  simp only [exec_metadataFetchComplete, execMetadataFetchComplete, admitted, Bool.not_true, Bool.false_eq_true, if_false, first,
    ← hb, ← hu]
  split
  · rfl
  · rfl

end

end Sys2Proof.Machine

open Sys2Proof.Machine in
/-- Settles O9: an accepted request by what the lookup of its line finds; the other rows by the request, line or rekey that each
finds. -/
theorem homeSliceServes : Obligations.HomeSliceServes := by
  refine ⟨fun s sl r takes => ⟨fun plain => ?_, fun owner => ?_, fun k e shared hit => ?_, fun err x shared miss reads => ?_⟩,
    fun s k => ⟨rfl, rfl, rfl⟩, fun s sl e idle => exec_arbiterAccept_none idle e,
    fun s sl set r waiter => ⟨fun k hit => ?_, fun k miss kept => ?_, fun k miss unkept victim => ?_, fun miss unkept full => ?_⟩,
    fun s sl set empty => exec_pinWaitGrant_none empty set,
    fun s sl err r admitted fetch => ⟨fun k hit => ?_, fun k miss kept => ?_, fun miss unkept => ?_⟩,
    fun s sl found r admitted first => ⟨fun ready => ?_, fun lost => ?_⟩, fun s sl waits => exec_meta_waits waits,
    fun s sl m admitted oldest => ?_, fun s sl r admitted rekey => ?_, fun s sl => rfl,
    fun s level later multiple => if_pos ⟨level, later, multiple⟩⟩
  · rw [exec_arbiterAccept_sound, acceptNext_taken takes, if_neg (ne_true_of_eq_false plain)]
  · rw [exec_arbiterAccept_sound, acceptNext_taken takes, if_pos owner]
  · rw [exec_arbiterAccept_shared takes shared, acceptShared_hit hit]
  · rw [exec_arbiterAccept_shared takes shared, acceptShared_miss miss reads]
  · simp only [exec_pinWaitGrant, execPinWaitGrant, waiter, hit]
  · simp only [exec_pinWaitGrant, execPinWaitGrant, waiter, miss, kept]
  · simp only [exec_pinWaitGrant, execPinWaitGrant, waiter, miss, unkept, victim]
  · simp only [exec_pinWaitGrant, execPinWaitGrant, waiter, miss, unkept, full]
  · simp only [exec_backingFetchComplete, execBackingFetchComplete, admitted, Bool.and_true, fetch, hit]
  · simp only [exec_backingFetchComplete, execBackingFetchComplete, admitted, Bool.and_true, fetch, miss, kept]
  · simp only [exec_backingFetchComplete, execBackingFetchComplete, admitted, Bool.and_true, fetch, miss, unkept]
  · rw [exec_metadataFetchComplete_serves admitted rfl first rfl rfl, if_pos ready]
  · rw [exec_metadataFetchComplete_serves admitted rfl first rfl rfl, if_neg (ne_true_of_eq_false lost)]
  · simp only [exec_metadataEvictUpdate, execMetadataEvictUpdate, admitted, Bool.not_true, Bool.false_eq_true, if_false, oldest]
  · simp only [exec_nodeRekeyComplete, execNodeRekeyComplete, admitted, Bool.and_true, rekey]
end

section
/-!
The rows of the tiers' commands (R93, R99 to R101): a pin over its pages, and the start of an evacuation and of a return. What
the start of a channel's training may change (`Trains`) is neither ENABLE, ZEROED nor EVAC, which the return has written before.
-/

namespace Sys2Proof.Machine

section
variable {c : Nat} {s t u : State}

/-! ### The start of training -/

/-- R272, R299: the register fields that the start of a channel's training may write: those of its configuration and timing registers
other than ENABLE (bit 30) and ZEROED (bit 34). -/
def TrainFld (c : Nat) (f : Fld) : Prop :=
  (f.addr = 0x200000 + 0x10000 * c ∨ f.addr = 0x200010 + 0x10000 * c ∨ f.addr = 0x200018 + 0x10000 * c) ∧
    (decide (f.lo < 64) && f.lo != 30 && f.lo != 34) = true

/-- `t` differs from `s` only as the start of channel `c`'s training, and what it reports, may make it differ. -/
structure Trains (c : Nat) (s t : State) : Prop where
  rest : t = { s with
    regs := t.regs, chans := t.chans, err := t.err, out := t.out, pwr := t.pwr, pmu := t.pmu, rings := t.rings }
  chans : ∀ x, x ≠ c → t.chans.get x = s.chans.get x
  get : ∀ f : Fld, f.lo < 64 → reportReg f.addr = false → ¬TrainFld c f → t.get f = s.get f

theorem Trains.refl (s : State) : Trains c s s := ⟨rfl, fun _ _ => rfl, fun _ _ _ _ => rfl⟩

theorem Trains.trans (h : Trains c s t) (k : Trains c t u) : Trains c s u := by
  refine ⟨?_, fun x hx => (k.chans x hx).trans (h.chans x hx), fun f hf hr ht => (k.get f hf hr ht).trans (h.get f hf hr ht)⟩
  have hu := k.rest
  rw [h.rest] at hu
  exact hu

theorem Trains.put (h : Trains c s t) {f : Fld} (hf : TrainFld c f) (v : Nat) : Trains c s (t.put f v) := by
  refine h.trans ⟨rfl, fun _ _ => rfl, fun g hg _ hn => State.get_put_ne (fun hk => hn ?_) _ _⟩
  have lo : f.lo < 64 := by simpa using (Bool.and_eq_true_iff.1 (Bool.and_eq_true_iff.1 hf.2).1).1
  have same : g.addr = f.addr ∧ g.lo = f.lo := by simp only [Fld.key] at hk; omega
  rwa [TrainFld, same.1, same.2]

theorem Trains.updChan (h : Trains c s t) (f : ChanSt → ChanSt) : Trains c s { t with chans := t.chans.upd c f } :=
  h.trans ⟨rfl, fun _ hx => Tab.get_upd_other hx _ _, fun _ _ _ _ => rfl⟩

theorem Trains.quiet (h : Trains c s t) (k : Quiet t u) : Trains c s u := by
  refine h.trans ⟨?_, fun x _ => by rw [k.chans], fun f hf hr _ => k.reg f hf hr⟩
  have hu := k.rest
  rw [hu]

theorem Trains.forAllPut {l : List (Fld × Nat)} {v : Fld × Nat → Nat} (hl : ∀ x ∈ l, TrainFld c x.1) (h : Trains c s t) :
    Trains c s (forAll l (fun x s => s.put x.1 (v x)) t) := by
  induction l generalizing t with
  | nil => exact h
  | cons x l ih => exact ih (fun y hy => hl y (List.mem_cons_of_mem _ hy)) (h.put (hl x List.mem_cons_self) _)

theorem trainFld_cfg {f : Fld} (ha : f.addr = 0x200000 + 0x10000 * c) (hf : (decide (f.lo < 64) && f.lo != 30 && f.lo != 34) = true) :
    TrainFld c f := ⟨.inl ha, hf⟩

theorem Trains.timingFields (h : Trains c s t) (v w : Nat) : Trains c s (timingFields c v w t) := by
  unfold Machine.timingFields
  extract_lets t0 t1 u1 u2
  have low : ∀ f ∈ t0, TrainFld c f := by
    simp only [t0, List.forall_mem_cons]
    exact ⟨⟨.inr (.inl rfl), rfl⟩, ⟨.inr (.inl rfl), rfl⟩, ⟨.inr (.inl rfl), rfl⟩, ⟨.inr (.inl rfl), rfl⟩, ⟨.inr (.inl rfl), rfl⟩,
      ⟨.inr (.inl rfl), rfl⟩, ⟨.inr (.inl rfl), rfl⟩, ⟨.inr (.inl rfl), rfl⟩, nofun⟩
  have high : ∀ f ∈ t1, TrainFld c f := by
    simp only [t1, List.forall_mem_cons]
    exact ⟨⟨.inr (.inr rfl), rfl⟩, ⟨.inr (.inr rfl), rfl⟩, ⟨.inr (.inr rfl), rfl⟩, ⟨.inr (.inr rfl), rfl⟩, ⟨.inr (.inr rfl), rfl⟩,
      ⟨.inr (.inr rfl), rfl⟩, nofun⟩
  have h1 : Trains c s u1 := h.forAllPut fun x hx => low _ (List.of_mem_zip hx).1
  have h2 : Trains c s u2 := h1.forAllPut fun x hx => high _ (List.of_mem_zip hx).1
  exact h2.put ⟨.inr (.inr rfl), rfl⟩ _

theorem Trains.cfgFields (h : Trains c s t) (v : Nat) : Trains c s (cfgFields c v t) := by
  unfold Machine.cfgFields
  extract_lets t1 t2 t3
  have h2 : Trains c s t2 :=
    (((h.put (trainFld_cfg rfl rfl) _).put (trainFld_cfg rfl rfl) _).put (trainFld_cfg rfl rfl) _).put (trainFld_cfg rfl rfl) _
  have h3 : Trains c s t3 := by
    unfold t3
    split
    · exact h2.put (trainFld_cfg rfl rfl) _
    · exact h2
  split
  · exact h
  split
  · exact h3.put (trainFld_cfg rfl rfl) _
  · exact h3

theorem Trains.lockCfg (h : Trains c s t) (same : Bool) (maxFrames rated : Nat) :
    Trains c s (lockCfg c same maxFrames rated t) := by
  unfold Machine.lockCfg
  extract_lets locked t1
  have h1 : Trains c s t1 := (h.put (f := F.DC_CFG.LOCK c) (trainFld_cfg rfl rfl) 1).updChan _
  split
  · exact h
  split
  · exact h1
  · exact (h1.put (f := F.DC_CFG.CFG_ERR c) (trainFld_cfg rfl rfl) 1).quiet (quiet_log (.refl _) _ _ _ _)

theorem trains_startTraining (c : Nat) (s : State) : Trains c s (startTraining c s) := by
  unfold startTraining
  extract_lets b locked t1 t2 t3
  have h1 : Trains c s t1 := (Trains.refl s).updChan _
  have h2 : Trains c s t2 := by
    unfold t2
    split
    · exact h1
    · exact (h1.cfgFields _).timingFields _ _
  have h3 : Trains c s t3 := h2.lockCfg _ _ _
  split
  · exact h1
  split
  · exact h3
  · exact h3.updChan _

/-! ### The return of a channel -/

theorem reportReg_cfg (hc : c < 16) : reportReg (0x200000 + 0x10000 * c) = false := by
  simp only [reportReg, Bool.or_eq_false_iff, decide_eq_false_iff_not]; omega

theorem reportReg_pool (hc : c < 16) : reportReg (0x130100 + 0x10 * c) = false := by
  simp only [reportReg, Bool.or_eq_false_iff, decide_eq_false_iff_not]; omega

/-- R101, R296: a channel that starts its return is out of service, with its zero-initialisation due and EVAC 3; no stored line, frame
or other channel changes. -/
theorem startReturn_leaves (hc : c < 16) (s : State) :
    (startReturn c s).get (F.TIER_POOL_STATUS.EVAC c) = 3 ∧ (startReturn c s).get (F.DC_CFG.ZEROED c) = 0 ∧
    (startReturn c s).get (F.DC_CFG.ENABLE c) = 0 ∧ (startReturn c s).dram = s.dram ∧ (startReturn c s).frames = s.frames ∧
    (∀ x, x ≠ c → (startReturn c s).chans.get x = s.chans.get x) := by
  have trains := trains_startTraining c
    (((s.put (F.DC_CFG.ENABLE c) 0).put (F.DC_CFG.ZEROED c) 0).put (F.TIER_POOL_STATUS.EVAC c) 3)
  rw [← startReturn] at trains
  have evac : ∀ f : Fld, f.addr = 0x200000 + 0x10000 * c → f.lo < 64 → f.key ≠ (F.TIER_POOL_STATUS.EVAC c).key :=
    fun f ha hf => Fld.key_ne_of_addr (by rw [ha]; simp only [F.TIER_POOL_STATUS.EVAC]; omega) (by simp [F.TIER_POOL_STATUS.EVAC]) hf
  refine ⟨?_, ?_, ?_, by rw [trains.rest]; rfl, by rw [trains.rest]; rfl, fun x hx => trains.chans x hx⟩
  · rw [trains.get _ (by simp [F.TIER_POOL_STATUS.EVAC]) (reportReg_pool hc)
      (by simp only [TrainFld, F.TIER_POOL_STATUS.EVAC]; omega)]
    exact State.get_put_same _ _ _
  · rw [trains.get _ (by simp [F.DC_CFG.ZEROED]) (reportReg_cfg hc) (by simp [TrainFld, F.DC_CFG.ZEROED]),
      State.get_put_ne (evac _ rfl (by simp [F.DC_CFG.ZEROED]))]
    exact State.get_put_same _ _ _
  · rw [trains.get _ (by simp [F.DC_CFG.ENABLE]) (reportReg_cfg hc) (by simp [TrainFld, F.DC_CFG.ENABLE]),
      State.get_put_ne (evac _ rfl (by simp [F.DC_CFG.ENABLE])),
      State.get_put_ne (by simp only [Fld.key, F.DC_CFG.ENABLE, F.DC_CFG.ZEROED]; omega)]
    exact State.get_put_same _ _ _

/-! ### Commands that are carried out -/

theorem Packet.par_lt (p : Packet) (lo w : Nat) : p.par lo w < 2 ^ w := Nat.mod_lt _ (Nat.two_pow_pos w)

/-- A bit of PARAM that a row gives reads so. -/
theorem par_withPar_bit (p : Packet) (on : Bool) : (p.withPar 0 1 (bit on)).par 0 1 = bit on := by
  have hb : bit on < 2 := by cases on <;> decide
  simp only [Packet.par, Packet.withPar, slice, setSlice, BitVec.toNat_ofNat]
  omega

@[simp] theorem startLong_fst (p : Packet) (o a : Nat) (s : State) : (startLong p o a s).1 = { status := 1 } := rfl
@[simp] theorem startLong_get (p : Packet) (o a : Nat) (s : State) (f : Fld) : (startLong p o a s).2.get f = s.get f := rfl
@[simp] theorem startLong_dram (p : Packet) (o a : Nat) (s : State) : (startLong p o a s).2.dram = s.dram := rfl
@[simp] theorem startLong_frames (p : Packet) (o a : Nat) (s : State) : (startLong p o a s).2.frames = s.frames := rfl
@[simp] theorem startLong_chans (p : Packet) (o a : Nat) (s : State) : (startLong p o a s).2.chans = s.chans := rfl

/-- R93, R482: TIER_PIN and TIER_UNPIN run over the pages of a range that they accept. -/
theorem tierPin_pins {p : Packet} {on : Bool} {base n w first : Nat} (which : p.par 0 1 = bit on) (length : p.length = 16)
    (hbase : fieldLE p.bytes 0 8 = base) (hn : fieldLE p.bytes 8 8 = n) (hw : (if s.inClutch then 2 ^ 45 else 2 ^ 51) = w)
    (hfirst : pageOf (homeAddr s base) = first) (aligned : base % 4096 = 0) (range : base < 2 ^ 51) (pages : n ≠ 0)
    (window : base % w + n * 4096 ≤ w)
    (allocated : ∀ r, regionOf first ≤ r → r ≤ regionOf (first + n - 1) → (s.region r).state = 1)
    (budget : on = true → 2 * (s.tier.pinned.length + n) ≤ t0Budget s) :
    tierPin p s = ({}, poolChanged (forAll (List.range n) (fun i s => pinPage on (first + i) s) s)) := by
  have found : ((List.range (regionOf (first + n - 1) + 1)).filter (fun r => decide (regionOf first ≤ r))).find?
      (fun r => (s.region r).state != 1) = none := by
    refine List.find?_eq_none.2 fun r hr => ?_
    obtain ⟨upper, lower⟩ := List.mem_filter.1 hr
    simp [allocated r (of_decide_eq_true lower) (Nat.le_of_lt_succ (List.mem_range.1 upper))]
  have room : ¬(bit on = 1 ∧ t0Budget s < 2 * (s.tier.pinned.length +
      (n - (s.tier.pinned.filter (fun x => decide (first ≤ x) && decide (x < first + n))).length))) := by
    rintro ⟨hon, short⟩
    have := budget (by cases on <;> simp_all [bit])
    omega
  have whichBit : (bit on == 1) = on := by cases on <;> rfl
  unfold tierPin
  simp only [hbase, hn, hw, hfirst, found, which, whichBit, room, length, ne_eq, not_true_eq_false, if_false,
    aligned, false_or, pages, Nat.not_le.2 range, Nat.not_lt.2 window]
  rfl

/-- R99, R100: CHANNEL_EVACUATE of a channel that may be evacuated starts the evacuation. -/
theorem channelEvacuate_starts {p : Packet} (fresh : longRuns s p (p.par 0 4) = false)
    (free : channelHeld s 0x0302 (p.par 0 4) = false) (own : s.get (F.TIER_POOL_STATUS.EVAC (p.par 0 4)) = 0)
    (other : s.get (F.TIER_POOL_STATUS.EVAC (partner (p.par 0 4))) = 0) (room : evacAllowed s (p.par 0 4) = true) :
    channelEvacuate p s = let e := startEvacuation (p.par 0 4) s
      startLong p (p.par 0 4) 0 (if isHead e && 0 < heldSlots e then recallAll (ownPath e) e else e) := by
  simp [channelEvacuate, fresh, free, own, other, room]

/-- R101, R425, R426: CHANNEL_RETURN of an evacuated channel whose modules are the same and sound starts the return. -/
theorem channelReturn_starts {p : Packet} (fresh : longRuns s p (p.par 0 4) = false)
    (free : channelHeld s 0x0303 (p.par 0 4) = false) (evacuated : s.get (F.TIER_POOL_STATUS.EVAC (p.par 0 4)) = 2)
    (same : (s.spw.get (p.par 0 4)).samePart = true) (sound : s.flag (F.SPW_SLOT_STATUS.SPD_ERR (p.par 0 4)) = false) :
    channelReturn p s = startLong p (p.par 0 4) 0 (startReturn (p.par 0 4) s) := by
  simp [channelReturn, fresh, free, evacuated, same, sound]

end

end Sys2Proof.Machine

open Sys2Proof Sys2Proof.Machine in
/-- Settles O32: each command by what it does once its conditions hold; that training leaves what a return has written is
`startReturn_leaves`. -/
theorem tierPinRows : Obligations.TierPinRows := by
  refine ⟨fun on => ?_, ?_, ?_⟩
  · refine rowAnswers_of 0x0301 tierPin (q := fun p => p.withPar 0 1 (bit on)) ?_ (fun _ => rfl) ?_
    · cases on
      · exact fun _ _ => rfl
      · exact fun _ _ => rfl
    · rintro p u ⟨length, aligned, range, pages, window, allocated, budget⟩
      rw [tierPin_pins (p := opForm 0x0301 (p.withPar 0 1 (bit on))) (par_withPar_bit p on) length rfl rfl rfl rfl aligned range pages
        window allocated budget]
      exact ⟨rfl, rfl⟩
  · refine rowAnswers_of 0x0302 channelEvacuate (q := id) (fun _ _ => rfl) (fun _ => rfl) ?_
    rintro p u ⟨fresh, free, own, other, room⟩
    rw [channelEvacuate_starts fresh free own other room]
    exact ⟨rfl, rfl⟩
  · refine rowAnswers_of 0x0303 channelReturn (q := id) (fun _ _ => rfl) (fun _ => rfl) ?_
    rintro p u ⟨fresh, free, evacuated, same, sound⟩
    rw [channelReturn_starts fresh free evacuated same sound]
    simpa using startReturn_leaves (Packet.par_lt _ 0 4) u
end

section
/-!
REGION_ALLOC (R72 to R74, R150). What the command does is proved of every state whose almanac lists ways of the 16 slices alone
(`regionAlloc_allocates`), the only ways that R193 gives it; the statement asks it of every state. Where the almanac lists a way of a
slice beyond them, that slice's count of entries lies in another block's register, and freeing the way writes there.
-/

namespace Sys2Proof.Machine

section
variable {cls k lo hi n r : Nat} {p : Packet} {s t u : State}

/-! ### What the parts of an allocation leave as it is -/

theorem joinWait_rest (m : Nat) (s : State) : joinWait m s = { s with masters := (joinWait m s).masters } := by
  unfold joinWait
  split
  · rfl
  split
  · rfl
  · rfl

/-- R301: a charge changes the masters alone. -/
theorem chargeInternal_rest (m n : Nat) (s : State) :
    chargeInternal m n s = { s with masters := (chargeInternal m n s).masters } := by
  unfold chargeInternal
  split
  · rfl
  · dsimp only
    rw [joinWait_rest]

/-- R72, R300: the write of a descriptor changes the region table and the charge for it. -/
theorem writeRegion_rest (s : State) (r : Nat) (f : Region → Region) :
    s.writeRegion r f = { s with regions := s.regions.upd r f, masters := (s.writeRegion r f).masters } :=
  chargeInternal_rest _ _ _

/-- R193: every way that the almanac lists is of one of the 16 slices. -/
def WaysInSlices (s : State) : Prop := ∀ c ∈ s.almanac.cells, c.1 < 2 ^ 22

/-- R196: ways that leave the almanac change it and their slices' counts, and nothing else. -/
structure FreesWays (s t : State) : Prop where
  rest : t = { s with regs := t.regs, almanac := t.almanac }
  ways : ∀ c ∈ t.almanac.cells, c ∈ s.almanac.cells

theorem FreesWays.trans (h : FreesWays s t) (k : FreesWays t u) : FreesWays s u := by
  refine ⟨?_, fun c hc => h.ways c (k.ways c hc)⟩
  have hu := k.rest
  rw [h.rest] at hu
  exact hu

theorem freesWays_almFree (k : Nat) (s : State) : FreesWays s (almFree k s) := by
  unfold almFree
  extract_lets sl s1
  have h1 : s1.almanac = s.almanac ∧ s1 = { s with regs := s1.regs } := by
    unfold s1
    split
    · exact ⟨rfl, rfl⟩
    · exact ⟨rfl, rfl⟩
  refine ⟨by rw [h1.2], fun c hc => ?_⟩
  rw [h1.1] at hc
  exact (List.mem_filter.1 (show c ∈ cellErase k s.almanac.cells from hc)).1

theorem freesWays_dropAlmanac (region : Nat) (s : State) : FreesWays s (dropAlmanac region s) := by
  have all {l : List (Nat × AlmEnt)} {t : State} (h : FreesWays s t) : FreesWays s (forAll l (fun c s => almFree c.1 s) t) := by
    induction l generalizing t with
    | nil => exact h
    | cons c l ih => exact ih (h.trans (freesWays_almFree c.1 t))
  exact all ⟨rfl, fun _ => id⟩

/-- The registers of the clutch, CLU_CFG and CLU_STATUS among them, read in `t` what they read in `s`. -/
def SameClutch (s t : State) : Prop :=
  t.clu = s.clu ∧ ∀ f : Fld, 0x170000 ≤ f.addr → f.lo < 64 → t.get f = s.get f

theorem SameClutch.trans (h : SameClutch s t) (j : SameClutch t u) : SameClutch s u :=
  ⟨j.1.trans h.1, fun f ha hf => (j.2 f ha hf).trans (h.2 f ha hf)⟩

theorem SameClutch.of_regs (clu : t.clu = s.clu) (regs : t.regs = s.regs) : SameClutch s t :=
  ⟨clu, fun f _ _ => by rw [State.get, State.get, regs]⟩

theorem SameClutch.ownPath (h : SameClutch s t) : ownPath t = ownPath s := by
  obtain ⟨clu, get⟩ := h
  have inClutch : t.inClutch = s.inClutch := by
    rw [State.inClutch, State.inClutch, State.flag, State.flag, clu, get F.CLU_CFG.DEPTH (by decide) (by decide),
      get F.CLU_STATUS.CFG_ERR (by decide) (by decide), get F.CLU_STATUS.STATE (by decide) (by decide)]
  rw [Machine.ownPath, Machine.ownPath, State.path, State.path, inClutch, get F.CLU_CFG.PATH (by decide) (by decide)]

/-- The count of a slice's entries lies below the clutch's registers, for each of the 16 slices. -/
theorem sameClutch_almFree (hk : k < 2 ^ 22) (s : State) : SameClutch s (almFree k s) := by
  unfold almFree
  extract_lets sl s1
  have h1 : SameClutch s s1 := by
    unfold s1
    split
    · refine ⟨rfl, fun f ha hf => State.get_put_ne (Fld.key_ne_of_addr ?_ ?_ hf) _ _⟩
      · have : f.addr ≠ 0x120800 + 0x10 * sl := by omega
        exact this
      · exact Nat.zero_lt_succ _
    · exact .of_regs rfl rfl
  exact h1.trans (.of_regs rfl rfl)

theorem sameClutch_dropAlmanac (hs : WaysInSlices s) (region : Nat) : SameClutch s (dropAlmanac region s) := by
  have all {l : List (Nat × AlmEnt)} {t : State} (hl : ∀ c ∈ l, c.1 < 2 ^ 22) (h : SameClutch s t) :
      SameClutch s (forAll l (fun c s => almFree c.1 s) t) := by
    induction l generalizing t with
    | nil => exact h
    | cons c l ih =>
      exact ih (fun d hd => hl d (List.mem_cons_of_mem _ hd)) (h.trans (sameClutch_almFree (hl c List.mem_cons_self) t))
  exact all (fun c hc => hs c (List.mem_filter.1 hc).1) (.of_regs rfl rfl)

/-! ### Allocated regions -/

/-- R72, R150: region `b` is region `a` allocated: of class `cls` under key `k`, with its GEN kept and no walk. -/
def Allocated (cls k : Nat) (a b : Region) : Prop :=
  b.state = 1 ∧ b.cls = cls ∧ b.key = k ∧ b.gen = a.gen ∧ b.walk = false

/-- `t` is `s` with the regions from `lo` to below `hi` allocated. -/
structure Allocates (cls k lo hi : Nat) (s t : State) : Prop where
  inside : ∀ x, lo ≤ x → x < hi → Allocated cls k (s.region x) (t.region x)
  outside : ∀ x, x < lo ∨ hi ≤ x → t.region x = s.region x
  frames : t.frames = s.frames
  dram : cls ≠ 1 → t.dram = s.dram
  ways : WaysInSlices s → WaysInSlices t
  clutch : WaysInSlices s → SameClutch s t

theorem Allocates.trans (h : Allocates cls k lo r s t) (j : Allocates cls k r hi t u) (hlo : lo ≤ r) (hhi : r ≤ hi) :
    Allocates cls k lo hi s u := by
  refine ⟨fun x hx hy => ?_, fun x hx => ?_, j.frames.trans h.frames, fun hc => (j.dram hc).trans (h.dram hc),
    fun hs => j.ways (h.ways hs), fun hs => (h.clutch hs).trans (j.clutch (h.ways hs))⟩
  · rcases Nat.lt_or_ge x r with hr | hr
    · rw [j.outside x (.inl hr)]
      exact h.inside x hx hr
    · have here := j.inside x hr hy
      rwa [h.outside x (.inr hr)] at here
  · rw [j.outside x (by omega), h.outside x (by omega)]

/-- R196: what the zeroing of a directory slot leaves as it is. -/
theorem clearDirectory_leaves (region d : Nat) (s : State) :
    (clearDirectory region d s).regions = s.regions ∧ (clearDirectory region d s).frames = s.frames ∧
    (WaysInSlices s → WaysInSlices (clearDirectory region d s) ∧ SameClutch s (clearDirectory region d s)) := by
  have frees := freesWays_dropAlmanac region s
  unfold clearDirectory
  extract_lets ofSlot other s1
  have h1 : s1 = { dropAlmanac region s with masters := s1.masters } := chargeInternal_rest _ _ _
  clear_value s1
  have regions : s1.regions = s.regions := by rw [h1, frees.rest]
  have frames : s1.frames = s.frames := by rw [h1, frees.rest]
  have almanac : s1.almanac = (dropAlmanac region s).almanac := by rw [h1]
  refine ⟨regions, frames, fun hs => ⟨fun c hc => hs c (frees.ways c (almanac ▸ hc)), ?_⟩⟩
  have charged : SameClutch (dropAlmanac region s) s1 := .of_regs (by rw [h1]) (by rw [h1])
  exact ((sameClutch_dropAlmanac hs region).trans charged).trans (.of_regs rfl rfl)

/-- R72, R150: two writes of a region's descriptor that leave it allocated. -/
theorem allocates_writes {f g : Region → Region} (h : Allocated cls k (s.region r) (g (f (s.region r)))) :
    Allocates cls k r (r + 1) s ((s.writeRegion r f).writeRegion r g) := by
  have regions : ((s.writeRegion r f).writeRegion r g).regions = (s.regions.upd r f).upd r g := by
    rw [writeRegion_rest, writeRegion_rest]
  refine ⟨fun x hx hy => ?_, fun x hx => ?_, ?_, fun _ => ?_, fun hs => ?_, fun _ => .of_regs ?_ ?_⟩
  · obtain rfl : x = r := by omega
    rwa [State.region, State.region, regions, Tab.get_upd_same, Tab.get_upd_same]
  · rw [State.region, State.region, regions, Tab.get_upd_other (by omega), Tab.get_upd_other (by omega)]
  all_goals rw [writeRegion_rest, writeRegion_rest]
  exact hs

theorem Allocates.clearDirectory (h : Allocates 1 k lo hi s t) (region d : Nat) :
    Allocates 1 k lo hi s (clearDirectory region d t) := by
  obtain ⟨regions, frames, rest⟩ := clearDirectory_leaves region d t
  have same : ∀ x, (Machine.clearDirectory region d t).region x = t.region x := fun x => congrArg (·.get x) regions
  refine ⟨fun x hx hy => ?_, fun x hx => ?_, frames.trans h.frames, fun hc => absurd rfl hc, fun hs => (rest (h.ways hs)).1,
    fun hs => (h.clutch hs).trans (rest (h.ways hs)).2⟩
  · rw [same]
    exact h.inside x hx hy
  · rw [same]
    exact h.outside x hx

/-- R72 to R74, R150: a region is allocated under a key, and given its class. -/
theorem allocates_one (cls k r : Nat) (s : State) :
    Allocates cls k r (r + 1) s (setClass r cls (s.writeRegion r (fun d => { state := 1, key := k, gen := d.gen }))) := by
  unfold setClass
  extract_lets d t
  have written : Allocates cls k r (r + 1) s t := allocates_writes ⟨rfl, rfl, rfl, rfl, rfl⟩
  split
  next shared =>
    subst shared
    exact written.clearDirectory r d
  next => exact written

theorem allocates_run (cls k r n : Nat) (s : State) :
    Allocates cls k r (r + n) s (forAll (List.range n)
      (fun i s => setClass (r + i) cls (s.writeRegion (r + i) (fun d => { state := 1, key := k, gen := d.gen }))) s) := by
  induction n with
  | zero => exact ⟨fun x hx hy => absurd hy (by omega), fun _ _ => rfl, rfl, fun _ => rfl, id, fun _ => .of_regs rfl rfl⟩
  | succ n ih =>
    rw [List.range_succ, forAll, List.foldl_append]
    exact ih.trans (allocates_one cls k (r + n) _) (by omega) (by omega)

/-! ### The command -/

theorem settleKey_leaves (k : Nat) (s : State) :
    (settleKey k s).regions = s.regions ∧ (settleKey k s).frames = s.frames ∧ (settleKey k s).dram = s.dram := by
  unfold settleKey
  split
  · exact ⟨log_regions _ _ _ _ _, log_frames _ _ _ _ _, log_dram _ _ _ _ _⟩
  · exact ⟨rfl, rfl, rfl⟩

theorem recountKeys_leaves (s : State) :
    (recountKeys s).regions = s.regions ∧ (recountKeys s).frames = s.frames ∧ (recountKeys s).dram = s.dram := by
  unfold recountKeys
  generalize List.range 64 = l
  induction l generalizing s with
  | nil => exact ⟨rfl, rfl, rfl⟩
  | cons k l ih =>
    obtain ⟨regions, frames, dram⟩ := ih (settleKey k (s.put (F.CRY_KEY_STATUS.REGIONS k) (regionsUnder s k).length))
    obtain ⟨regions', frames', dram'⟩ := settleKey_leaves k (s.put (F.CRY_KEY_STATUS.REGIONS k) (regionsUnder s k).length)
    exact ⟨regions.trans regions', frames.trans frames', dram.trans dram'⟩

/-- R72 to R74, R150: what REGION_ALLOC does with the first run that fits, where the almanac lists ways of the 16 slices alone. -/
theorem regionAlloc_allocates (hs : WaysInSlices s) (cls : p.par 0 2 ≠ 3) (nonempty : p.par 8 16 ≠ 0)
    (active : keyState s (p.par 2 6) = 1) (room : p.par 0 2 = 1 → p.par 8 16 ≤ (slotsFree s).length)
    (first : (List.range s.presented).find? (fun r => runFree s r (p.par 8 16)) = some r) :
    (regionAlloc p s).1 = { result := r + ownPath s * 2 ^ 16 } ∧
    (∀ i < p.par 8 16, Allocated (p.par 0 2) (p.par 2 6) (s.region (r + i)) ((regionAlloc p s).2.region (r + i))) ∧
    (∀ x, x < r ∨ r + p.par 8 16 ≤ x → (regionAlloc p s).2.region x = s.region x) ∧
    (regionAlloc p s).2.frames = s.frames ∧ (p.par 0 2 ≠ 1 → (regionAlloc p s).2.dram = s.dram) := by
  have run := allocates_run (p.par 0 2) (p.par 2 6) r (p.par 8 16) s
  have full : ¬(p.par 0 2 = 1 ∧ (slotsFree s).length < p.par 8 16) := fun h => absurd (room h.1) (Nat.not_le.2 h.2)
  simp only [regionAlloc, cls, nonempty, active, full, first, if_false, not_true_eq_false, ne_eq]
  generalize forAll _ _ _ = t at run
  obtain ⟨regions, frames, dram⟩ := recountKeys_leaves t
  have region : ∀ x, (recountKeys t).region x = t.region x := fun x => by rw [State.region, regions, State.region]
  refine ⟨by rw [(run.clutch hs).ownPath], fun i hi => ?_, fun x hx => ?_, frames.trans run.frames, fun hc => dram.trans (run.dram hc)⟩
  · rw [region]
    exact run.inside _ (by omega) (by omega)
  · rw [region, run.outside x hx]

end

/-! ### The answer that the sideband sees -/

section
variable {p : Packet} {v w : Verdict} {s t : State}

/-- R315, R316: the reply of a command of the sideband, whose tag is outstanding, leaves the device. -/
theorem answer_sideband_sent (path : p.path = .sideband) (heard : p.muted = false) (now : v.later = false) (held : tagHeld p t = true) :
    (answer p v t).out = t.out ++ [.reply .sideband p.opcode.toNat p.tag.toNat v.status v.det v.result
      (v.payload.map (BitVec.ofNat 8))] ∧ (answer p v t).mgt.discarded = t.mgt.discarded := by
  have kept : t.mgt.tags.contains (packetKey p, p.tag.toNat) = true := held
  simp only [answer, now, Bool.false_eq_true, if_false, reply, heard, Bool.false_or, kept, Bool.not_true, path, sendOn]
  split
  · exact ⟨rfl, rfl⟩
  · exact ⟨rfl, rfl⟩

/-- R329: a reply whose tag is not outstanding is discarded. -/
theorem answer_discarded (now : v.later = false) (gone : tagHeld p t = false) :
    (answer p v t).mgt.discarded = t.mgt.discarded ++ [(packetKey p, p.tag.toNat)] := by
  have gone : t.mgt.tags.contains (packetKey p, p.tag.toNat) = false := gone
  simp only [answer, now, Bool.false_eq_true, if_false, reply, gone, Bool.not_false, Bool.or_true, if_true, discardReply]

/-- R316: what a command of the sideband has been answered shows its result. -/
theorem result_of_answer_eq (path : p.path = .sideband) (heard : p.muted = false) (hv : v.later = false) (hw : w.later = false)
    (held : tagHeld p s = true) (clean : s.mgt.discarded = []) (h : answer p v s = answer p w t) : w.result = v.result := by
  obtain ⟨sent, discarded⟩ := answer_sideband_sent path heard hv held
  rw [h, clean] at discarded
  cases ht : tagHeld p t with
  | false =>
    rw [answer_discarded hw ht] at discarded
    simp at discarded
  | true =>
    rw [h, (answer_sideband_sent path heard hw ht).1] at sent
    have last := congrArg List.getLast? sent
    simp only [List.getLast?_concat, Option.some.injEq, Out.reply.injEq] at last
    exact last.2.2.2.2.2.1

end

/-- A device whose one region is FREE, the member at path 5 of a clutch, with a way of a slice 0x4F80 in its almanac: the count of that
slice's entries would lie at 0x120800 + 0x10 * 0x4F80, where CLU_CFG.PATH lies. -/
def strayWay : State :=
  forAll [(F.TIER_CAP_CFG.PRESENTED_REGIONS, 1), (F.TIER_CAP_CFG.SHARED_REGIONS, 1), (F.CRY_KEY_STATUS.STATE 0, 1),
    (F.CLU_CFG.DEPTH, 1), (F.CLU_CFG.PATH, 5)] (fun x s => s.put x.1 x.2)
    { almanac := ⟨[(0x4F80 * 2 ^ 18, { valid := true })]⟩, sec := { running := true } }

/-- REGION_ALLOC of one shared region under key 0, from the sideband. -/
def allocShared : Packet :=
  { path := .sideband, cls := none, slot := 0, secured := false, opcode := 0x0201, tag := 1, flags := 0, length := 0
    param := 0x101, payload := [] }

theorem packetRuns_strayWay : PacketRuns strayWay (opForm 0x0201 allocShared) where
  now := by decide +kernel
  fresh := by decide +kernel
  header := by decide +kernel
  here := by decide +kernel
  checks := by decide +kernel
  own := by decide +kernel

end Sys2Proof.Machine

open Sys2Proof Sys2Proof.Machine in
/-- Refutes O29: the zeroing of the shared region's directory slot frees the way of `strayWay`, which takes CLU_CFG.PATH from 5 to 4
before the result is formed, so that the reply names member 4 and not the member 5 in whose state the command was decided. -/
theorem not_regionAllocRow : ¬Obligations.RegionAllocRow := by
  intro h
  obtain ⟨v, t, answered, r, first, rfl, -⟩ := h strayWay allocShared packetRuns_strayWay
    ⟨by decide +kernel, by decide +kernel, by decide +kernel, by decide +kernel, 0, by decide +kernel⟩
  cases first.symm.trans (show _ = some 0 by decide +kernel)
  rw [exec_regionAlloc, execRegionAlloc, runCmd_runs 0x0201 regionAlloc packetRuns_strayWay] at answered
  have same := result_of_answer_eq rfl rfl (by decide +kernel) rfl (by decide +kernel) (by decide +kernel)
    (Host.Outcome.next.inj answered)
  exact absurd same (by decide +kernel)
end

section
/-!
The tokens of an AQZ body (R117 to R122): a full decode never takes back what a token has put out.
-/

namespace Sys2Proof.Machine

section
variable {pad rest rest' out o xs : List Nat} {fuel c p : Nat} {t : AqzTok}

/-! ### What a token puts out -/

theorem aqzZeros_eq (n : Nat) (out : List Nat) : aqzZeros n out = List.replicate n 0 ++ out := by
  induction n generalizing out with
  | zero => rfl
  | succ n ih => rw [aqzZeros, ih, List.replicate_succ', List.append_assoc, List.singleton_append]

theorem suffix_aqzCopy (d n : Nat) (out : List Nat) : out <:+ aqzCopy d n out := by
  induction n generalizing out with
  | zero => exact List.suffix_rfl
  | succ n ih => exact (List.suffix_cons _ _).trans (ih _)

/-- R118 to R120: a token leaves what was produced before it in place. -/
theorem AqzTok.suffix_emit (t : AqzTok) (out : List Nat) : out <:+ t.emit out := by
  cases t with
  | lit bytes => exact List.suffix_append _ _
  | copy len dist => exact suffix_aqzCopy dist len out
  | zero len =>
    rw [AqzTok.emit, aqzZeros_eq]
    exact List.suffix_append _ _

/-! ### Control bytes -/

/-- R117, R120: a control byte of 0xE0 to 0xE3 begins a ZERO token. -/
theorem aqzToken_zero (low : 0xE0 ≤ c) (high : c ≤ 0xE3) (b : Nat) (rest : List Nat) :
    aqzToken c (b :: rest) = .ok (.zero (slice c 0 2 * 256 + b + 1), rest) := by
  have range : (decide (0xE0 ≤ c) && decide (c ≤ 0xE3)) = true := by simp [low, high]
  rw [aqzToken, if_neg (by omega), if_neg (by omega), if_neg (by omega), if_pos range]

/-- R117, R118: a control byte below 0x80 begins a LIT token of as many bytes of the body, which the body must hold. -/
theorem aqzToken_lit (h : c < 0x80) (rest : List Nat) :
    aqzToken c rest = if rest.length < c + 1 then .error 0x4 else .ok (.lit (rest.take (c + 1)), rest.drop (c + 1)) := by
  unfold aqzToken
  rw [if_pos h]

/-! ### A full decode that succeeds -/

/-- R122: a full decode that succeeds ends at this control byte with the bytes produced so far, or goes on behind its token. -/
theorem aqzBody_cons_ok (ok : aqzBody none pad (fuel + 1) (c :: rest) p out = .ok o) :
    (c = 0xFC ∧ o = out.reverse) ∨
      ∃ t rest', aqzToken c rest = .ok (t, rest') ∧ aqzBody none pad fuel rest' (p + t.len) (t.emit out) = .ok o := by
  rw [aqzBody] at ok
  by_cases fin : c = 0xFC
  · rw [if_pos fin] at ok
    split at ok
    · split at ok
      · exact .inl ⟨fin, (Except.ok.inj ok).symm⟩
      · cases ok
    · cases ok
  · rw [if_neg fin] at ok
    split at ok
    · cases ok
    next t rest' tok =>
      split_ifs at ok
      exact .inr ⟨t, rest', tok, ok⟩

/-- A full decode that succeeds answers the bytes produced so far and what it adds to them. -/
theorem prefix_of_aqzBody_ok (ok : aqzBody none pad fuel rest p out = .ok o) : out.reverse <+: o := by
  induction fuel generalizing rest p out with
  | zero => cases ok
  | succ fuel ih =>
    cases rest with
    | nil => cases ok
    | cons c rest =>
      obtain ⟨-, rfl⟩ | ⟨t, rest', -, next⟩ := aqzBody_cons_ok ok
      · exact List.prefix_rfl
      · exact (List.reverse_prefix.2 (t.suffix_emit out)).trans (ih next)

/-- What the token at a control byte puts out stands at the start of what a full decode that succeeds answers. -/
theorem prefix_emit_of_aqzBody_ok (more : c ≠ 0xFC) (tok : aqzToken c rest = .ok (t, rest'))
    (ok : aqzBody none pad (fuel + 1) (c :: rest) p out = .ok o) : (t.emit out).reverse <+: o := by
  obtain ⟨fin, -⟩ | ⟨t', r, tok', next⟩ := aqzBody_cons_ok ok
  · exact absurd fin more
  · cases tok.symm.trans tok'
    exact prefix_of_aqzBody_ok next

/-- The bytes put out behind `out` stand at the output positions from `out.length` on. -/
theorem getElem?_of_prefix (h : out.reverse ++ xs <+: o) {i : Nat} (hi : i < xs.length) : o[out.length + i]? = xs[i]? := by
  obtain ⟨tail, rfl⟩ := h
  rw [List.append_assoc, ← List.length_reverse, List.getElem?_append_right (Nat.le_add_right _ _), Nat.add_sub_cancel_left,
    List.getElem?_append_left hi]

/-- R120: a ZERO token whose output stays within the segment is taken at any output position. -/
theorem aqzBody_zero (low : 0xE0 ≤ c) (high : c ≤ 0xE3) (b : Nat) (fits : p + (slice c 0 2 * 256 + b + 1) ≤ 1024) :
    aqzBody none pad (fuel + 1) (c :: b :: rest) p out = aqzBody none pad fuel rest (p + (slice c 0 2 * 256 + b + 1))
      (List.replicate (slice c 0 2 * 256 + b + 1) 0 ++ out) := by
  rw [aqzBody, if_neg (by omega), aqzToken_zero low high]
  simp only [AqzTok.len, if_neg (Nat.not_lt.2 fits), Bool.false_eq_true, if_false, AqzTok.emit, aqzZeros_eq]

end

end Sys2Proof.Machine

open Sys2Proof.Machine in
/-- Settles O53: the answer begins with what was produced up to a token and what the token puts out (`prefix_emit_of_aqzBody_ok`), by
`aqzToken_zero` for ZERO and by `aqzToken_lit` for LIT. -/
theorem aqzTokens : Obligations.AqzTokens := by
  refine ⟨fun pad rest out o fuel c b low high ok i hi => ?_, fun pad rest out o fuel c lit ok => ?_,
    fun pad rest out fuel c b low high fits => aqzBody_zero low high b fits, fun pad rest fuel c b low high fits => ?_⟩
  · have zeros := prefix_emit_of_aqzBody_ok (by omega) (aqzToken_zero low high b rest) ok
    rw [AqzTok.emit, aqzZeros_eq, List.reverse_append, List.reverse_replicate] at zeros
    rw [getElem?_of_prefix zeros (by simpa using hi), List.getElem?_replicate_of_lt hi]
  · obtain ⟨fin, -⟩ | ⟨t, rest', tok, -⟩ := aqzBody_cons_ok ok
    · omega
    have enough : c + 1 ≤ rest.length := by
      by_contra short
      rw [aqzToken_lit lit, if_pos (by omega)] at tok
      cases tok
    refine ⟨enough, fun i hi => ?_⟩
    have bytes := prefix_emit_of_aqzBody_ok (by omega) ((aqzToken_lit lit rest).trans (if_neg (by omega))) ok
    rw [AqzTok.emit, List.reverse_append, List.reverse_reverse] at bytes
    rw [getElem?_of_prefix bytes (by rw [List.length_take]; omega), List.getElem?_take_of_lt hi]
  · have row := aqzBody_zero (pad := pad) (rest := rest) (out := []) (fuel := fuel) (p := 0) low high b (by omega)
    rwa [Nat.zero_add, List.append_nil] at row
end

section
/-!
The rows of the compression engines (R134 to R136, R141 to R146): what each answers for the job, page or move that it finds.
-/

namespace Sys2Proof.Machine

section
variable {s : State} {enc : Fin 8} {dec : Fin 24} {lane : Fin 4} {e : EncJob} {d : DecJob} {k : Nat}

/-! ### Encoders -/

/-- The state in which an encoder has ended its job: it is idle, and shows no level. -/
def encoderFreed (n : Nat) (s : State) : State :=
  State.put { s with cmp := { s.cmp with encoders := s.cmp.encoders.filter (fun x => x.1 != n) } } (F.CMP_ENG_STATUS.LEVEL n) 0

/-- R136: the state in which an encoder's refused output is recorded, and the encoder failed if that was its fourth. -/
def encodeRefused (n : Nat) (e : EncJob) (f : BitVec 4) (s : State) : State :=
  failEngine n n (cmpErr f.toNat 4 n (ownerPlace (encoderFreed n s) e.owner).1 (ownerPlace (encoderFreed n s) e.owner).2
    (((encoderFreed n s).log 0x21 n 0 f.toNat).bump (F.CMP_ENG_STATUS.FAULTS n)))

/-- R136: a job is put at the front of its queue. -/
def queueFirst (e : EncJob) (s : State) : State :=
  if isMoverJob e.owner then { s with cmp := { s.cmp with moverQ := e :: s.cmp.moverQ } }
  else if isRecompJob s e.owner then { s with cmp := { s.cmp with recompQ := e :: s.cmp.recompQ } }
  else { s with cmp := { s.cmp with demoteQ := e :: s.cmp.demoteQ } }

/-- R136: its queue is that of its owner's kind. -/
theorem queueFirst_queues (e : EncJob) (s : State) :
    (isMoverJob e.owner = true → (queueFirst e s).cmp = { s.cmp with moverQ := e :: s.cmp.moverQ }) ∧
    (isMoverJob e.owner = false → isRecompJob s e.owner = true →
      (queueFirst e s).cmp = { s.cmp with recompQ := e :: s.cmp.recompQ }) ∧
    (isMoverJob e.owner = false → isRecompJob s e.owner = false →
      (queueFirst e s).cmp = { s.cmp with demoteQ := e :: s.cmp.demoteQ }) := by
  refine ⟨fun mover => ?_, fun other recomp => ?_, fun other demote => ?_⟩
  · rw [queueFirst, if_pos mover]
  · rw [queueFirst, if_neg (ne_true_of_eq_false other), if_pos recomp]
  · rw [queueFirst, if_neg (ne_true_of_eq_false other), if_neg (ne_true_of_eq_false demote)]

theorem queueFirst_rest (e : EncJob) (s : State) : queueFirst e s = { s with cmp := (queueFirst e s).cmp } := by
  unfold queueFirst
  split
  · rfl
  · split
    · rfl
    · rfl

/-- R134: an idle encoder in service takes the job picked for it: the job is listed at the encoder, with its level shown, and left out of
its queue. -/
theorem exec_encoderDispatch_picks (online : cmpState s enc = 0) (idle : ∀ x ∈ s.cmp.encoders, x.1 ≠ enc.val)
    (job : pickJob s enc = some e) :
    ∃ c, exec (.encoderDispatch enc) s = .next (State.put { s with cmp := c } (F.CMP_ENG_STATUS.LEVEL enc) e.level) ∧
      c.encoders = s.cmp.encoders ++ [(enc.val, e)] := by
  have free : ¬(cmpState s enc ≠ 0 ∨ s.cmp.encoders.any (fun x => x.1 == enc.val) = true) := by
    rw [List.any_eq_true]
    rintro (off | ⟨x, listed, same⟩)
    · exact off online
    · exact idle x listed (by simpa using same)
  rw [exec_encoderDispatch, execEncoderDispatch, if_neg free, job]
  refine ⟨_, rfl, ?_⟩
  dsimp only
  split
  · rfl
  · split
    · rfl
    · rfl

/-- R135: a finished encode's output goes to the job's owner. -/
theorem exec_encodeComplete_done (runs : s.cmp.encoders.find? (fun x => x.1 == enc.val) = some (enc.val, e)) :
    exec (.encodeComplete enc none) s = .next (deliverEncode e (aqzEncode e.input e.level)
      (if (aqzEncode e.input e.level).isNone then
        (((encoderFreed enc s).bump (F.CMP_ENG_STATUS.SEGMENTS enc)).count 0x501 enc).count 0x502 enc
      else ((encoderFreed enc s).bump (F.CMP_ENG_STATUS.SEGMENTS enc)).count 0x501 enc)) := by
  rw [exec_encodeComplete, execEncodeComplete, runs]
  rfl

/-- R136: a job whose output is refused a second time, or that no other encoder can run again, ends without an output. -/
theorem exec_encodeComplete_ends (f : BitVec 4) (runs : s.cmp.encoders.find? (fun x => x.1 == enc.val) = some (enc.val, e))
    (last : e.failedOn.isSome = true ∨ ∀ x ∈ encodersOnline (encodeRefused enc e f s), x = enc.val) :
    exec (.encodeComplete enc (some f)) s = .next (deliverEncode e none (encodeRefused enc e f s)) := by
  have ends : ¬(e.failedOn.isNone && (encodersOnline (encodeRefused enc e f s)).any (fun x => x != enc.val)) = true := by
    rcases last with again | alone
    · simp [Option.isSome_iff_ne_none.1 again]
    · simpa using fun _ => alone
  rw [exec_encodeComplete, execEncodeComplete, runs]
  exact if_neg ends

/-- R136: a job whose output is refused for the first time goes to the front of its queue, barred from this encoder. -/
theorem exec_encodeComplete_again (f : BitVec 4) (runs : s.cmp.encoders.find? (fun x => x.1 == enc.val) = some (enc.val, e))
    (first : e.failedOn = none) (other : ∃ x ∈ encodersOnline (encodeRefused enc e f s), x ≠ enc.val) :
    exec (.encodeComplete enc (some f)) s =
      .next (queueFirst { e with failedOn := some enc.val } (encodeRefused enc e f s)) := by
  have again : (e.failedOn.isNone && (encodersOnline (encodeRefused enc e f s)).any (fun x => x != enc.val)) = true := by
    simpa [first] using other
  rw [exec_encodeComplete, execEncodeComplete, runs, queueFirst, apply_ite Host.Outcome.next, apply_ite Host.Outcome.next]
  exact if_pos again

/-! ### Decoders -/

/-- R145: the first job that a lane of its stop can take, partial jobs before full ones, moves to that lane; the jobs held for room go
on. -/
theorem exec_decoderDispatch_takes {t : State} (placed : placeDecodes s = t)
    (first : (t.cmp.waitDec.filter (fun j => !isFull j) ++ t.cmp.waitDec.filter isFull).find? (fun j => (stopLane t j).isSome) = some d)
    (takes : stopLane t d = some k) :
    exec .decoderDispatch s = .next (resumeHeld (placeDecodes { t with cmp := { t.cmp with
      waitDec := eraseFirst (fun x => x == d) t.cmp.waitDec, decoders := t.cmp.decoders ++ [(k, d)] } })) := by
  simp only [exec_decoderDispatch, execDecoderDispatch, placed, first, takes]

/-- R144: a decode whose bytes have come is counted, and its result goes to the job's owner. -/
theorem exec_decodeComplete_came {bytes : List Nat} {t : State}
    (runs : s.cmp.decoders.find? (fun x => x.1 == (dec.val + 8) * 4 + lane.val) = some (k, d)) (came : decodeInput s d = some bytes)
    (freed : { s with cmp := { s.cmp with decoders := s.cmp.decoders.filter (fun x => x.1 != k) } } = t) :
    exec (.decodeComplete dec lane) s = .next (settle (deliverDecode d (dec.val + 8) (ownerPath t d.owner)
      (aqzDecode bytes d.code d.want) ((t.bump (F.CMP_ENG_STATUS.SEGMENTS (dec.val + 8))).count 0x501 (dec.val + 8)))) := by
  simp only [exec_decodeComplete, execDecodeComplete, runs, came, freed]

/-- R146: the state in which the window of a lane has failed: the lane is free, and the fault is counted at its decoder. -/
def laneFailed (n k : Nat) (s : State) : State :=
  failEngine n (100 + k) (State.bump { s with cmp := { s.cmp with decoders := s.cmp.decoders.filter (fun x => x.1 != k) } }
    (F.CMP_ENG_STATUS.FAULTS n))

/-- R146: a job whose window fails for the first time goes to the front of the waiting jobs, barred from the lane; at the second failure
it ends with fault 0xF. -/
theorem exec_decoderParityError_runs {t : State}
    (runs : s.cmp.decoders.find? (fun x => x.1 == (dec.val + 8) * 4 + lane.val) = some (k, d))
    (failed : laneFailed (dec.val + 8) ((dec.val + 8) * 4 + lane.val) s = t) :
    exec (.decoderParityError dec lane) s =
      if d.failedLane.isNone then
        .next { t with cmp := { t.cmp with
          waitDec := { d with failedLane := some ((dec.val + 8) * 4 + lane.val) } :: t.cmp.waitDec } }
      else .next (settle (deliverDecode d (dec.val + 8) 5 (.error 0xF) t)) := by
  subst failed
  simp only [exec_decoderParityError, execDecoderParityError, runs, laneFailed]

/-! ### Recompression -/

/-- R141: the page that the next slice's queue offers is taken where its metadata came, and it is a cold T1 page that is not moving; one
whose major counter is full asks for a rekey instead. -/
theorem exec_recompressorDequeue_takes {sl : Nat} {p : Nat × Nat} {u v : State} (encodes : encNone s = false)
    (runs : s.stops 3 = false) (room : decodeHeld s true = false) (admitted : accessesIn s 64 = true)
    (slice : recompSlice s = some sl) (page : s.cmp.pages.find? (fun p => p.1 == sl) = some p)
    (turned : { s with cmp := { s.cmp with turn := (sl + 1) % 16 } } = u) (kept : pageRoom u p.2 = true)
    (came : pageFetch p.2 u = (true, v)) (tier : pageKind v p.2 = 2) (still : pageMoving v p.2 = false)
    (cold : effHeat v p.2 ≤ v.get F.TIER_POLICY.COLD) :
    exec .recompressorDequeue s =
      if majorFull v p.2 then .next (askRekey p.2 v)
      else .next (startRecompression p.2 (chargeInternal 64 (secStart (pageSecs v p.2) 4)
        { v with cmp := { v.cmp with pages := eraseFirst (fun x => x == p) v.cmp.pages } })) := by
  simp [exec_recompressorDequeue, execRecompressorDequeue, encodes, runs, room, admitted, slice, page, turned, kept, came, tier, still,
    cold]

end

end Sys2Proof.Machine

open Sys2Proof.Machine in
/-- Settles O17: each row by the job, page or move that it finds; a refused output and a window's parity error by whether the job has
failed before. -/
theorem compressionJobs : Obligations.CompressionJobs := by
  refine ⟨fun s e j online idle job => ?_, fun s e j runs => exec_encodeComplete_done runs, fun s e j f runs => ⟨fun last => ?_,
    fun first other => ?_⟩, fun s j k first takes => ?_, fun s e lane k j bytes runs came => ?_, fun s e lane k j runs first => ?_,
    fun s e lane k j runs again => ?_, fun s sl p encodes run room admitted slice page kept came tier still cold => ?_,
    fun s page m found kind late => ?_⟩
  · obtain ⟨c, row, listed⟩ := exec_encoderDispatch_picks online idle job
    exact ⟨_, row, listed, State.get_put_same _ _ _, rfl⟩
  · exact exec_encodeComplete_ends f runs last
  · exact ⟨_, exec_encodeComplete_again f runs first other, queueFirst_rest _ _,
      queueFirst_queues { j with failedOn := some e.val } (encodeRefused e j f s)⟩
  · exact exec_decoderDispatch_takes rfl first takes
  · exact exec_decodeComplete_came runs came rfl
  · rw [exec_decoderParityError_runs runs rfl, if_pos (by simp [first])]
    exact ⟨_, _, rfl, rfl⟩
  · rw [exec_decoderParityError_runs runs rfl, if_neg (by simp [Option.isSome_iff_ne_none.1 again])]
    rfl
  · rw [exec_recompressorDequeue_takes encodes run room admitted slice page rfl kept (Prod.ext came rfl) tier still cold]
    exact ⟨fun half => if_neg (ne_true_of_eq_false half), fun full => if_pos full⟩
  · rw [exec_recompressionTimeout, execRecompressionTimeout, found]
    exact if_pos ⟨kind, late⟩
end

section
/-!
The rows of leases, of the regulator's configuration and of the engines (R147, R148, R188, R189, R210, R211, R310): what each command
answers, and with which state, once its conditions hold.
-/

namespace Sys2Proof.Machine

section
variable {p : Packet} {s : State}

/-- A field of PARAM that a row gives reads so. -/
theorem par_withPar {lo w v : Nat} (inside : lo + w ≤ 64) (fits : v < 2 ^ w) (p : Packet) : (p.withPar lo w v).par lo w = v := by
  have whole : 2 ^ (lo + w) = 2 ^ w * 2 ^ lo := by rw [Nat.pow_add, Nat.mul_comm]
  have word : 2 ^ 64 = 2 ^ lo * 2 ^ w * 2 ^ (64 - (lo + w)) := by rw [← Nat.pow_add, ← Nat.pow_add, Nat.add_sub_cancel' inside]
  have low : p.param.toNat % 2 ^ lo < 2 ^ lo := Nat.mod_lt _ (Nat.two_pow_pos lo)
  have grouped : setSlice p.param.toNat lo w v =
      2 ^ lo * (2 ^ w * (p.param.toNat / 2 ^ (lo + w)) + v) + p.param.toNat % 2 ^ lo := by
    rw [setSlice, Nat.mod_eq_of_lt fits, whole]
    ring
  rw [Packet.par, Packet.withPar, slice, BitVec.toNat_ofNat, word, Nat.mul_assoc, Nat.mod_mul_right_div_self, Nat.mod_mul_right_mod,
    grouped, Nat.mul_add_div (Nat.two_pow_pos lo), Nat.div_eq_of_lt low, Nat.add_zero, Nat.mul_add_mod, Nat.mod_eq_of_lt fits]

/-- The packet of a row keeps the field of PARAM that the row gives. -/
theorem par_opForm_withPar {lo w v : Nat} (inside : lo + w ≤ 64) (fits : v < 2 ^ w) (op : Nat) (p : Packet) :
    (opForm op (p.withPar lo w v)).par lo w = v := par_withPar inside fits p

theorem bit_lt_two (b : Bool) : bit b < 2 := by cases b <;> decide

theorem bit_eq_one_iff (b : Bool) : bit b = 1 ↔ b = true := by cases b <;> decide

/-! ### Leases -/

/-- R210: LEASE_ANSWER for a lease that is HELD or BREAKING, from one that acts for its holder, releases the lease or ends its break. -/
theorem leaseAnswer_answers {rel : Bool} (which : p.par 16 1 = bit rel) (allocated : (s.region (p.par 0 15)).state = 1)
    (shared : (s.region (p.par 0 15)).cls = 2) (held : (s.region (p.par 0 15)).lease = 1 ∨ (s.region (p.par 0 15)).lease = 2)
    (acts : actsForHolder p s (s.region (p.par 0 15)).holder = true) :
    leaseAnswer p s = ({}, settle (if rel then releaseLease (p.par 0 15) s
      else if (s.region (p.par 0 15)).lease = 2 then keepLease (p.par 0 15) s else s)) := by
  have leased : ¬((s.region (p.par 0 15)).lease ≠ 1 ∧ (s.region (p.par 0 15)).lease ≠ 2) := by omega
  simp only [leaseAnswer, allocated, shared, leased, acts, which, bit_eq_one_iff, ne_eq, not_true_eq_false, Bool.not_true,
    Bool.false_eq_true, or_self, if_false]
  rfl

/-- R211: LEASE_CLEAR_ORPHAN writes the descriptor of a region whose lease is ORPHANED. -/
theorem leaseClearOrphan_writes (allocated : (s.region (p.par 0 15)).state = 1) (shared : (s.region (p.par 0 15)).cls = 2)
    (orphan : (s.region (p.par 0 15)).lease = 3) :
    leaseClearOrphan p s = ({}, s.writeRegion (p.par 0 15) (fun d => { d with lease := 0, breaker := 0 })) := by
  simp only [leaseClearOrphan, allocated, shared, orphan, ne_eq, not_true_eq_false, or_self, if_false]
  rfl

/-- R72: the write of a descriptor, read back. -/
theorem region_writeRegion (s : State) (r x : Nat) (f : Region → Region) :
    (s.writeRegion r f).region x = if x = r then f (s.region r) else s.region x := by
  rw [writeRegion_rest]
  exact Tab.get_upd _ _ _ _

/-! ### The regulator's configuration -/

/-- R310: a master's configuration once a list of entries has been accepted. -/
def qosNew (s : State) (l : List QosEntry) (m : Nat) : QosEntry :=
  match l.find? (fun e => e.master == m) with
  | some e => e
  | none => qosNow s m

/-- R307, R310: QOS_CONFIG with valid entries that keep to the limits queues them. -/
theorem qosConfig_queues {l : List QosEntry} (entries : (chunks 8 510 p.bytes).map qosEntry = l) (whole : p.length.toNat % 8 = 0)
    (valid : qosFaults (chunks 8 510 p.bytes) [] 0x10 = none)
    (guarantees : (∃ m ∈ allMasters, (qosNow s m).g < (qosNew s l m).g) →
      sumOf (allMasters.map (fun m => (qosNew s l m).g)) ≤ s.get F.QOS_CAP.C_CERT)
    (credits : 64 * sumOf ((List.range 64 ++ [70]).map (fun m => (qosNew s l m).ncmin)) ≤ 65536) :
    qosConfig p s = ({}, { s with qosPending := s.qosPending ++ l }) := by
  have certified : (allMasters.any (fun m => decide ((qosNow s m).g < (qosNew s l m).g)) &&
      decide (s.get F.QOS_CAP.C_CERT < sumOf (allMasters.map (fun m => (qosNew s l m).g)))) = false := by
    rw [Bool.and_eq_false_imp, List.any_eq_true]
    rintro ⟨m, listed, raised⟩
    exact decide_eq_false (Nat.not_lt.2 (guarantees ⟨m, listed, of_decide_eq_true raised⟩))
  subst entries
  unfold qosConfig
  extract_lets parts entries new sum raises
  rw [if_neg (not_not_intro whole), valid]
  exact (if_neg (ne_true_of_eq_false certified)).trans (if_neg (Nat.not_lt.2 credits))

/-! ### Engines -/

/-- R147, R188: ENGINE_SET of an engine that may go offline, or return, answers with what that request leaves. -/
theorem engineSet_moves {off : Bool} (which : p.par 16 2 = bit off)
    (crypto : p.par 0 1 = 1 → p.par 8 5 < 8 ∧ (cryOffline (p.par 8 5) off s).1 = true)
    (compression : p.par 0 1 ≠ 1 → (cmpOffline (p.par 8 5) off s).1 = true) :
    engineSet p s = ({}, if p.par 0 1 = 1 then (cryOffline (p.par 8 5) off s).2 else (cmpOffline (p.par 8 5) off s).2) := by
  have act : (bit off == 1) = off := by cases off <;> rfl
  have few : bit off ≠ 3 ∧ bit off ≠ 2 := by have := bit_lt_two off; omega
  by_cases unit : p.par 0 1 = 1
  · obtain ⟨listed, granted⟩ := crypto unit
    simp [engineSet, which, act, few, unit, Nat.not_le.2 listed, granted, ok]
  · simp [engineSet, which, act, few, unit, compression unit, ok]

theorem crySelftest_starts {n : Nat} (out : cryState s n = 2 ∨ cryState s n = 4) :
    crySelftest n s = s.put (F.CRY_ENG_STATUS.STATE n) 3 := if_pos out

theorem cmpSelftest_starts {n : Nat} (out : cmpState s n = 2 ∨ cmpState s n = 4) :
    cmpSelftest n s = s.put (F.CMP_ENG_STATUS.STATE n) 3 := if_pos out

/-- R148, R189: ENGINE_SET starts the self-test of an engine that is OFFLINE or FAILED. -/
theorem engineSet_tests (which : p.par 16 2 = 2)
    (crypto : p.par 0 1 = 1 → p.par 8 5 < 8 ∧ (cryState s (p.par 8 5) = 2 ∨ cryState s (p.par 8 5) = 4))
    (compression : p.par 0 1 ≠ 1 → cmpState s (p.par 8 5) = 2 ∨ cmpState s (p.par 8 5) = 4) :
    engineSet p s = ({}, if p.par 0 1 = 1 then s.put (F.CRY_ENG_STATUS.STATE (p.par 8 5)) 3
      else s.put (F.CMP_ENG_STATUS.STATE (p.par 8 5)) 3) := by
  by_cases unit : p.par 0 1 = 1
  · obtain ⟨listed, out⟩ := crypto unit
    simp [engineSet, which, unit, Nat.not_le.2 listed, out, crySelftest_starts out, ok]
  · have out := compression unit
    simp [engineSet, which, unit, out, cmpSelftest_starts out, ok]

end

end Sys2Proof.Machine

open Sys2Proof Sys2Proof.Machine in
/-- Settles O34: each command by what it answers once its conditions hold; what the write of a descriptor leaves is
`region_writeRegion` and `writeRegion_rest`. -/
theorem leaseQosEngineRows : Obligations.LeaseQosEngineRows := by
  refine ⟨fun rel => ?_, ?_, ?_, fun off => ?_, ?_⟩
  · refine rowAnswers_of 0x0501 leaseAnswer (q := fun p => p.withPar 16 1 (bit rel)) ?_ (fun _ => rfl) ?_
    · cases rel
      · exact fun _ _ => rfl
      · exact fun _ _ => rfl
    · rintro p u ⟨allocated, shared, held, acts⟩
      rw [leaseAnswer_answers (par_opForm_withPar (by decide) (bit_lt_two rel) 0x0501 p) allocated shared held acts]
      exact ⟨rfl, rfl⟩
  · refine rowAnswers_of 0x0502 leaseClearOrphan (q := id) (fun _ _ => rfl) (fun _ => rfl) ?_
    rintro p u ⟨allocated, shared, orphan⟩
    rw [leaseClearOrphan_writes allocated shared orphan]
    exact ⟨rfl, (region_writeRegion _ _ _ _).trans (if_pos rfl), fun x other => (region_writeRegion _ _ _ _).trans (if_neg other),
      by rw [writeRegion_rest]⟩
  · refine rowAnswers_of 0x0601 qosConfig (q := id) (fun _ _ => rfl) (fun _ => rfl) ?_
    rintro p u ⟨whole, valid, guarantees, credits⟩
    rw [qosConfig_queues rfl whole valid guarantees credits]
    exact ⟨rfl, rfl⟩
  · refine rowAnswers_of 0x0701 engineSet (q := fun p => p.withPar 16 2 (bit off)) ?_ (fun _ => rfl) ?_
    · cases off
      · exact fun _ _ => rfl
      · exact fun _ _ => rfl
    · rintro p u ⟨crypto, compression⟩
      rw [engineSet_moves (par_opForm_withPar (by decide) (Nat.lt_trans (bit_lt_two off) (by decide)) 0x0701 p) crypto compression]
      exact ⟨rfl, rfl⟩
  · refine rowAnswers_of 0x0701 engineSet (q := fun p => p.withPar 16 2 2) (fun _ _ => rfl) (fun _ => rfl) ?_
    rintro p u ⟨crypto, compression⟩
    rw [engineSet_tests (par_opForm_withPar (by decide) (by decide) 0x0701 p) crypto compression]
    refine ⟨rfl, fun unit => ?_, fun unit => ?_, ?_⟩
    · rw [if_pos unit, cryState, State.get_put_same]
      rfl
    · rw [if_neg unit, cmpState, State.get_put_same]
      rfl
    · split
      · rfl
      · rfl
end

section
/-!
The commands of the key slots (R151, R152, R184, R185): what a load leaves in the slot, what a retirement leaves, and which of them a
command does once its conditions hold.
-/

namespace Sys2Proof.Machine

section
variable {p : Packet} {s : State}

/-! ### Loads -/

/-- R152: a slot into which a key has been loaded is ACTIVE. -/
theorem keyState_loadKey (k : Nat) (loaded : BitVec 256) (imported : Bool) (s : State) :
    keyState (loadKey k loaded imported s) k = 1 := by
  have imported_ne : (F.CRY_KEY_STATUS.STATE k).key ≠ (F.CRY_KEY_STATUS.IMPORTED k).key := by
    simp [Fld.key, F.CRY_KEY_STATUS.STATE, F.CRY_KEY_STATUS.IMPORTED]
  have zeroized_ne : (F.CRY_KEY_STATUS.STATE k).key ≠ (F.CRY_KEY_STATUS.ZEROIZED k).key := by
    simp [Fld.key, F.CRY_KEY_STATUS.STATE, F.CRY_KEY_STATUS.ZEROIZED]
  rw [keyState, loadKey, State.get_put_ne zeroized_ne, State.get_put_ne imported_ne, State.get_put_same]
  rfl

/-- R152: IMPORTED shows from where the key came. -/
theorem imported_loadKey (k : Nat) (loaded : BitVec 256) (imported : Bool) (s : State) :
    (loadKey k loaded imported s).get (F.CRY_KEY_STATUS.IMPORTED k) = bit imported := by
  have zeroized_ne : (F.CRY_KEY_STATUS.IMPORTED k).key ≠ (F.CRY_KEY_STATUS.ZEROIZED k).key := by
    simp [Fld.key, F.CRY_KEY_STATUS.IMPORTED, F.CRY_KEY_STATUS.ZEROIZED]
  rw [loadKey, State.get_put_ne zeroized_ne, State.get_put_same]
  exact Nat.mod_eq_of_lt (bit_lt_two imported)

/-- R151: KEY_LOAD with GENERATE loads what the TRNG gives into an EMPTY slot. -/
theorem keyLoad_generates (source : p.par 8 1 = 0) (length : p.length = 0) (empty : keyState s (p.par 0 6) = 0) :
    keyLoad p s = ({}, loadKey (p.par 0 6) (Config.trng s.freeCtr) false s.drawn) := by
  simp [keyLoad, source, length, empty, State.trng, ok]

/-- R151, R346: KEY_LOAD with IMPORT in an open session loads its payload into an EMPTY slot, where no fuse forbids it. -/
theorem keyLoad_imports (source : p.par 8 1 = 1) (length : p.length = 32) (empty : keyState s (p.par 0 6) = 0)
    (session : sessioned p s = true) (policy : s.fuseBits 906 1 = 0) :
    keyLoad p s = ({}, loadKey (p.par 0 6) (BitVec.ofNat 256 (ofBytes p.bytes)) true s) := by
  simp [keyLoad, source, length, empty, session, policy, ok]

/-! ### Retirement -/

/-- R185: a slot that is retired is RETIRING, whatever the destination. -/
theorem keyState_retireKey (k : Nat) (target : Option Nat) (s : State) : keyState (retireKey k target s) k = 2 := by
  cases target with
  | none => exact State.get_put_same s (F.CRY_KEY_STATUS.STATE k) 2
  | some j => exact State.get_put_same s (F.CRY_KEY_STATUS.STATE k) 2

/-- R184: KEY_RETIRE of an ACTIVE slot to another ACTIVE slot starts. -/
theorem keyRetire_moves (fresh : longRuns s p (p.par 0 6) = false) (active : keyState s (p.par 0 6) = 1) (named : p.par 14 1 = 0)
    (other : p.par 8 6 ≠ p.par 0 6) (ready : keyState s (p.par 8 6) = 1) :
    keyRetire p s = startLong p (p.par 0 6) 0 (retireKey (p.par 0 6) (some (p.par 8 6)) s) := by
  simp [keyRetire, fresh, active, named, other, ready]

/-- R184: KEY_RETIRE with NONE of an ACTIVE slot that no ALLOCATED region names starts. -/
theorem keyRetire_drops (fresh : longRuns s p (p.par 0 6) = false) (active : keyState s (p.par 0 6) = 1) (none_ : p.par 14 1 = 1)
    (unnamed : s.regions.cells.any (fun c => c.2.state == 1 && c.2.key == p.par 0 6) = false) :
    keyRetire p s = startLong p (p.par 0 6) 0 (retireKey (p.par 0 6) none s) := by
  simp only [keyRetire, fresh, active, none_, unnamed, Bool.false_eq_true, if_false, ne_eq, not_true_eq_false, beq_self_eq_true,
    if_true]

end

end Sys2Proof.Machine

open Sys2Proof Sys2Proof.Machine in
/-- Settles O33: each command by what it does once its conditions hold; what a load and a retirement leave in the slot is
`keyState_loadKey`, `imported_loadKey` and `keyState_retireKey`. -/
theorem keyCommands : Obligations.KeyCommands := by
  refine ⟨?_, ?_, ?_, ?_⟩
  · refine rowAnswers_of 0x0401 keyLoad (q := fun p => p.withPar 8 1 0) (fun _ _ => rfl) (fun _ => rfl) ?_
    rintro p u ⟨length, empty⟩
    rw [keyLoad_generates (par_opForm_withPar (by decide) (by decide) 0x0401 p) length empty]
    exact ⟨rfl, keyState_loadKey _ _ _ _, imported_loadKey _ _ _ _, rfl⟩
  · refine rowAnswers_of 0x0401 keyLoad (q := fun p => p.withPar 8 1 1) (fun _ _ => rfl) (fun _ => rfl) ?_
    rintro p u ⟨length, empty, session, policy⟩
    rw [keyLoad_imports (par_opForm_withPar (by decide) (by decide) 0x0401 p) length empty session policy]
    exact ⟨rfl, keyState_loadKey _ _ _ _, imported_loadKey _ _ _ _, rfl⟩
  · refine rowAnswers_of 0x0402 keyRetire (q := id) (fun _ _ => rfl) (fun _ => rfl) ?_
    rintro p u ⟨fresh, active, named, other, ready⟩
    rw [keyRetire_moves fresh active named other ready]
    exact ⟨rfl, keyState_retireKey _ _ u, rfl, rfl⟩
  · refine rowAnswers_of 0x0402 keyRetire (q := id) (fun _ _ => rfl) (fun _ => rfl) ?_
    rintro p u ⟨fresh, active, none_, unnamed⟩
    rw [keyRetire_drops fresh active none_ unnamed]
    exact ⟨rfl, keyState_retireKey _ _ u, rfl⟩
end

section
/-!
The integrity tree (R159, R167): the parent of a metadata line and what of it the line's tag takes.
-/

namespace Sys2Proof.Machine

/-- R167: below the top level a line's parent is a node of the next level. -/
theorem parentKind_below {kind : Nat} (below : kind ≤ 5) :
    metaLevel (parentKind kind) = metaLevel kind + 1 ∧ 2 ≤ parentKind kind := by
  unfold parentKind metaLevel
  split
  · omega
  · omega

/-- R166: catalogue lines alone are numbered behind others at their level. -/
theorem metaIndex_node {kind : Nat} (node : 2 ≤ kind) (s : State) (i : Nat) : metaIndex s kind i = i :=
  if_neg (by omega)

/-- R168: a line over which no node rekey runs is checked under its parent's present counters. -/
theorem parentState_present {s : State} {sl kind i : Nat} (present : rekeyOver s sl kind i = none) :
    parentState s sl kind i = metaValue s sl (parentKind kind) (if parentKind kind = 7 then 0 else parentIndex s kind i) := by
  simp only [parentState, present]

/-- R167: the parent of the level-5 node is the root of its slice. -/
theorem metaValue_root (s : State) (sl i : Nat) : metaValue s sl 7 i = s.roots.get sl := if_pos rfl

/-- R159: a tag is computed under its parent's MAJOR and the minor of the line's slot. -/
theorem metaTag_congr {s : State} {sl kind i : Nat} {v a b : BitVec 512} (major : ctrMajor a = ctrMajor b)
    (minor : ctrMinor a (parentSlot s kind i) = ctrMinor b (parentSlot s kind i)) :
    metaTag s sl kind i v a = metaTag s sl kind i v b := by
  simp only [metaTag, major, minor]

end Sys2Proof.Machine

open Sys2Proof Sys2Proof.Machine in
/-- Settles O54: the parent by `parentKind_below` and `metaIndex_node`, the root by `parentState_present`, the tag by
`metaTag_congr`. -/
theorem treeParents : Obligations.TreeParents := by
  refine ⟨fun s kind i below => ?_, rfl, rfl, rfl, rfl, fun s sl i idle => ?_, fun s sl kind i v a b => metaTag_congr⟩
  · obtain ⟨level, node⟩ := parentKind_below below
    exact ⟨level, metaIndex_node node s _, rfl⟩
  · have present : rekeyOver s sl 6 i = none := by rw [rekeyOver, idle]; rfl
    exact (parentState_present present).trans (metaValue_root s sl 0)
end

section
/-!
The host's opcodes beside its reads, writes and directory requests (R192, R480): MemRdFwd and MemWrFwd change only what reporting
changes, and an opcode that no rule names is answered with poison at its port, whatever the region.
-/

namespace Sys2Proof.Machine

section
variable {s t : State}

/-- R192: HOST_PROTOCOL changes only what reporting changes. -/
theorem quiet_logProtocol (h : Quiet s t) (slot : Nat) : Quiet s (logProtocol slot t) := quiet_log h _ _ _ _

/-- R67: whether a host receives a response turns on nothing that reporting changes. -/
theorem Quiet.hostReceives (h : Quiet s t) {m : Nat} (hm : m < 64) : hostReceives t m = hostReceives s m := by
  have state : agentState t m = agentState s m :=
    h.reg (F.HP_AGENT_STATE.STATE m) (by simp [F.HP_AGENT_STATE.STATE]) (reportReg_slot (k := 0) (by decide) hm)
  simp only [Machine.hostReceives, state, h.links]

/-- The count of an event sends nothing. -/
theorem out_count (s : State) (ev inst amt : Nat) : (s.count ev inst amt).out = s.out := by rw [(counts_count s ev inst amt).rest]

/-- R67, R480: a host that receives its responses is answered a request that stayed at its port with poison, if it asked for data, and
its completion; the answer changes only what reporting changes. -/
theorem replyTo_poisons {r : Req} {slot tag stream : Nat} (src : r.src = .host slot tag stream) (stays : (r.stage == .away) = false)
    (heard : r.muted = false) (receives : hostReceives s slot = true) :
    Quiet s (replyTo r none 0 s) ∧ (∃ load, .cmp slot tag 0 load ∈ (replyTo r none 0 s).out) ∧
    (wantsData r.intent = true → ∃ load, .memData slot tag none load ∈ (replyTo r none 0 s).out) := by
  unfold replyTo
  simp only [src, stays, heard, receives, Bool.not_false, Bool.and_self, Bool.false_eq_true, if_false, if_true, ite_self]
  split
  · refine ⟨quiet_emit (quiet_count (quiet_emit (.refl s) _) _ _ _) _, ⟨_, List.mem_append_right _ (List.mem_singleton_self _)⟩,
      fun _ => ⟨devLoad s r, ?_⟩⟩
    simp [out_count]
  next no_data =>
    exact ⟨quiet_emit (.refl s) _, ⟨_, List.mem_append_right _ (List.mem_singleton_self _)⟩, fun data => absurd data no_data⟩

/-- R192, R480: a request with an opcode that no rule names, from a host whose link is up with an ingress entry, is recorded and
answered at its port. -/
theorem receive_unknown {slot hpa : Nat} {r : Req} {data : Bool} (unknown : r.intent = .unknown data)
    (up : (s.links.get (linkOfSlot slot)).up = true) (here : agentState s slot ≠ 2) (room : ingressFull s slot r.write = false)
    (ports : portsStopped s = false) :
    ∃ t, Quiet s t ∧ receive slot hpa r s = replyTo r none 0 (logProtocol slot t) := by
  unfold receive
  extract_lets c
  have counted : Counts s c ∧ Quiet s c := by
    unfold c
    split
    · exact ⟨counts_count s _ _ _, quiet_count (.refl s) _ _ _⟩
    split
    · exact ⟨counts_count s _ _ _, quiet_count (.refl s) _ _ _⟩
    · exact ⟨.refl s, .refl s⟩
  obtain ⟨counts, quiet⟩ := counted
  have routed : route slot hpa r (wakeRaw 0 c) = replyTo r none 0 (logProtocol slot (wakeRaw 0 c)) := by rw [route, unknown]
  refine ⟨wakeRaw 0 c, quiet_wakeRaw quiet 0, ?_⟩
  simp [up, here, room, counts.portsStopped, ports, routed]

/-- R192, R480: an opcode that no rule names is answered with poison and its completion, and changes only what reporting changes. -/
theorem receive_unknown_answers {slot hpa tag : Nat} {data : Bool} (hs : slot < 64)
    (up : (s.links.get (linkOfSlot slot)).up = true) (here : agentState s slot ≠ 2) (room : ingressFull s slot false = false)
    (ports : portsStopped s = false) {t : State} (ht : t = receive slot hpa (hostReq s slot tag (.unknown data) 0 0 false) s) :
    Quiet s t ∧ (∃ load, .cmp slot tag 0 load ∈ t.out) ∧ (data = true → ∃ load, .memData slot tag none load ∈ t.out) := by
  obtain ⟨u, quiet, answered⟩ := receive_unknown (hpa := hpa) (r := hostReq s slot tag (.unknown data) 0 0 false) rfl up here room ports
  have logged : Quiet s (logProtocol slot u) := quiet_logProtocol quiet slot
  have receives : hostReceives (logProtocol slot u) slot = true := by
    rw [logged.hostReceives hs]
    simp [hostReceives, here, up]
  obtain ⟨replied, cmp, poison⟩ := replyTo_poisons (r := hostReq s slot tag (.unknown data) 0 0 false) rfl rfl rfl receives
  rw [ht, answered]
  exact ⟨logged.trans replied, cmp, poison⟩

end

end Sys2Proof.Machine

open Sys2Proof.Machine in
/-- Settles O8: a record changes only what reporting changes (`Quiet`), and so does the answer to an opcode that no rule names
(`receive_unknown_answers`). -/
theorem hostOddOpcodes : Obligations.HostOddOpcodes := by
  refine ⟨fun s m tag hpa => rfl, fun s m tag hpa => ⟨_, rfl, rfl, (quiet_logProtocol (.refl s) m).rest⟩,
    fun s m tag hpa data up here room ports => ?_⟩
  obtain ⟨quiet, cmp, poison⟩ := receive_unknown_answers (hpa := 0) (tag := tag.toNat) (data := data) m.isLt up here room ports rfl
  exact ⟨_, rfl, cmp, poison, quiet.reqs, quiet.almanac, quiet.dir, quiet.dram, quiet.frames⟩
end

section
/-!
The rows of leases and of the directory's background jobs (R200, R210, R212, R440): what a released unit of each job does.
-/

namespace Sys2Proof.Machine

section
variable {s : State}

/-- R212, R306: a reclamation or directory scrub quantum waits while SCRUB's accesses are not admitted. -/
theorem exec_scrub_waits (h : accessesIn s 66 = false) : exec .reclamationQuantum s = .next s ∧
    ∀ lines errs, exec (.directoryScrubQuantum lines errs) s = .next s := by
  refine ⟨?_, fun lines errs => ?_⟩
  · rw [exec_reclamationQuantum, execReclamationQuantum, if_pos (by simp [h])]
  · rw [exec_directoryScrubQuantum, execDirectoryScrubQuantum, if_pos (by simp [h])]

/-- R212: with no agent to reclaim, a quantum ends its unit. -/
theorem exec_reclamationQuantum_idle (released : unitWaits s 0x0F 0 = true) (admitted : accessesIn s 66 = true)
    (idle : s.reclaim.agents = []) : exec .reclamationQuantum s = .next (jobDone 0x0F 0 s) := by
  have none_left : (jobDone 0x0F 0 s).reclaim.agents.isEmpty = true := by simp [jobDone, idle]
  simp only [exec_reclamationQuantum, execReclamationQuantum, released, admitted, none_left, Bool.not_true, Bool.or_self,
    Bool.false_eq_true, if_false, if_true]

/-- R212, R213: with agents whose reclamation has begun, a quantum visits the entries of the 64 sets from the cursor. -/
theorem exec_reclamationQuantum_visits (released : unitWaits s 0x0F 0 = true) (admitted : accessesIn s 66 = true)
    (agents : s.reclaim.agents ≠ []) (begun : ∀ a ∈ s.reclaim.agents, a.begun = true) {u v : State} (hu : u = jobDone 0x0F 0 s)
    (hv : v = (forAll ((u.almanac.cells.map (·.1)).filter (fun k =>
        decide (u.reclaim.cursor ≤ k % 2 ^ 18) && decide (k % 2 ^ 18 < u.reclaim.cursor + 64)))
      (reclaimEntry (u.reclaim.agents.map (·.han))) u).bump F.HA_RECLAIM.QUANTA) :
    exec .reclamationQuantum s = .next (endReclaim { v with reclaim := { v.reclaim with
      cursor := (u.reclaim.cursor + 64) % 2 ^ 18
      agents := v.reclaim.agents.map (fun a => { a with begun := true, quanta := a.quanta + 1 }) } }) := by
  have same : u.reclaim.agents = s.reclaim.agents := by rw [hu]; rfl
  have some_left : u.reclaim.agents.isEmpty = false := by simp [same, agents]
  have none_new : u.reclaim.agents.filter (fun a => !a.begun) = [] := by
    rw [same, List.filter_eq_nil_iff]
    intro a ha
    simp [begun a ha]
  have none_begins : forAll (u.reclaim.agents.filter (fun a => !a.begun)) (fun a s => beginReclaim a.han s) u = u := by
    rw [none_new]; rfl
  simp only [exec_reclamationQuantum, execReclamationQuantum, released, admitted, ← hu, some_left, none_begins, ← hv, Bool.not_true,
    Bool.or_self, Bool.false_eq_true, if_false]

/-- R200, R214: a quantum of a slice with shared slots charges its lines, scrubs them, and is counted for the passes that wait. -/
theorem exec_directoryScrubQuantum_scrubs {lines : List Nat} {errs : List MemErr} {d r line n : Nat} {u : State}
    (released : unitWaits s 0x06 0 = true) (admitted : accessesIn s 66 = true) (hn : n = unitTransit s 0x06 0)
    (slot : scrubSlot (jobDone 0x06 0 s) (n % 16) = some (d, r, line))
    (hu : u = forAll (List.range 512) (fun i s => scrubStruck r (n % 16) (line + i) (cellFind i (lines.zip errs)) s)
      (chargeInternal 66 512 (jobDone 0x06 0 s))) :
    exec (.directoryScrubQuantum lines errs) s = .next (settle (endPasses { u with reclaim := { u.reclaim with
      scrubAt := u.reclaim.scrubAt.set (n % 16) (if line + 512 < 131072 then (d, line + 512) else (d + 1, 0))
      passes := u.reclaim.passes.map (fun p => if p.from_ ≤ n then countScrub (n % 16) (some d) p else p) } })) := by
  subst hn
  simp only [exec_directoryScrubQuantum, execDirectoryScrubQuantum, released, admitted, slot, ← hu, Bool.not_true, Bool.or_self,
    Bool.false_eq_true, if_false]

/-- A counter that is raised reads its value raised, or its maximum. -/
theorem get_bump_same (s : State) (f : Fld) (n : Nat) : (s.bump f n).get f = min (2 ^ f.width - 1) (s.get f + n) := by
  rw [State.bump, State.get_put_same]
  exact Nat.mod_eq_of_lt (by have := Nat.two_pow_pos f.width; omega)

/-- R440: the state after a quantum of the almanac ECC scrub that finds `n` corrected words and no other. -/
def eccScrubbed (s : State) (sl n : Nat) : State :=
  let c := (jobDone 0x07 0 s).bump (F.HA_SLICE_STATUS.CE sl) n
  { c with reclaim := { c.reclaim with eccAt := c.reclaim.eccAt.set sl ((s.reclaim.eccAt.getD sl 0 + 256) % 2 ^ 18) } }

/-- R440: a quantum that finds corrected words alone adds them to the slice's count and moves its position. -/
theorem exec_almanacEccScrubQuantum_corrects (corrected : List Nat) (released : unitWaits s 0x07 0 = true) :
    exec (.almanacEccScrubQuantum corrected [] []) s =
      .next (settle (eccScrubbed s (unitTransit s 0x07 0 % 16) corrected.length)) := by
  simp only [exec_almanacEccScrubQuantum, execAlmanacEccScrubQuantum, released, Bool.not_true, Bool.false_eq_true, if_false]
  rfl

theorem eccScrubbed_count (s : State) (sl n : Nat) : (eccScrubbed s sl n).get (F.HA_SLICE_STATUS.CE sl) =
    min (2 ^ (F.HA_SLICE_STATUS.CE sl).width - 1) (s.get (F.HA_SLICE_STATUS.CE sl) + n) :=
  get_bump_same (jobDone 0x07 0 s) _ n

end

end Sys2Proof.Machine

open Sys2Proof.Machine in
/-- Settles O21: a lease's row by whether its break is over, and each quantum by what a released unit of its job finds. -/
theorem directoryRows : Obligations.DirectoryRows := by
  refine ⟨fun s r ended => ?_, fun s r pending => ?_, fun s => exec_reclamationQuantum_idle,
    fun s released admitted agents begun => exec_reclamationQuantum_visits released admitted agents begun rfl rfl,
    fun s => exec_scrub_waits,
    fun s lines errs x released admitted slot => exec_directoryScrubQuantum_scrubs released admitted rfl slot rfl,
    fun s corrected released => ⟨_, exec_almanacEccScrubQuantum_corrects corrected released, eccScrubbed_count s _ _, rfl, rfl⟩⟩
  · rw [exec_leaseTimeout, execLeaseTimeout, if_pos ended]
  · rw [exec_leaseTimeout, execLeaseTimeout, if_neg (ne_true_of_eq_false pending)]
end

section
/-!
A stitch port's link layer (R216 to R244): a CTRL flit that is due leaves at once or waits for its slot, and what the rows of a port's
timers, of its training and of its spare lane do once their conditions hold.
-/

namespace Sys2Proof.Machine

/-! ### CTRL flits -/

section
variable (s : State) (p : Nat) (f : StPort → StPort)

@[simp] theorem portSt_setPort_same : portSt (setPort p f s) p = f (portSt s p) := Tab.get_upd_same _ _ _
@[simp] theorem setPort_out : (setPort p f s).out = s.out := rfl
@[simp] theorem portState_setPort (q : Nat) : portState (setPort p f s) q = portState s q := rfl
@[simp] theorem transmits_setPort (q : Nat) : transmits (setPort p f s) q = transmits s q := rfl

end

/-- R218: a port that may send puts one flit out; of its link layer only what orders the slots changes. -/
theorem sendFlit_sends {s : State} {p : Nat} (bits : BitVec 576) (able : transmits s p = true) :
    ∃ lanes count gap slot scramble, (sendFlit p bits s).out = s.out ++ [.flit p bits lanes] ∧
      portSt (sendFlit p bits s) p = { portSt s p with txCount := count, gap := gap, slot := slot, scramble := scramble } := by
  rw [sendFlit, if_pos able]
  exact ⟨_, _, _, _, _, rfl, portSt_setPort_same _ _ _⟩

/-- R225, R233: what a CTRL flit that leaves on port `p` takes a state `s` to: one flit is out, every FREED is advertised, no FREED and
no buffered request is touched, and an acknowledge timer that does not run is not started. -/
structure CtrlLeaves (p : Nat) (s t : State) : Prop where
  out : ∃ b lanes, t.out = s.out ++ [.flit p b lanes]
  adv : (portSt t p).adv = (portSt s p).freed
  freed : (portSt t p).freed = (portSt s p).freed
  rxReq : (portSt t p).rxReq = (portSt s p).rxReq
  ackTb : (portSt s p).ackTb = none → (portSt t p).ackTb = none

section
variable {s : State} {p : Nat}

theorem putCtrl_leaves (flags lane : Nat) (able : transmits s p = true) : CtrlLeaves p s (putCtrl p flags lane s) := by
  unfold putCtrl
  extract_lets x ackSeq pay acked u
  obtain ⟨lanes, _, _, _, _, out, port⟩ := sendFlit_sends (flitBits 2 (BitVec.ofNat 512 pay)) (s := u) (p := p) able
  have start : portSt u p = _ := portSt_setPort_same s p _
  refine ⟨⟨_, lanes, out⟩, ?_, ?_, ?_, fun off => ?_⟩
  · rw [portSt_setPort_same, port, start]
  · rw [portSt_setPort_same, port, start]
  · rw [portSt_setPort_same, port, start]
  · simp only [portSt_setPort_same, port, start, off, ite_self]

theorem flushCtrl_leaves (due : (portSt s p).ctrlDue ≠ []) (free : ctrlOpen s p = true) : CtrlLeaves p s (flushCtrl p s) := by
  obtain ⟨⟨flags, lane⟩, rest, waiting⟩ := List.exists_cons_of_ne_nil due
  have able : transmits s p = true := by simp only [ctrlOpen, Bool.and_eq_true] at free; exact free.1.2
  simp only [flushCtrl, waiting, free, if_true]
  obtain ⟨out, adv, freed, rxReq, ackTb⟩ := putCtrl_leaves flags lane (s := setPort p (fun x => { x with ctrlDue := rest }) s) able
  rw [portSt_setPort_same] at adv freed rxReq ackTb
  exact ⟨out, adv, freed, rxReq, ackTb⟩

theorem flushCtrl_waits (closed : ctrlOpen s p = false) : flushCtrl p s = s := by
  unfold flushCtrl
  split
  · rfl
  · rw [if_neg (ne_true_of_eq_false closed)]

theorem joinCtrl_ne_nil (flags lane : Nat) (l : List (Nat × Nat)) : joinCtrl flags lane l ≠ [] := by
  cases l with
  | nil => exact List.cons_ne_nil _ _
  | cons c rest => simp only [joinCtrl]; split <;> exact List.cons_ne_nil _ _

/-- R225: a CTRL flit without a NAK joins those that wait. -/
theorem sendCtrl_joins {flags : Nat} (lane : Nat) (up : 5 ≤ portState s p) (plain : flags / 2 % 2 = 0) :
    sendCtrl p flags lane s = flushCtrl p (setPort p (fun x => { x with ctrlDue := joinCtrl flags lane x.ctrlDue }) s) := by
  rw [sendCtrl, if_neg (by omega), if_neg (by omega)]

/-- R225: with no CTRL flit among the last 3 slots, one that is due leaves. -/
theorem sendCtrl_leaves {flags : Nat} (lane : Nat) (up : 5 ≤ portState s p) (able : transmits s p = true) (gap : 3 ≤ (portSt s p).gap)
    (plain : flags / 2 % 2 = 0) : CtrlLeaves p s (sendCtrl p flags lane s) := by
  rw [sendCtrl_joins lane up plain]
  obtain ⟨out, adv, freed, rxReq, ackTb⟩ :=
    flushCtrl_leaves (s := setPort p (fun x => { x with ctrlDue := joinCtrl flags lane x.ctrlDue }) s) (p := p)
      (by simpa using joinCtrl_ne_nil flags lane _) (by simp [ctrlOpen, up, able, gap])
  rw [portSt_setPort_same] at adv freed rxReq ackTb
  exact ⟨out, adv, freed, rxReq, ackTb⟩

/-- R225: with a CTRL flit among the last 3 slots, one that is due waits. -/
theorem sendCtrl_waits {flags : Nat} (lane : Nat) (up : 5 ≤ portState s p) (gap : (portSt s p).gap < 3) (plain : flags / 2 % 2 = 0) :
    sendCtrl p flags lane s = setPort p (fun x => { x with ctrlDue := joinCtrl flags lane x.ctrlDue }) s := by
  rw [sendCtrl_joins lane up plain]
  exact flushCtrl_waits (by simp [ctrlOpen, gap])

/-! ### Credit -/

/-- R233: FREED of a VC is advanced, and the acknowledge timer runs. -/
def creditFreed (p v : Nat) (s : State) : State := setPort p (fun x => { x with
  freed := x.freed.set v ((x.freed.getD v 0 + 1) % 2 ^ 24)
  ackTb := if x.ackTb.isNone then some s.now else x.ackTb }) s

/-- R233: a CTRL flit is due once FREED is 8 ahead of what was advertised. -/
theorem freeCredit_eq (v : Nat) : freeCredit p v s =
    if 8 ≤ ((portSt (creditFreed p v s) p).freed.getD v 0 + 2 ^ 24 - (portSt (creditFreed p v s) p).adv.getD v 0) % 2 ^ 24
    then sendCtrl p 0 0 (creditFreed p v s) else creditFreed p v s := rfl

theorem portSt_creditFreed (v : Nat) : portSt (creditFreed p v s) p = { portSt s p with
    freed := (portSt s p).freed.set v (((portSt s p).freed.getD v 0 + 1) % 2 ^ 24)
    ackTb := if (portSt s p).ackTb.isNone then some s.now else (portSt s p).ackTb } := portSt_setPort_same _ _ _

theorem creditFreed_ackTb_isSome (v : Nat) : (portSt (creditFreed p v s) p).ackTb.isSome = true := by
  rw [portSt_creditFreed]
  cases h : (portSt s p).ackTb <;> simp

end

/-! ### Acknowledgement, replay and training -/

section
variable {s : State} {p : Fin 4} {a : Nat}

theorem exec_ackTimer_due (active : portState s p = 6) (runs : (portSt s p).ackTb = some a) (due : 200 ≤ s.since a) :
    exec (.ackTimer p) s = .next (sendCtrl p (if (portSt s p).acc = 0 then 0 else 1) 0
      (setPort p (fun x => { x with ackTb := none }) s)) := by
  simp only [exec_ackTimer, execAckTimer, runs]
  exact if_pos ⟨active, due⟩

theorem exec_nakResendTimer_due (active : portState s p = 6) (waits : (portSt s p).wait = true)
    (runs : (portSt s p).nakTb = some a) (due : 1000 ≤ s.since a) : exec (.nakResendTimer p) s = .next (sendNak p s) := by
  simp only [exec_nakResendTimer, execNakResendTimer, runs]
  exact if_pos (by simp [active, waits, due])

theorem exec_replayTimer_due (active : portState s p = 6) (runs : (portSt s p).replayTb = some a) (due : 1000 ≤ s.since a) :
    exec (.replayTimer p) s = .next (startReplay p s) := by
  simp only [exec_replayTimer, execReplayTimer, runs]
  exact if_pos ⟨active, due⟩

theorem exec_trainingAttemptTimeout_due (trains : 1 ≤ portState s p) (inactive : portState s p ≤ 5)
    (runs : (portSt s p).attempt = some a) (due : 100000 ≤ s.since a) :
    exec (.trainingAttemptTimeout p) s = .next (leaveActive p s) := by
  simp only [exec_trainingAttemptTimeout, execTrainingAttemptTimeout, runs]
  exact if_pos ⟨trains, inactive, by simpa using due⟩

theorem exec_syncSend_due (syncs : portState s p = 5) (due : ∀ a, (portSt s p).lastSync = some a → 1000 ≤ s.since a) :
    exec (.syncSend p) s = .next (setPort p (fun x => { x with lastSync := some s.now })
      (sendCtrl p (4 + 32 * bit (portSt s p).syncGot) 0 s)) := by
  rw [exec_syncSend, execSyncSend]
  refine if_pos ⟨syncs, ?_⟩
  split
  · rfl
  · next a last => simpa using due a last

theorem exec_linkActive_synced (syncs : portState s p = 5) (sync : (portSt s p).syncGot = true) (seen : (portSt s p).seenGot = true) :
    exec (.linkActive p) s = .next (pump (resendAll p (setPort p (fun x => { x with
      cold := false, leftActive := none, down := false, attempt := none })
        (if (portSt s p).cold = true then setPort p (fun x => { x with
          txCount := 0, rxCount := 0, scramble := List.replicate 8 0 }) (s.put (F.ST_PORT_STATUS.STATE p) 6)
        else s.put (F.ST_PORT_STATUS.STATE p) 6)))) := by
  rw [exec_linkActive, execLinkActive]
  exact if_pos ⟨syncs, sync, seen⟩

/-! ### The spare lane -/

/-- R243: the state in which a new window of 2^20 flits has begun. -/
def windowBegun (p : Fin 4) (s : State) : State :=
  forAll (List.range 8) (fun l s => s.put (F.ST_PORT_LANEERR.LANE p l) 0) (setPort p (fun x => { x with window := 0 }) s)

/-- R243: at the end of a window with the spare free, the lanes that were noisy decide. -/
theorem exec_spareWindowEnd_judges (full : 2 ^ 20 ≤ (portSt s p).window) (free : spareFree s p = true) :
    (noisyLanes s p = [] → exec (.spareWindowEnd p) s = .next (windowBegun p s)) ∧
    (∀ l, noisyLanes s p = [l] → exec (.spareWindowEnd p) s = .next (failLane p l (windowBegun p s))) ∧
    (2 ≤ (noisyLanes s p).length →
      exec (.spareWindowEnd p) s = .next ((windowBegun p s).put (F.ST_PORT_STATUS.SPARE_BAD p) 1)) := by
  have judged : ¬(decide ((portSt s p).window < 2 ^ 20) || !spareFree s p) = true := by simpa [free] using full
  rw [exec_spareWindowEnd, execSpareWindowEnd, if_neg judged]
  refine ⟨fun none => ?_, fun l one => ?_, fun many => ?_⟩
  · rw [none]; rfl
  · rw [one]; rfl
  · match noisyLanes s p, many with
    | _ :: _ :: _, _ => rfl

/-- R239, R243: the loss of a lane in use asks for the spare where that is free; otherwise it is covered, or resets the link. -/
theorem exec_laneLockLoss_lane {l : Fin 9} (active : portState s p = 6) (lane : l.val < 8) (used : l.val < laneCount s p) :
    exec (.laneLockLoss p l) s = if spareFree s p then .next (failLane p l s)
      else if (portSt s p).spareReq = some l.val ∨ (portSt s p).rxSpare = some l.val then .next s else .next (linkReset p s) := by
  rw [exec_laneLockLoss, execLaneLockLoss, if_neg (by simp [active]), if_neg (by omega), if_neg (by omega)]

/-- R239, R243: the loss of the spare resets the link where it is in use, or asked for, and marks it bad where it is not. -/
theorem exec_laneLockLoss_spare (active : portState s p = 6) (has : (portSt s p).spare.isSome = true) :
    exec (.laneLockLoss p 8) s = .next (if (portSt s p).rxSpare.isSome || (portSt s p).spareReq.isSome then linkReset p s
      else s.put (F.ST_PORT_STATUS.SPARE_BAD p) 1) := by
  rw [exec_laneLockLoss, execLaneLockLoss, if_neg (by simp [active]), if_pos (show ((8 : Fin 9) : Nat) = 8 from rfl),
    if_neg (by simp [Option.isSome_iff_ne_none.1 has])]

theorem exec_spareReqRepeat_due {l : Nat} (active : portState s p = 6) (asked : (portSt s p).spareReq = some l)
    (due : 1000 ≤ s.since (portSt s p).spareReqTb) : exec (.spareReqRepeat p) s = .next (failLane p l s) := by
  simp only [exec_spareReqRepeat, execSpareReqRepeat, asked]
  exact if_pos ⟨active, due⟩

end

end Sys2Proof.Machine

open Sys2Proof.Machine in
/-- Settles O55: a freed entry is `creditFreed`, after which a CTRL flit leaves (`sendCtrl_leaves`), waits (`sendCtrl_waits`) or is not
due; the timer's flit leaves likewise. -/
theorem creditReturn : Obligations.CreditReturn := by
  refine ⟨fun s p v vc four up able => ?_, fun s p a active able gap runs due => ?_⟩
  · intro f t
    have held : (portSt (creditFreed p v s) p).freed.getD v 0 = f := by simp [portSt_creditFreed, List.getD, four, vc, f]
    have adv : (portSt (creditFreed p v s) p).adv = (portSt s p).adv := by rw [portSt_creditFreed]
    have freed : (portSt (creditFreed p v s) p).freed = (portSt s p).freed.set v f := by rw [portSt_creditFreed]
    have rxReq : (portSt (creditFreed p v s) p).rxReq = (portSt s p).rxReq := by rw [portSt_creditFreed]
    have slots : (portSt (creditFreed p v s) p).gap = (portSt s p).gap := by rw [portSt_creditFreed]
    have row : t = if 8 ≤ (f + 2 ^ 24 - (portSt s p).adv.getD v 0) % 2 ^ 24 then sendCtrl p 0 0 (creditFreed p v s)
        else creditFreed p v s := by rw [← held, ← adv]; exact freeCredit_eq v
    rcases Nat.lt_or_ge ((f + 2 ^ 24 - (portSt s p).adv.getD v 0) % 2 ^ 24) 8 with early | due
    · rw [row, if_neg (Nat.not_le.2 early)]
      exact ⟨freed, rxReq, fun due => absurd early (Nat.not_lt.2 due), fun _ => ⟨adv, rfl, creditFreed_ackTb_isSome v⟩⟩
    · rw [row, if_pos due]
      rcases Nat.lt_or_ge (portSt s p).gap 3 with full | gap
      · rw [sendCtrl_waits (s := creditFreed p v s) (flags := 0) 0 up (slots.trans_lt full) rfl, portSt_setPort_same]
        exact ⟨freed, rxReq, fun _ => ⟨fun gap => absurd full (Nat.not_lt.2 gap), fun _ => ⟨rfl, joinCtrl_ne_nil 0 0 _⟩⟩,
          fun early => absurd early (Nat.not_lt.2 due)⟩
      · have leaves := sendCtrl_leaves (s := creditFreed p v s) (flags := 0) 0 up able (gap.trans_eq slots.symm) rfl
        exact ⟨leaves.freed.trans freed, leaves.rxReq.trans rxReq,
          fun _ => ⟨fun _ => ⟨leaves.adv.trans leaves.freed.symm, leaves.out⟩, fun full => absurd full (Nat.not_lt.2 gap)⟩,
          fun early => absurd early (Nat.not_lt.2 due)⟩
  · obtain ⟨⟨b, lanes, out⟩, adv, freed, rxReq, ackTb⟩ :=
      sendCtrl_leaves (s := setPort p (fun x => { x with ackTb := none }) s) (p := p)
        (flags := if (portSt s p).acc = 0 then 0 else 1) 0 (by simp [active]) able (by simpa using gap) (by split <;> rfl)
    rw [portSt_setPort_same] at adv ackTb
    exact ⟨_, b, lanes, exec_ackTimer_due active runs due, out, adv, ackTb rfl⟩

open Sys2Proof.Machine in
/-- Settles O44: each timer, lane or training row by what it does once its conditions hold; a window's end by
`exec_spareWindowEnd_judges`, and a lost lane or spare by whether the spare is free or in use. -/
theorem stitchTimers : Obligations.StitchTimers := by
  refine ⟨fun s p f c => ⟨exec_flitReceived p f c s, exec_ctrlFlitReceived p f c s⟩,
    fun s p a active runs due => exec_ackTimer_due active runs due,
    fun s p a active waits runs due => exec_nakResendTimer_due active waits runs due,
    fun s p a active runs due => exec_replayTimer_due active runs due,
    fun s p a trains inactive runs due => exec_trainingAttemptTimeout_due trains inactive runs due,
    fun s p syncs due => exec_syncSend_due syncs due,
    fun s p syncs sync seen => exec_linkActive_synced syncs sync seen,
    fun s p full free => exec_spareWindowEnd_judges full free,
    fun s p l active lane used => ?_, fun s p active has => ?_, fun s p l active => ?_,
    fun s p l active asked due => exec_spareReqRepeat_due active asked due, fun s p enabled => ?_⟩
  · rw [exec_laneLockLoss_lane active lane used]
    refine ⟨fun free => if_pos free, fun busy covered => ?_, fun busy other away => ?_⟩
    · rw [if_neg (ne_true_of_eq_false busy), if_pos covered]
    · rw [if_neg (ne_true_of_eq_false busy), if_neg (not_or.2 ⟨other, away⟩)]
  · rw [exec_laneLockLoss_spare active has]
    refine ⟨fun used => by rw [if_pos used], fun unused unasked => ?_⟩
    rw [unused, unasked]
    exact ⟨_, rfl, State.get_put_same _ _ _, rfl⟩
  · rw [exec_spareReq, execSpareReq, if_pos active, exec_spareAck, execSpareAck, if_pos active]
    exact ⟨rfl, rfl⟩
  · rw [exec_stRetrainWrite, execStRetrainWrite, if_neg (ne_true_of_eq_false enabled)]
end

section
/-!
Messages at the front of a stitch port (R234 to R236, R248 to R262): the next message of a VC is taken and handled by the row that names
its opcode, or refused by the row of undefined ones.
-/

namespace Sys2Proof.Machine

section
variable {s u : State} {p v : Nat} {m n : StMsg}

/-- R234: the next message of a VC, wanted and with all its beats, is taken and handled. -/
theorem onMsg_takes {want : StMsg → Bool} (act : StMsg → State → State) (next : nextMsg (portSt s p) v = some m)
    (taken : takeHead p v s = some (n, u)) (wanted : want m = true) : onMsg p v want act s = pump (settle (act n u)) := by
  simp only [onMsg, next, wanted, taken, if_true]

section
variable {i : Instr} {op : BitVec 8} {act : StMsg → State → State}

/-- R234: the row of a request or snoop opcode handles the next message where that has its opcode. -/
theorem exec_named (row : exec i s = .next (onMsg p v (fun m => m.opcode == op) act s)) (next : nextMsg (portSt s p) v = some m)
    (taken : takeHead p v s = some (n, u)) (named : m.opcode = op) : exec i s = .next (pump (settle (act n u))) := by
  rw [row, onMsg_takes (want := fun m => m.opcode == op) act next taken (beq_iff_eq.2 named)]

/-- R234, R269: the row of an answer's opcode likewise, after which a hold may be reported. -/
theorem exec_answerNamed (row : exec i s = .next (tryHeld (onMsg p v (fun m => m.opcode == op) act s)))
    (next : nextMsg (portSt s p) v = some m) (taken : takeHead p v s = some (n, u)) (named : m.opcode = op) :
    exec i s = .next (tryHeld (pump (settle (act n u)))) := by
  rw [row, onMsg_takes (want := fun m => m.opcode == op) act next taken (beq_iff_eq.2 named)]

end

/-- R236: whether the next message of a VC has an opcode that is not defined there. -/
def nextUndefined (s : State) (p v : Nat) : Bool :=
  match nextMsg (portSt s p) v with
  | some m => !definedOp v m
  | none => false

theorem nextUndefined_of_some (next : nextMsg (portSt s p) v = some m) : nextUndefined s p v = !definedOp v m := by
  simp only [nextUndefined, next]

theorem nextUndefined_eq_false (defined : ∀ m, nextMsg (portSt s p) v = some m → definedOp v m = true) :
    nextUndefined s p v = false := by
  cases next : nextMsg (portSt s p) v with
  | none => simp only [nextUndefined, next]
  | some m => rw [nextUndefined_of_some next, defined m next]; rfl

end

/-- A search of REQ, RSP and SNP finds the first VC that has what is searched. -/
theorem find?_vc {bad : Nat → Bool} {v : Nat} (vc : v ∈ [0, 1, 3]) (here : bad v = true)
    (before : ∀ w ∈ [0, 1, 3], w < v → bad w = false) : [0, 1, 3].find? bad = some v := by
  have split : v = 0 ∨ v = 1 ∨ v = 3 := by simpa using vc
  rcases split with rfl | rfl | rfl
  · simp [here]
  · simp [here, before 0]
  · simp [here, before 0, before 1]

section
variable {s : State} {p : Fin 4}

/-- R236: the row of undefined opcodes refuses the next message of the first VC where that is one. -/
theorem exec_stUndefinedOpcode_first {v : Nat} (first : [0, 1, 3].find? (nextUndefined s p) = some v) :
    exec (.stUndefinedOpcode p) s =
      .next (onMsg p v (fun _ => true) (fun m s => sendCmp p m.tag.toNat m.src.toNat 0x0B 0 0 [] s) s) := by
  rw [exec_stUndefinedOpcode, execStUndefinedOpcode]
  split
  · next w found => obtain rfl : w = v := Option.some.inj (found.symm.trans first); rfl
  · next none => exact absurd (none.symm.trans first) (Option.some_ne_none v).symm

end

end Sys2Proof.Machine

open Sys2Proof.Machine in
/-- Settles O45: the rows of messages by `exec_named` and `exec_answerNamed`, the row of undefined opcodes by
`exec_stUndefinedOpcode_first`, the port controls by their definitions. -/
theorem stitchMessages : Obligations.StitchMessages := by
  refine ⟨fun s u p m n next taken => ?_, fun s u p m n next taken => ?_, fun s u p m n next taken => ?_,
    fun s u p v m n vc next undefined earlier taken => ?_, fun s p l d b a => ?_, fun s p => exec_stPortResetWrite p s,
    fun s p => ⟨exec_stDisableWrite p true s, _, exec_stDisableWrite p false s, State.get_put_same _ _ _, rfl⟩⟩
  · intro to_
    exact ⟨fun op => (exec_named (exec_stRd p s) next taken op :),
      fun op => (exec_named (exec_stWr p s) next taken op :),
      fun op => (exec_named (exec_stWrPtl p s) next taken op :),
      fun op => (exec_named (exec_spillPut p s) next taken op :),
      fun op => (exec_named (exec_spillGet p s) next taken op :),
      fun op => (exec_named (exec_spillFree p s) next taken op :),
      fun op => (exec_named (exec_stCmd p s) next taken op :)⟩
  · intro to_
    exact ⟨fun op => (exec_named (exec_snpInv p s) next taken op :),
      fun op => (exec_named (exec_snpData p s) next taken op :)⟩
  · intro to_
    exact ⟨fun op => (exec_answerNamed (exec_stCmp p s) next taken op :),
      fun op => (exec_answerNamed (exec_snpRsp p s) next taken op :),
      fun op => (exec_answerNamed (exec_cmdRsp p s) next taken op :)⟩
  · have first : [0, 1, 3].find? (nextUndefined s p) = some v :=
      find?_vc vc (by rw [nextUndefined_of_some next, undefined]; rfl) (fun w hw lt => nextUndefined_eq_false (earlier w hw lt))
    rw [exec_stUndefinedOpcode_first first, onMsg_takes _ next taken rfl]
  · intro t
    rw [exec_trainingBlockReceived, execTrainingBlockReceived]
    refine ⟨fun same => ?_, fun cold warm => ?_⟩
    · exact congrArg (Host.Outcome.next ∘ pump) (if_neg (by rcases same with h | h <;> simp [t, h]))
    · exact congrArg (Host.Outcome.next ∘ pump) (if_pos (by simp [t, cold, warm]))
end

section
/-!
The clutch's events in time (R241, R253 to R256, R264, R265): what each row does once its conditions hold.
-/

namespace Sys2Proof.Machine

/-! ### Formation and heartbeats -/

section
variable {s : State} {a : Nat}

/-- R255 step 1: a configured member whose HELLO is due floods it. -/
theorem exec_helloTimer_due (configured : s.inClutch = true) (active : fenced s = false)
    (due : ∀ a, s.clu.helloTransit = some a → a + 1000 ≤ s.transit) {b : State}
    (begun : beginForming { s with clu := { s.clu with helloTransit := some s.transit } } = b) :
    exec .helloTimer s = .next (flood 1 0 none [helloBeat (ownHello b)] b) := by
  subst begun
  rw [exec_helloTimer, execHelloTimer]
  refine if_pos ?_
  cases last : s.clu.helloTransit with
  | none => simp [configured, active]
  | some t => simp [configured, active, due t last]

/-- R253: a top head whose heartbeat is due floods its roster. -/
theorem exec_rosterHeartbeat_due (head : isHead s = true) (due : ∀ a, s.clu.rosterTransit = some a → a + 1000 ≤ s.transit) {b : State}
    (noted : { s with clu := { s.clu with rosterTransit := some s.transit, heardTb := s.now } } = b) :
    exec .rosterHeartbeat s = .next (flood 2 0 none (rosterBeats (ownRoster b)) b) := by
  subst noted
  rw [exec_rosterHeartbeat, execRosterHeartbeat]
  refine if_pos ?_
  cases last : s.clu.rosterTransit with
  | none => simp [head]
  | some t => simp [head, due t last]

/-- R255 step 2: a forming device that has heard of no lower path and no roster elects itself. -/
theorem exec_headElection_elects (began : s.clu.beganTb = some a) (due : s.get F.CLU_CFG.SETTLE_MS * 1000000 ≤ s.since a)
    (forms : s.get F.CLU_STATUS.STATE = 1) (unseen : s.clu.rosterSeen = false) (headless : s.clu.headTb = none)
    (lowest : ∀ h ∈ s.clu.hellos, ownPath s ≤ h.path) {b : State}
    (elected : { s.put F.CLU_STATUS.HEAD (ownPath s) with clu := { s.clu with headTb := some s.now } } = b) :
    exec .headElection s =
      .next (tryForm (forAll (b.clu.hellos.filter (fun h => !admits b h)) (fun h s => s.log 0x47 0 0 h.path) b)) := by
  subst elected
  simp only [exec_headElection, execHeadElection, began]
  exact if_pos ⟨forms, by simp [unseen], by simp [headless], by simpa using due, by simpa using lowest⟩

/-- R255 step 4: at the deadline more than half of those expected form a degraded clutch; fewer are logged. -/
theorem exec_formationDeadline_due (elected : s.clu.headTb = some a) (forms : s.get F.CLU_STATUS.STATE = 1)
    (first : s.clu.formFailed = false) (due : 2000000000 ≤ s.since a) {m : Nat} (present : formers s &&& s.get F.CLU_EXPECT.EXPECT = m) :
    exec .formationDeadline s = .next (if popCount (s.get F.CLU_EXPECT.EXPECT) < 2 * popCount m then makeChange m 0 3 false s
      else { s with clu := { s.clu with formFailed := true } }.log 0x45 0) := by
  subst present
  simp only [exec_formationDeadline, execFormationDeadline, elected]
  rw [if_pos ⟨forms, by simp [first], due⟩, apply_ite Host.Outcome.next]

/-! ### Failures and claims -/

/-- R264: the failed members once a set of the roster goes on: those that had failed, and those of the roster outside the set. -/
def failedBeside (s : State) (m : Nat) : Nat :=
  s.get F.CLU_FAILED.MAP ||| ofBits ((List.range 64).map (fun p => bitOf (s.get F.CLU_ROSTER.MAP) p && !bitOf m p))

/-- R256: the members that a claim that settles counts: this one and those it has heard claim, without the head. -/
def claimants (s : State) : Nat :=
  ofBits ((List.range 64).map (fun p => bitOf (s.get F.CLU_ROSTER.MAP) p && p != s.get F.CLU_STATUS.HEAD
    && (p == ownPath s || s.clu.claims.contains p)))

/-- R264: once the link reports have settled, the top head fences itself, or goes on with the survivors. -/
theorem exec_failureDecision_settled (reported : s.clu.linkTb = some a) (head : isHead s = true)
    (due : s.get F.CLU_CFG.SETTLE_MS * 1000000 ≤ s.since a) {b : State} (taken : { s with clu := { s.clu with linkTb := none } } = b) :
    exec .failureDecision s =
      if !bitOf (survivors s (ownPath s)) (ownPath s) || !majority b (survivors s (ownPath s)) then .next (fence b)
      else .next (startChange (survivors s (ownPath s)) (failedBeside s (survivors s (ownPath s))) 3 b) := by
  subst taken
  simp only [exec_failureDecision, execFailureDecision, reported]
  exact if_pos (by simp [head, due])

/-- R256: a member that has missed the heartbeats claims. -/
theorem exec_heartbeatLoss_claims (member : s.get F.CLU_STATUS.STATE = 2 ∨ s.get F.CLU_STATUS.STATE = 3) (other : isHead s = false)
    (unclaimed : s.clu.claimTb = none) (undeferred : s.clu.deferTb = none)
    (due : s.get F.CLU_CFG.HEAD_MS * 1000000 ≤ s.since s.clu.heardTb) :
    exec .heartbeatLoss s = .next (flood 8 (s.get F.CLU_STATUS.EPOCH) none []
      { s with clu := { s.clu with claimTb := some s.now } }) := by
  rw [exec_heartbeatLoss, execHeartbeatLoss]
  exact if_pos ⟨member, by simp [other], by simp [unclaimed], by simp [undeferred], due⟩

/-- R256: a claim that settles defers to a lower path. -/
theorem exec_claimSettle_defers (claims : s.clu.claimTb = some a) (due : s.get F.CLU_CFG.SETTLE_MS * 1000000 ≤ s.since a)
    (lower : ∃ p ∈ s.clu.claims, p < ownPath s) :
    exec .claimSettle s = .next { s with clu := { s.clu with claimTb := none, deferTb := some s.now } } := by
  simp only [exec_claimSettle, execClaimSettle, claims, if_neg (Nat.not_lt.2 due)]
  exact if_pos (by simpa using lower)

/-- R256: a claim that settles with no lower one fences the member, or makes it the top head of those that claimed with it. -/
theorem exec_claimSettle_lowest (claims : s.clu.claimTb = some a) (due : s.get F.CLU_CFG.SETTLE_MS * 1000000 ≤ s.since a)
    (lowest : ∀ p ∈ s.clu.claims, ownPath s ≤ p) {b : State} (taken : { s with clu := { s.clu with claimTb := none } } = b) :
    exec .claimSettle s = if !majority b (claimants s) then .next (fence b)
      else .next ((startChange (claimants s) (failedBeside s (claimants s)) 3 b).put F.CLU_STATUS.HEAD (ownPath s)) := by
  subst taken
  simp only [exec_claimSettle, execClaimSettle, claims, if_neg (Nat.not_lt.2 due)]
  exact if_neg (by simpa using lowest)

theorem exec_deferredClaimTimeout_due (deferred : s.clu.deferTb = some a) (due : s.get F.CLU_CFG.HEAD_MS * 1000000 ≤ s.since a) :
    exec .deferredClaimTimeout s = .next (fence s) := by
  simp only [exec_deferredClaimTimeout, execDeferredClaimTimeout, deferred]
  exact if_pos due

end

/-! ### A port that is down -/

section
variable {s : State} {p : Fin 4}

/-- R241: the state in which a port has been noted as down, and logged. -/
def notedDown (p : Fin 4) (s : State) : State := (setPort p (fun x => { x with down := true }) s).log 0x42 p

/-- R264: the path of a port's partner in its last HELLO. -/
def lastPartner (s : State) (p : Fin 4) : Nat :=
  match s.clu.hellos.find? (fun h => h.id == s.get (F.ST_PORT_STATUS.PEER_ID p)) with
  | some h => h.path
  | none => 0

/-- R241, R264: a port that is out of ACTIVE too long, or reset too often, is noted as down; in a clutch the link is reported. -/
theorem exec_stitchDown_reports (fresh : (portSt s p).down = false)
    (cause : (∃ a, (portSt s p).leftActive = some a ∧ portState s p ≠ 6 ∧ s.get (F.ST_PORT_CFG.DOWN_US p) * 1000 ≤ s.since a) ∨
      8 ≤ ((portSt s p).resets.filter (fun t => decide (s.transit < t + 1000000))).length)
    {b : State} (noted : notedDown p s = b) :
    exec (.stitchDown p) s = if !b.inClutch then .next b
      else .next (addReport (ownPath b) p (lastPartner b p) (flood 7 (p.val + lastPartner b p * 2 ^ 8) none [] b)) := by
  subst noted
  rw [exec_stitchDown, execStitchDown]
  refine if_pos ?_
  rcases cause with ⟨a, left, away, late⟩ | often
  · simp [left, away, late, fresh]
  · simp [often, fresh]

end

end Sys2Proof.Machine

open Sys2Proof.Machine in
/-- Settles O47: each row by what it does once its conditions hold; a decision or a settled claim by whether its set is a majority, and a
port that is down by whether the device is in a clutch. -/
theorem clutchTimers : Obligations.ClutchTimers := by
  refine ⟨fun s configured active due => exec_helloTimer_due configured active due rfl,
    fun s a began due forms unseen headless lowest => exec_headElection_elects began due forms unseen headless lowest rfl,
    fun s a elected forms first due => exec_formationDeadline_due elected forms first due rfl,
    fun s head due => exec_rosterHeartbeat_due head due rfl, fun s a reported head due => ?_,
    fun s member other unclaimed undeferred due => exec_heartbeatLoss_claims member other unclaimed undeferred due,
    fun s a claims due => ⟨exec_claimSettle_defers claims due, fun lowest minority => ?_, fun lowest most => ?_⟩,
    fun s a deferred due => exec_deferredClaimTimeout_due deferred due, fun s p fresh cause => ?_⟩
  · rw [exec_failureDecision_settled reported head due rfl]
    exact ⟨fun own most => if_neg (by simp [own, most]), fun lost => if_pos (by simpa using lost)⟩
  · rw [exec_claimSettle_lowest claims due lowest rfl]
    exact if_pos (by rw [Bool.not_eq_true']; exact minority)
  · rw [exec_claimSettle_lowest claims due lowest rfl]
    exact if_neg (by rw [Bool.not_eq_true', Bool.not_eq_false]; exact most)
  · rw [exec_stitchDown_reports fresh cause rfl]
    exact ⟨fun alone => if_pos (by rw [Bool.not_eq_true']; exact alone),
      fun clutch => if_neg (by rw [Bool.not_eq_true', Bool.not_eq_false]; exact clutch)⟩
end

section
/-!
The clutch's control messages (R253 to R256, R263, R264, R269, R270): the row that names a message's sub-operation takes it from the front
of a port's buffer, answers the neighbour, and acts on it and passes it on as R254 says.
-/

namespace Sys2Proof.Machine

/-! ### A control message at the front of a port -/

/-- R254: the state in which a control message has been remembered, among the 64 last ones (log entry 37), and has left on the other
ACTIVE ports. -/
def passedOn (p : Nat) (m : StMsg) (s : State) : State :=
  floodOut (some p) m { s with clu := { s.clu with seen := remember m.src.toNat (m.mask.toNat % 2 ^ 32) s.clu.seen } }

section
variable {s u a f : State} {p op : Nat} {h m : StMsg} (act : StMsg → State → State)
  (next : nextMsg (portSt s p) 0 = some h) (control : h.opcode = 8) (sub : h.arg.toNat % 256 = op)
  (taken : takeHead p 0 s = some (m, u)) (answered : sendCmp p m.tag.toNat m.src.toNat 0 0 0 [] u = a)

include next control sub taken answered

/-- R254: a message that names the row's sub-operation is taken and answered; what follows depends on whether it is fresh. -/
theorem onClu_takes :
    onClu p op act s = pump (settle (
      if a.clu.seen.contains (m.src.toNat, m.mask.toNat % 2 ^ 32) || m.src.toNat == ownPath a then a
      else if slice m.mask.toNat 32 1 = 1 ∨ m.dst.toNat = ownPath (passedOn p m a) then act m (passedOn p m a)
      else passedOn p m a)) := by
  subst answered
  exact onMsg_takes _ next taken (by simp [control, sub])

/-- R254: a message seen before, or this member's own, goes no further. -/
theorem onClu_known (known : a.clu.seen.contains (m.src.toNat, m.mask.toNat % 2 ^ 32) = true ∨ m.src.toNat = ownPath a) :
    onClu p op act s = pump (settle a) := by
  rw [onClu_takes act next control sub taken answered, if_pos (by simpa using known)]

/-- R254: a fresh message is passed on, and acted on where it is for every member or names this one. -/
theorem onClu_fresh (unseen : a.clu.seen.contains (m.src.toNat, m.mask.toNat % 2 ^ 32) = false) (foreign : m.src.toNat ≠ ownPath a)
    (passed : passedOn p m a = f) :
    onClu p op act s = pump (settle (if slice m.mask.toNat 32 1 = 1 ∨ m.dst.toNat = ownPath f then act m f else f)) := by
  subst passed
  rw [onClu_takes act next control sub taken answered, if_neg (by rw [unseen]; simpa using foreign)]

end

end Sys2Proof.Machine

open Sys2Proof.Machine in
/-- Settles O46: each row is `onClu` for its sub-operation and effect (LEVEL keeps the totals of log entry 36); a message that is known
by `onClu_known`, a fresh one by `onClu_fresh`, split by whether it is for this member. -/
theorem clutchMessages : Obligations.ClutchMessages := by
  intro s u p h m act i op row next control sub taken
  have meaning : exec i s = .next (onClu p op act s) := by
    simp only [List.mem_cons, List.not_mem_nil, or_false, Prod.mk.injEq] at row
    obtain ⟨rfl, rfl, rfl⟩ | ⟨rfl, rfl, rfl⟩ | ⟨rfl, rfl, rfl⟩ | ⟨rfl, rfl, rfl⟩ | ⟨rfl, rfl, rfl⟩ | ⟨rfl, rfl, rfl⟩ |
      ⟨rfl, rfl, rfl⟩ | ⟨rfl, rfl, rfl⟩ | ⟨rfl, rfl, rfl⟩ | ⟨rfl, rfl, rfl⟩ | ⟨rfl, rfl, rfl⟩ := row
    exacts [exec_hello p s, exec_roster p s, exec_routeSet p s, exec_hold p s, exec_held p s, exec_resume p s, exec_linkDown p s,
      exec_claim p s, exec_level p s, exec_recallLeases p s, exec_leave p s]
  intro a n
  rw [meaning]
  refine ⟨fun known => ?_, fun unseen foreign => ?_⟩
  · rw [onClu_known act next control sub taken rfl known]
  · intro f
    rw [onClu_fresh act next control sub taken rfl unseen foreign (f := f) rfl]
    exact ⟨fun here => by rw [if_pos here], fun one away => by rw [if_neg (by simp [one, away])]⟩
end

section
/-!
The scheduler of a DRAM channel (R284 to R287, R290, R291): what DRAM_COMMAND_ISSUE answers as soon as its rules have settled which
command is next.
-/

namespace Sys2Proof.Machine

section
variable {s : State} {c : Fin 16} {sc : Fin 2} (bl : List Nat)

/-- R294: a channel that does not serve, or whose fabric sleeps, issues nothing. -/
theorem exec_dramCommandIssue_off (off : (s.chans.get c).live = false ∨ s.asleep = true) :
    exec (.dramCommandIssue c sc bl) s = .next s := by
  rw [exec_dramCommandIssue, execDramCommandIssue]
  exact if_pos (by simpa using off)

variable (live : (s.chans.get c).live = true) (awake : s.asleep = false)
include live awake

/-- R290, R292: a row that is due for refresh closes before anything else. -/
theorem exec_dramCommandIssue_due {r : OpenRow} (due : dueRow s c sc = some r) :
    exec (.dramCommandIssue c sc bl) s = .next (closeRow c r s) := by
  simp [exec_dramCommandIssue, execDramCommandIssue, live, awake, due]

variable (fresh : dueRow s c sc = none)
include fresh

/-- R284: a write-back for which the transit has reserved slots left goes before the requests. -/
theorem exec_dramCommandIssue_reserved {w : Nat × BitVec 640} (reserved : reservedFix s c sc = some w) :
    exec (.dramCommandIssue c sc bl) s = .next (issueFix c w s) := by
  simp [exec_dramCommandIssue, execDramCommandIssue, live, awake, fresh, reserved]

variable (unreserved : reservedFix s c sc = none) {u : State} (drain : updateDrain c sc s = u)
include unreserved drain

/-- R284, R285: with no entry to advance, a write-back that waits is issued. -/
theorem exec_dramCommandIssue_idle (idle : choose u c (candidates u c sc bl) = none) :
    exec (.dramCommandIssue c sc bl) s = .next ((waitingFix u c sc).elim u (issueFix c · u)) := by
  simp only [exec_dramCommandIssue, execDramCommandIssue, live, awake, fresh, unreserved, drain, idle, Bool.not_true, Bool.or_self,
    Bool.false_eq_true, if_false]
  cases waitingFix u c sc with
  | none => rfl
  | some w => rfl

/-- R285, R291: the entry that is chosen is advanced by the one command that it needs next. -/
theorem exec_dramCommandIssue_chosen {d : DramReq} (chosen : choose u c (candidates u c sc bl) = some d) {p : Place}
    (place : entryPlace u c d = p) :
    exec (.dramCommandIssue c sc bl) s =
      .next (if (rankAt u c p.rank).powerDown = true then
          sendDram c sc (.pdx p.rank) (setRank c p.rank (fun k => { k with powerDown := false }) u)
        else (openRowOf u c p).elim (sendDram c sc (.act p.rank p.bg p.ba p.row) ((openRow c p u).count 0x703 c))
          fun r => if r.row ≠ p.row then closeRow c r u
            else if slotLeft u c = true then pushWrites (updateDrain c sc (columnAccess c sc d p u)) else u) := by
  simp only [exec_dramCommandIssue, execDramCommandIssue, live, awake, fresh, unreserved, drain, chosen, place, Bool.not_true,
    Bool.or_self, Bool.false_eq_true, if_false, apply_ite Host.Outcome.next]
  cases openRowOf u c p with
  | none => rfl
  | some r => simp only [Option.elim_some, apply_ite Host.Outcome.next]

end

/-- R285: the oldest open row of the subchannel that the timeout names closes. -/
theorem exec_rowCloseTimeout_closes {s : State} {c : Fin 16} {sc : Fin 2} {r : OpenRow}
    (idle : (s.chans.get c).rows.find? (fun r => r.sc == sc.val && !queuedHit s c r && decide (60 ≤ s.since r.last)) = some r) :
    exec (.rowCloseTimeout c sc) s = .next (closeRow c r s) := by
  simp only [exec_rowCloseTimeout, execRowCloseTimeout, idle]

/-- R280: what a write-back that is issued stores, and that it waits no longer. -/
theorem issueFix_stores (s : State) (c : Nat) (w : Nat × BitVec 640) :
    (issueFix c w s).dram = s.dram.set (dramKey c w.1) w.2 ∧
    ((issueFix c w s).chans.get c).writebacks = eraseFirst (fun x => x.1 == w.1) (s.chans.get c).writebacks := by
  refine ⟨rfl, ?_⟩
  simp [issueFix, burst, takeMaint, State.bump]

end Sys2Proof.Machine

open Sys2Proof.Machine in
/-- Settles O12: DRAM_COMMAND_ISSUE by what its rules settle, in their order; a chosen entry by the state of its rank and bank. -/
theorem dramSchedulerRows : Obligations.DramSchedulerRows := by
  refine ⟨fun s c sc bl live awake => ⟨fun r due => exec_dramCommandIssue_due bl live awake due,
      fun w fresh reserved => exec_dramCommandIssue_reserved bl live awake fresh reserved⟩,
    fun s c w => issueFix_stores s c w, fun s c sc bl live awake fresh unreserved idle => ?_,
    fun s c sc bl live awake fresh unreserved d chosen => ?_, fun s c sc bl off => exec_dramCommandIssue_off bl off,
    fun s c sc r idle => exec_rowCloseTimeout_closes idle⟩
  · rw [exec_dramCommandIssue_idle bl live awake fresh unreserved rfl idle]
    exact ⟨fun w waits => by rw [waits]; rfl, fun none_waits => by rw [none_waits]; rfl⟩
  · intro u p
    rw [exec_dramCommandIssue_chosen bl live awake fresh unreserved rfl chosen rfl]
    refine ⟨fun down => by rw [if_pos down], ?_, ?_, ?_, ?_⟩
    · intro r up bank same left
      rw [if_neg (ne_true_of_eq_false up), bank, Option.elim_some, if_neg (not_not_intro same), if_pos left]
    · intro r up bank same full
      rw [if_neg (ne_true_of_eq_false up), bank, Option.elim_some, if_neg (not_not_intro same), if_neg (ne_true_of_eq_false full)]
    · intro r up bank other
      rw [if_neg (ne_true_of_eq_false up), bank, Option.elim_some, if_pos other]
    · intro up closed
      rw [if_neg (ne_true_of_eq_false up), closed, Option.elim_none]
end

section
/-!
Writes to register fields: what a run of them leaves alone (`Writes`), and what a field reads after the same is done once for every
number below a bound (`get_forAll_range`).
-/

namespace Sys2Proof.Machine

/-- A field of the register at an address. -/
def InReg (a : Nat) (f : Fld) : Prop := f.addr = a ∧ f.lo < 64

theorem InReg.key_ne {a : Nat} {f g : Fld} (hg : InReg a g) (other : f.addr ≠ a) (lo : f.lo < 64) : f.key ≠ g.key :=
  Fld.key_ne_of_addr (fun h => other (h.trans hg.1)) hg.2 lo

/-- `t` differs from `s` only in register fields of `W` and in the DRAM controllers beside their registers. -/
structure Writes (W : Fld → Prop) (s t : State) : Prop where
  rest : t = { s with regs := t.regs, chans := t.chans }
  get : ∀ f : Fld, (∀ g, W g → f.key ≠ g.key) → t.get f = s.get f

section
variable {W V : Fld → Prop} {s t u : State}

theorem Writes.refl (s : State) : Writes W s s := ⟨rfl, fun _ _ => rfl⟩

theorem Writes.trans (h : Writes W s t) (k : Writes W t u) : Writes W s u := by
  refine ⟨?_, fun f hf => (k.get f hf).trans (h.get f hf)⟩
  have hu := k.rest
  rw [h.rest] at hu
  exact hu

theorem Writes.mono (h : Writes W s t) (sub : ∀ f, W f → V f) : Writes V s t :=
  ⟨h.rest, fun f hf => h.get f fun g hg => hf g (sub g hg)⟩

theorem Writes.put (h : Writes W s t) {f : Fld} (hf : W f) (v : Nat) : Writes W s (t.put f v) :=
  h.trans ⟨rfl, fun _ hg => State.get_put_ne (hg f hf) _ _⟩

theorem Writes.chans (h : Writes W s t) (chans : Tab ChanSt {}) : Writes W s { t with chans := chans } :=
  h.trans ⟨rfl, fun _ _ => rfl⟩

theorem Writes.flag (h : Writes W s t) (f : Fld) (hf : ∀ g, W g → f.key ≠ g.key) : t.flag f = s.flag f :=
  congrArg (· != 0) (h.get f hf)

theorem Writes.forAll {α : Type} {l : List α} {f : α → State → State} (hf : ∀ a ∈ l, ∀ t, Writes W t (f a t)) (h : Writes W s t) :
    Writes W s (forAll l f t) := by
  induction l generalizing t with
  | nil => exact h
  | cons a l ih => exact ih (fun b hb => hf b (List.mem_cons_of_mem _ hb)) (h.trans (hf a List.mem_cons_self t))

/-- A part of the state that each round of a loop keeps is as before the loop. -/
theorem forAll_keeps {α β : Type} (part : State → β) {l : List α} {f : α → State → State} (hf : ∀ a t, part (f a t) = part t) :
    part (forAll l f s) = part s := by
  induction l generalizing s with
  | nil => rfl
  | cons a l ih => exact (ih (s := f a s)).trans (hf a s)

/-- A field that no round after round `k` writes reads what that round leaves; the rounds before it have written only their own fields. -/
theorem get_forAll_range {W : Nat → Fld → Prop} {f : Nat → State → State} (hf : ∀ i t, Writes (W i) t (f i t)) {n k : Nat} (hk : k < n)
    {g : Fld} (later : ∀ i, k < i → ∀ w, W i w → g.key ≠ w.key) (s : State) :
    ∃ u, Writes (fun w => ∃ i < k, W i w) s u ∧ (forAll (List.range n) f s).get g = (f k u).get g := by
  have before (m : Nat) : Writes (fun w => ∃ i < m, W i w) s (forAll (List.range m) f s) :=
    (Writes.refl s).forAll fun i hi t => (hf i t).mono fun w hw => ⟨i, List.mem_range.1 hi, hw⟩
  induction n with
  | zero => exact absurd hk (Nat.not_lt_zero k)
  | succ n ih =>
    have last : forAll (List.range (n + 1)) f s = f n (forAll (List.range n) f s) := by
      rw [List.range_succ, forAll, List.foldl_append]
      rfl
    rcases Nat.lt_succ_iff_lt_or_eq.1 hk with earlier | rfl
    · obtain ⟨u, written, value⟩ := ih earlier
      exact ⟨u, written, by rw [last, (hf n _).get g (later n earlier), value]⟩
    · exact ⟨_, before k, by rw [last]⟩

end

end Sys2Proof.Machine
end

section
/-!
Configuration and training of the DRAM channels (R271, R272, R281, R282, R296, R297, R299): ENABLE, LOCK, zero initialisation, and the
start and the end of a training step.
-/

namespace Sys2Proof.Machine

section
variable {s t u : State} {c : Nat}

/-! ### Configuration -/

/-- R272: the fields of DCn_CFG that LOCK locks. -/
def CfgFld (c : Nat) (f : Fld) : Prop := f.addr = 0x200000 + 0x10000 * c ∧ (f.lo ≤ 12 ∨ f.lo = 36)

theorem CfgFld.key_ne {g : Fld} (hg : CfgFld c g) {f : Fld} (ha : f.addr = 0x200000 + 0x10000 * c)
    (hf : 13 ≤ f.lo ∧ f.lo < 64 ∧ f.lo ≠ 36) : f.key ≠ g.key := by
  obtain ⟨hga, hgl⟩ := hg
  simp only [Fld.key]
  omega

theorem writes_cfgFields (c v : Nat) (s : State) : Writes (CfgFld c) s (cfgFields c v s) := by
  unfold cfgFields
  extract_lets t1 t2 t3
  have h2 : Writes (CfgFld c) s t2 := ((((Writes.refl s).put ⟨rfl, .inr rfl⟩ _).put ⟨rfl, .inl (by simp [F.DC_CFG.RANK_BITS])⟩ _).put
    ⟨rfl, .inl (by simp [F.DC_CFG.MRDIMM])⟩ _).put ⟨rfl, .inl (by simp [F.DC_CFG.X8])⟩ _
  have h3 : Writes (CfgFld c) s t3 := by
    unfold t3
    split
    · exact h2.put ⟨rfl, .inl (by simp [F.DC_CFG.DPC])⟩ _
    · exact h2
  split
  · exact .refl s
  split
  · exact h3.put ⟨rfl, .inl (by simp [F.DC_CFG.SPEED])⟩ _
  · exact h3

/-- R271: whether a configuration is accepted turns on the fields that LOCK locks. -/
theorem cfgAccepted_congr (same : Bool) (maxFrames : Nat) (get : ∀ f, CfgFld c f → t.get f = s.get f) :
    cfgAccepted t c same maxFrames = cfgAccepted s c same maxFrames := by
  simp only [cfgAccepted, State.flag, get (F.DC_CFG.DPC c) ⟨rfl, .inl (by simp [F.DC_CFG.DPC])⟩,
    get (F.DC_CFG.SPEED c) ⟨rfl, .inl (by simp [F.DC_CFG.SPEED])⟩, get (F.DC_CFG.RANK_BITS c) ⟨rfl, .inl (by simp [F.DC_CFG.RANK_BITS])⟩,
    get (F.DC_CFG.FRAMES c) ⟨rfl, .inr rfl⟩, get (F.DC_CFG.MRDIMM c) ⟨rfl, .inl (by simp [F.DC_CFG.MRDIMM])⟩,
    get (F.DC_CFG.X8 c) ⟨rfl, .inl (by simp [F.DC_CFG.X8])⟩]
  rfl

/-- R272: what setting LOCK on an unlocked channel leaves. -/
structure Locks (c rated : Nat) (accepted : Bool) (s t : State) : Prop where
  locked : t.get (F.DC_CFG.LOCK c) = 1
  rated : (t.chans.get c).rated = rated
  kept : ∀ f, CfgFld c f → t.get f = s.get f
  accepts : accepted = true → t.get (F.DC_CFG.CFG_ERR c) = s.get (F.DC_CFG.CFG_ERR c)
  refuses : accepted = false → t.get (F.DC_CFG.CFG_ERR c) = 1

theorem lockCfg_locks (hc : c < 16) (unlocked : s.flag (F.DC_CFG.LOCK c) = false) (same : Bool) (maxFrames rated : Nat) :
    Locks c rated (cfgAccepted s c same maxFrames) s (lockCfg c same maxFrames rated s) := by
  rw [lockCfg, if_neg (ne_true_of_eq_false unlocked)]
  extract_lets p a
  have kept : ∀ f, CfgFld c f → a.get f = s.get f := fun f hf =>
    State.get_put_ne (hf.key_ne (f := F.DC_CFG.LOCK c) rfl (by simp [F.DC_CFG.LOCK])).symm s 1
  have locked : a.get (F.DC_CFG.LOCK c) = 1 := State.get_put_same s _ 1
  have err : a.get (F.DC_CFG.CFG_ERR c) = s.get (F.DC_CFG.CFG_ERR c) :=
    State.get_put_ne (f := F.DC_CFG.LOCK c) (g := F.DC_CFG.CFG_ERR c) (by simp [Fld.key, F.DC_CFG.CFG_ERR, F.DC_CFG.LOCK]) s 1
  have rates : (a.chans.get c).rated = rated := by simp [a]
  rw [cfgAccepted_congr same maxFrames kept]
  cases cfgAccepted s c same maxFrames with
  | true => exact ⟨locked, rates, kept, fun _ => err, nofun⟩
  | false =>
    have logged : ∀ f : Fld, f.addr = 0x200000 + 0x10000 * c → f.lo < 64 →
        ((a.put (F.DC_CFG.CFG_ERR c) 1).log 0x51 c).get f = (a.put (F.DC_CFG.CFG_ERR c) 1).get f := fun f ha hl =>
      (quiet_log (.refl _) _ _ _ _).reg f hl (ha ▸ reportReg_cfg hc)
    refine ⟨?_, ?_, fun f hf => ?_, nofun, fun _ => ?_⟩
    · rw [if_neg Bool.false_ne_true, logged _ rfl (by simp [F.DC_CFG.LOCK]),
        State.get_put_ne (by simp [Fld.key, F.DC_CFG.CFG_ERR, F.DC_CFG.LOCK]), locked]
    · rw [if_neg Bool.false_ne_true, log_chans, State.put_chans, rates]
    · rw [if_neg Bool.false_ne_true, logged f hf.1 (by have := hf.2; omega),
        State.get_put_ne (hf.key_ne (f := F.DC_CFG.CFG_ERR c) rfl (by simp [F.DC_CFG.CFG_ERR])).symm, kept f hf]
    · rw [if_neg Bool.false_ne_true, logged _ rfl (by simp [F.DC_CFG.CFG_ERR])]
      exact State.get_put_same _ _ _

/-- R272, R287: a write of 0 to ENABLE changes at most ENABLE and ZEROED. -/
theorem writeEnable_zero_leaves (c : Nat) (s : State) : (writeEnable c 0 s).chans = s.chans ∧
    ∀ f : Fld, f.addr = 0x200000 + 0x10000 * c → f.lo < 64 → f.lo ≠ 30 → f.lo ≠ 34 → (writeEnable c 0 s).get f = s.get f := by
  rw [writeEnable, if_neg (by decide)]
  split
  · refine ⟨rfl, fun f ha hl enable zeroed => ?_⟩
    rw [State.get_put_ne (by simp only [Fld.key, F.DC_CFG.ZEROED]; omega),
      State.get_put_ne (by simp only [Fld.key, F.DC_CFG.ENABLE]; omega)]
  · exact ⟨rfl, fun _ _ _ _ _ => rfl⟩

/-- R272: a write that sets LOCK on an unlocked channel, with ENABLE 0. -/
theorem exec_dcCfgWrite_locks {c : Fin 16} {v : Word} (same : Bool) (max : BitVec 28) (rated : Fin 5)
    (unlocked : s.flag (F.DC_CFG.LOCK c) = false) (lock : slice v.toNat 31 1 = 1) (enable : slice v.toNat 30 1 = 0) :
    ∃ t, exec (.dcCfgWrite c v same max rated) s = .next t ∧ Locks c rated (cfgAccepted s c same max.toNat) s t := by
  generalize ha : (if 100 ≤ slice v.toNat 16 14 then s.put (F.DC_CFG.AGE_NS c) (slice v.toNat 16 14) else s) = a
  have aged : Writes (· = F.DC_CFG.AGE_NS c) s a := by
    rw [← ha]
    split
    · exact (Writes.refl s).put (W := (· = F.DC_CFG.AGE_NS c)) rfl _
    · exact .refl s
  have run : exec (.dcCfgWrite c v same max rated) s = .next (writeEnable c 0 (lockCfg c same max.toNat rated a)) := by
    simp only [exec_dcCfgWrite, execDcCfgWrite, lock, enable, if_true, ha]
  have kept : ∀ f, CfgFld c f → a.get f = s.get f := fun f hf =>
    aged.get f fun g hg => hg ▸ (hf.key_ne (f := F.DC_CFG.AGE_NS c) rfl (by simp [F.DC_CFG.AGE_NS])).symm
  have other : ∀ f : Fld, f.addr = 0x200000 + 0x10000 * c → f.lo < 64 → f.lo ≠ 16 → a.get f = s.get f := fun f hf hl age =>
    aged.get f fun g hg => by subst hg; simp only [Fld.key, F.DC_CFG.AGE_NS]; omega
  have unlocked' : a.flag (F.DC_CFG.LOCK c) = false := by
    rw [State.flag, other _ rfl (by simp [F.DC_CFG.LOCK]) (by simp [F.DC_CFG.LOCK])]
    exact unlocked
  obtain ⟨locked, rates, keeps, accepts, refuses⟩ := lockCfg_locks c.isLt unlocked' same max.toNat rated
  obtain ⟨chans, get⟩ := writeEnable_zero_leaves c (lockCfg c same max.toNat rated a)
  rw [cfgAccepted_congr same max.toNat kept] at accepts refuses
  refine ⟨_, run, ?_, ?_, fun f hf => ?_, fun h => ?_, fun h => ?_⟩
  · rw [get _ rfl (by simp [F.DC_CFG.LOCK]) (by simp [F.DC_CFG.LOCK]) (by simp [F.DC_CFG.LOCK]), locked]
  · rw [chans, rates]
  · obtain ⟨ha, hl⟩ := hf
    rw [get f ha (by omega) (by omega) (by omega), keeps f ⟨ha, hl⟩, kept f ⟨ha, hl⟩]
  · rw [get _ rfl (by simp [F.DC_CFG.CFG_ERR]) (by simp [F.DC_CFG.CFG_ERR]) (by simp [F.DC_CFG.CFG_ERR]), accepts h,
      other _ rfl (by simp [F.DC_CFG.CFG_ERR]) (by simp [F.DC_CFG.CFG_ERR])]
  · rw [get _ rfl (by simp [F.DC_CFG.CFG_ERR]) (by simp [F.DC_CFG.CFG_ERR]) (by simp [F.DC_CFG.CFG_ERR]), refuses h]

/-- R272: a write of ENABLE alone. -/
theorem exec_dcCfgWrite_enable (c : Fin 16) (same : Bool) (max : BitVec 28) (rated : Fin 5) (s : State) :
    exec (.dcCfgWrite c (BitVec.ofNat 64 (2 ^ 30)) same max rated) s = .next (writeEnable c 1 (cfgFields c (2 ^ 30) s)) := by
  simp [exec_dcCfgWrite, execDcCfgWrite, slice]

/-- R272, R287, R296: ENABLE of a channel whose lines are zeroed is set, unless its configuration was refused. -/
theorem writeEnable_one (zeroed : s.flag (F.DC_CFG.ZEROED c) = true) :
    writeEnable c 1 s = if s.flag (F.DC_CFG.CFG_ERR c) = true then s else wasEnabled c (s.put (F.DC_CFG.ENABLE c) 1) := by
  rw [writeEnable, if_pos rfl, zeroed]
  cases s.flag (F.DC_CFG.CFG_ERR c) with
  | true => rfl
  | false => rfl

theorem exec_dcCfgWrite_enables (c : Fin 16) (same : Bool) (max : BitVec 28) (rated : Fin 5)
    (zeroed : s.flag (F.DC_CFG.ZEROED c) = true) :
    ∃ t, exec (.dcCfgWrite c (BitVec.ofNat 64 (2 ^ 30)) same max rated) s = .next t ∧
      (s.flag (F.DC_CFG.CFG_ERR c) = false → t.get (F.DC_CFG.ENABLE c) = 1) ∧
      (s.flag (F.DC_CFG.CFG_ERR c) = true → t.get (F.DC_CFG.ENABLE c) = s.get (F.DC_CFG.ENABLE c)) ∧ t.dram = s.dram := by
  have written := writes_cfgFields c (2 ^ 30) s
  have zeroed' := written.flag (F.DC_CFG.ZEROED c) fun g hg => hg.key_ne rfl (by simp [F.DC_CFG.ZEROED])
  have err := written.flag (F.DC_CFG.CFG_ERR c) fun g hg => hg.key_ne rfl (by simp [F.DC_CFG.CFG_ERR])
  refine ⟨_, exec_dcCfgWrite_enable c same max rated s, ?_⟩
  rw [writeEnable_one (zeroed'.trans zeroed), err]
  cases s.flag (F.DC_CFG.CFG_ERR c) with
  | true =>
    exact ⟨nofun, fun _ => written.get _ fun g hg => hg.key_ne rfl (by simp [F.DC_CFG.ENABLE]), by rw [if_pos rfl, written.rest]⟩
  | false =>
    rw [if_neg Bool.false_ne_true]
    refine ⟨fun _ => State.get_put_same (cfgFields c (2 ^ 30) s) (F.DC_CFG.ENABLE c) 1, nofun, ?_⟩
    show (cfgFields c (2 ^ 30) s).dram = s.dram
    rw [written.rest]

/-! ### Zero initialisation -/

/-- A table restricted to some keys reads as before there, and as its default elsewhere. -/
theorem Tab.get_keep {α : Type} {d : α} (T : Tab α d) (p : Nat → Bool) (k : Nat) :
    (T.keep fun k _ => p k).get k = if p k = true then T.get k else d := by
  have cells : ∀ l : List (Nat × α), cellFind k (l.filter fun c => p c.1) = if p k = true then cellFind k l else none := by
    intro l
    induction l with
    | nil => simp [cellFind]
    | cons c l ih =>
      obtain ⟨a, v⟩ := c
      by_cases keeps : p a = true
      · by_cases here : a = k
        · subst here
          simp [keeps, cellFind]
        · simp [keeps, cellFind, here, ih]
      · by_cases here : a = k
        · subst here
          simp [keeps, ih]
        · simp [keeps, cellFind, here, ih]
  simp only [Tab.keep, Tab.get, cells]
  split
  · rfl
  · rfl

/-- R282: the marks that return from the logbook lie in registers. -/
theorem restoreMarks_rest (c : Nat) (s : State) : Writes (fun _ => True) s (restoreMarks c s) := by
  unfold restoreMarks
  split
  · exact .refl s
  split
  · exact .refl s
  · exact (Writes.refl s).forAll fun k _ t =>
      ((((Writes.refl t).put trivial _).put trivial _).put trivial _).put trivial _

theorem dramKey_div {c line : Nat} (h : line < 2 ^ 34) : dramKey c line / 2 ^ 34 = c := by
  simp only [dramKey]
  omega

/-- R296: a table of lines without those of a channel. -/
theorem Tab.get_keep_otherChannels {α : Type} {d : α} (T : Tab α d) (c : Nat) {x line : Nat} (h : line < 2 ^ 34) :
    (T.keep fun k _ => k / 2 ^ 34 != c).get (dramKey x line) = if x = c then d else T.get (dramKey x line) := by
  rw [Tab.get_keep T (fun k => k / 2 ^ 34 != c), dramKey_div h]
  by_cases same : x = c
  · rw [if_pos same, if_neg (by simpa using same)]
  · rw [if_neg same, if_pos (by simpa using same)]

/-- R296: zero initialisation of a channel that may be initialised. -/
theorem exec_zeroInitComplete_zeroes {c : Fin 16} (frames : s.get (F.DC_CFG.FRAMES c) ≠ 0) (sound : s.flag (F.DC_CFG.CFG_ERR c) = false)
    (off : s.flag (F.DC_CFG.ENABLE c) = false) (idle : s.flag (F.DC_TRN_CTRL.BUSY c) = false)
    (untrained : (s.chans.get c).trainer = none) (passed : (s.chans.get c).trainFailed = false) :
    ∃ t, exec (.zeroInitComplete c) s = .next t ∧ t.get (F.DC_CFG.ZEROED c) = 1 ∧
      t.dram = s.dram.keep (fun k _ => k / 2 ^ 34 != c) ∧ t.frames = s.frames ∧ t.regions = s.regions := by
  have marks := (restoreMarks_rest c s).rest
  simp only [exec_zeroInitComplete, execZeroInitComplete, frames, sound, off, idle, untrained, passed, Option.isSome_none,
    Bool.false_eq_true, or_self, if_false]
  refine ⟨_, rfl, State.get_put_same _ _ _, ?_⟩
  rw [State.put_dram, State.put_frames, State.put_regions, marks]
  exact ⟨rfl, rfl, rfl⟩

/-! ### The start of a training step -/

/-- R297: the fields of DCn_TRN_CTRL that a write names operands of a step in. -/
def StepFld (c : Nat) (f : Fld) : Prop := f.addr = 0x200800 + 0x10000 * c ∧ f.lo ≤ 24

/-- R297: the state in which GO finds step `step` of subchannel 0 and rank 0. -/
def stepNamed (c step : Nat) (s : State) : State :=
  (((s.put (F.DC_TRN_CTRL.PATTERN c) 0).put (F.DC_TRN_CTRL.STEP c) step).put (F.DC_TRN_CTRL.SC c) 0).put (F.DC_TRN_CTRL.RANK c) 0

theorem writes_stepNamed (c step : Nat) (s : State) : Writes (StepFld c) s (stepNamed c step s) :=
  ((((Writes.refl s).put ⟨rfl, by simp [F.DC_TRN_CTRL.PATTERN]⟩ _).put ⟨rfl, by simp [F.DC_TRN_CTRL.STEP]⟩ _).put
    ⟨rfl, by simp [F.DC_TRN_CTRL.SC]⟩ _).put ⟨rfl, by simp [F.DC_TRN_CTRL.RANK]⟩ _

theorem stepNamed_get {step : Nat} (small : step < 8) (s : State) : (stepNamed c step s).get (F.DC_TRN_CTRL.STEP c) = step ∧
    (stepNamed c step s).get (F.DC_TRN_CTRL.SC c) = 0 ∧ (stepNamed c step s).get (F.DC_TRN_CTRL.RANK c) = 0 := by
  refine ⟨?_, ?_, State.get_put_same _ _ _⟩
  · rw [stepNamed, State.get_put_ne (by simp [Fld.key, F.DC_TRN_CTRL.STEP, F.DC_TRN_CTRL.RANK]),
      State.get_put_ne (by simp [Fld.key, F.DC_TRN_CTRL.STEP, F.DC_TRN_CTRL.SC]), State.get_put_same]
    exact Nat.mod_eq_of_lt (Nat.lt_trans small (by simp [F.DC_TRN_CTRL.STEP]))
  · rw [stepNamed, State.get_put_ne (by simp [Fld.key, F.DC_TRN_CTRL.SC, F.DC_TRN_CTRL.RANK]), State.get_put_same]
    exact Nat.zero_mod _

/-- R297: a write of GO with a step. -/
theorem exec_trainingGo_named (c : Fin 16) {step : Nat} (small : step < 8) (s : State) :
    exec (.trainingGo c (BitVec.ofNat 32 (step * 4096 + 1))) s = .next (goStep c (stepNamed c step s)) := by
  have value : (BitVec.ofNat 32 (step * 4096 + 1)).toNat = step * 4096 + 1 := by
    rw [BitVec.toNat_ofNat]
    omega
  have field (lo w n : Nat) (h : (step * 4096 + 1) / 2 ^ lo % 2 ^ w = n) : slice (step * 4096 + 1) lo w = n := h
  simp only [exec_trainingGo, execTrainingGo, value, field 30 1 0 (by omega), field 29 1 0 (by omega), field 24 2 0 (by omega),
    field 16 8 0 (by omega), field 12 4 step (by omega), field 11 1 0 (by omega), field 8 3 0 (by omega), field 0 1 1 (by omega),
    zero_ne_one, one_ne_zero, if_false, if_true, if_pos (show step ≤ 8 by omega)]
  rfl

theorem writes_goStep (c : Nat) (s : State) :
    Writes (fun f => f.addr = 0x200800 + 0x10000 * c ∧ (f.lo = 29 ∨ f.lo = 31)) s (goStep c s) := by
  unfold goStep
  extract_lets step
  split
  · exact .refl s
  split
  · exact (Writes.refl s).put ⟨rfl, .inl rfl⟩ 1
  · exact ((Writes.refl s).put (f := F.DC_TRN_CTRL.BUSY c) ⟨rfl, .inr rfl⟩ 1).chans _

/-- R297, R272: GO of an idle trainer starts the step where the channel neither serves nor was refused; else it sets BAD_REQ. -/
theorem goStep_idle (idle : s.flag (F.DC_TRN_CTRL.BUSY c) = false) (other : s.get (F.DC_TRN_CTRL.STEP c) ≠ 8) :
    ((s.flag (F.DC_CFG.ENABLE c) = true ∨ s.flag (F.DC_CFG.CFG_ERR c) = true) → goStep c s = s.put (F.DC_TRN_CTRL.BAD_REQ c) 1) ∧
    (s.flag (F.DC_CFG.ENABLE c) = false → s.flag (F.DC_CFG.CFG_ERR c) = false → goStep c s =
      { s.put (F.DC_TRN_CTRL.BUSY c) 1 with chans := s.chans.upd c (fun ch => { ch with
        trn := (s.get (F.DC_TRN_CTRL.STEP c), s.get (F.DC_TRN_CTRL.SC c), s.get (F.DC_TRN_CTRL.RANK c))
        zeroing := ch.zeroing && s.get (F.DC_TRN_CTRL.STEP c) == 8 }) }) := by
  rw [goStep, if_neg (ne_true_of_eq_false idle)]
  refine ⟨fun refused => if_pos ⟨other, refused⟩, fun off sound => if_neg ?_⟩
  simp [off, sound]

/-- R297, R272: GO with a step below 8, of subchannel 0 and rank 0. -/
theorem exec_trainingGo_starts (c : Fin 16) {step : Nat} (small : step < 8) (idle : s.flag (F.DC_TRN_CTRL.BUSY c) = false) :
    ∃ t, exec (.trainingGo c (BitVec.ofNat 32 (step * 4096 + 1))) s = .next t ∧ t.get (F.DC_TRN_CTRL.STEP c) = step ∧
      (s.flag (F.DC_CFG.ENABLE c) = false → s.flag (F.DC_CFG.CFG_ERR c) = false → t.get (F.DC_TRN_CTRL.BUSY c) = 1 ∧
        (t.chans.get c).trn = (step, 0, 0)) ∧
      (s.flag (F.DC_CFG.ENABLE c) = true ∨ s.flag (F.DC_CFG.CFG_ERR c) = true →
        t.get (F.DC_TRN_CTRL.BAD_REQ c) = 1 ∧ t.get (F.DC_TRN_CTRL.BUSY c) = 0) ∧
      t = { s with regs := t.regs, chans := t.chans } := by
  have named := writes_stepNamed c step s
  obtain ⟨stepIs, scIs, rankIs⟩ := stepNamed_get (c := c) small s
  have run := exec_trainingGo_named c small s
  generalize stepNamed c step s = u at named stepIs scIs rankIs run
  have cfg : ∀ f : Fld, f.addr = 0x200000 + 0x10000 * c → f.lo < 64 → u.flag f = s.flag f := fun f ha hl =>
    named.flag f fun g ⟨hga, hgl⟩ => Fld.key_ne_of_addr (by omega) (by omega) hl
  have enable := cfg (F.DC_CFG.ENABLE c) rfl (by simp [F.DC_CFG.ENABLE])
  have err := cfg (F.DC_CFG.CFG_ERR c) rfl (by simp [F.DC_CFG.CFG_ERR])
  have busy : u.flag (F.DC_TRN_CTRL.BUSY c) = false := (named.flag _ fun g ⟨hga, hgl⟩ => by
    simp only [Fld.key, F.DC_TRN_CTRL.BUSY]; omega).trans idle
  have busy0 : u.get (F.DC_TRN_CTRL.BUSY c) = 0 := by simpa [State.flag] using busy
  obtain ⟨bad, starts⟩ := goStep_idle busy (by omega)
  rw [enable, err] at bad starts
  rw [stepIs, scIs, rankIs] at starts
  have gone := writes_goStep c u
  refine ⟨_, run, ?_, fun off sound => ?_, fun refused => ?_, ?_⟩
  · rw [gone.get _ fun g ⟨_, hl⟩ => by simp only [Fld.key, F.DC_TRN_CTRL.STEP]; omega, stepIs]
  · rw [starts off sound]
    exact ⟨State.get_put_same u (F.DC_TRN_CTRL.BUSY c) 1, by rw [Tab.get_upd_same]⟩
  · rw [bad refused]
    refine ⟨State.get_put_same _ _ _, ?_⟩
    rw [State.get_put_ne (by simp [Fld.key, F.DC_TRN_CTRL.BUSY, F.DC_TRN_CTRL.BAD_REQ]), busy0]
  · exact ((named.mono fun _ _ => trivial).trans (gone.mono fun _ _ => trivial) : Writes (fun _ => True) s _).rest

/-! ### The end of a training step -/

/-- R297: the address of a lane's result. -/
def resultReg (c sc l : Nat) : Nat := 0x200900 + 0x10000 * c + 0x4 * (40 * sc + l)

/-- R299: the address of a lane's settings. -/
def delayReg (c sc l : Nat) : Nat := 0x200b00 + 0x10000 * c + 0x4 * (40 * sc + l)

theorem writes_recordEye (c sc l : Nat) (e : LaneEye) (s : State) :
    Writes (InReg (resultReg c sc l)) s (recordEye c (40 * sc + l) e s) :=
  (((Writes.refl s).put ⟨rfl, by simp [F.DC_TRN_RESULT.LEFT]⟩ _).put ⟨rfl, by simp [F.DC_TRN_RESULT.RIGHT]⟩ _).put
    ⟨rfl, by simp [F.DC_TRN_RESULT.ERRORS]⟩ _

/-- R297: what a lane's result shows. -/
theorem recordEye_get (c i : Nat) (e : LaneEye) (s : State) :
    (recordEye c i e s).get (F.DC_TRN_RESULT.LEFT c i) = e.left.toNat ∧
    (recordEye c i e s).get (F.DC_TRN_RESULT.RIGHT c i) = (if e.left = 0xFF then 0xFF else e.right.toNat) ∧
    (recordEye c i e s).get (F.DC_TRN_RESULT.ERRORS c i) = e.errors.toNat := by
  refine ⟨?_, ?_, ?_⟩
  · rw [recordEye, State.get_put_ne (by simp [Fld.key, F.DC_TRN_RESULT.LEFT, F.DC_TRN_RESULT.ERRORS]),
      State.get_put_ne (by simp [Fld.key, F.DC_TRN_RESULT.LEFT, F.DC_TRN_RESULT.RIGHT]), State.get_put_same]
    exact Nat.mod_eq_of_lt e.left.isLt
  · rw [recordEye, State.get_put_ne (by simp [Fld.key, F.DC_TRN_RESULT.RIGHT, F.DC_TRN_RESULT.ERRORS]), State.get_put_same]
    split
    · rfl
    · exact Nat.mod_eq_of_lt e.right.isLt
  · rw [recordEye, State.get_put_same]
    exact Nat.mod_eq_of_lt e.errors.isLt

/-- R297: the result of lane `l` is shown, where the step has one. -/
def showLane (c sc : Nat) (lanes : List LaneEye) (l : Nat) (s : State) : State := match lanes[l]? with
  | some e => recordEye c (40 * sc + l) e s
  | none => s

theorem writes_showLane (c sc : Nat) (lanes : List LaneEye) (l : Nat) (s : State) :
    Writes (InReg (resultReg c sc l)) s (showLane c sc lanes l s) := by
  unfold showLane
  split
  next e _ => exact writes_recordEye c sc l e s
  next => exact .refl s

/-- R297: a step's results are shown, and the trainer is DONE. -/
def stepShown (c step sc : Nat) (lanes : List LaneEye) (s : State) : State :=
  let shown := forAll (List.range 40) (showLane c sc lanes) s
  ((if step = 8 then liveProbe c shown else shown).put (F.DC_TRN_CTRL.BUSY c) 0).put (F.DC_TRN_CTRL.DONE c) 1

theorem writes_liveProbe (W : Fld → Prop) (c : Nat) (s : State) : Writes W s (liveProbe c s) :=
  (((Writes.refl s).chans _).chans _).chans _

/-- R297: a step's results and the bits BUSY and DONE are what its end writes before the lanes are centred. -/
theorem writes_stepShown (c step sc : Nat) (lanes : List LaneEye) (s : State) :
    Writes (fun w => (∃ l < 40, InReg (resultReg c sc l) w) ∨ InReg (0x200800 + 0x10000 * c) w) s (stepShown c step sc lanes s) := by
  unfold stepShown
  extract_lets shown
  have h1 : Writes (fun w => (∃ l < 40, InReg (resultReg c sc l) w) ∨ InReg (0x200800 + 0x10000 * c) w) s shown :=
    (Writes.refl s).forAll fun l hl t => (writes_showLane c sc lanes l t).mono fun w hw => .inl ⟨l, List.mem_range.1 hl, hw⟩
  refine Writes.put (Writes.put ?_ (.inr ⟨rfl, by simp [F.DC_TRN_CTRL.BUSY]⟩) _) (.inr ⟨rfl, by simp [F.DC_TRN_CTRL.DONE]⟩) _
  split
  · exact h1.trans (writes_liveProbe _ _ _)
  · exact h1

theorem stepShown_trn (c step sc : Nat) (lanes : List LaneEye) (s : State) :
    ((stepShown c step sc lanes s).chans.get c).trn = (s.chans.get c).trn := by
  have lane (l : Nat) (t : State) : (showLane c sc lanes l t).chans = t.chans := by
    unfold showLane
    split
    · rfl
    · rfl
  have shown : (forAll (List.range 40) (showLane c sc lanes) s).chans = s.chans := forAll_keeps State.chans lane
  simp only [stepShown, State.put_chans]
  split
  · simp [liveProbe, takeMaint, burst, shown]
  · rw [shown]

theorem stepShown_ctrl (c step sc : Nat) (lanes : List LaneEye) (s : State) :
    (stepShown c step sc lanes s).get (F.DC_TRN_CTRL.BUSY c) = 0 ∧ (stepShown c step sc lanes s).get (F.DC_TRN_CTRL.DONE c) = 1 := by
  refine ⟨?_, State.get_put_same _ _ _⟩
  rw [stepShown, State.get_put_ne (by simp [Fld.key, F.DC_TRN_CTRL.BUSY, F.DC_TRN_CTRL.DONE]), State.get_put_same]
  exact Nat.zero_mod _

/-- R297: a lane's result, once all are shown, is what the lane's eye says. -/
theorem stepShown_result {sc l : Nat} {lanes : List LaneEye} {e : LaneEye} (here : lanes[l]? = some e) (hl : l < 40) (hsc : sc < 2)
    (step : Nat) (s : State) {f : Fld} (hf : InReg (resultReg c sc l) f) :
    ∃ u, (stepShown c step sc lanes s).get f = (recordEye c (40 * sc + l) e u).get f := by
  obtain ⟨u, -, value⟩ := get_forAll_range (writes_showLane c sc lanes) hl (g := f)
    (fun i hi w hw => hw.key_ne (by rw [hf.1, resultReg, resultReg]; omega) hf.2) s
  have ctrl : f.addr ≠ 0x200800 + 0x10000 * c := by rw [hf.1, resultReg]; omega
  refine ⟨u, ?_⟩
  rw [stepShown, State.get_put_ne (Fld.key_ne_of_addr ctrl (by simp [F.DC_TRN_CTRL.DONE]) hf.2),
    State.get_put_ne (Fld.key_ne_of_addr ctrl (by simp [F.DC_TRN_CTRL.BUSY]) hf.2)]
  have lane : showLane c sc lanes l u = recordEye c (40 * sc + l) e u := by simp only [showLane, here]
  have probe (x : State) : (if step = 8 then liveProbe c x else x).get f = x.get f := by
    split
    · exact (writes_liveProbe (fun _ => False) c x).get f nofun
    · rfl
  rw [← lane, ← value]
  exact probe _

/-- R299: lane `l` goes to the centre of its eye, where the step has one. -/
def settleLane (c key sc : Nat) (lanes : List LaneEye) (l : Nat) (s : State) : State := match lanes[l]? with
  | some e => centreLane c key sc l e s
  | none => s

theorem writes_centreLane (c key sc l : Nat) (e : LaneEye) (s : State) :
    Writes (InReg (delayReg c sc l)) s (centreLane c key sc l e s) := by
  unfold centreLane
  extract_lets mid i
  split
  · exact .refl s
  split
  · exact (Writes.refl s).put ⟨rfl, by simp [F.DC_DLY.RD_DLY]⟩ _
  split
  · exact (Writes.refl s).put ⟨rfl, by simp [F.DC_DLY.WR_DLY]⟩ _
  split
  · exact (Writes.refl s).put ⟨rfl, by simp [F.DC_DLY.RD_VREF]⟩ _
  · exact (Writes.refl s).chans _

theorem writes_settleLane (c key sc : Nat) (lanes : List LaneEye) (l : Nat) (s : State) :
    Writes (InReg (delayReg c sc l)) s (settleLane c key sc lanes l s) := by
  unfold settleLane
  split
  next e _ => exact writes_centreLane c key sc l e s
  next => exact .refl s

/-- R299: the centre of the eye of a lane that has one. -/
theorem centreLane_get {key sc l : Nat} {e : LaneEye} (eye : e.left ≠ 0xFF) (s : State) :
    (key / 16 = 4 → (centreLane c key sc l e s).get (F.DC_DLY.RD_DLY c (40 * sc + l)) = (e.left.toNat + e.right.toNat) / 2) ∧
    (key / 16 = 5 → (centreLane c key sc l e s).get (F.DC_DLY.WR_DLY c (40 * sc + l)) = (e.left.toNat + e.right.toNat) / 2) ∧
    (key / 16 = 6 → (centreLane c key sc l e s).get (F.DC_DLY.RD_VREF c (40 * sc + l)) = (e.left.toNat + e.right.toNat) / 2) := by
  have fits : (e.left.toNat + e.right.toNat) / 2 % 2 ^ 8 = (e.left.toNat + e.right.toNat) / 2 :=
    Nat.mod_eq_of_lt (by have := e.left.isLt; have := e.right.isLt; omega)
  refine ⟨fun h => ?_, fun h => ?_, fun h => ?_⟩ <;>
  · simp only [centreLane, eye, h, if_false, if_true, Nat.reduceEqDiff, State.get_put_same]
    exact fits

/-- R299: the lanes of a step other than LIVE_RD are centred; beside their settings only the controller's notes change. -/
theorem centreStep_centres {step sc rank : Nat} (trn : (s.chans.get c).trn = (step, sc, rank)) (other : step ≠ 8)
    (lanes : List LaneEye) : ∃ chans, centreStep c lanes s =
      { forAll (List.range 40) (settleLane c (16 * step + 8 * sc + rank) sc lanes) s with chans := chans } := by
  simp only [centreStep, trn, other, if_false]
  exact ⟨_, rfl⟩

theorem writes_centreStep {step sc rank : Nat} (trn : (s.chans.get c).trn = (step, sc, rank)) (lanes : List LaneEye) :
    Writes (fun w => ∃ l < 40, InReg (delayReg c sc l) w) s (centreStep c lanes s) := by
  by_cases live : step = 8
  · simp only [centreStep, trn, live, if_true]
    exact .refl s
  · obtain ⟨chans, centred⟩ := centreStep_centres trn live lanes
    rw [centred]
    exact Writes.chans ((Writes.refl s).forAll fun l hl t =>
      (writes_settleLane c _ sc lanes l t).mono fun w hw => ⟨l, List.mem_range.1 hl, hw⟩) chans

/-- R299: a lane's settings, once all are centred, are what the lane's eye says. -/
theorem centreStep_setting {step sc rank l : Nat} {lanes : List LaneEye} {e : LaneEye} (trn : (s.chans.get c).trn = (step, sc, rank))
    (other : step ≠ 8) (here : lanes[l]? = some e) (hl : l < 40) {f : Fld} (hf : InReg (delayReg c sc l) f) :
    ∃ u, (centreStep c lanes s).get f = (centreLane c (16 * step + 8 * sc + rank) sc l e u).get f := by
  obtain ⟨chans, centred⟩ := centreStep_centres trn other lanes
  obtain ⟨u, -, value⟩ := get_forAll_range (writes_settleLane c (16 * step + 8 * sc + rank) sc lanes) hl (g := f)
    (fun i hi w hw => hw.key_ne (by rw [hf.1, delayReg, delayReg]; omega) hf.2) s
  have lane : settleLane c (16 * step + 8 * sc + rank) sc lanes l u = centreLane c (16 * step + 8 * sc + rank) sc l e u := by
    simp only [settleLane, here]
  exact ⟨u, by rw [centred, ← lane]; exact value⟩

/-- R297, R299: the step that runs ends: its results are shown, and its lanes centred. -/
theorem exec_trainingStepComplete_busy {c : Fin 16} {step sc rank : Nat} (lanes : Vector LaneEye 40)
    (busy : s.flag (F.DC_TRN_CTRL.BUSY c) = true) (trn : (s.chans.get c).trn = (step, sc, rank)) :
    exec (.trainingStepComplete c lanes) s = .next (centreStep c lanes.toList (stepShown c step sc lanes.toList s)) := by
  simp only [exec_trainingStepComplete, execTrainingStepComplete, busy, trn, Bool.not_true, Bool.false_eq_true, if_false]
  rfl

/-- R297, R299: what lane `l` of a finished step shows, and where it is set. -/
def LaneEnds (c step sc l : Nat) (e : LaneEye) (t : State) : Prop :=
  t.get (F.DC_TRN_RESULT.LEFT c (40 * sc + l)) = e.left.toNat ∧
  t.get (F.DC_TRN_RESULT.RIGHT c (40 * sc + l)) = (if e.left = 0xFF then 0xFF else e.right.toNat) ∧
  t.get (F.DC_TRN_RESULT.ERRORS c (40 * sc + l)) = e.errors.toNat ∧
  (step = 4 → e.left ≠ 0xFF → t.get (F.DC_DLY.RD_DLY c (40 * sc + l)) = (e.left.toNat + e.right.toNat) / 2) ∧
  (step = 5 → e.left ≠ 0xFF → t.get (F.DC_DLY.WR_DLY c (40 * sc + l)) = (e.left.toNat + e.right.toNat) / 2) ∧
  (step = 6 → e.left ≠ 0xFF → t.get (F.DC_DLY.RD_VREF c (40 * sc + l)) = (e.left.toNat + e.right.toNat) / 2)

theorem laneEnds_centreStep {step sc rank l : Nat} {lanes : List LaneEye} {e : LaneEye} (trn : (s.chans.get c).trn = (step, sc, rank))
    (hsc : sc < 2) (hrank : rank < 8) (hl : l < 40) (here : lanes[l]? = some e) :
    LaneEnds c step sc l e (centreStep c lanes (stepShown c step sc lanes s)) := by
  have trn' := (stepShown_trn c step sc lanes s).trans trn
  have result : ∀ f, InReg (resultReg c sc l) f → ∃ u,
      (centreStep c lanes (stepShown c step sc lanes s)).get f = (recordEye c (40 * sc + l) e u).get f := fun f hf => by
    obtain ⟨u, value⟩ := stepShown_result here hl hsc step s hf
    refine ⟨u, ((writes_centreStep trn' lanes).get f fun w ⟨i, hi, hw⟩ => hw.key_ne ?_ hf.2).trans value⟩
    rw [hf.1, resultReg, delayReg]
    omega
  have key : (16 * step + 8 * sc + rank) / 16 = step := by omega
  refine ⟨?_, ?_, ?_, fun is eye => ?_, fun is eye => ?_, fun is eye => ?_⟩
  · obtain ⟨u, value⟩ := result (F.DC_TRN_RESULT.LEFT c (40 * sc + l)) ⟨rfl, by simp [F.DC_TRN_RESULT.LEFT]⟩
    obtain ⟨left, -, -⟩ := recordEye_get c (40 * sc + l) e u
    exact value.trans left
  · obtain ⟨u, value⟩ := result (F.DC_TRN_RESULT.RIGHT c (40 * sc + l)) ⟨rfl, by simp [F.DC_TRN_RESULT.RIGHT]⟩
    obtain ⟨-, right, -⟩ := recordEye_get c (40 * sc + l) e u
    exact value.trans right
  · obtain ⟨u, value⟩ := result (F.DC_TRN_RESULT.ERRORS c (40 * sc + l)) ⟨rfl, by simp [F.DC_TRN_RESULT.ERRORS]⟩
    obtain ⟨-, -, errors⟩ := recordEye_get c (40 * sc + l) e u
    exact value.trans errors
  · obtain ⟨u, value⟩ := centreStep_setting trn' (by omega) here hl (f := F.DC_DLY.RD_DLY c (40 * sc + l))
      ⟨rfl, by simp [F.DC_DLY.RD_DLY]⟩
    obtain ⟨read, -, -⟩ := centreLane_get (c := c) (key := 16 * step + 8 * sc + rank) (sc := sc) (l := l) eye u
    exact value.trans (read (key.trans is))
  · obtain ⟨u, value⟩ := centreStep_setting trn' (by omega) here hl (f := F.DC_DLY.WR_DLY c (40 * sc + l))
      ⟨rfl, by simp [F.DC_DLY.WR_DLY]⟩
    obtain ⟨-, write, -⟩ := centreLane_get (c := c) (key := 16 * step + 8 * sc + rank) (sc := sc) (l := l) eye u
    exact value.trans (write (key.trans is))
  · obtain ⟨u, value⟩ := centreStep_setting trn' (by omega) here hl (f := F.DC_DLY.RD_VREF c (40 * sc + l))
      ⟨rfl, by simp [F.DC_DLY.RD_VREF]⟩
    obtain ⟨-, -, vref⟩ := centreLane_get (c := c) (key := 16 * step + 8 * sc + rank) (sc := sc) (l := l) eye u
    exact value.trans (vref (key.trans is))

/-- R297: what the end of a step leaves beside the lanes. -/
theorem centreStep_stepShown_leaves {step sc rank : Nat} (lanes : List LaneEye) (trn : (s.chans.get c).trn = (step, sc, rank)) {t : State}
    (ht : centreStep c lanes (stepShown c step sc lanes s) = t) :
    t.get (F.DC_TRN_CTRL.BUSY c) = 0 ∧ t.get (F.DC_TRN_CTRL.DONE c) = 1 ∧ t = { s with regs := t.regs, chans := t.chans } := by
  subst ht
  have shown := writes_stepShown c step sc lanes s
  have centred := writes_centreStep ((stepShown_trn c step sc lanes s).trans trn) lanes
  have ctrl : ∀ f : Fld, f.addr = 0x200800 + 0x10000 * c → f.lo < 64 →
      (centreStep c lanes (stepShown c step sc lanes s)).get f = (stepShown c step sc lanes s).get f := fun f ha hl =>
    centred.get f fun w ⟨i, _, hw⟩ => hw.key_ne (by rw [ha, delayReg]; omega) hl
  obtain ⟨busy, done⟩ := stepShown_ctrl c step sc lanes s
  exact ⟨(ctrl _ rfl (by simp [F.DC_TRN_CTRL.BUSY])).trans busy, (ctrl _ rfl (by simp [F.DC_TRN_CTRL.DONE])).trans done,
    ((shown.mono fun _ _ => trivial).trans (centred.mono fun _ _ => trivial) : Writes (fun _ => True) s _).rest⟩

end

end Sys2Proof.Machine

open Sys2Proof.Machine in
/-- Settles O15: each row by what it does once its conditions hold; that nothing else of the channel's registers moves is `Writes`, and
what a lane ends with is `LaneEnds`. -/
theorem dramConfiguration : Obligations.DramConfiguration := by
  refine ⟨fun s c k v x4 => ?_, fun s c k v x8 => ?_, fun s c same max rated zeroed => exec_dcCfgWrite_enables c same max rated zeroed,
    fun s c v same max rated unlocked lock enable => ?_, fun s c frames sound off idle untrained passed => ?_,
    fun s c step small idle => exec_trainingGo_starts c small idle, fun s c lanes step sc rank busy trn hsc hrank => ?_⟩
  · rw [exec_dcMarkWrite, execDcMarkWrite, if_neg (ne_true_of_eq_false x4)]
  · rw [exec_dcMarkWrite, execDcMarkWrite, if_pos x8]
  · obtain ⟨t, run, locks⟩ := exec_dcCfgWrite_locks same max rated unlocked lock enable
    exact ⟨t, run, locks.locked, locks.rated, locks.kept _ ⟨rfl, .inr rfl⟩, locks.kept _ ⟨rfl, .inl (by simp [F.DC_CFG.SPEED])⟩,
      locks.kept _ ⟨rfl, .inl (by simp [F.DC_CFG.DPC])⟩, locks.accepts, locks.refuses⟩
  · obtain ⟨t, run, zeroed, dram, rest⟩ := exec_zeroInitComplete_zeroes frames sound off idle untrained passed
    refine ⟨t, run, zeroed, fun line small => ?_, fun d line other small => ?_, rest⟩
    · rw [dram, Tab.get_keep_otherChannels _ _ small, if_pos rfl]
    · rw [dram, Tab.get_keep_otherChannels _ _ small, if_neg (Fin.val_ne_of_ne other)]
  · obtain ⟨idle, done, rest⟩ := centreStep_stepShown_leaves lanes.toList trn rfl
    refine ⟨_, exec_trainingStepComplete_busy lanes busy trn, idle, done, fun l e here => ?_, by rw [rest], by rw [rest], by rw [rest],
      by rw [rest]⟩
    have hl : l < 40 := by simpa using (List.getElem?_eq_some_iff.1 here).1
    exact laneEnds_centreStep trn hsc hrank hl here
end

section
/-!
The ranks of a DRAM channel (R281, R284, R285, R288 to R292): power-down, refresh, the modules' temperature and the mark window. What a
row does is proved of every state; of the mark window's end, of every state whose table of channels is canonical
(`exec_markWindowEnd_clears`), as it is in every state from reset on. The statement asks it of every state. Where the table lists a
channel twice, the second cell is unseen until the first becomes the default and is no longer listed.
-/

namespace Sys2Proof.Machine

section
variable {s : State} {c : Fin 16}

/-! ### Power-down and refresh -/

/-- R285: a rank with nothing to do for 100 ns enters power-down. -/
theorem exec_powerDownEntry_enters {k : Fin 8} (unqueued : rankQueued s c k = false) (closed : rankOpen s c k = false)
    (up : (rankAt s c k).powerDown = false) (awake : (rankAt s c k).selfRefresh = false)
    (settled : s.get (F.DC_REF_STATUS.OWED c k) = 0) (idle : 100 ≤ s.since (rankAt s c k).idleSince) :
    exec (.powerDownEntry c k) s =
      .next (sendDram c 1 (.pde k) (sendDram c 0 (.pde k) (setRank c k (fun r => { r with powerDown := true }) s))) := by
  rw [exec_powerDownEntry, execPowerDownEntry]
  exact if_neg (by simp [unqueued, closed, up, awake, settled, idle])

/-- R292: a rank whose last REFab is tRFC ago refreshes no more. -/
theorem refreshing_eq_false {k : Nat} (past : ∀ t, (rankAt s c k).lastRef = some t → s.get (F.DC_TIMING1.TRFC_NS c) ≤ s.since t) :
    refreshing s c k = false := by
  unfold refreshing
  split
  next t last => exact decide_eq_false (Nat.not_lt.2 (past t last))
  next => rfl

/-- R290, R292: a rank that owes a REFab and can take it is refreshed. -/
theorem exec_refabIssue_issues {k : Fin 8} (owes : 1 ≤ s.get (F.DC_REF_STATUS.OWED c k)) (closed : rankOpen s c k = false)
    (past : ∀ t, (rankAt s c k).lastRef = some t → s.get (F.DC_TIMING1.TRFC_NS c) ≤ s.since t)
    (awake : (rankAt s c k).selfRefresh = false) (free : rankQueued s c k = false ∨ noAct s c k = true) :
    exec (.refabIssue c k) s = .next (issueRefab c k s) := by
  rw [exec_refabIssue, execRefabIssue]
  exact if_pos ⟨owes, by simp [closed], by simp [refreshing_eq_false past], by simp [awake], by simpa [or_comm] using free⟩

/-- R288: the address of a rank's DCn_REF_STATUS. -/
def refReg (c k : Nat) : Nat := 0x200100 + 0x10000 * c + 0x8 * k

theorem writes_accrue (c k elapsed : Nat) (s : State) : Writes (InReg (refReg c k)) s (accrue c k elapsed s) :=
  ((Writes.refl s).put ⟨rfl, by simp [F.DC_REF_STATUS.OWED]⟩ _).put ⟨rfl, by simp [F.DC_REF_STATUS.ACC]⟩ _

/-- R289: what a rank owes once it has accrued. -/
theorem accrue_owed (c k elapsed : Nat) (s : State) : (accrue c k elapsed s).get (F.DC_REF_STATUS.OWED c k) =
    (s.get (F.DC_REF_STATUS.OWED c k) + min ((s.get (F.DC_REF_STATUS.ACC c k) + elapsed) / trefiOf s c k)
      (8 - s.get (F.DC_REF_STATUS.OWED c k))) % 2 ^ (F.DC_REF_STATUS.OWED c k).width := by
  rw [accrue, State.get_put_ne (by simp [Fld.key, F.DC_REF_STATUS.OWED, F.DC_REF_STATUS.ACC]), State.get_put_same]

/-- R289: the state in which every rank of a channel has accrued. -/
def accrued (c elapsed : Nat) (s : State) : State := forAll (List.range (ranksOf s c)) (fun k s => accrue c k elapsed s) s

theorem writes_accrued (c elapsed : Nat) (s : State) : Writes (fun _ => True) s (accrued c elapsed s) :=
  (Writes.refl s).forAll fun k _ t => (writes_accrue c k elapsed t).mono fun _ _ => trivial

theorem accrued_owed {c k elapsed : Nat} (hk : k < ranksOf s c) : (accrued c elapsed s).get (F.DC_REF_STATUS.OWED c k) =
    (s.get (F.DC_REF_STATUS.OWED c k) + min ((s.get (F.DC_REF_STATUS.ACC c k) + elapsed) / trefiOf s c k)
      (8 - s.get (F.DC_REF_STATUS.OWED c k))) % 2 ^ (F.DC_REF_STATUS.OWED c k).width := by
  have apart : ∀ f, InReg (refReg c k) f → ∀ i ≠ k, ∀ w, InReg (refReg c i) w → f.key ≠ w.key := fun f hf i hi w hw =>
    hw.key_ne (by rw [hf.1, refReg, refReg]; omega) hf.2
  have owed : InReg (refReg c k) (F.DC_REF_STATUS.OWED c k) := ⟨rfl, by simp [F.DC_REF_STATUS.OWED]⟩
  obtain ⟨u, before, value⟩ := get_forAll_range (f := fun k s => accrue c k elapsed s) (writes_accrue c · elapsed ·) hk
    (fun i hi => apart _ owed i (Nat.ne_of_gt hi)) s
  have same : ∀ f, InReg (refReg c k) f → u.get f = s.get f := fun f hf =>
    before.get f fun w ⟨i, hi, hw⟩ => apart f hf i (Nat.ne_of_lt hi) w hw
  rw [accrued, value, accrue_owed, same _ owed, same (F.DC_REF_STATUS.ACC c k) ⟨rfl, by simp [F.DC_REF_STATUS.ACC]⟩, trefiOf,
    State.flag, same (F.DC_REF_STATUS.RATE2X c k) ⟨rfl, by simp [F.DC_REF_STATUS.RATE2X]⟩]
  rfl

/-- R289: a released unit of refresh planning. -/
theorem exec_refreshPlanning_plans (released : unitWaits s 0x04 c = true) :
    ∃ t, exec (.refreshPlanning c) s = .next t ∧ (t.chans.get c).planTb = s.now ∧
      t.jobs.get (jobKey 0x04 c) = (s.jobs.get (jobKey 0x04 c)).tail ∧
      (∀ k : Fin 8, k.val < ranksOf s c → t.get (F.DC_REF_STATUS.OWED c k) = (s.get (F.DC_REF_STATUS.OWED c k) +
        min ((s.get (F.DC_REF_STATUS.ACC c k) + s.since (s.chans.get c).planTb) / trefiOf s c k)
          (8 - s.get (F.DC_REF_STATUS.OWED c k))) % 2 ^ (F.DC_REF_STATUS.OWED c k).width) ∧
      t = { s with regs := t.regs, chans := t.chans, jobs := t.jobs } := by
  have written := writes_accrued c (s.since (s.chans.get c).planTb) s
  have owed : ∀ k : Fin 8, k.val < ranksOf s c → _ := fun k hk => accrued_owed (elapsed := s.since (s.chans.get c).planTb) hk
  have run : exec (.refreshPlanning c) s = .next (jobDone 0x04 c { accrued c (s.since (s.chans.get c).planTb) s with
      chans := (accrued c (s.since (s.chans.get c).planTb) s).chans.upd c
        (fun ch => { ch with planTb := (accrued c (s.since (s.chans.get c).planTb) s).now }) }) := by
    rw [exec_refreshPlanning, execRefreshPlanning]
    exact if_neg (by simp [released])
  generalize accrued c (s.since (s.chans.get c).planTb) s = a at written owed run
  have now : a.now = s.now := by rw [written.rest]; rfl
  refine ⟨_, run, ?_, ?_, owed, ?_⟩
  · simp [jobDone, now]
  · rw [jobDone, Tab.get_upd_same, written.rest]
  · rw [jobDone, written.rest]

/-! ### Temperature -/

theorem writes_setRank (W : Fld → Prop) (c k : Nat) (f : RankSt → RankSt) (s : State) : Writes W s (setRank c k f s) :=
  (Writes.refl s).chans _

/-- R292: a change of rate changes the rank's DCn_REF_STATUS and its scheduler state. -/
theorem writes_setRate (c k : Nat) (fast : Bool) (s : State) : Writes (InReg (refReg c k)) s (setRate c k fast s) := by
  have rate : InReg (refReg c k) (F.DC_REF_STATUS.RATE2X c k) := ⟨rfl, by simp [F.DC_REF_STATUS.RATE2X]⟩
  have owed : InReg (refReg c k) (F.DC_REF_STATUS.OWED c k) := ⟨rfl, by simp [F.DC_REF_STATUS.OWED]⟩
  have blocked : InReg (refReg c k) (F.DC_REF_STATUS.BLOCKED c k) := ⟨rfl, by simp [F.DC_REF_STATUS.BLOCKED]⟩
  unfold setRate
  extract_lets debt n1 t1 t2 n2 left t3
  split
  · exact .refl s
  split
  · refine Writes.trans ?_ (writes_setRank _ c k _ t2)
    unfold t2
    split
    · exact ((Writes.refl s).put rate _).put owed _
    · exact (((Writes.refl s).put rate _).put owed _).put blocked _
  · have h3 : Writes (InReg (refReg c k)) s t3 := ((Writes.refl s).put rate _).put owed _
    split
    · refine Writes.trans ?_ (writes_setRank _ c k _ _)
      split
      · exact h3.put blocked _
      · exact h3
    · exact h3

/-- R291: a module's reading leaves how many modules the channel has. -/
theorem readDimm_dpc (c : Fin 16) (d : Nat) (sensor : Option Int) (bands : List (Fin 3)) (s : State) :
    (readDimm c d sensor bands s).2.get (F.DC_CFG.DPC c) = s.get (F.DC_CFG.DPC c) := by
  have apart : ∀ k : Nat, ∀ w, InReg (refReg c k) w → (F.DC_CFG.DPC c).key ≠ w.key := fun k w hw =>
    hw.key_ne (by simp only [F.DC_CFG.DPC, refReg]; omega) (by simp [F.DC_CFG.DPC])
  have logged : ∀ (code : Nat) (t : State), (t.log code c).get (F.DC_CFG.DPC c) = t.get (F.DC_CFG.DPC c) := fun code t =>
    (quiet_log (.refl t) _ _ _ _).reg _ (by simp [F.DC_CFG.DPC]) (reportReg_cfg c.isLt)
  have rated : ∀ (k : Nat) (fast : Bool) (t : State), (setRate c k fast t).get (F.DC_CFG.DPC c) = t.get (F.DC_CFG.DPC c) :=
    fun k fast t => (writes_setRate c k fast t).get _ (apart k)
  unfold readDimm
  extract_lets ranks hotBand hotNow temp s1 s2
  have h2 : s2.get (F.DC_CFG.DPC c) = s.get (F.DC_CFG.DPC c) := by
    unfold s2 s1
    split <;> split <;> simp only [logged]
  refine (forAll_keeps (fun t => t.get (F.DC_CFG.DPC c)) fun k t => ?_).trans h2
  have shown : (t.put (F.DC_REF_STATUS.TEMP c k) temp).get (F.DC_CFG.DPC c) = t.get (F.DC_CFG.DPC c) :=
    State.get_put_ne (apart k _ ⟨rfl, by simp [F.DC_REF_STATUS.TEMP]⟩) _ _
  extract_lets band t1
  split
  · rw [rated, shown]
  split
  · rw [rated, shown]
  split
  · rw [rated, shown]
  · exact shown

/-- R291: the modules of a channel read in order: whether one of them is over temperature, and the state. -/
def readDimms (c : Nat) (sensors : List (Option Int)) (bands : List (Fin 3)) (n : Nat) (s : State) : Bool × State :=
  (List.range n).foldl (fun x d =>
    (x.1 || (readDimm c d (sensors.getD d none) bands x.2).1, (readDimm c d (sensors.getD d none) bands x.2).2)) (false, s)

theorem readDimms_succ (c : Nat) (sensors : List (Option Int)) (bands : List (Fin 3)) (n : Nat) (s : State) :
    readDimms c sensors bands (n + 1) s =
      ((readDimms c sensors bands n s).1 || (readDimm c n (sensors.getD n none) bands (readDimms c sensors bands n s).2).1,
        (readDimm c n (sensors.getD n none) bands (readDimms c sensors bands n s).2).2) := by
  rw [readDimms, List.range_succ, List.foldl_append]
  rfl

theorem readDimms_dpc (c : Fin 16) (sensors : List (Option Int)) (bands : List (Fin 3)) (n : Nat) (s : State) :
    (readDimms c sensors bands n s).2.get (F.DC_CFG.DPC c) = s.get (F.DC_CFG.DPC c) := by
  induction n with
  | zero => rfl
  | succ n ih => rw [readDimms_succ, readDimm_dpc, ih]

/-- R284, R291: a released unit of the temperature job reads every module, takes the slots of the mode-register reads, and notes whether
a module is over temperature. -/
theorem exec_dimmTemperatureRead_reads (sensors : Vector (Option Int) 2) (bands : Vector (Fin 3) 8)
    (released : unitWaits s 0x0E c = true) {hot : Bool} {u v : State} {n : Nat}
    (read : readDimms c sensors.toList bands.toList (s.get (F.DC_CFG.DPC c)) s = (hot, u))
    (reads : (if s.get (F.DC_CFG.DPC c) = 0 then 0 else 2 * ranksOf u c) = n)
    (slots : takeMaint c n (forAll (List.range n) (fun _ s => burst c 2 s) u) = v) :
    exec (.dimmTemperatureRead c sensors bands) s =
      .next (jobDone 0x0E c { v with chans := v.chans.upd c (fun ch => { ch with overTemp := hot }) }) := by
  have dpc : u.get (F.DC_CFG.DPC c) = s.get (F.DC_CFG.DPC c) := by
    rw [← readDimms_dpc c sensors.toList bands.toList (s.get (F.DC_CFG.DPC c)) s, read]
  have all : (List.range (s.get (F.DC_CFG.DPC c))).foldl (fun (x : Bool × State) d =>
      let (o, s) := readDimm c d (sensors.toList.getD d none) bands.toList x.2
      (x.1 || o, s)) (false, s) = (hot, u) := read
  rw [exec_dimmTemperatureRead, execDimmTemperatureRead]
  simp only [released, all, dpc, reads, slots, Bool.not_true, Bool.false_eq_true, if_false]

/-! ### The mark window -/

theorem exec_markWindowEnd_runs (runs : s.transit / 2 ^ 24 ≤ s.markWindow) : exec .markWindowEnd s = .next s := by
  rw [exec_markWindowEnd, execMarkWindowEnd, if_pos runs]

theorem exec_markWindowEnd_ended (ended : s.markWindow < s.transit / 2 ^ 24) : exec .markWindowEnd s = .next { s with
    markWindow := s.transit / 2 ^ 24
    chans := s.chans.mapCells (fun _ ch => { ch with counts := [] }) } := by
  rw [exec_markWindowEnd, execMarkWindowEnd, if_neg (Nat.not_le.2 ended)]

theorem cellFind_eq_none_of_forall_ne {α : Type} {k : Nat} {l : List (Nat × α)} (h : ∀ c ∈ l, c.1 ≠ k) : cellFind k l = none := by
  induction l with
  | nil => rfl
  | cons c l ih =>
    rw [cellFind, if_neg (h c List.mem_cons_self)]
    exact ih fun b hb => h b (List.mem_cons_of_mem _ hb)

/-- In a table with rising keys, what is done to every cell is done to what every key reads, if it leaves the default alone. -/
theorem Tab.get_mapCells {α : Type} {d : α} [DecidableEq α] {T : Tab α d} (rising : cellsRising T.cells = true) {f : α → α}
    (fixed : f d = d) (k : Nat) : (T.mapCells fun _ v => f v).get k = f (T.get k) := by
  obtain ⟨l⟩ := T
  simp only [Tab.mapCells, Tab.get]
  rw [cellsRising_iff] at rising
  induction l with
  | nil => exact fixed.symm
  | cons c l ih =>
    obtain ⟨a, v⟩ := c
    obtain ⟨first, rest⟩ := List.pairwise_cons.1 rising
    rw [List.map_cons, List.filter_cons, cellFind]
    by_cases here : a = k
    · subst here
      have absent : cellFind a ((l.map fun c => (c.1, f c.2)).filter fun c => c.2 != d) = none :=
        cellFind_eq_none_of_forall_ne fun c hc => by
          obtain ⟨b, hb, rfl⟩ := List.mem_map.1 (List.mem_filter.1 hc).1
          exact (first _ (List.mem_map_of_mem hb)).ne'
      by_cases gone : f v = d
      · simp [gone, absent]
      · simp [gone, cellFind]
    · rw [if_neg here, ← ih rest]
      by_cases gone : f v = d
      · simp [gone]
      · simp [gone, cellFind, here]

/-- R281: the end of a window with a canonical table of channels clears the counts alone. -/
theorem exec_markWindowEnd_clears (canonical : s.chans.wf = true) (ended : s.markWindow < s.transit / 2 ^ 24) :
    ∃ t, exec .markWindowEnd s = .next t ∧ t.markWindow = s.transit / 2 ^ 24 ∧
      (∀ c : Nat, t.chans.get c = { s.chans.get c with counts := [] }) ∧
      t = { s with chans := t.chans, markWindow := t.markWindow } :=
  ⟨_, exec_markWindowEnd_ended ended, rfl, Tab.get_mapCells (f := fun ch => { ch with counts := [] })
    ((Tab.wf_iff _).1 canonical).1 rfl, rfl⟩

end

/-- A device at the end of its first mark window whose table lists channel 0 twice: with one count and without rows, and behind that with
an open row. -/
def listedTwice : State :=
  { chans := ⟨[(0, { counts := [(0, 1)] }), (0, { rows := [{ sc := 0, rank := 0, bg := 0, ba := 0, row := 0, last := 0 }] })]⟩
    tb := 1000 * 2 ^ 24 }

end Sys2Proof.Machine

open Sys2Proof.Machine in
/-- Refutes O13: in `listedTwice` the end of the mark window takes the count of channel 0, whose cell then holds the default and is no
longer listed, so that the channel reads as its second cell and an open row appears where there was none. -/
theorem not_dramRankRows : ¬Obligations.DramRankRows := by
  intro h
  obtain ⟨-, -, -, -, ends, -⟩ := h
  have ended : listedTwice.markWindow < listedTwice.transit / 2 ^ 24 := by decide +kernel
  obtain ⟨t, run, -, kept, -⟩ := ends listedTwice ended
  obtain ⟨-, rows, -⟩ := kept 0
  cases (exec_markWindowEnd_ended ended).symm.trans run
  exact absurd rows (by decide +kernel)
end

section
/-!
The queue of commands and the fuses over a step (R348, R350). What a command keeps is `Answer.exec`; a step on a queued command runs it on
the rest of the queue, and a step on an empty queue is the device's own.
-/

namespace Sys2Proof.Machine

section
variable {s t : State}

/-- A step that runs the front command keeps what a step keeps of the state without it. -/
theorem kept_of_step_cons {c : Instr} {rest : List Instr} (front : s.pending = c :: rest) (run : step s = .next t) :
    Kept { s with pending := rest } t := by
  rw [step_cons s c rest front] at run
  exact Answer.exec (.refl _) t run

theorem kept_of_step_nil (empty : s.pending = []) (run : step s = .next t) : Kept s t := by
  rw [step_nil s empty] at run
  exact Answer.idle (.refl s) t run

/-- R348, R350: a blown fuse stays blown over a step, whatever is at the front of the queue. -/
theorem blown_of_step (run : step s = .next t) (i : Nat) (blown : s.fuses.getLsbD i = true) : t.fuses.getLsbD i = true := by
  cases hp : s.pending with
  | nil => exact (kept_of_step_nil hp run).fuses i blown
  | cons c rest => exact (kept_of_step_cons hp run).fuses i blown

end

end Sys2Proof.Machine

open Sys2Proof Sys2Proof.Machine in
/-- Settles O60: the queue by what the front command keeps of the state without it (`kept_of_step_cons`), the fuses by `blown_of_step`. -/
theorem stepKeepsQueueAndFuses : Obligations.StepKeepsQueueAndFuses :=
  ⟨fun _ _ _ _ front run => (kept_of_step_cons front run).pending, fun _ _ i run => blown_of_step run i⟩
end

section
/-!
Every command answers a next state (spec/00_scope.md): no meaning stops. `exec_completes` goes through the rows of the table by the shape
of their meaning: most answer one state, or one of two or three by conditions; those whose answer hangs on what a queue or table
holds have a lemma of their own.
-/

namespace Sys2Proof.Machine

/-- The outcome is a next state. -/
def Completes (o : Host.Outcome State Fault Refusal) : Prop := ∃ t, o = .next t

theorem Completes.next {t : State} : Completes (.next t) := ⟨t, rfl⟩

theorem Completes.ite {c : Prop} [Decidable c] {o p : Host.Outcome State Fault Refusal} (ho : Completes o) (hp : Completes p) :
    Completes (if c then o else p) := by
  split
  · exact ho
  · exact hp

section
variable {s : State}

theorem completes_transitOverrun {job inst} : Completes (execTransitOverrun job inst s) := by
  refine .ite .next ?_
  split
  · exact .next
  · exact .ite .next .next

theorem completes_spineReplayRequest {hop ok} : Completes (execSpineReplayRequest hop ok s) := by
  unfold execSpineReplayRequest
  extract_lets
  split
  · exact .next
  · exact .next

theorem completes_spineReplayRelease {hop} : Completes (execSpineReplayRelease hop s) := by
  unfold execSpineReplayRelease
  extract_lets
  split
  · exact .next
  · exact .ite .next .next

theorem completes_directoryScrubQuantum {lines errs} : Completes (execDirectoryScrubQuantum lines errs s) := by
  refine .ite .next ?_
  extract_lets
  split
  · exact .next
  · exact .next

theorem completes_pinWaitGrant {slice set} : Completes (execPinWaitGrant slice set s) := by
  unfold execPinWaitGrant
  split
  · exact .next
  · extract_lets
    split
    · exact .next
    · exact .next
    · exact .next
    · exact .next

theorem completes_backingFetchComplete {slice err} : Completes (execBackingFetchComplete slice err s) := by
  unfold execBackingFetchComplete
  split
  · exact .next
  · extract_lets
    split
    · exact .next
    · exact .next
    · exact .next

theorem completes_metadataFetchComplete {slice found} : Completes (execMetadataFetchComplete slice found s) := by
  refine .ite .next ?_
  extract_lets
  split
  · exact .next
  · exact .ite .next .next

theorem completes_metadataEvictUpdate {slice} : Completes (execMetadataEvictUpdate slice s) := by
  refine .ite .next ?_
  extract_lets
  split
  · exact .next
  · exact .next

theorem completes_dramCommandIssue {chan sc blocked} : Completes (execDramCommandIssue chan sc blocked s) := by
  refine .ite .next ?_
  split
  · exact .next
  · exact .next
  · extract_lets
    split
    · split
      · exact .next
      · exact .next
    · refine .ite .next ?_
      split
      · exact .ite .next (.ite .next .next)
      · exact .next

theorem completes_dramReadComplete {chan sc err} : Completes (execDramReadComplete chan sc err s) := by
  unfold execDramReadComplete
  split
  · exact .next
  · extract_lets
    split
    · exact .next
    · extract_lets
      split
      split
      extract_lets
      split
      · exact .next
      · exact .next

theorem completes_cryptoReadUnit {engine} : Completes (execCryptoReadUnit engine s) := by
  unfold execCryptoReadUnit
  split
  · exact .next
  · extract_lets
    split
    · exact .next
    · split
      · exact .next
      · exact .next

theorem completes_cryFault {engine} : Completes (execCryFault engine s) := by
  refine .ite ?_ .next
  extract_lets
  split
  · exact .next
  · exact .next

theorem completes_encodeComplete {engine fault} : Completes (execEncodeComplete engine fault s) := by
  unfold execEncodeComplete
  extract_lets
  split
  · exact .next
  · extract_lets
    split
    · exact .next
    · exact .ite (.ite .next (.ite .next .next)) .next

theorem completes_decoderDispatch : Completes (execDecoderDispatch s) := by
  unfold execDecoderDispatch
  extract_lets
  split
  · exact .next
  · split
    · exact .next
    · exact .next

theorem completes_decodeComplete {engine lane} : Completes (execDecodeComplete engine lane s) := by
  unfold execDecodeComplete
  extract_lets
  split
  · exact .next
  · split
    · exact .next
    · exact .next

theorem completes_decoderParityError {engine lane} : Completes (execDecoderParityError engine lane s) := by
  unfold execDecoderParityError
  extract_lets
  split
  · exact .next
  · exact .ite .next .next

theorem completes_recompressorDequeue : Completes (execRecompressorDequeue s) := by
  refine .ite .next ?_
  split
  · exact .next
  · split
    · exact .next
    · exact .ite .next (.ite (.ite .next .next) .next)

theorem completes_sbByte {byte} : Completes (execSbByte byte s) := by
  unfold execSbByte
  split
  · exact .next
  · exact .ite .next (.ite .next .next)

theorem completes_fuseBitProgram {result} : Completes (execFuseBitProgram result s) := by
  unfold execFuseBitProgram
  split
  · exact .next
  · split
    · exact .next
    · exact .ite .next (.ite .next .next)

theorem completes_ptmExchange {offset} : Completes (execPtmExchange offset s) := by
  unfold execPtmExchange
  split
  · exact .next
  · exact .ite .next (.ite .next .next)

theorem completes_descriptorFetch {ring} : Completes (execDescriptorFetch ring s) := by
  unfold execDescriptorFetch
  extract_lets
  split
  · exact .next
  · exact .next
  · exact .next

theorem completes_stUndefinedOpcode {port} : Completes (execStUndefinedOpcode port s) := by
  unfold execStUndefinedOpcode
  extract_lets
  split
  · exact .next
  · exact .next

theorem completes_formationDeadline : Completes (execFormationDeadline s) := by
  unfold execFormationDeadline
  split
  · exact .ite (.ite .next .next) .next
  · exact .next

theorem completes_claimSettle : Completes (execClaimSettle s) := by
  unfold execClaimSettle
  split
  · exact .next
  · exact .ite .next (.ite .next (.ite .next .next))

theorem completes_failureDecision : Completes (execFailureDecision s) := by
  unfold execFailureDecision
  split
  · exact .next
  · exact .ite (.ite .next .next) .next

theorem completes_registerWrite {addr wide access} : Completes (execRegisterWrite addr wide access s) := by
  refine .ite .next (.ite .next ?_)
  split
  · exact .next
  · exact .next

end

/-- Every command answers a next state in every state. -/
theorem exec_completes (i : Instr) (s : State) : Completes (exec i s) := by
  cases i
  case transitOverrun => exact completes_transitOverrun
  case spineReplayRequest => exact completes_spineReplayRequest
  case spineReplayRelease => exact completes_spineReplayRelease
  case directoryScrubQuantum =>
    rw [exec_directoryScrubQuantum]
    exact completes_directoryScrubQuantum
  case pinWaitGrant => exact completes_pinWaitGrant
  case backingFetchComplete => exact completes_backingFetchComplete
  case metadataFetchComplete => exact completes_metadataFetchComplete
  case metadataEvictUpdate => exact completes_metadataEvictUpdate
  case dramCommandIssue => exact completes_dramCommandIssue
  case dramReadComplete => exact completes_dramReadComplete
  case cryptoReadUnit => exact completes_cryptoReadUnit
  case cryFault => exact completes_cryFault
  case encodeComplete => exact completes_encodeComplete
  case decoderDispatch => exact completes_decoderDispatch
  case decodeComplete => exact completes_decodeComplete
  case decoderParityError => exact completes_decoderParityError
  case recompressorDequeue => exact completes_recompressorDequeue
  case sbByte => exact completes_sbByte
  case fuseBitProgram => exact completes_fuseBitProgram
  case ptmExchange => exact completes_ptmExchange
  case descriptorFetch => exact completes_descriptorFetch
  case stUndefinedOpcode => exact completes_stUndefinedOpcode
  case formationDeadline => exact completes_formationDeadline
  case claimSettle => exact completes_claimSettle
  case failureDecision => exact completes_failureDecision
  case registerWrite => exact completes_registerWrite
  case faultTimerExpiry | spdReadStart | ackTimer | nakResendTimer | spareReqRepeat | ch15ClaimRevoke | replayTimer | headElection |
      deferredClaimTimeout =>
    simp only [exec, execFaultTimerExpiry, execSpdReadStart, execAckTimer, execNakResendTimer, execSpareReqRepeat,
      execCh15ClaimRevoke, execReplayTimer, execHeadElection, execDeferredClaimTimeout]
    split
    · exact .ite .next .next
    · exact .next
  case spineParityError | remarginingQuantum | moveCommit | recompressionTimeout | birsp | norWriteComplete | logbookWrite |
      dmOperationComplete | stopBudgetExpiry =>
    simp only [exec, execSpineParityError, execRemarginingQuantum, execMoveCommit, execRecompressionTimeout, execBirsp,
      execNorWriteComplete, execLogbookWrite, execDmOperationComplete, execStopBudgetExpiry]
    split
    · exact .next
    · exact .ite .next .next
  case blockStopComplete =>
    simp only [exec, execBlockStopComplete]
    split
    · exact .next
    · exact .ite .next (.ite .next .next)
  case arbiterAccept | nodeRekeyComplete | keystreamReady | rowCloseTimeout | mergeReadComplete | writeBufferDrain | walkStart |
      hotReset | tbLoRead | addDcResponse | plVoltageSettled | dmrDoorbell =>
    simp only [exec, execArbiterAccept, execNodeRekeyComplete, execKeystreamReady, execRowCloseTimeout, execMergeReadComplete,
      execWriteBufferDrain, execWalkStart, execHotReset, execTbLoRead, execAddDcResponse, execPlVoltageSettled, execDmrDoorbell]
    split
    all_goals exact .next
  case encoderDispatch =>
    refine .ite .next ?_
    split
    · exact .next
    · exact .next
  case spareWindowEnd =>
    refine .ite .next ?_
    split
    · exact .next
    · exact .next
    · exact .next
  case plClockSwitch | stitchDown | sramUe => exact .ite (.ite .next .next) .next
  case engineDrained | resetRelease => exact .ite (.ite .next .next) (.ite .next .next)
  case bandCopyComplete | hanMapWrite | presenceChange | vinWindowChange | mgtRst => exact .ite .next (.ite .next (.ite .next .next))
  case laneLockLoss => exact .ite .next (.ite .next (.ite .next (.ite .next (.ite .next .next))))
  case patrolScrubQuantum | demotionSweepQuantum | surveySubround | regulatorShortfallCheck | reclamationQuantum | metadataInit |
      hostPortCfgWrite | aqCommandTunnel | inTaken | outTaken | slotFullyOn | dmrCtrlWrite =>
    exact .ite .next (.ite .next .next)
  case transitStart | periodicPlate | periodicUnitComplete | refreshPlanning | almanacEccScrubQuantum | heatEpochAdvance |
      frameExecutiveSlot | thermalModelUpdate | dimmTemperatureRead | remarginPassStart | admission | capacityStallRepeat |
      powerDownEntry | refabIssue | markWindowEnd | cmpSelftestComplete | crySelftestComplete | cryCtrlWrite | keyFlush |
      hostPortCtrlWrite | portResetRelease | linkDisableWrite | linkUp | dlUp | l0pChange | biconflict | ideIntegrityFailure |
      unsupportedMailboxOpcode | unsupportedCommand | inPost | outPost | ch15Claim | mbxBindWrite | sbBusFault | uartFrame |
      boot | trialConfirm | wakeTimer | pllLock | slExitComplete | xtalTrimUpdate | refComparatorTrip | thermalRestart | roDay |
      insertionDelayExpiry | rampTimeout | pgDelayExpiry | currentLimitOnset | currentLimitRelease | slotDownEnd |
      spdReadComplete | dcMarkWrite | zeroInitComplete | trainingStepComplete | trainingAttemptTimeout | syncSend | linkActive |
      helloTimer | rosterHeartbeat | heartbeatLoss | errorRecord | mgtLockstep | sramScrubStep | counterWrap | pmuUe | coreRst |
      pwrOkLow =>
    exact .ite .next .next
  all_goals exact .next

end Sys2Proof.Machine

open Sys2Proof Sys2Proof.Machine in
/-- Settles O56: the front command by `step_cons`; an empty queue by whether a command of the sideband waits, which completes
(`exec_completes`). -/
theorem stepRunsFront : Obligations.StepRunsFront := by
  refine ⟨fun c rest s => step_cons _ c rest rfl, fun s quiet => ?_, fun s i rest awake waits => ?_⟩
  · rw [step_nil _ rfl]
    unfold idle
    split
    next waits =>
      have asleep : s.asleep = true := quiet.resolve_left fun empty => by cases empty.symm.trans waits
      exact if_pos asleep
    next => rfl
  · obtain ⟨t, run⟩ := exec_completes i { s with pending := [], mgt := { s.mgt with rows := [] } }
    refine ⟨t, run, ?_⟩
    rw [step_nil _ rfl]
    have awake' : State.asleep { s with pending := [] } = false := awake
    simp only [idle, waits, awake', Bool.false_eq_true, if_false, run]
end

section
/-!
Command packets that are turned away (R315, R318, R333, R336, R337). Every packet row is `runCmd` of an opcode and an effect
(`packetRow_runs`); what such a row answers before the effect does not depend on which of them it is.
-/

namespace Sys2Proof.Machine

/-- The row is `runCmd` of an opcode and an effect, on the packet that the table of rows names. -/
def RunsAsCommand (r : (Packet → Instr) × (Packet → Packet)) : Prop :=
  ∃ (op : Nat) (eff : Effect) (q : Packet → Packet), (∀ p s, exec (r.1 p) s = .next (runCmd op eff (q p) s)) ∧
    ∀ p, r.2 p = opForm op (q p)

theorem packetRow_runs : ∀ r ∈ packetRows, RunsAsCommand r := by
  intro r listed
  simp only [packetRows, List.cons_append, List.nil_append] at listed
  fin_cases listed
  all_goals exact ⟨_, _, _, fun _ _ => rfl, fun _ => rfl⟩

section
variable {s : State} {p : Packet} {op : Nat} {eff : Effect}

/-- R381: what wakes the device for a packet that arrives asleep leaves the management unit alone. -/
theorem wakeArrival_mgt (q : Packet) (s : State) : (wakeArrival q s).mgt = s.mgt := by
  unfold wakeArrival
  split
  · rfl
  split
  · exact (quiet_wakeRaw (.refl s) 0).mgt
  · exact (quiet_wakeRaw (.refl s) 0).mgt
  · exact (quiet_wakeRaw (.refl s) 0).mgt
  · exact wakeFrom_mgt s 2
  · rfl

theorem wakeArrival_awake (q : Packet) (awake : s.asleep = false) : wakeArrival q s = s := by
  simp [wakeArrival, awake]

/-- R315: a packet that can be accepted and whose tag is outstanding is answered with BUSY. -/
theorem runCmd_busy (now : decidesNow (opForm op p) s = true) (held : tagHeld (opForm op p) s = true) :
    runCmd op eff p s = answerBusy (opForm op p) s := by
  simp only [runCmd, ← opForm_eq, now, held, Bool.not_true, Bool.false_eq_true, if_false, if_true]

/-- A packet that can be accepted and whose tag is free is decided. -/
theorem runCmd_decides (now : decidesNow (opForm op p) s = true) (fresh : tagHeld (opForm op p) s = false) :
    runCmd op eff p s = decideWith eff (opForm op p) (holdTag (opForm op p) s) := by
  simp only [runCmd, ← opForm_eq, now, fresh, Bool.not_true, Bool.false_eq_true, if_false]

/-- R318: a packet that is decided here and fails a check is counted and answered with that check's status. -/
theorem decideWith_fails {v : Verdict} (header : headerFault p = false) (here : goesToHead p (decidedIn p s) = false)
    (fails : checkPacket p (decidedIn p s) = some v) : decideWith eff p (holdTag p s) = answer p v (decidedIn p s) := by
  unfold decideWith
  have e : State.count (holdTag p s) 0x902 0 = decidedIn p s := rfl
  simp only [header, e, here, fails, Bool.false_eq_true, if_false, Bool.false_and]

/-- R318 step 1: a packet whose header is wrong is counted and answered with status 0x03. -/
theorem decideWith_badHeader (header : headerFault p = true) :
    decideWith eff p (holdTag p s) = answer p { status := 0x03 } (decidedIn p s) := by
  unfold decideWith
  exact if_pos header

end

end Sys2Proof.Machine

open Sys2Proof Sys2Proof.Machine in
/-- Settles O28: a row is `runCmd` (`packetRow_runs`), which waits, answers BUSY, or decides; the decision ends at the first check that
fails. -/
theorem packetsTurnedAway : Obligations.PacketsTurnedAway := by
  rintro ⟨row, form⟩ listed s p
  obtain ⟨op, eff, q, runs, forms⟩ := packetRow_runs _ listed
  obtain rfl : form = fun p => opForm op (q p) := funext forms
  simp only [runs]
  refine ⟨fun waits => ?_, fun now held => ?_, fun v now fresh header here fails => ?_, fun now fresh header => ?_⟩
  · rw [runCmd_waits op eff waits]
    refine ⟨_, rfl, rfl, ?_, fun awake => ?_⟩
    · simp only [arrive, wakeArrival_mgt]
    · simp only [arrive, wakeArrival_awake _ awake]
  · rw [runCmd_busy now held]
    rfl
  · rw [runCmd_decides now fresh, decideWith_fails header here fails]
  · rw [runCmd_decides now fresh, decideWith_badHeader header]
end

section
/-!
The mailbox channels (R326 to R331). The registers of the mailbox lie apart from those that reporting changes, so a wake source that a far
end's access fires leaves them alone. Of each shared operation (`showClaim`, `emptyIn`, `emptyOut`, `postOut`, `nameDest`, `accept`)
it is said once what the channel's status reads after it and which fields of the state it can change.
-/

namespace Sys2Proof.Machine

/-! ### Fields of one register, and the registers of the mailbox -/

/-- Fields whose lowest bits differ have different keys, wherever their registers lie. -/
theorem Fld.key_ne_of_lo {f g : Fld} (apart : (decide (f.lo < 64) && decide (g.lo < 64) && f.lo != g.lo) = true) : g.key ≠ f.key := by
  simp only [Bool.and_eq_true, decide_eq_true_eq, bne_iff_ne] at apart
  simp only [Fld.key]
  omega

/-- A put leaves alone every field with another lowest bit, of the same register too. -/
theorem State.get_put_lo {f g : Fld} (apart : (decide (f.lo < 64) && decide (g.lo < 64) && f.lo != g.lo) = true) (s : State) (v : Nat) :
    (s.put f v).get g = s.get g := State.get_put_ne (Fld.key_ne_of_lo apart) s v

/-- A value that fits a field is read back. -/
theorem State.get_put_fits {f : Fld} {v : Nat} (fits : v < 2 ^ f.width) (s : State) : (s.put f v).get f = v :=
  (State.get_put_same s f v).trans (Nat.mod_eq_of_lt fits)

section
variable {s t : State}

/-- What reporting changes is no register of the mailbox. -/
theorem Quiet.mailbox (h : Quiet s t) {f : Fld} (low : 0x310000 ≤ f.addr) (high : f.addr < 0x330000) (lo : decide (f.lo < 64) = true) :
    t.get f = s.get f :=
  h.reg f (of_decide_eq_true lo) (by simp only [reportReg, Bool.or_eq_false_iff, decide_eq_false_iff_not]; omega)

theorem Quiet.status (h : Quiet s t) (c : Fin 16) {f : Fld} (reg : f.addr = 0x310108 + 0x40 * c) (lo : decide (f.lo < 64) = true) :
    t.get f = s.get f := h.mailbox (by omega) (by omega) lo

theorem Quiet.binding (h : Quiet s t) (c : Fin 16) {f : Fld} (reg : f.addr = 0x310100 + 0x40 * c) (lo : decide (f.lo < 64) = true) :
    t.get f = s.get f := h.mailbox (by omega) (by omega) lo

/-- R326, R330: reporting leaves it to a channel's binding and claim who its far end is. -/
theorem Quiet.isFarEnd (h : Quiet s t) (c : Fin 16) (m : Nat) : isFarEnd t c m = isFarEnd s c m := by
  unfold Machine.isFarEnd chanKind
  rw [h.claim, h.binding c (f := F.MBX_CH_BIND.KIND c) rfl rfl, h.binding c (f := F.MBX_CH_BIND.SLOT c) rfl rfl]

theorem flag_eq_false_of_get {f : Fld} (h : s.get f = 0) : s.flag f = false := by rw [State.flag_eq, h]; rfl

theorem flag_eq_true_of_get {f : Fld} (h : s.get f = 1) : s.flag f = true := by rw [State.flag_eq, h]; rfl

/-! ### The claim's registers -/

theorem showClaim_rest (s : State) : showClaim s = { s with regs := (showClaim s).regs } := rfl

theorem showClaim_get {f : Fld} (other : f.addr ≠ 0x3104e0) (lo : decide (f.lo < 64) = true) (s : State) :
    (showClaim s).get f = s.get f := by
  have key (g : Fld) (hg : g.addr = 0x3104e0) (hlo : g.lo < 64) : f.key ≠ g.key :=
    Fld.key_ne_of_addr (by rwa [hg]) hlo (of_decide_eq_true lo)
  rw [showClaim, State.get_put_ne (key F.MBX_CH15_CLAIM.OWNER rfl (by decide)), State.get_put_ne (key F.MBX_CH15_CLAIM.BUSY rfl (by decide))]

theorem showClaim_status (c : Nat) {f : Fld} (reg : f.addr = 0x310108 + 0x40 * c) (lo : decide (f.lo < 64) = true) (s : State) :
    (showClaim s).get f = s.get f := showClaim_get (by omega) lo s

theorem showClaim_busy (s : State) :
    (showClaim s).get F.MBX_CH15_CLAIM.BUSY = bit (s.claim.isSome || s.flag (F.MBX_CH_STATUS.IN_FULL 15)) := by
  rw [showClaim, State.get_put_lo rfl, State.get_put_fits (bit_lt_two _)]

theorem showClaim_owner {m a : Nat} (slot : m < 64) (claim : s.claim = some (m, a)) :
    (showClaim s).get F.MBX_CH15_CLAIM.OWNER = m := by
  rw [showClaim, claim]
  exact State.get_put_fits slot _

/-! ### Messages in a buffer -/

/-- R326: a message written at the start of a buffer is what stands in its first bytes. -/
theorem take_overwrite_zero {n : Nat} {new : List Byte} (len : new.length = n) (fits : n ≤ 4096) (buf : List Byte) :
    (overwrite 0 new buf ++ List.replicate n 0).take n = new := by
  subst len
  rw [overwrite, List.replicate_zero, List.append_nil, List.take_zero, List.nil_append, List.take_append_of_le_length]
  · rw [List.take_take, min_eq_left fits, List.take_left]
  · simp only [List.length_take, List.length_append]
    omega

/-- R330: the byte that is written at an offset within the buffer stands there. -/
theorem getElem?_overwrite_five (b : Byte) (buf : List Byte) : (overwrite 5 [b] buf)[5]? = some b := by
  have before : ((buf ++ List.replicate 5 0).take 5).length = 5 := by simp
  rw [overwrite, List.getElem?_take_of_lt (by decide), List.append_assoc, List.getElem?_append_right (by rw [before]), before]
  rfl

/-! ### IN_POST -/

/-- R326, R330: the buffer of a channel after a post of `n` bytes by slot `m`: on channel 15 the sender stands in byte 5. -/
def postedBuffer (c m n : Nat) (bytes buf : List Byte) : List Byte :=
  let msg := overwrite 0 (bytes.take n) buf
  if c = 15 then overwrite 5 [BitVec.ofNat 8 (0x80 + m)] msg else msg

theorem postedBuffer_of_ne {c : Nat} (general : c ≠ 15) (m n : Nat) (bytes buf : List Byte) :
    postedBuffer c m n bytes buf = overwrite 0 (bytes.take n) buf := if_neg general

/-- R327: IN of a channel with a message of `n` bytes posted by slot `m`. -/
def inPosted (c m n : Nat) (bytes : List Byte) (s : State) : State :=
  showClaim ((State.put { s with mbx := s.mbx.upd c (fun x => { x with
    inMsg := postedBuffer c m n bytes (s.mbx.get c).inMsg, inSlot := m }) } (F.MBX_CH_STATUS.IN_FULL c) 1).put (F.MBX_CH_STATUS.IN_LEN c) n)

theorem inPosted_mbx (c m n : Nat) (bytes : List Byte) (s : State) : (inPosted c m n bytes s).mbx.get c =
    { s.mbx.get c with inMsg := postedBuffer c m n bytes (s.mbx.get c).inMsg, inSlot := m } := Tab.get_upd_same _ _ _

theorem inPosted_full (c m n : Nat) (bytes : List Byte) (s : State) :
    (inPosted c m n bytes s).get (F.MBX_CH_STATUS.IN_FULL c) = 1 := by
  rw [inPosted, showClaim_status c rfl rfl, State.get_put_lo rfl]
  exact State.get_put_same _ _ _

theorem inPosted_len {n : Nat} (fits : n < 2 ^ 13) (c m : Nat) (bytes : List Byte) (s : State) :
    (inPosted c m n bytes s).get (F.MBX_CH_STATUS.IN_LEN c) = n := by
  rw [inPosted, showClaim_status c rfl rfl]
  exact State.get_put_fits fits _

theorem inPosted_otherFull {c d : Nat} (other : d ≠ c) (m n : Nat) (bytes : List Byte) (s : State) :
    (inPosted c m n bytes s).get (F.MBX_CH_STATUS.IN_FULL d) = s.get (F.MBX_CH_STATUS.IN_FULL d) := by
  rw [inPosted, showClaim_status d rfl rfl, State.get_put_lo rfl, State.get_put_ne]
  · rfl
  · simp only [Fld.key, F.MBX_CH_STATUS.IN_FULL]
    omega

/-- R327: a post of the far end into an empty IN. -/
theorem exec_inPost_fills {c : Fin 16} {m : Fin 64} {len : BitVec 13} (bytes : List Byte) (empty : s.get (F.MBX_CH_STATUS.IN_FULL c) = 0)
    (low : 16 ≤ len.toNat) (high : len.toNat ≤ 4096) (far : isFarEnd s c m = true) :
    exec (.inPost c m false len bytes) s = .next (wakeFrom 1 (inPosted c m len.toNat bytes (wakeRaw 0 s))) := by
  have wake := quiet_wakeRaw (.refl s) 0
  have empty' := flag_eq_false_of_get ((wake.status c rfl rfl).trans empty)
  have far' := (wake.isFarEnd c m).trans far
  simp only [exec_inPost, execInPost, Bool.false_eq_true, if_false, empty', far', Nat.not_lt.2 low, Nat.not_lt.2 high, decide_false,
    Bool.not_true, Bool.or_self]
  rfl

/-- R327: a post that is not taken sets IN_ERR. -/
theorem exec_inPost_refused {c : Fin 16} {m : Fin 64} {len : BitVec 13} (bytes : List Byte)
    (bad : s.get (F.MBX_CH_STATUS.IN_FULL c) = 1 ∨ len.toNat < 16 ∨ 4096 < len.toNat ∨ isFarEnd s c m = false) :
    exec (.inPost c m false len bytes) s = .next ((wakeRaw 0 s).put (F.MBX_CH_STATUS.IN_ERR c) 1) := by
  have wake := quiet_wakeRaw (.refl s) 0
  simp only [exec_inPost, execInPost, Bool.false_eq_true, if_false, wake.isFarEnd]
  refine if_pos ?_
  rcases bad with full | short | long | near
  · simp [flag_eq_true_of_get ((wake.status c (f := F.MBX_CH_STATUS.IN_FULL c) rfl rfl).trans full)]
  · simp [short]
  · simp [long]
  · simp [near]

theorem exec_inPost_mgt (c : Fin 16) (m : Fin 64) (len : BitVec 13) (bytes : List Byte) (s : State) :
    exec (.inPost c m true len bytes) s = .next (s.put (F.MBX_CH_STATUS.IN_ERR c) 1) := by
  simp only [exec_inPost, execInPost, if_true]
  exact if_pos (by simp)

end

end Sys2Proof.Machine

open Sys2Proof Sys2Proof.Machine in
/-- Settles O1: a post that is taken is `inPosted` between the wake sources of the access and of the message, which leave the mailbox
alone (`Quiet`); any other sets IN_ERR. -/
theorem mailboxInPosts : Obligations.MailboxInPosts := by
  refine ⟨fun s c m len bytes empty low high far => ?_, fun s c m len bytes bad => ?_, fun s c m len bytes => ?_⟩
  · have wake := quiet_wakeRaw (.refl s) 0
    have told := quiet_wakeFrom (.refl (inPosted c m len.toNat bytes (wakeRaw 0 s))) 1
    have length : (wakeFrom 1 (inPosted c m len.toNat bytes (wakeRaw 0 s))).get (F.MBX_CH_STATUS.IN_LEN c) = len.toNat :=
      (told.status c rfl rfl).trans (inPosted_len len.isLt _ _ _ _)
    have box := inPosted_mbx c m len.toNat bytes (wakeRaw 0 s)
    rw [← told.mbx, wake.mbx] at box
    refine ⟨_, exec_inPost_fills bytes empty low high far, (told.status c rfl rfl).trans (inPosted_full _ _ _ _ _), length, ?_, ?_, ?_,
      ?_, fun d other => ⟨?_, ?_⟩, ?_, ?_, ?_, ?_⟩
    · rw [box]
    · intro general
      rw [box]
      exact postedBuffer_of_ne (fun is => general (Fin.ext is)) _ _ _ _
    · intro general whole
      rw [inBytes, length, box]
      show List.take _ (postedBuffer _ _ _ _ _ ++ _) = _
      rw [postedBuffer_of_ne fun is => general (Fin.ext is)]
      exact take_overwrite_zero (by simpa using whole) high _
    · rintro rfl
      rw [box]
      exact getElem?_overwrite_five _ _
    · rw [told.mbx, ← wake.mbx]
      exact Tab.get_upd_other (fun is => other (Fin.ext is)) _ _
    · rw [told.status d rfl rfl, inPosted_otherFull (fun is => other (Fin.ext is)), wake.status d rfl rfl]
    · rw [told.mgt, ← wake.mgt]; rfl
    · rw [told.dram, ← wake.dram]; rfl
    · rw [told.frames, ← wake.frames]; rfl
    · rw [told.regions, ← wake.regions]; rfl
  · exact ⟨_, exec_inPost_refused bytes bad, State.get_put_same _ _ _,
      (State.get_put_lo rfl _ _).trans ((quiet_wakeRaw (.refl s) 0).status c rfl rfl), rfl⟩
  · exact ⟨_, exec_inPost_mgt c m len bytes s, State.get_put_same _ _ _, State.get_put_lo rfl _ _, rfl⟩
end

section
/-!
What the mailbox channels take and post (R315, R327 to R330): IN_TAKEN, OUT_POST and OUT_TAKEN.
-/

namespace Sys2Proof.Machine

section
variable {s t : State} {c : Fin 16}

/-! ### The shared operations -/

theorem emptyIn_rest (c : Nat) (s : State) :
    emptyIn c s = { s with regs := (emptyIn c s).regs, mbx := (emptyIn c s).mbx, claim := (emptyIn c s).claim } := by
  unfold emptyIn
  split
  · split
    · rfl
    · rfl
  · split
    · rfl
    · rfl

/-- Beside the claim's registers, IN that empties reads what its FULL and LEN are set to. -/
theorem emptyIn_status (c d : Nat) {f : Fld} (reg : f.addr = 0x310108 + 0x40 * d) (lo : decide (f.lo < 64) = true) (s : State) :
    (emptyIn c s).get f = ((s.put (F.MBX_CH_STATUS.IN_FULL c) 0).put (F.MBX_CH_STATUS.IN_LEN c) 0).get f := by
  unfold emptyIn
  rw [showClaim_status d reg lo]
  split
  · split
    · rfl
    · rfl
  · split
    · rfl
    · rfl

theorem emptyIn_full (c : Nat) (s : State) : (emptyIn c s).get (F.MBX_CH_STATUS.IN_FULL c) = 0 := by
  rw [emptyIn_status c c rfl rfl, State.get_put_lo rfl, State.get_put_same, Nat.zero_mod]

theorem emptyIn_len (c : Nat) (s : State) : (emptyIn c s).get (F.MBX_CH_STATUS.IN_LEN c) = 0 := by
  rw [emptyIn_status c c rfl rfl, State.get_put_same, Nat.zero_mod]

theorem farIrq_rest (c : Nat) (dest : Option Nat) (en : Bool) (s : State) :
    farIrq c dest en s = { s with out := (farIrq c dest en s).out } := by
  unfold farIrq
  split
  · split
    · rfl
    · rfl
  · rfl

theorem farIrq_get (c : Nat) (dest : Option Nat) (en : Bool) (s : State) (f : Fld) : (farIrq c dest en s).get f = s.get f := by
  rw [farIrq_rest]
  rfl

theorem farIrq_emptyIn_rest (c : Nat) (dest : Option Nat) (en : Bool) (s : State) : farIrq c dest en (emptyIn c s) =
    { s with
      regs := (farIrq c dest en (emptyIn c s)).regs, mbx := (farIrq c dest en (emptyIn c s)).mbx
      claim := (farIrq c dest en (emptyIn c s)).claim, out := (farIrq c dest en (emptyIn c s)).out } := by
  rw [farIrq_rest, emptyIn_rest]

theorem mem_farIrq_out (c : Nat) (dest : Option Nat) (en : Bool) {o : Out} (sent : o ∈ s.out) : o ∈ (farIrq c dest en s).out := by
  unfold farIrq
  split
  · split
    · exact List.mem_append_left _ sent
    · exact sent
  · exact sent

theorem postOut_rest (c : Nat) (o : Out) (s : State) :
    postOut c o s = { s with regs := (postOut c o s).regs, mbx := (postOut c o s).mbx, out := (postOut c o s).out } := by
  unfold postOut
  rw [farIrq_rest]
  rfl

theorem postOut_mbx (c : Nat) (o : Out) (s : State) :
    (postOut c o s).mbx = s.mbx.upd c (fun x => { x with outMsg := some o }) := by
  unfold postOut
  rw [farIrq_rest]
  rfl

theorem postOut_get (c : Nat) (o : Out) (f : Fld) (s : State) : (postOut c o s).get f =
    ((s.put (F.MBX_CH_STATUS.OUT_FULL c) 1).put (F.MBX_CH_STATUS.OUT_LEN c) (outLength o)).get f := by
  unfold postOut
  rw [farIrq_get]
  rfl

theorem postOut_full (c : Nat) (o : Out) (s : State) : (postOut c o s).get (F.MBX_CH_STATUS.OUT_FULL c) = 1 := by
  rw [postOut_get, State.get_put_lo rfl, State.get_put_same]
  rfl

theorem mem_postOut_out (c : Nat) (o : Out) : o ∈ (postOut c o s).out :=
  mem_farIrq_out _ _ _ (List.mem_append_right _ (List.mem_singleton_self o))

theorem mem_postOut_out_of_mem (c : Nat) (o : Out) {x : Out} (sent : x ∈ s.out) : x ∈ (postOut c o s).out :=
  mem_farIrq_out _ _ _ (List.mem_append_left _ sent)

theorem nameDest_rest (c : Nat) (slot : Option Nat) (s : State) : nameDest c slot s = { s with regs := (nameDest c slot s).regs } := by
  unfold nameDest
  split
  · split
    · rfl
    · rfl
  · rfl

/-- R315: a tag that ends is not outstanding. -/
theorem endTag_ends (k : Nat × Nat) (s : State) : k ∉ (endTag (some k) s).mgt.tags := by simp [endTag]

theorem sendOut_rest (c : Nat) (slot : Option Nat) (o : Out) (s : State) : sendOut c slot o none s =
    { s with regs := (sendOut c slot o none s).regs, mbx := (sendOut c slot o none s).mbx, out := (sendOut c slot o none s).out } := by
  unfold sendOut
  split
  · rfl
  · rw [postOut_rest, endTag, nameDest_rest]

/-- R315: a packet of a channel with an outstanding tag is answered on its channel, or the answer is held there. -/
theorem accept_held {p : Packet} (path : p.path = .mbx c) (held : tagHeld p s = true) :
    accept p s = { s with regs := (accept p s).regs, mbx := (accept p s).mbx, out := (accept p s).out } := by
  have busy : accept p s = answerBusy p s := if_pos held
  simp only [busy, answerBusy, sendOn, path]
  exact sendOut_rest _ _ _ s

theorem accept_fresh {p : Packet} (fresh : tagHeld p s = false) : accept p s = { s with mgt := { s.mgt with
    tags := s.mgt.tags ++ [(packetKey p, p.tag.toNat)], accepted := s.mgt.accepted ++ [p] } } :=
  if_neg (ne_true_of_eq_false fresh)

/-! ### IN_TAKEN -/

/-- R315: the packet that stands in a channel's IN. -/
def inPacket (s : State) (c : Fin 16) : Packet := packetOf (.mbx c) (s.mbx.get c).inSlot (inBytes s c)

/-- R327, R328: the management processor takes a message whose reply has room. -/
theorem exec_inTaken_takes (full : s.get (F.MBX_CH_STATUS.IN_FULL c) = 1) (room : replyRoom (.mbx c) s = true) :
    exec (.inTaken c true) s = .next (farIrq c (if c.val = 15 then some (s.mbx.get c).inSlot else farSlot s c)
      (s.flag (F.MBX_CH_IRQ.FAR_EMPTY_EN c)) (emptyIn c (accept (inPacket s c) s))) := by
  simp only [exec_inTaken, execInTaken, takeIn, flag_eq_true_of_get full, Fin.ofNat_eq_cast, Fin.cast_val_eq_self, room, Bool.not_true, Bool.false_eq_true,
    if_false, Bool.or_self]
  rfl

theorem exec_inTaken_noRoom (full : replyRoom (.mbx c) s = false) : exec (.inTaken c true) s = .next s := by
  simp [exec_inTaken, execInTaken, takeIn, full]

theorem replyRoom_eq_false (waiting : 4 ≤ (s.mbx.get c).held.length) : replyRoom (.mbx c) s = false :=
  decide_eq_false (by omega)

end

end Sys2Proof.Machine

open Sys2Proof Sys2Proof.Machine in
/-- Settles O2: a message that is taken leaves IN empty (`emptyIn`) whatever becomes of its packet, which `accept` answers with BUSY or
accepts. -/
theorem mailboxInTaken : Obligations.MailboxInTaken := by
  refine ⟨fun s c full room => ?_, fun s c _ waiting => exec_inTaken_noRoom (replyRoom_eq_false waiting),
    fun s c none => exec_inTaken_noRoom none, fun s c mgt empty => ?_, fun s c full => ?_⟩
  · refine ⟨_, exec_inTaken_takes full room, (farIrq_get _ _ _ _ _).trans (emptyIn_full _ _),
      (farIrq_get _ _ _ _ _).trans (emptyIn_len _ _), ?_, ?_, ?_⟩
    · intro fresh
      rw [farIrq_emptyIn_rest]
      show (accept (inPacket s c) s).mgt.accepted = _ ∧ (accept (inPacket s c) s).mgt.tags.contains _ = true
      rw [accept_fresh (p := inPacket s c) fresh]
      exact ⟨rfl, List.elem_eq_true_of_mem (List.mem_append_right _ (List.mem_singleton_self _))⟩
    · intro held
      rw [farIrq_emptyIn_rest]
      show (accept (inPacket s c) s).mgt = _
      rw [accept_held (p := inPacket s c) rfl held]
    · rw [farIrq_emptyIn_rest]
      show (accept (inPacket s c) s).dram = _ ∧ (accept (inPacket s c) s).regions = _
      cases held : tagHeld (inPacket s c) s with
      | true => rw [accept_held rfl held]; exact ⟨rfl, rfl⟩
      | false => rw [accept_fresh held]; exact ⟨rfl, rfl⟩
  · rw [exec_inTaken, execInTaken, flag_eq_false_of_get empty]
    rfl
  · refine ⟨_, ?_, State.get_put_same s (F.MBX_CH_STATUS.IN_ERR c) 1, rfl⟩
    rw [exec_inTaken, execInTaken, flag_eq_true_of_get full]
    rfl
end

section
/-!
The replies of a mailbox channel (R327, R328, R330): OUT_POST and OUT_TAKEN.
-/

namespace Sys2Proof.Machine

section
variable {s t : State} {c : Fin 16}

/-! ### OUT_POST -/

/-- R330: a destination named for channel 15, or named before, is valid. -/
theorem nameDest_valid {slot : Option Nat} (known : slot.isSome = true ∨ s.get F.MBX_CH15_OUT_DEST.VALID = 1) :
    (nameDest 15 slot s).flag F.MBX_CH15_OUT_DEST.VALID = true := by
  apply flag_eq_true_of_get
  cases slot with
  | none => exact known.resolve_left nofun
  | some m =>
    rw [nameDest, if_pos rfl, State.get_put_lo rfl, State.get_put_same]
    rfl

theorem nameDest_slot {m : Nat} (fits : m < 64) (s : State) : (nameDest 15 (some m) s).get F.MBX_CH15_OUT_DEST.SLOT = m := by
  rw [nameDest, if_pos rfl]
  exact State.get_put_fits fits _

/-- R328: what is ready to be posted for the oldest held reply: its destination is named, it is not held any more, and its tag ends. -/
def heldReply (c : Nat) (h : HeldOut) (rest : List HeldOut) (s : State) : State :=
  endTag h.tag { nameDest c h.dest s with mbx := s.mbx.set c { s.mbx.get c with held := rest } }

theorem heldReply_rest (c : Nat) (h : HeldOut) (rest : List HeldOut) (s : State) : heldReply c h rest s = { s with
    regs := (nameDest c h.dest s).regs, mbx := s.mbx.set c { s.mbx.get c with held := rest }, mgt := (endTag h.tag s).mgt } := by
  rw [heldReply, nameDest_rest]
  cases h.tag
  · rfl
  · rfl

theorem heldReply_get (c : Nat) (h : HeldOut) (rest : List HeldOut) (s : State) (f : Fld) :
    (heldReply c h rest s).get f = (nameDest c h.dest s).get f := by
  rw [heldReply_rest]
  rfl

/-- R328: an empty OUT takes the oldest held reply, on channel 15 when a destination is known. -/
theorem exec_outPost_posts {h : HeldOut} {rest : List HeldOut} (empty : s.get (F.MBX_CH_STATUS.OUT_FULL c) = 0)
    (known : c = 15 → h.dest.isSome = true ∨ s.get F.MBX_CH15_OUT_DEST.VALID = 1) (held : (s.mbx.get c).held = h :: rest) :
    exec (.outPost c true) s = .next (postOut c h.out (heldReply c h rest s)) := by
  have valid : (c.val == 15 && !(nameDest c h.dest s).flag F.MBX_CH15_OUT_DEST.VALID) = false := by
    by_cases last : c = 15
    · subst last
      simp [nameDest_valid (known rfl)]
    · have : c.val ≠ 15 := fun e => last (Fin.ext e)
      simp [this]
  have mbx : (nameDest c h.dest s).mbx = s.mbx := by rw [nameDest_rest]
  simp only [exec_outPost, execOutPost, postHeld, held, flag_eq_false_of_get empty, valid, mbx]
  rfl

/-- R327: the far end's POST, and any POST while OUT is FULL, is an error. -/
theorem exec_outPost_error {mgt : Bool} (wrong : s.flag (F.MBX_CH_STATUS.OUT_FULL c) = true ∨ mgt = false) :
    exec (.outPost c mgt) s = .next (s.put (F.MBX_CH_STATUS.OUT_ERR c) 1) := by
  rw [exec_outPost, execOutPost, if_pos (by simpa using wrong)]

/-! ### OUT_TAKEN -/

theorem emptyOut_rest (c : Nat) (s : State) : emptyOut c s = { s with regs := (emptyOut c s).regs, mbx := (emptyOut c s).mbx } := rfl

theorem emptyOut_full (c : Nat) (s : State) : (emptyOut c s).get (F.MBX_CH_STATUS.OUT_FULL c) = 0 := by
  change ((s.put (F.MBX_CH_STATUS.OUT_FULL c) 0).put (F.MBX_CH_STATUS.OUT_LEN c) 0).get _ = 0
  rw [State.get_put_lo rfl, State.get_put_same, Nat.zero_mod]

theorem emptyOut_outMsg (c : Nat) (s : State) : ((emptyOut c s).mbx.get c).outMsg = none := by
  rw [emptyOut, Tab.get_upd_same]

/-- R327, R330: who may take what stands in a channel's OUT. -/
def takesOut (s : State) (c : Fin 16) (m : Nat) : Bool := if c.val = 15 then farSlot s 15 == some m else isFarEnd s c m

theorem takesOut_of_isFarEnd {m : Nat} (other : c ≠ 15) (far : isFarEnd s c m = true) : takesOut s c m = true :=
  (if_neg fun e => other (Fin.ext e)).trans far

/-- R330: channel 15's far end is the LD that the destination names. -/
theorem takesOut_of_dest {m : Nat} (valid : s.get F.MBX_CH15_OUT_DEST.VALID = 1) (slot : s.get F.MBX_CH15_OUT_DEST.SLOT = m) :
    takesOut s 15 m = true := by
  have far : farSlot s 15 = some m := by rw [farSlot, if_pos rfl, flag_eq_true_of_get valid, if_pos rfl, slot]
  exact (if_pos rfl).trans (beq_iff_eq.mpr far)

theorem Quiet.takesOut (h : Quiet s t) (c : Fin 16) (m : Nat) : takesOut t c m = takesOut s c m := by
  unfold Machine.takesOut
  rw [h.isFarEnd]
  unfold farSlot
  rw [State.flag_eq, State.flag_eq, h.mailbox (f := F.MBX_CH15_OUT_DEST.VALID) (by decide) (by decide) rfl,
    h.mailbox (f := F.MBX_CH15_OUT_DEST.SLOT) (by decide) (by decide) rfl]
  rfl

/-- R327: the far end takes the reply; its write fires the wake source of a CXL.io access. -/
theorem exec_outTaken_takes {m : Fin 64} (full : s.get (F.MBX_CH_STATUS.OUT_FULL c) = 1) (far : takesOut s c m = true) :
    exec (.outTaken c m false) s = .next (emptyOut c (wakeRaw 0 s)) := by
  have woken := quiet_wakeRaw (.refl s) 0
  have full' := flag_eq_true_of_get ((woken.status c (f := F.MBX_CH_STATUS.OUT_FULL c) rfl rfl).trans full)
  have far' := (woken.takesOut c m).trans far
  rw [takesOut] at far'
  simp only [exec_outTaken, execOutTaken, Bool.false_eq_true, if_false, full', far']
  rfl

theorem exec_outTaken_mgt_full (m : Fin 64) (full : s.get (F.MBX_CH_STATUS.OUT_FULL c) = 1) :
    exec (.outTaken c m true) s = .next (s.put (F.MBX_CH_STATUS.OUT_ERR c) 1) := by
  simp only [exec_outTaken, execOutTaken, if_true, flag_eq_true_of_get full]
  rfl

theorem exec_outTaken_empty (m : Fin 64) (empty : s.get (F.MBX_CH_STATUS.OUT_FULL c) = 0) :
    exec (.outTaken c m true) s = .next s ∧ exec (.outTaken c m false) s = .next (wakeRaw 0 s) := by
  have empty' := ((quiet_wakeRaw (.refl s) 0).status c (f := F.MBX_CH_STATUS.OUT_FULL c) rfl rfl).trans empty
  simp only [exec_outTaken, execOutTaken, if_true, Bool.false_eq_true, if_false, flag_eq_false_of_get empty, flag_eq_false_of_get empty',
    Bool.not_false, and_self]

end

end Sys2Proof.Machine

open Sys2Proof Sys2Proof.Machine in
/-- Settles O3: a reply that is posted is the oldest held one (`heldReply`, `postOut`), and OUT that is taken empties (`emptyOut`). -/
theorem mailboxOut : Obligations.MailboxOut := by
  refine ⟨fun s c h rest empty known held => ?_, fun s c m full other far => ?_, fun s m full valid slot => ?_, fun s c m full => ?_,
    fun s c _ => ?_, fun s c m => exec_outTaken_empty m⟩
  · refine ⟨_, exec_outPost_posts empty known held, postOut_full _ _ _, ?_, ?_, ?_, mem_postOut_out _ _, fun x sent => ?_, ?_, ?_⟩
    · intro m fits last dest
      subst last
      rw [postOut_get, State.get_put_lo rfl, State.get_put_lo rfl, heldReply_get, dest]
      exact nameDest_slot fits s
    · rw [postOut_mbx, Tab.get_upd_same]
    · rw [postOut_mbx, Tab.get_upd_same, heldReply_rest, Tab.get_set_same]
    · exact mem_postOut_out_of_mem _ _ (by rwa [heldReply_rest])
    · intro k tag
      rw [postOut_rest, heldReply_rest, tag]
      exact endTag_ends k s
    · rw [postOut_rest, heldReply_rest]
  · exact ⟨_, exec_outTaken_takes full (takesOut_of_isFarEnd other far), emptyOut_full _ _, emptyOut_outMsg _ _, emptyOut_rest _ _⟩
  · exact ⟨_, exec_outTaken_takes full (takesOut_of_dest valid slot), emptyOut_full _ _, emptyOut_rest _ _⟩
  · exact ⟨⟨_, exec_outPost_error (.inl (flag_eq_true_of_get full)), State.get_put_same _ _ _, rfl⟩,
      ⟨_, exec_outTaken_mgt_full m full, State.get_put_same _ _ _, rfl⟩⟩
  · exact ⟨_, exec_outPost_error (.inr rfl), State.get_put_same _ _ _, rfl⟩
end

section
/-!
The claim of channel 15, the binding registers, and what a far end's reset leaves of a channel (R329 to R331).
-/

namespace Sys2Proof.Machine

section
variable {s t : State} {c : Fin 16}

/-! ### The claim of channel 15 -/

theorem exec_ch15Claim_granted (m : Fin 64) (free : s.claim = none) (empty : s.get (F.MBX_CH_STATUS.IN_FULL 15) = 0) :
    exec (.ch15Claim m) s = .next (showClaim { s with claim := some (m.val, s.now) }) := by
  rw [exec_ch15Claim, execCh15Claim, free, flag_eq_false_of_get empty]
  rfl

theorem exec_ch15Claim_refused (m : Fin 64) {x : Nat × Nat} (claimed : s.claim = some x) : exec (.ch15Claim m) s = .next s := by
  rw [exec_ch15Claim, execCh15Claim, claimed]
  rfl

/-- R330: the buffer and the claim as a claim's end leaves them. -/
def unclaimed (s : State) : State := { s with claim := none, mbx := s.mbx.upd 15 (fun x => { x with inMsg := [] }) }

theorem exec_ch15ClaimRevoke_late {m since : Nat} (claimed : s.claim = some (m, since)) (empty : s.get (F.MBX_CH_STATUS.IN_FULL 15) = 0)
    (late : since + 100000 ≤ s.now) : exec .ch15ClaimRevoke s = .next (showClaim (unclaimed s)) := by
  have past : decide (100000 ≤ s.since since) = true := decide_eq_true (by unfold State.since; omega)
  simp only [exec_ch15ClaimRevoke, execCh15ClaimRevoke, claimed, flag_eq_false_of_get empty, past]
  rfl

theorem showClaim_unclaimed_busy (empty : s.get (F.MBX_CH_STATUS.IN_FULL 15) = 0) :
    (showClaim (unclaimed s)).get F.MBX_CH15_CLAIM.BUSY = 0 := by
  have empty' : (unclaimed s).flag (F.MBX_CH_STATUS.IN_FULL 15) = false := flag_eq_false_of_get empty
  rw [showClaim_busy, empty']
  rfl

/-! ### MBX_BIND_WRITE -/

/-- R331: a channel's slot and vector as a binding write sets them. -/
def bindSlot (c v : Nat) (s : State) : State := (s.put (F.MBX_CH_BIND.MSIX c) (slice v 16 8)).put (F.MBX_CH_BIND.SLOT c) (slice v 8 6)

/-- R331: a binding write; a kind from 4 on, or of channel 15, is not taken. -/
def bound (c v : Nat) (s : State) : State :=
  if c = 15 ∨ 4 ≤ slice v 0 3 then bindSlot c v s else (bindSlot c v s).put (F.MBX_CH_BIND.KIND c) (slice v 0 3)

theorem exec_mbxBindWrite_bound (v : BitVec 32) (empty : s.get (F.MBX_CH_STATUS.IN_FULL c) = 0)
    (out : s.get (F.MBX_CH_STATUS.OUT_FULL c) = 0) (unlocked : c.val ≤ 7 → s.get F.MBX_CTRL.SECURE_LOCK = 0) :
    exec (.mbxBindWrite c v) s = .next (bound c v.toNat s) := by
  have free : (s.flag F.MBX_CTRL.SECURE_LOCK && decide (c.val ≤ 7)) = false := by
    by_cases secure : c.val ≤ 7
    · rw [flag_eq_false_of_get (unlocked secure), Bool.false_and]
    · rw [decide_eq_false secure, Bool.and_false]
  simp only [exec_mbxBindWrite, execMbxBindWrite, free, flag_eq_false_of_get empty, flag_eq_false_of_get out]
  rfl

theorem exec_mbxBindWrite_locked (v : BitVec 32) (secure : c.val ≤ 7) (locked : s.get F.MBX_CTRL.SECURE_LOCK = 1) :
    exec (.mbxBindWrite c v) s = .next s := by
  simp only [exec_mbxBindWrite, execMbxBindWrite, flag_eq_true_of_get locked, decide_eq_true secure]
  rfl

theorem bound_rest (c v : Nat) (s : State) : bound c v s = { s with regs := (bound c v s).regs } := by
  unfold bound
  split
  · rfl
  · rfl

/-- The kind is the field of the binding register that `bindSlot` leaves alone. -/
theorem bindSlot_kind (c v : Nat) (s : State) : chanKind (bindSlot c v s) c = chanKind s c := by
  rw [chanKind, bindSlot, State.get_put_lo rfl, State.get_put_lo rfl]
  rfl

theorem bound_get (c v : Nat) {f : Fld} (lo : (decide (f.lo < 64) && f.lo != 0) = true) (s : State) :
    (bound c v s).get f = (bindSlot c v s).get f := by
  simp only [Bool.and_eq_true, decide_eq_true_eq, bne_iff_ne] at lo
  unfold bound
  split
  · rfl
  · exact State.get_put_lo (by simpa [F.MBX_CH_BIND.KIND, lo.1] using Ne.symm lo.2) _ _

theorem slice_lt (v lo w : Nat) : slice v lo w < 2 ^ w := Nat.mod_lt _ (Nat.two_pow_pos w)

theorem bound_slot (c v : Nat) (s : State) : (bound c v s).get (F.MBX_CH_BIND.SLOT c) = slice v 8 6 := by
  rw [bound_get _ _ rfl]
  exact State.get_put_fits (slice_lt v 8 6) _

theorem bound_msix (c v : Nat) (s : State) : (bound c v s).get (F.MBX_CH_BIND.MSIX c) = slice v 16 8 := by
  rw [bound_get _ _ rfl, bindSlot, State.get_put_lo rfl]
  exact State.get_put_fits (slice_lt v 16 8) _

theorem bound_kind {c v : Nat} (host : c < 15) (kind : slice v 0 3 < 4) (s : State) : chanKind (bound c v s) c = slice v 0 3 := by
  rw [bound, if_neg (by omega)]
  exact State.get_put_fits (slice_lt v 0 3) _

theorem bound_kind_kept {c v : Nat} (other : c = 15 ∨ 4 ≤ slice v 0 3) (s : State) : chanKind (bound c v s) c = chanKind s c := by
  rw [bound, if_pos other]
  exact bindSlot_kind c v s

/-! ### FAR_END_RESET -/

/-- R329: no reply of the channel is held any more. -/
theorem dropReplies_held (c : Nat) (s : State) : ((dropReplies c none s).mbx.get c).held = [] := by
  simp [dropReplies]

theorem dropReplies_outMsg (c : Nat) (who : Option Nat) (s : State) : ((dropReplies c who s).mbx.get c).outMsg = (s.mbx.get c).outMsg := by
  rw [dropReplies, Tab.get_upd_same]

/-- R329: a channel has no outstanding tag after its reset. -/
theorem dropReplies_tags {c : Nat} {k : Nat × Nat} (outstanding : k ∈ (dropReplies c none s).mgt.tags) : k.1 ≠ c := by
  obtain ⟨-, ends⟩ := List.mem_filter.mp outstanding
  simp only [Bool.and_eq_true, Option.isSome_none, Bool.false_or, bne_iff_ne] at ends
  exact ends.2

/-- R329: an accepted packet runs on; its reply is to be discarded. -/
theorem dropReplies_accepted (c : Nat) (s : State) :
    (dropReplies c none s).mgt.accepted = s.mgt.accepted.map (fun p => if packetKey p = c then { p with muted := true } else p) := by
  simp [dropReplies]

theorem dropReplies_arrivals (c : Nat) (s : State) :
    (dropReplies c none s).mgt.arrivals = s.mgt.arrivals.filter (fun p => packetKey p != c) := by
  simp [dropReplies, bne]

/-- R329: the state of a channel's far-end reset before OUT_ABORT is set. -/
def emptied (c : Nat) (s : State) : State :=
  let t := dropReplies c none (emptyOut c (emptyIn c s))
  { t with mbx := t.mbx.upd c (fun x => { x with inMsg := [] }) }

theorem farEndReset_eq (c : Nat) (s : State) : farEndReset c s = (emptied c s).put (F.MBX_CH_STATUS.OUT_ABORT c) 1 := rfl

theorem farEndReset_rest (c : Nat) (s : State) : farEndReset c s = { s with
    regs := (farEndReset c s).regs, mbx := (farEndReset c s).mbx, mgt := (farEndReset c s).mgt, claim := (farEndReset c s).claim
    sec := (farEndReset c s).sec, pwr := (farEndReset c s).pwr, stOpen := (farEndReset c s).stOpen } := by
  rw [farEndReset_eq, emptied, emptyOut_rest, emptyIn_rest]
  rfl

theorem farEndReset_mgt (c : Nat) (s : State) : (farEndReset c s).mgt = (dropReplies c none (emptyOut c (emptyIn c s))).mgt := rfl

theorem emptyOut_emptyIn_mgt (c : Nat) (s : State) : (emptyOut c (emptyIn c s)).mgt = s.mgt := by
  rw [emptyOut_rest, emptyIn_rest]

theorem farEndReset_inFull (c : Nat) (s : State) : (farEndReset c s).get (F.MBX_CH_STATUS.IN_FULL c) = 0 := by
  rw [farEndReset_eq, State.get_put_lo rfl]
  change (((emptyIn c s).put (F.MBX_CH_STATUS.OUT_FULL c) 0).put (F.MBX_CH_STATUS.OUT_LEN c) 0).get _ = 0
  rw [State.get_put_lo rfl, State.get_put_lo rfl, emptyIn_full]

theorem farEndReset_outFull (c : Nat) (s : State) : (farEndReset c s).get (F.MBX_CH_STATUS.OUT_FULL c) = 0 := by
  rw [farEndReset_eq, State.get_put_lo rfl]
  exact emptyOut_full c _

theorem farEndReset_mbx (c : Nat) (s : State) : (farEndReset c s).mbx =
    (dropReplies c none (emptyOut c (emptyIn c s))).mbx.upd c (fun x => { x with inMsg := [] }) := rfl

end

end Sys2Proof.Machine

open Sys2Proof Sys2Proof.Machine in
/-- Settles O4: the claim and its end (`showClaim`), a binding write (`bound`), and a far end's reset (`dropReplies` on a channel whose
buffers `emptyIn` and `emptyOut` have emptied). -/
theorem mailboxClaimBindReset : Obligations.MailboxClaimBindReset := by
  refine ⟨fun s m free empty => ?_, fun s m x => exec_ch15Claim_refused m, fun s m since claimed empty late => ?_,
    fun s c v empty out unlocked => ?_, fun s c v => exec_mbxBindWrite_locked v, fun s c => ?_⟩
  · exact ⟨_, exec_ch15Claim_granted m free empty, rfl, showClaim_busy _, showClaim_owner m.isLt rfl, rfl⟩
  · refine ⟨_, exec_ch15ClaimRevoke_late claimed empty late, rfl, ?_, showClaim_unclaimed_busy empty, rfl⟩
    rw [showClaim_rest, unclaimed, Tab.get_upd_same]
  · exact ⟨_, exec_mbxBindWrite_bound v empty out unlocked, bound_slot _ _ _, bound_msix _ _ _, fun host kind => bound_kind host kind s,
      fun other => bound_kind_kept other s, bound_rest _ _ _⟩
  · refine ⟨_, rfl, farEndReset_inFull _ _, farEndReset_outFull _ _, State.get_put_same _ _ _, ?_, ?_, ?_, ?_, ?_, ?_, farEndReset_rest _ _⟩
    · rw [farEndReset_mbx, Tab.get_upd_same]
      exact dropReplies_held _ _
    · rw [farEndReset_mbx, Tab.get_upd_same]
    · rw [farEndReset_mbx, Tab.get_upd_same]
      exact (dropReplies_outMsg _ _ _).trans (emptyOut_outMsg _ _)
    · exact fun k => dropReplies_tags
    · rw [farEndReset_mgt, dropReplies_accepted, emptyOut_emptyIn_mgt]
    · rw [farEndReset_mgt, dropReplies_arrivals, emptyOut_emptyIn_mgt]
end

section
/-!
The power commands (R374 to R378, R416, R420): SET_PL starts the sequencer (`startPl`), SLEEP asks the first block, and SLOT_POWER arms a
slot or drives its gate off.
-/

namespace Sys2Proof.Machine

section
variable {s t u : State} {p : Packet}

/-! ### SET_PL -/

/-- R374: the level that should be in force once a level is requested. -/
theorem wantedLevel_requested {n : Nat} (fits : n < 8) (s : State) :
    wantedLevel (s.put F.PWR_PL_STATUS.REQUESTED n) = max n (s.get F.PWR_PL_STATUS.THERMAL_MIN) := by
  rw [wantedLevel, State.get_put_fits fits, State.get_put_lo rfl]

theorem startPl_inForce (same : wantedLevel s = s.get F.PWR_PL_STATUS.CURRENT) : startPl s = s := by
  rw [startPl, same]
  simp

/-- R375: SET_PL to the level in force. -/
theorem setPl_inForce (level : p.par 0 3 ≤ 5) (free : u.flag F.PWR_PL_STATUS.BUSY = false)
    (same : max (p.par 0 3) (u.get F.PWR_PL_STATUS.THERMAL_MIN) = u.get F.PWR_PL_STATUS.CURRENT) :
    setPl p u = ({ result := u.get F.PWR_PL_STATUS.CURRENT }, u.put F.PWR_PL_STATUS.REQUESTED (p.par 0 3)) := by
  have current : (u.put F.PWR_PL_STATUS.REQUESTED (p.par 0 3)).get F.PWR_PL_STATUS.CURRENT = u.get F.PWR_PL_STATUS.CURRENT :=
    State.get_put_lo rfl _ _
  have busy : (u.put F.PWR_PL_STATUS.REQUESTED (p.par 0 3)).flag F.PWR_PL_STATUS.BUSY = false := by
    rwa [State.flag_eq, State.get_put_lo rfl]
  have start := startPl_inForce (s := u.put F.PWR_PL_STATUS.REQUESTED (p.par 0 3))
    (by rw [wantedLevel_requested (Packet.par_lt p 0 3), same, current])
  simp only [setPl, Nat.not_lt.2 level, if_false, free, start, busy, current, Bool.false_eq_true]

/-- R374: a change to the level that should be in force is running. -/
def changing (s : State) : State :=
  { s with pwr := { s.pwr with pl := { s.pwr.pl with target := wantedLevel s, busySeen := true } } }.put F.PWR_PL_STATUS.BUSY 1

/-- R374: a change starts with the voltage, to a faster level, or with the transit that is reserved. -/
theorem startPl_starts (idle : s.pwr.pl.stage = .idle) (other : wantedLevel s ≠ s.get F.PWR_PL_STATUS.CURRENT) (awake : s.asleep = false) :
    startPl s = if wantedLevel s < s.get F.PWR_PL_STATUS.CURRENT
      then sendVoltage (wantedLevel s)
        { changing s with pwr := { (changing s).pwr with pl := { (changing s).pwr.pl with stage := .raising } } }
      else reserveTransit (changing s) := by
  rw [startPl, idle, awake, beq_false_of_ne other]
  rfl

/-- The levels' voltages lie in registers of their own. -/
theorem changing_volt (w : Nat) (s : State) : (changing s).get (F.PWR_PL_CFG.VOLT_MV w) = s.get (F.PWR_PL_CFG.VOLT_MV w) :=
  State.get_put_ne (Fld.key_ne_of_addr (by simp only [F.PWR_PL_CFG.VOLT_MV, F.PWR_PL_STATUS.BUSY]; omega) (by decide)
    (by simp [F.PWR_PL_CFG.VOLT_MV])) _ _

section
variable (idle : s.pwr.pl.stage = .idle) (other : wantedLevel s ≠ s.get F.PWR_PL_STATUS.CURRENT) (awake : s.asleep = false)
include idle other awake

theorem startPl_target : (startPl s).pwr.pl.target = wantedLevel s := by
  rw [startPl_starts idle other awake]
  split
  · rfl
  · rfl

theorem startPl_get (f : Fld) : (startPl s).get f = (s.put F.PWR_PL_STATUS.BUSY 1).get f := by
  rw [startPl_starts idle other awake]
  split
  · rfl
  · rfl

theorem startPl_busy : (startPl s).get F.PWR_PL_STATUS.BUSY = 1 :=
  (startPl_get idle other awake _).trans (State.get_put_same _ _ _)

theorem startPl_raises (faster : wantedLevel s < s.get F.PWR_PL_STATUS.CURRENT) : (startPl s).pwr.pl.stage = .raising ∧
    (startPl s).out = s.out ++ [.coreVoltage (s.get (F.PWR_PL_CFG.VOLT_MV (wantedLevel s)))] := by
  rw [startPl_starts idle other awake, if_pos faster, ← changing_volt (wantedLevel s) s]
  exact ⟨rfl, rfl⟩

theorem startPl_switches (slower : s.get F.PWR_PL_STATUS.CURRENT < wantedLevel s) : (startPl s).pwr.pl.stage = .switching ∧
    (startPl s).pwr.pl.reserved = some (s.transit + 1) ∧ (startPl s).out = s.out := by
  rw [startPl_starts idle other awake, if_neg (by omega)]
  exact ⟨rfl, rfl, rfl⟩

end

/-- R375: the level that a SET_PL requests is on record. -/
def requested (p : Packet) (s : State) : State := s.put F.PWR_PL_STATUS.REQUESTED (p.par 0 3)

/-- R375: the sequencer as SET_PL has started it, with the packet whose reply waits. -/
def plAwaited (p : Packet) (s : State) : State :=
  let t := startPl (requested p s)
  { t with pwr := { t.pwr with pl := { t.pwr.pl with waiting := some p } } }

/-- R375: a SET_PL whose change starts waits for it. -/
theorem setPl_starts (level : p.par 0 3 ≤ 5) (free : u.flag F.PWR_PL_STATUS.BUSY = false)
    (busy : (startPl (requested p u)).get F.PWR_PL_STATUS.BUSY = 1) :
    setPl p u = ({ later := true }, plAwaited p u) := by
  simp only [setPl, Nat.not_lt.2 level, if_false, free, Bool.false_eq_true]
  exact if_pos (flag_eq_true_of_get busy)

/-- R374, R375: what SET_PL to another level than that in force answers and leaves. -/
theorem setPl_changes {w : Nat} (level : p.par 0 3 ≤ 5) (free : u.flag F.PWR_PL_STATUS.BUSY = false) (idle : u.pwr.pl.stage = .idle)
    (awake : u.asleep = false) (wanted : max (p.par 0 3) (u.get F.PWR_PL_STATUS.THERMAL_MIN) = w)
    (other : w ≠ u.get F.PWR_PL_STATUS.CURRENT) :
    let t := plAwaited p u
    setPl p u = ({ later := true }, t) ∧ t.get F.PWR_PL_STATUS.BUSY = 1 ∧ t.get F.PWR_PL_STATUS.REQUESTED = p.par 0 3 ∧
      t.pwr.pl.target = w ∧ t.get F.PWR_PL_STATUS.CURRENT = u.get F.PWR_PL_STATUS.CURRENT ∧
      (w < u.get F.PWR_PL_STATUS.CURRENT → t.pwr.pl.stage = .raising ∧ t.out = u.out ++ [.coreVoltage (u.get (F.PWR_PL_CFG.VOLT_MV w))]) ∧
      (u.get F.PWR_PL_STATUS.CURRENT < w → t.pwr.pl.stage = .switching ∧ t.pwr.pl.reserved = some (u.transit + 1) ∧ t.out = u.out) := by
  have current : (requested p u).get F.PWR_PL_STATUS.CURRENT = u.get F.PWR_PL_STATUS.CURRENT :=
    State.get_put_lo rfl u _
  have volt : (requested p u).get (F.PWR_PL_CFG.VOLT_MV w) = u.get (F.PWR_PL_CFG.VOLT_MV w) :=
    State.get_put_lo rfl u _
  have asleep : (requested p u).asleep = false := by
    rw [State.asleep, sleepState, requested, State.get_put_ne (by decide)]
    exact awake
  have wanted' := (wantedLevel_requested (Packet.par_lt p 0 3) u).trans wanted
  rw [← wanted', ← current] at other
  have busy := startPl_busy (s := requested p u) idle other asleep
  refine ⟨setPl_starts level free busy, busy, ?_, (startPl_target (s := requested p u) idle other asleep).trans wanted', ?_, ?_, ?_⟩
  · rw [← State.get_put_fits (f := F.PWR_PL_STATUS.REQUESTED) (Packet.par_lt p 0 3) u]
    exact (startPl_get (s := requested p u) idle other asleep _).trans (State.get_put_lo rfl _ _)
  · rw [← current]
    exact (startPl_get (s := requested p u) idle other asleep _).trans (State.get_put_lo rfl _ _)
  · rw [← current, ← volt, ← wanted']
    exact startPl_raises (s := requested p u) idle other asleep
  · rw [← current, ← wanted']
    exact startPl_switches (s := requested p u) idle other asleep

/-! ### SLEEP -/

theorem sleepCmd_shallow (none : u.pwr.sleep = none) (target : p.par 0 2 = 1) (settled : u.flag F.PWR_PL_STATUS.BUSY = false) :
    sleepCmd p u = ({}, u.put F.PWR_SL_STATUS.STATE 1) := by
  simp [sleepCmd, none, target, settled, ok]

/-- R377, R378: SLEEP to SL2 asks the first block, which refuses nothing. -/
theorem sleepCmd_deep (none : u.pwr.sleep = none) (target : p.par 0 2 = 2) (alone : u.get F.CLU_STATUS.STATE = 0)
    (settled : u.flag F.PWR_PL_STATUS.BUSY = false) :
    let x : SleepSt := { packet := p, target := 2, from1 := sleepState u == 1, block := 1, since := u.now }
    let t := u.put F.PWR_SL_STATUS.IN_ENTRY 1
    sleepCmd p u = ({ later := true }, { t with pwr := { t.pwr with sleep := some x } }) := by
  simp only [sleepCmd, none, target, alone, settled]
  rfl

/-! ### SLOT_POWER -/

theorem resetChannel_armed (c : Nat) (s : State) : ((resetChannel c s).spw.get c).armed = (s.spw.get c).armed := by
  rw [resetChannel, setSlot, Tab.get_upd_same]
  rfl

theorem slotGo_armed (c st : Nat) (s : State) : ((slotGo c st s).spw.get c).armed = (s.spw.get c).armed := by
  rw [slotGo, setSlot, Tab.get_upd_same]
  rfl

/-- R416: an attempt to start a slot leaves it armed. -/
theorem tryStart_armed (c : Nat) (s : State) : ((tryStart c s).spw.get c).armed = (s.spw.get c).armed := by
  have reset : ((if s.flag (F.DC_CFG.LOCK c) && s.get (F.TIER_POOL_STATUS.EVAC c) == 2 then resetChannel c s else s).spw.get c).armed =
      (s.spw.get c).armed := by
    split
    · exact resetChannel_armed c s
    · rfl
  unfold tryStart
  extract_lets _ t
  split
  · rfl
  · split
    · exact reset
    · exact (slotGo_armed c 1 t).trans reset

theorem slotPower_on (fresh : longRuns u p (p.par 0 4) = false) (free : channelHeld u 0x0803 (p.par 0 4) = false)
    (on : p.par 8 1 = 1) (off : slotState u (p.par 0 4) = 0) : slotPower p u =
      startLong p (p.par 0 4) 1 (tryStart (p.par 0 4) (setSlot (p.par 0 4) (fun x => { x with armed := true }) u)) := by
  simp [slotPower, fresh, free, on, off]

theorem slotPower_latched (fresh : longRuns u p (p.par 0 4) = false) (free : channelHeld u 0x0803 (p.par 0 4) = false)
    (off : p.par 8 1 = 0) (latched : slotState u (p.par 0 4) = 6) :
    slotPower p u = startLong p (p.par 0 4) 0 (slotGo (p.par 0 4) 0 u) := by
  simp [slotPower, fresh, free, off, latched]

/-- R420: the gate of a slot goes off; when its timer started stays with it. -/
def powerOff (c : Nat) (s : State) : State := setSlot c (fun x => { x with timer := (s.spw.get c).timer }) (gateOff c 5 s)

theorem slotPower_off (fresh : longRuns u p (p.par 0 4) = false) (free : channelHeld u 0x0803 (p.par 0 4) = false)
    (off : p.par 8 1 = 0) (on : slotState u (p.par 0 4) = 4) (evacuated : u.get (F.TIER_POOL_STATUS.EVAC (p.par 0 4)) = 2) :
    slotPower p u = startLong p (p.par 0 4) 0 (powerOff (p.par 0 4) u) := by
  simp [slotPower, fresh, free, off, on, evacuated, powerOff]

theorem loseTables_regs (c : Nat) (s : State) : (loseTables c s).regs = s.regs := by
  unfold loseTables
  extract_lets
  refine (forAll_keeps State.regs ?_).trans ((forAll_keeps State.regs ?_).trans (forAll_keeps State.regs ?_))
  all_goals exact fun _ _ => rfl

/-- R400, R419: a channel that holds no page any more loses its modules' contents and nothing of the register file. -/
theorem loseContents_regs {c : Nat} (idle : s.get (F.TIER_POOL_STATUS.EVAC c) ≠ 1) : (loseContents c s).regs = s.regs := by
  rw [loseContents, if_neg idle, loseTables_regs]
  exact forAll_keeps State.regs fun _ _ => rfl

/-- R415: a slot whose gate is off, before its modules lose what they hold. -/
def gated (c st : Nat) (s : State) : State :=
  setSlot c (fun x => { x with timer := none, fully := false, pgTb := none, spdBusy := false, armed := false })
    (((((slotGo c st s).put (F.SPW_SLOT_STATUS.PG c) 0).put (F.SPW_SLOT_STATUS.SPD_DONE c) 0).put (F.SPW_SLOT_STATUS.LIMITING c) 0).put
      (F.SPW_SLOT_STATUS.TIMER c) 0)

theorem gateOff_eq (c st : Nat) (s : State) :
    gateOff c st s = if gateDriven s c then loseContents c (gated c st s) else gated c st s := rfl

theorem slotGo_get (c st : Nat) (s : State) (f : Fld) : (slotGo c st s).get f = (s.put (F.SPW_SLOT_STATUS.STATE c) st).get f := rfl

theorem setSlot_get (c : Nat) (g : SlotSt → SlotSt) (s : State) (f : Fld) : (setSlot c g s).get f = s.get f := rfl

theorem gated_evac (c st : Nat) (s : State) : (gated c st s).get (F.TIER_POOL_STATUS.EVAC c) = s.get (F.TIER_POOL_STATUS.EVAC c) := by
  rw [gated, setSlot_get, State.get_put_lo rfl, State.get_put_lo rfl, State.get_put_lo rfl, State.get_put_lo rfl, slotGo_get,
    State.get_put_lo rfl]

theorem gated_state {st : Nat} (fits : st < 8) (c : Nat) (s : State) : (gated c st s).get (F.SPW_SLOT_STATUS.STATE c) = st := by
  rw [gated, setSlot_get, State.get_put_lo rfl, State.get_put_lo rfl, State.get_put_lo rfl, State.get_put_lo rfl, slotGo_get,
    State.get_put_fits fits]

theorem gated_powerGood (c st : Nat) (s : State) : (gated c st s).get (F.SPW_SLOT_STATUS.PG c) = 0 := by
  rw [gated, setSlot_get, State.get_put_lo rfl, State.get_put_lo rfl, State.get_put_lo rfl, State.get_put_same, Nat.zero_mod]

theorem gateOff_get {c : Nat} (st : Nat) (idle : s.get (F.TIER_POOL_STATUS.EVAC c) ≠ 1) (f : Fld) :
    (gateOff c st s).get f = (gated c st s).get f := by
  rw [gateOff_eq]
  split
  · rw [State.get, loseContents_regs (by rwa [gated_evac])]
    rfl
  · rfl

theorem powerOff_get (c : Nat) (s : State) (f : Fld) : (powerOff c s).get f = (gateOff c 5 s).get f := rfl

theorem powerOff_timer (c : Nat) (s : State) : ((powerOff c s).spw.get c).timer = (s.spw.get c).timer := by
  rw [powerOff, setSlot, Tab.get_upd_same]

section
variable {c : Nat} (idle : s.get (F.TIER_POOL_STATUS.EVAC c) ≠ 1)
include idle

theorem powerOff_state : slotState (powerOff c s) c = 5 := by
  rw [slotState, powerOff_get, gateOff_get 5 idle, gated_state (by decide)]

theorem powerOff_powerGood : (powerOff c s).get (F.SPW_SLOT_STATUS.PG c) = 0 := by
  rw [powerOff_get, gateOff_get 5 idle, gated_powerGood]

end

end

end Sys2Proof.Machine

open Sys2Proof Sys2Proof.Machine in
/-- Settles O36: each command by what it does once its conditions hold. -/
theorem powerCommands : Obligations.PowerCommands := by
  refine ⟨?_, ?_, ?_, ?_, ?_, ?_, ?_⟩
  · refine rowAnswers_of 0x0801 setPl (q := id) (fun _ _ => rfl) (fun _ => rfl) ?_
    rintro p u ⟨level, free, same⟩
    rw [setPl_inForce level free same]
    exact ⟨rfl, rfl⟩
  · refine rowAnswers_of 0x0801 setPl (q := id) (fun _ _ => rfl) (fun _ => rfl) ?_
    rintro p u ⟨level, free, idle, awake, other⟩
    obtain ⟨starts, busy, requested, target, current, raises, switches⟩ := setPl_changes level free idle awake rfl other
    rw [starts]
    exact ⟨rfl, busy, requested, target, rfl, current, raises, switches⟩
  · refine rowAnswers_of 0x0802 sleepCmd (q := id) (fun _ _ => rfl) (fun _ => rfl) ?_
    rintro p u ⟨none, target, settled⟩
    rw [sleepCmd_shallow none target settled]
    exact ⟨rfl, rfl⟩
  · refine rowAnswers_of 0x0802 sleepCmd (q := id) (fun _ _ => rfl) (fun _ => rfl) ?_
    rintro p u ⟨none, target, alone, settled⟩
    rw [sleepCmd_deep none target alone settled]
    exact ⟨rfl, State.get_put_same u F.PWR_SL_STATUS.IN_ENTRY 1, rfl, rfl⟩
  · refine rowAnswers_of 0x0803 slotPower (q := fun p => p.withPar 8 1 1) (fun _ _ => rfl) (fun _ => rfl) ?_
    rintro p u ⟨fresh, free, off⟩
    rw [slotPower_on fresh free (par_opForm_withPar (by decide) (by decide) 0x0803 p) off]
    refine ⟨rfl, (tryStart_armed _ _).trans ?_, rfl⟩
    rw [setSlot, Tab.get_upd_same]
  · refine rowAnswers_of 0x0803 slotPower (q := fun p => p.withPar 8 1 0) (fun _ _ => rfl) (fun _ => rfl) ?_
    rintro p u ⟨fresh, free, latched⟩
    rw [slotPower_latched fresh free (par_opForm_withPar (by decide) (by decide) 0x0803 p) latched]
    exact ⟨rfl, rfl⟩
  · refine rowAnswers_of 0x0803 slotPower (q := fun p => p.withPar 8 1 0) (fun _ _ => rfl) (fun _ => rfl) ?_
    rintro p u ⟨fresh, free, on, evacuated⟩
    rw [slotPower_off fresh free (par_opForm_withPar (by decide) (by decide) 0x0803 p) on evacuated]
    have idle := evacuated.trans_ne (by decide : 2 ≠ 1)
    exact ⟨rfl, powerOff_state idle, powerOff_powerGood idle, powerOff_timer _ _⟩
end

section
/-!
Level changes, the stop sequence, wakes, the exit and the timebase (R374 to R387, R472, R473): what each event does where it applies.
-/

namespace Sys2Proof.Machine

section
variable {s : State}

/-! ### Level changes -/

/-- R374: the clock is at its new level and the voltage, which is to fall, is sent. -/
def loweringTo (level : Nat) (s : State) : State :=
  sendVoltage level { s.put F.PWR_PL_STATUS.CURRENT level with
    pwr := { s.pwr with pl := { s.pwr.pl with stage := .lowering, reserved := none } } }

section
variable {r : Nat} (stage : s.pwr.pl.stage = .switching) (awake : s.asleep = false) (reserved : s.pwr.pl.reserved = some r)
  (due : r ≤ s.transit)
include stage awake reserved due

/-- R374: in the reserved transit the clock is at the level that the change is for. -/
theorem exec_plClockSwitch_due : exec .plClockSwitch s = if s.get F.PWR_PL_STATUS.CURRENT < s.pwr.pl.target
    then .next (loweringTo s.pwr.pl.target s) else .next (finishPl (s.put F.PWR_PL_STATUS.CURRENT s.pwr.pl.target)) := by
  simp only [exec_plClockSwitch, execPlClockSwitch, stage, awake, reserved, due, beq_self_eq_true, Bool.not_false, Bool.and_self, if_true,
    decide_true, decide_eq_true_eq]
  rfl

end

theorem exec_plVoltageSettled_raising (stage : s.pwr.pl.stage = .raising) : exec .plVoltageSettled s = .next (reserveTransit s) := by
  rw [exec_plVoltageSettled, execPlVoltageSettled, stage]

theorem exec_plVoltageSettled_lowering (stage : s.pwr.pl.stage = .lowering) : exec .plVoltageSettled s = .next (finishPl s) := by
  rw [exec_plVoltageSettled, execPlVoltageSettled, stage]

/-! ### The stop sequence -/

theorem exec_blockStopComplete_next {x : SleepSt} (asked : s.pwr.sleep = some x) (done : blockDone s x.block = true) (more : x.block < 12) :
    exec .blockStopComplete s = .next (askBlock { x with block := x.block + 1 } (stopAction x.target x.block s)) := by
  simp only [exec_blockStopComplete, execBlockStopComplete, asked, done, Nat.not_le.2 more, Bool.not_true, Bool.false_eq_true, if_false]

theorem exec_blockStopComplete_last {x : SleepSt} (asked : s.pwr.sleep = some x) (done : blockDone s x.block = true) (last : 12 ≤ x.block) :
    exec .blockStopComplete s = .next (enterSleep x (stopAction x.target x.block s)) := by
  simp only [exec_blockStopComplete, execBlockStopComplete, asked, done, last, Bool.not_true, Bool.false_eq_true, if_false, if_true]

/-- R378: a block that can refuse refuses when its budget ends before its work. -/
theorem exec_stopBudgetExpiry_refuses {x : SleepSt} (asked : s.pwr.sleep = some x) (block : x.block ∈ [1, 3, 4, 5, 6, 8, 12])
    (working : x.block ≤ 5 → blockDone s x.block = false) (late : blockBudget x.target x.block ≤ s.since x.since) :
    exec .stopBudgetExpiry s = .next (stopRefused x s) := by
  have refuses : [2, 7, 9, 10, 11].contains x.block = false :=
    (by decide : ∀ b ∈ [1, 3, 4, 5, 6, 8, 12], [2, 7, 9, 10, 11].contains b = false) _ block
  have first : [1, 3, 4, 5].contains x.block = true → x.block ≤ 5 :=
    (by decide : ∀ b ∈ [1, 3, 4, 5, 6, 8, 12], [1, 3, 4, 5].contains b = true → b ≤ 5) _ block
  have running : ([1, 3, 4, 5].contains x.block && blockDone s x.block) = false := by
    rw [Bool.and_eq_false_imp]
    exact fun h => working (first h)
  simp only [exec_stopBudgetExpiry, execStopBudgetExpiry, asked, refuses, running, decide_eq_false (Nat.not_lt.2 late), Bool.or_self,
    Bool.false_eq_true, if_false]

/-! ### Wakes and the exit -/

theorem exec_wakeTimer_fires {w : Nat} (timer : s.get F.PWR_WAKE_TIMER.TB = w) (set : w ≠ 0) (due : w ≤ s.now) (new : s.pwr.timerDone ≠ w) :
    exec .wakeTimer s = .next (wakeRaw 3 { s with pwr := { s.pwr with timerDone := w } }) := by
  simp only [exec_wakeTimer, execWakeTimer, timer, set, Nat.not_lt.2 due, new, or_self, if_false]

/-- R473: a source's mask ends 1 s after it was set. -/
theorem mem_unmasked (src : Nat) (s : State) (m : Nat × Nat) :
    m ∈ s.pwr.masked.filter (fun m => m.1 != src || decide (s.since m.2 < 1000000000)) ↔
      m ∈ s.pwr.masked ∧ ¬(m.1 = src ∧ 1000000000 ≤ s.since m.2) := by
  simp only [List.mem_filter, Bool.or_eq_true, bne_iff_ne, decide_eq_true_eq]
  exact and_congr_right fun _ => by omega

theorem exec_pllLock_exits (exiting : s.pwr.exiting = some 0) : exec .pllLock s =
    .next (if (ptmLink s).isNone then { s with pwr := { s.pwr with exiting := some 1 } }.put F.TB_STATUS.COARSE 0
      else { s with pwr := { s.pwr with exiting := some 1 } }) := by
  rw [exec_pllLock, execPllLock, if_pos exiting]
  rfl

theorem exec_slExitComplete_exits (ue : Bool) (exiting : s.pwr.exiting = some 1) :
    let r := if s.get F.PWR_SL_STATUS.STATE = 3 then restore ue s else s
    let a := applyLevel (widenLinks (forAll (List.range 16) leaveSelfRefresh r))
    let b : State := { a with pwr := { a.pwr with exiting := none, latched := false } }
    let c := (b.count 0x002 0 (b.since b.pwr.entryTb)).put F.PWR_SL_STATUS.STATE 0
    exec (.slExitComplete ue) s = .next (settle (releaseIngress (c.log 0x8F 0 0 (c.get F.PWR_WAKE_STATUS.SRC)))) := by
  simp only [exec_slExitComplete, execSlExitComplete, exiting, if_true, sleepState, beq_iff_eq]

/-! ### The timebase -/

/-- R385, R386: the registers after a measurement: its source and link, the offset, the lock after enough good ones and the end of coarse
counting. -/
def ptmMeasured (l : Nat) (offset o : Int) (good : Nat) (s : State) : State :=
  let t := (((s.put F.TB_STATUS.SOURCE 1).put F.TB_STATUS.PTM_LINK l).put F.TB_DISC.OFFSET_NS (ofSigned 32 (saturate 32 offset))).put
    F.TB_STATUS.LOCKED (bit (decide (8 ≤ good)))
  if -1000 < o ∧ o < 1000 then t.put F.TB_STATUS.COARSE 0 else t

theorem ptmMeasured_get (l : Nat) (offset o : Int) (good : Nat) (s : State) {f : Fld}
    (other : (decide (f.lo < 64) && f.lo != 0 && f.lo != 1) = true) : (ptmMeasured l offset o good s).get f =
      (((s.put F.TB_STATUS.SOURCE 1).put F.TB_STATUS.PTM_LINK l).put F.TB_DISC.OFFSET_NS (ofSigned 32 (saturate 32 offset))).get f := by
  simp only [Bool.and_eq_true, decide_eq_true_eq, bne_iff_ne] at other
  obtain ⟨⟨low, coarse⟩, locked⟩ := other
  have kept (t : State) (v : Nat) : (t.put F.TB_STATUS.LOCKED v).get f = t.get f :=
    State.get_put_lo (by simpa [F.TB_STATUS.LOCKED, low] using Ne.symm locked) t v
  unfold ptmMeasured
  extract_lets t
  split
  · exact (State.get_put_lo (by simpa [F.TB_STATUS.COARSE, low] using Ne.symm coarse) _ _).trans (kept _ _)
  · exact kept _ _

theorem ptmMeasured_rest (l : Nat) (offset o : Int) (good : Nat) (s : State) :
    ptmMeasured l offset o good s = { s with regs := (ptmMeasured l offset o good s).regs } := by
  unfold ptmMeasured
  extract_lets t
  split
  · rfl
  · rfl

/-- R385: an exchange that is due is measured, and the timebase steps or slews by what it finds. -/
theorem exec_ptmExchange_measured {l : Nat} (offset : Int) (link : ptmLink s = some l) (awake : s.asleep = false)
    (due : s.time.lastPtm = 0 ∨ s.get F.TB_DISC.INTERVAL_MS * 1000000 ≤ s.since s.time.lastPtm) :
    ∃ o good time slewing, exec (.ptmExchange offset) s =
        .next ({ ptmMeasured l offset o good s with time := time }.put F.TB_STATUS.SLEWING slewing) ∧
      time.link = some l ∧ time.lastPtm = s.now := by
  have late : (s.asleep || (s.time.lastPtm != 0 && decide (s.since s.time.lastPtm < s.get F.TB_DISC.INTERVAL_MS * 1000000))) = false := by
    rw [awake, Bool.false_or, Bool.and_eq_false_imp]
    intro measured
    exact decide_eq_false (Nat.not_lt.2 (due.resolve_left (by simpa using measured)))
  simp only [exec_ptmExchange, execPtmExchange, link, late, Bool.false_eq_true, if_false]
  generalize offset - (if s.time.link = some l then s.time.base else if s.time.link.isNone = true then 0 else offset) = o
  have now (good : Nat) : (ptmMeasured l offset o good s).now = s.now := by rw [ptmMeasured_rest]; rfl
  split
  · exact ⟨o, _, _, _, rfl, rfl, now _⟩
  · exact ⟨o, _, _, _, rfl, rfl, now _⟩

theorem exec_xtalTrimUpdate_due (v : BitVec 32) (locked : s.flag F.TB_STATUS.LOCKED = true) (awake : s.asleep = false)
    (due : 2 ^ 20 * 40 ≤ s.since s.time.trimTb) :
    exec (.xtalTrimUpdate v) s = .next ({ s with time := { s.time with trimTb := s.now } }.put F.TB_XTAL.TRIM v.toNat) := by
  rw [exec_xtalTrimUpdate, execXtalTrimUpdate, if_pos ⟨locked, by rw [awake]; rfl, due⟩]

end

end Sys2Proof.Machine

open Sys2Proof Sys2Proof.Machine in
/-- Settles O42: each event by what it does where its conditions hold. -/
theorem powerEvents : Obligations.PowerEvents := by
  refine ⟨fun s => exec_plVoltageSettled_raising, fun s => exec_plVoltageSettled_lowering, fun s r stage awake reserved due => ⟨?_, ?_⟩,
    fun s x asked done => ⟨exec_blockStopComplete_next asked done, exec_blockStopComplete_last asked done⟩,
    fun s x => exec_stopBudgetExpiry_refuses, fun s pin => rfl, fun s => exec_wakeTimer_fires rfl, fun s src => ?_, fun s exiting => ?_,
    fun s ue => exec_slExitComplete_exits ue, fun s o l link awake due => ?_, fun s o none => ?_, fun s v locked awake due => ?_⟩
  · intro slower
    exact ⟨_, (exec_plClockSwitch_due stage awake reserved due).trans (if_pos slower), State.get_put_same _ _ _, rfl, rfl⟩
  · exact fun faster => (exec_plClockSwitch_due stage awake reserved due).trans (if_neg (Nat.not_lt.2 faster))
  · exact ⟨_, rfl, mem_unmasked src s, rfl⟩
  · rw [exec_pllLock_exits exiting]
    split
    case isTrue alone => exact ⟨_, rfl, rfl, fun _ => State.get_put_same _ _ _, rfl⟩
    case isFalse linked => exact ⟨_, rfl, rfl, fun alone => absurd (Option.isNone_iff_eq_none.mpr alone) linked, rfl⟩
  · obtain ⟨d, good, time, slewing, measured, shown, now⟩ := exec_ptmExchange_measured o link awake due
    refine ⟨_, measured, (State.get_put_lo rfl _ _).trans ((ptmMeasured_get l o d good s rfl).trans ?_),
      (State.get_put_lo rfl _ _).trans ((ptmMeasured_get l o d good s rfl).trans ?_), now, shown,
      (State.get_put_lo rfl _ _).trans ((ptmMeasured_get l o d good s rfl).trans (State.get_put_same _ _ _)), ?_⟩
    · rw [State.get_put_lo rfl, State.get_put_lo rfl, State.get_put_same]
      rfl
    · rw [State.get_put_lo rfl, State.get_put_same]
    · rw [ptmMeasured_rest]
      rfl
  · rw [exec_ptmExchange, execPtmExchange, none]
  · exact ⟨_, exec_xtalTrimUpdate_due v locked awake due, State.get_put_fits v.isLt _, rfl, rfl⟩
end

section
/-!
Survey samples, the thermal model's round, trips, re-margining and ageing (R389 to R413): what each event does where it applies.
-/

namespace Sys2Proof.Machine

section
variable {s : State}

/-! ### Survey samples -/

/-- R390, R391: what a sample of a channel reads: 0 of a reserved channel, a slot's power from its meter, and otherwise its value, or
the code for none. -/
def sampleValue (k : Nat) (value : Option (BitVec 24)) (s : State) : Nat :=
  if (12 ≤ k ∧ k ≤ 15) ∨ 61 ≤ k then 0
  else if 45 ≤ k then s.get (F.SPW_SLOT_POWER.POWER (k - 45))
  else match value with | some v => v.toNat | none => 0x800000

/-- R390: a sample is shown, and is not stale. -/
def showSample (k v : Nat) (s : State) : State := ((jobDone 0x0B k s).put (F.HK_SURVEY.VALUE k) v).put (F.HK_SURVEY.STALE k) 0

theorem showSample_value (k v : Nat) (s : State) :
    (showSample k v s).get (F.HK_SURVEY.VALUE k) = v % 2 ^ (F.HK_SURVEY.VALUE k).width := by
  rw [showSample, State.get_put_lo rfl, State.get_put_same]

theorem showSample_stale (k v : Nat) (s : State) : (showSample k v s).get (F.HK_SURVEY.STALE k) = 0 := by
  rw [showSample, State.get_put_same, Nat.zero_mod]

/-- R389: channel 0's sample carries the self-check of the survey's converter. -/
def noteCheck (k : Nat) (ok : Bool) (s : State) : State := if k = 0 then { s with thm := { s.thm with selfCheck := ok } } else s

theorem trackCooling_rest (s : State) : trackCooling s = { s with thm := (trackCooling s).thm } := by
  unfold trackCooling
  split
  · rfl
  · rfl

theorem trackCooling_selfCheck (s : State) : (trackCooling s).thm.selfCheck = s.thm.selfCheck := by
  unfold trackCooling
  split
  · rfl
  · rfl

theorem noteCheck_rest (k : Nat) (ok : Bool) (s : State) : noteCheck k ok s = { s with thm := (noteCheck k ok s).thm } := by
  unfold noteCheck
  split
  · rfl
  · rfl

theorem trackCooling_noteCheck_get (k : Nat) (ok : Bool) (s : State) (f : Fld) : (trackCooling (noteCheck k ok s)).get f = s.get f := by
  rw [trackCooling_rest, noteCheck_rest]
  rfl

theorem exec_surveySubround_sampled (k : Fin 64) (v : Option (BitVec 24)) (ok : Bool) (released : unitWaits s 0x0B k = true)
    (taken : sampled s k = true) :
    exec (.surveySubround k v ok) s = .next (trackCooling (noteCheck k ok (showSample k (sampleValue k v s) s))) := by
  have taken' : sampled (jobDone 0x0B k s) k = true := taken
  simp only [exec_surveySubround, execSurveySubround, released, taken', Bool.not_true, Bool.false_eq_true, if_false]
  rfl

theorem exec_surveySubround_skipped (k : Fin 64) (v : Option (BitVec 24)) (ok : Bool) (released : unitWaits s 0x0B k = true)
    (skipped : sampled s k = false) :
    exec (.surveySubround k v ok) s = .next ((jobDone 0x0B k s).put (F.HK_SURVEY.STALE k) 1) := by
  have skipped' : sampled (jobDone 0x0B k s) k = false := skipped
  simp only [exec_surveySubround, execSurveySubround, released, skipped', Bool.not_true, Bool.not_false, Bool.false_eq_true, if_false,
    if_true]

/-! ### The thermal model and trips -/

theorem exec_thermalModelUpdate_released (released : unitWaits s 0x0C 0 = true) : let j := jobDone 0x0C 0 s
    let r := takeRef j
    let a : State := { r.2.2 with thm := { r.2.2.thm with dt := (List.range 12).map (nextDt r.2.2) } }
    let b := applyCap r.2.1 (warnControl (capControl (showZones r.1 a)))
    let c := if 16 * (b.get F.THM_CFG.SHUT_C : Int) ≤ tjMax b then trip 1 (b.get F.THM_STATUS.TJ_MAX) (b.get F.THM_STATUS.HOT_ZONE) b else b
    exec .thermalModelUpdate s = .next (if c.asleep then c else issueNor c) := by
  simp only [exec_thermalModelUpdate, execThermalModelUpdate, released, Bool.not_true, Bool.false_eq_true, if_false]

theorem exec_refComparatorTrip_trips {c : BitVec 16} (hot : 16 * (s.get F.THM_CFG.REF_SHUT_C : Int) ≤ toSigned 16 c.toNat) :
    exec (.refComparatorTrip c) s = .next (trip 2 c.toNat 0 s) := by
  rw [exec_refComparatorTrip, execRefComparatorTrip, if_pos hot]

/-- R400: the core rails are off and every key is gone. -/
def loseRails (s : State) : State :=
  { s with keys := {}, salt := 0, kint := 0, roots := {}, pwr := { s.pwr with railsOff := true } }.emit (.rails false)

/-- R400: whatever a trip records and stops first, it ends with the rails. -/
theorem trip_losesRails (cause temp zone : Nat) (first : s.thm.tripped = false) : ∃ t, trip cause temp zone s = loseRails t := by
  rw [trip, first]
  exact ⟨_, rfl⟩

theorem loseRails_out (s : State) : (loseRails s).out.getLast? = some (.rails false) := List.getLast?_concat

/-! ### Ageing -/

/-- R413: the voltage planned for a level fits its field. -/
theorem plannedVolt_lt {cur : Nat} (fits : cur < 2 ^ 10) (base want : Nat) : max cur (min want (min (base + 40) 900)) < 2 ^ 10 := by omega

theorem reportReg_volt {n : Nat} (level : n < 6) : reportReg (F.PWR_PL_CFG.VOLT_MV n).addr = false := by
  have addr : (F.PWR_PL_CFG.VOLT_MV n).addr = 0x410100 + 8 * n := rfl
  simp only [reportReg, Bool.or_eq_false_iff, decide_eq_false_iff_not]
  omega

/-- R413: planning a level raises its voltage or leaves it. -/
theorem planLevel_volt {n : Nat} (a : Nat) (level : n < 6) (fits : s.get (F.PWR_PL_CFG.VOLT_MV n) < 2 ^ (F.PWR_PL_CFG.VOLT_MV n).width) :
    s.get (F.PWR_PL_CFG.VOLT_MV n) ≤ (planLevel a n s).get (F.PWR_PL_CFG.VOLT_MV n) := by
  unfold planLevel
  extract_lets base want top cur t
  have shown : cur ≤ t.get (F.PWR_PL_CFG.VOLT_MV n) := by
    rw [State.get_put_fits (plannedVolt_lt fits base want)]
    exact le_max_left _ _
  split
  · exact shown
  · have apart : (F.PWR_PL_CFG.VOLT_MV n).key ≠ F.HK_AGE.AGE_MIN.key :=
      Fld.key_ne_of_addr (by simp only [F.PWR_PL_CFG.VOLT_MV, F.HK_AGE.AGE_MIN]; omega) (by decide) (by simp [F.PWR_PL_CFG.VOLT_MV])
    rw [(quiet_log (.refl _) _ _ _ _).reg _ (by simp [F.PWR_PL_CFG.VOLT_MV]) (reportReg_volt level), State.get_put_ne apart]
    exact shown

/-! ### Re-margining -/

theorem exec_remarginPassStart_due (enabled : s.flag F.HK_REMARGIN_CFG.ENABLE = true) (idle : s.hk.target = none) (awake : s.asleep = false)
    (due : s.get F.HK_REMARGIN_CFG.PERIOD_S * 1000000000 ≤ s.since s.hk.passTb) : exec .remarginPassStart s =
      .next (releaseTarget 40 0 ({ s with hk := { s.hk with passTb := s.now } }.put F.HK_REMARGIN_STATUS.BUSY 1)) := by
  simp only [exec_remarginPassStart, execRemarginPassStart, enabled, idle, awake, decide_eq_false (Nat.not_lt.2 due), Bool.not_true,
    Option.isSome_none, Bool.or_self, Bool.false_eq_true, if_false]

theorem exec_remarginingQuantum_released (eyes : List (Vector LaneEye 40)) (steps : List (Byte × Byte)) {x : Nat}
    (target : s.hk.target = some x) (released : unitWaits s 0x10 x = true) : exec (.remarginingQuantum eyes steps) s =
      .next (releaseTarget 40 (x + 1) (if x < 16 then channelMargin x ((eyes.take 16).map (·.toList)).flatten (jobDone 0x10 x s)
        else serdesMargin x (steps.take 9) (jobDone 0x10 x s))) := by
  simp only [exec_remarginingQuantum, execRemarginingQuantum, target, released, Bool.not_true, Bool.false_eq_true, if_false]

theorem exec_roDay_due (az : Vector (BitVec 16) 12) (awake : s.asleep = false) (applied : s.sec.applied = true)
    (due : 86400000000000 ≤ s.since s.hk.dayTb) :
    let l := az.toList.map (·.toNat)
    let a := l.foldl max 0
    let b := (logRecord 1 0 (padTo 24 (l.map (toBytes 2)).flatten ++ toBytes 4 a)
      { s with hk := { s.hk with dayTb := s.now } }).put F.HK_AGE.A_PPM a
    let c := forAll (List.range 6) (planLevel a) b
    exec (.roDay az) s = .next (logRecord 6 0 (planRecord c) c) := by
  simp only [exec_roDay, execRoDay, awake, applied, decide_eq_false (Nat.not_lt.2 due), Bool.not_true, Bool.or_self, Bool.false_eq_true,
    if_false]

end

end Sys2Proof.Machine

open Sys2Proof Sys2Proof.Machine in
/-- Settles O48: each event by what it does where its conditions hold. -/
theorem thermalRows : Obligations.ThermalRows := by
  refine ⟨fun s k v ok released taken => ?_, fun s k v ok => exec_surveySubround_skipped k v ok, fun s => exec_thermalModelUpdate_released,
    fun s c => exec_refComparatorTrip_trips, fun s cause temp zone first => ?_, fun s a n => planLevel_volt a,
    fun s => exec_remarginPassStart_due, fun s eyes steps x => exec_remarginingQuantum_released eyes steps, fun s az => exec_roDay_due az⟩
  · refine ⟨_, exec_surveySubround_sampled k v ok released taken, (trackCooling_noteCheck_get _ _ _ _).trans (showSample_stale _ _ _), ?_,
      (trackCooling_noteCheck_get _ _ _ _).trans (showSample_value _ _ _), ?_⟩
    · intro zero
      subst zero
      exact trackCooling_selfCheck _
    · rw [trackCooling_rest, noteCheck_rest]
      rfl
  · obtain ⟨t, lost⟩ := trip_losesRails cause temp zone first
    rw [lost]
    exact ⟨rfl, rfl, rfl, rfl, rfl, loseRails_out t⟩
end

section
/-!
The response to an error (R430, R433, R435): what a record leaves in the error block's registers. A wake source (`Noted`) and a plate
(`Counts`) change registers of other blocks.
-/

namespace Sys2Proof.Machine

section
variable {s t : State}

/-! ### Fields below the power and counter blocks -/

theorem notedFld_high {g : Fld} (noted : NotedFld g) : 0x400000 ≤ g.addr ∧ g.lo < 64 := by
  rcases noted with ⟨low, -, lo⟩ | rfl | rfl
  · omega
  · decide
  · decide

/-- Counting and waking leave alone every register below those of the PWR block. -/
theorem Noted.get_below (h : Noted s t) {f : Fld} (below : f.addr < 0x400000) (lo : f.lo < 64) : t.get f = s.get f :=
  h.get f fun _ noted => Fld.key_ne_of_addr (by have := (notedFld_high noted).1; omega) (notedFld_high noted).2 lo

theorem forAll_range_succ (f : Nat → State → State) (n : Nat) (s : State) :
    forAll (List.range (n + 1)) f s = f n (forAll (List.range n) f s) := by
  rw [List.range_succ, forAll, List.foldl_append]
  rfl

/-! ### The first-error latch -/

/-- R430: a record as it is latched. -/
def latched (r : ErrRec) (s : State) : ErrRec := { r with seq := s.get F.ERR_STATUS.NEXT_SEQ }

/-- R430: an uncorrectable record in the empty first-error latch. -/
def latchFirst (r : ErrRec) (s : State) : State :=
  { s.takeSeq.2 with err := { s.err with first := some (latched r s), copies := s.err.copies ++ [latched r s] } }.put
    F.ERR_STATUS.FIRST_VALID 1

theorem latchFirst_queue (r : ErrRec) (s : State) : (latchFirst r s).err.queue = s.err.queue := rfl

theorem record_first {r : ErrRec} (low : 2 ≤ r.cls) (high : r.cls ≤ 4) (empty : s.err.first = none) :
    s.record r = latchFirst r (if r.cls = 3 then wakeRaw 8 s else s) := by
  have empty' : (if r.cls = 3 then wakeRaw 8 s else s).err.first = none := by
    split
    · rw [(noted_wakeRaw 8 s).err, empty]
    · exact empty
  simp only [State.record, empty', low, if_true, if_neg (show r.cls ≠ 5 by omega)]
  rfl

/-- R381, R430: what is latched is numbered from the state before a thermal record's wake. -/
theorem noted_wakeFirst (r : ErrRec) (s : State) : Noted s (if r.cls = 3 then wakeRaw 8 s else s) := by
  split
  · exact noted_wakeRaw 8 s
  · exact .refl s

/-! ### The error queue -/

theorem queueErr_rest (r : ErrRec) (n : Nat) (s : State) : s.queueErr r (some n) = { s with
    regs := (s.queueErr r (some n)).regs
    err := { s.err with queue := (s.queueErr r (some n)).err.queue, copies := (s.queueErr r (some n)).err.copies } } := by
  unfold State.queueErr
  split
  · rfl
  · dsimp only
    split
    · rfl
    · rfl

theorem queueErr_get (r : ErrRec) (n : Nat) (s : State) {f : Fld} (overflow : f.key ≠ F.ERR_STATUS.OVERFLOW.key)
    (dropped : f.key ≠ F.ERR_STATUS.DROPPED.key) : (s.queueErr r (some n)).get f = s.get f := by
  unfold State.queueErr
  split
  · rfl
  · dsimp only
    split
    · rw [State.bump, State.get_put_ne dropped, State.get_put_ne overflow]
      rfl
    · rfl

/-! ### Fatal mode -/

/-- R109, R433: every ring that is enabled stops. -/
def stopRings (n : Nat) (s : State) : State :=
  forAll (List.range n) (fun k s => if s.flag (F.TIER_DMR_CTRL.ENABLE k) then stopRing k s else s) s

theorem stopRing_get (k : Nat) (s : State) {f : Fld} (stopped : f.key ≠ (F.TIER_DMR_CTRL.STOPPED k).key)
    (enable : f.key ≠ (F.TIER_DMR_CTRL.ENABLE k).key) : (stopRing k s).get f = s.get f := by
  rw [stopRing, State.get_put_ne enable, State.get_put_ne stopped]
  rfl

theorem stopRings_get (n : Nat) (s : State) {f : Fld}
    (other : ∀ k < n, f.key ≠ (F.TIER_DMR_CTRL.STOPPED k).key ∧ f.key ≠ (F.TIER_DMR_CTRL.ENABLE k).key) :
    (stopRings n s).get f = s.get f := by
  induction n with
  | zero => rfl
  | succ n ih =>
    rw [← ih fun k hk => other k (by omega), stopRings, forAll_range_succ]
    split
    · exact stopRing_get n _ (other n (by omega)).1 (other n (by omega)).2
    · rfl

theorem stopRings_enable {n k : Nat} (ring : k < n) (s : State) : (stopRings n s).flag (F.TIER_DMR_CTRL.ENABLE k) = false := by
  induction n with
  | zero => exact absurd ring (Nat.not_lt_zero k)
  | succ n ih =>
    rw [stopRings, forAll_range_succ]
    rcases Nat.lt_succ_iff_lt_or_eq.1 ring with earlier | rfl
    · have before := ih earlier
      split
      · have apart (f : Fld) (reg : f.addr = 0x131008 + 0x40 * n) (lo : f.lo < 64) : (F.TIER_DMR_CTRL.ENABLE k).key ≠ f.key :=
          Fld.key_ne_of_addr (by simp only [F.TIER_DMR_CTRL.ENABLE, reg]; omega) lo (by simp [F.TIER_DMR_CTRL.ENABLE])
        rw [State.flag_eq, stopRing_get n _ (apart _ rfl (by simp [F.TIER_DMR_CTRL.STOPPED])) (apart _ rfl (by simp [F.TIER_DMR_CTRL.ENABLE]))]
        exact before
      · exact before
    · split
      next => exact flag_eq_false_of_get (State.get_put_same _ _ _)
      next off => exact eq_false_of_ne_true off

theorem stopRings_err (n : Nat) (s : State) : (stopRings n s).err = s.err :=
  forAll_keeps State.err fun k t => by
    split
    · rfl
    · rfl

theorem takePlate_rest (trigger ctr : Nat) (s : State) :
    takePlate trigger ctr s = { s with regs := (takePlate trigger ctr s).regs, pmu := (takePlate trigger ctr s).pmu } :=
  (Counts.takePlate (.refl s) trigger ctr).rest

theorem takePlate_err (trigger ctr : Nat) (s : State) : (takePlate trigger ctr s).err = s.err := by rw [takePlate_rest]

/-- R433: the device as the first fatal record finds it: latched and in the always-on record, with viral set. -/
def latchFatal (r : ErrRec) (s : State) : State :=
  ({ s.takeSeq.2 with err := { s.err with fatal := some (latched r s), aonLast := some (latched r s) } }.put
    F.ERR_STATUS.FATAL_VALID 1).put F.ERR_STATUS.VIRAL 1

/-- R433: the response to the first fatal record: rings stop, transmitters idle, a plate is taken. -/
def enterFatal (r : ErrRec) (s : State) : State := takePlate 5 0 ((stopRings 32 (latchFatal r s)).emit .fatalResponse)

theorem enterFatal_err (r : ErrRec) (s : State) : (enterFatal r s).err = (latchFatal r s).err := by
  rw [enterFatal, takePlate_err, State.emit_err, stopRings_err]

theorem fatal_first (r : ErrRec) (none : s.err.fatal = none) :
    s.fatal r = wakeRaw 8 ((enterFatal r s).queueErr (latched r s) (some (s.get F.ERR_STATUS.NEXT_SEQ))) := by
  have none' : s.takeSeq.2.err.fatal = .none := none
  simp only [State.fatal, none', Option.isSome_none, Bool.false_eq_true, if_false]
  unfold enterFatal stopRings latchFatal
  rfl

/-- R433: what the first fatal record has done to a register below the PWR block that is not the queue's. -/
theorem fatal_first_get (r : ErrRec) (none : s.err.fatal = none) {f : Fld} (below : f.addr < 0x400000) (lo : f.lo < 64)
    (overflow : f.key ≠ F.ERR_STATUS.OVERFLOW.key) (dropped : f.key ≠ F.ERR_STATUS.DROPPED.key) :
    (s.fatal r).get f = (stopRings 32 (latchFatal r s)).get f := by
  have plate : Noted ((stopRings 32 (latchFatal r s)).emit .fatalResponse) (enterFatal r s) := (Counts.takePlate (.refl _) 5 0).noted
  rw [fatal_first r none, (noted_wakeRaw 8 _).get_below below lo, queueErr_get _ _ _ overflow dropped, plate.get_below below lo, State.emit_get]

theorem fatal_first_err (r : ErrRec) (none : s.err.fatal = none) :
    (s.fatal r).err.fatal = some (latched r s) ∧ (s.fatal r).err.aonLast = some (latched r s) := by
  rw [fatal_first r none, (noted_wakeRaw 8 _).err, queueErr_rest, enterFatal_err]
  exact ⟨rfl, rfl⟩

theorem mem_wakeRaw_out {o : Out} (src : Nat) (sent : o ∈ s.out) : o ∈ (wakeRaw src s).out := by
  have exits (u : State) (h : o ∈ u.out) : o ∈ (beginExit u).out := by
    unfold beginExit
    dsimp only
    split
    · exact List.mem_append_left _ (List.mem_append_left _ (List.mem_append_left _ h))
    · exact List.mem_append_left _ (List.mem_append_left _ h)
  unfold wakeRaw
  split
  · exact sent
  · extract_lets w
    have sent' : o ∈ w.out := sent
    split
    · exact sent'
    · split
      · exact sent'
      · split
        · exact sent'
        · split
          · exact exits w sent'
          · exact sent'

theorem fatal_first_out (r : ErrRec) (none : s.err.fatal = none) : Out.fatalResponse ∈ (s.fatal r).out := by
  rw [fatal_first r none]
  apply mem_wakeRaw_out
  rw [queueErr_rest, enterFatal, takePlate_rest]
  exact List.mem_append_right _ (List.mem_singleton_self _)

/-- R433: a field of the error block's status is not one of a ring's. -/
theorem stopRings_status (n : Nat) (s : State) {f : Fld} (lo : (decide (f.lo < 64) && f.lo != 15 && f.lo != 0) = true) :
    (stopRings n s).get f = s.get f := by
  simp only [Bool.and_eq_true, decide_eq_true_eq, bne_iff_ne] at lo
  obtain ⟨⟨low, stopped⟩, enable⟩ := lo
  refine stopRings_get n s fun k _ => ⟨Fld.key_ne_of_lo ?_, Fld.key_ne_of_lo ?_⟩
  · simpa [F.TIER_DMR_CTRL.STOPPED, low] using Ne.symm stopped
  · simpa [F.TIER_DMR_CTRL.ENABLE, low] using Ne.symm enable

theorem fatal_first_valid (r : ErrRec) (none : s.err.fatal = none) : (s.fatal r).get F.ERR_STATUS.FATAL_VALID = 1 := by
  rw [fatal_first_get r none (by decide) (by decide) (by decide) (by decide), stopRings_status 32 _ rfl, latchFatal, State.get_put_lo rfl,
    State.get_put_same]
  rfl

theorem fatal_first_viral (r : ErrRec) (none : s.err.fatal = none) : (s.fatal r).get F.ERR_STATUS.VIRAL = 1 := by
  rw [fatal_first_get r none (by decide) (by decide) (by decide) (by decide), stopRings_status 32 _ rfl, latchFatal, State.get_put_same]
  rfl

theorem fatal_first_rings (r : ErrRec) (none : s.err.fatal = none) {k : Nat} (ring : k < 32) :
    (s.fatal r).flag (F.TIER_DMR_CTRL.ENABLE k) = false := by
  have apart (f : Fld) (reg : f.addr = 0x330000) (lo : f.lo < 64) : (F.TIER_DMR_CTRL.ENABLE k).key ≠ f.key :=
    Fld.key_ne_of_addr (by simp only [F.TIER_DMR_CTRL.ENABLE, reg]; omega) lo (by simp [F.TIER_DMR_CTRL.ENABLE])
  rw [State.flag_eq, fatal_first_get r none (by simp only [F.TIER_DMR_CTRL.ENABLE]; omega) (by simp [F.TIER_DMR_CTRL.ENABLE])
    (apart _ rfl (by decide)) (apart _ rfl (by decide))]
  exact stopRings_enable ring _

/-- R435: a further fatal record repeats only the record keeping. -/
theorem fatal_again (r : ErrRec) {f : ErrRec} (already : s.err.fatal = some f) : (s.fatal r).err.fatal = some f := by
  have already' : s.takeSeq.2.err.fatal = some f := already
  simp only [State.fatal, already', Option.isSome_some, if_true]
  rw [(noted_wakeRaw 8 _).err, queueErr_rest]
  rfl

end

end Sys2Proof.Machine

open Sys2Proof Sys2Proof.Machine in
/-- Settles O41: the empty first-error latch takes a record (`latchFirst`); the first fatal one takes the device into fatal mode
(`enterFatal`). That no record reaches lines, pages or keys is `quiet_logAs`. -/
theorem errorResponse : Obligations.ErrorResponse := by
  refine ⟨fun s cls source code inst addr det low high empty => ?_, fun s source code inst addr det none => ?_,
    fun s f source code inst addr det already => fatal_again _ already⟩
  · have quiet := quiet_logAs (.refl s) cls source code inst addr det
    refine ⟨?_, ?_, ?_, quiet.dram, quiet.regions, quiet.keys⟩
    all_goals rw [State.logAs, record_first low high empty]
    · refine ⟨_, rfl, rfl, rfl, rfl, rfl, rfl, rfl, rfl, ?_, ?_⟩
      · exact (noted_wakeFirst _ s).get_below (f := F.ERR_STATUS.NEXT_SEQ) (by decide) (by decide)
      · exact congrArg (· ++ _) (congrArg _ (noted_wakeFirst _ s).err)
    · exact State.get_put_same _ _ _
    · exact (latchFirst_queue _ _).trans (congrArg ErrSt.queue (noted_wakeFirst _ s).err)
  · have quiet := quiet_logAs (.refl s) 5 source code inst addr det
    obtain ⟨fatal, aon⟩ := fatal_first_err _ none
    refine ⟨Option.isSome_iff_exists.mpr ⟨_, fatal⟩, fatal_first_valid _ none, fatal_first_viral _ none, aon.trans fatal.symm,
      ⟨_, fatal, rfl, rfl, rfl⟩, fatal_first_out _ none, fun k ring => fatal_first_rings _ none ring, quiet.dram, quiet.frames, quiet.keys⟩
end

section
/-!
Records, uncorrectable words of the SRAM arrays, and the counters (R428 to R450): what each event does where it applies.
-/

namespace Sys2Proof.Machine

section
variable {s : State}

theorem exec_errorRecord_defined {code : BitVec 8} (inst : BitVec 8) (f : Bool) (a : BitVec 64) (d : BitVec 32)
    (defined : definedCode code.toNat = true) : exec (.errorRecord code inst f a d) s =
      .next (s.logAs (if code.toNat = 0x30 ∧ f = true then 5 else classOf code.toNat) (sourceOf code.toNat) code.toNat inst.toNat a.toNat
        d.toNat) := by
  simp only [exec_errorRecord, execErrorRecord, defined, Bool.not_true, Bool.false_eq_true, if_false]

/-! ### SRAM words -/

/-- R440: a clean line can be read again. -/
theorem exec_sramUe_clean {sl : Fin 16} {kind : Fin 8} {i : BitVec 40} {m : MetaLine} (line : kind.val ≠ 7)
    (cached : metaCached s sl kind i.toNat = some m) (clean : m.dirty = false) :
    exec (.sramUe sl kind i) s = .next ((metaDrop sl kind i.toNat s).log 0x35 sl) := by
  simp only [exec_sramUe, execSramUe, if_neg line, metaSramUe, cached, clean, Bool.not_false, if_true]

theorem exec_sramUe_way {sl : Fin 16} {i : BitVec 40} (valid : (s.near.get (sl.val * 2 ^ 16 + i.toNat % 2 ^ 16)).valid = true) :
    exec (.sramUe sl 7 i) s = .next ({ s with near := s.near.set (sl.val * 2 ^ 16 + i.toNat % 2 ^ 16) {} }.log 0x35 sl) :=
  if_pos valid

/-- R439: an array's scrub goes on to the next line. -/
def scrubbed (array : Nat) (k : Nat) (s : State) : State := { s with sramAt := s.sramAt.set k ((s.sramAt.get k + 1) % sramLines array) }

theorem exec_sramScrubStep_awake (sl : Fin 16) (a : Fin 3) (c : Bool) (awake : s.asleep = false) : exec (.sramScrubStep sl a c) s =
    .next (if c then (scrubbed a (sl.val * 4 + a.val) s).bump (F.HA_SLICE_STATUS.CE sl) else scrubbed a (sl.val * 4 + a.val) s) := by
  simp only [exec_sramScrubStep, execSramScrubStep, awake, Bool.false_eq_true, if_false]
  rfl

/-! ### Counters -/

/-- R446: a counter that is written is valid and has not overflown. -/
theorem pmuValueWrite_shows (n : Nat) (v : BitVec 48) (s : State) :
    let t := ((s.put (F.PMU_CTR_VALUE.VALUE n) v.toNat).put (F.PMU_CTR_VALUE.VALID n) 1).put (F.PMU_CTR_VALUE.OVF n) 0
    t.get (F.PMU_CTR_VALUE.VALUE n) = v.toNat ∧ t.get (F.PMU_CTR_VALUE.VALID n) = 1 ∧ t.get (F.PMU_CTR_VALUE.OVF n) = 0 := by
  refine ⟨?_, ?_, ?_⟩
  · rw [State.get_put_lo rfl, State.get_put_lo rfl]
    exact State.get_put_fits v.isLt s
  · rw [State.get_put_lo rfl, State.get_put_same]
    rfl
  · rw [State.get_put_same, Nat.zero_mod]

theorem exec_periodicPlate_due (set : s.get F.PMU_CTRL.PERIOD_MS ≠ 0) (awake : s.asleep = false)
    (due : s.transit % (1000 * s.get F.PMU_CTRL.PERIOD_MS) = 0) : exec .periodicPlate s = .next (takePlate 3 0 s) := by
  simp only [exec_periodicPlate, execPeriodicPlate, set, awake, due, Bool.false_eq_true, ne_eq, not_true_eq_false, or_self, if_false]

theorem exec_pmuUe_valid {n : Fin 256} (valid : s.flag (F.PMU_CTR_VALUE.VALID n) = true) :
    exec (.pmuUe n) s = .next (((s.put (F.PMU_CTR_VALUE.VALID n) 0).bump F.PMU_STATUS.UE).log 0x38 n) := by
  simp only [exec_pmuUe, execPmuUe, valid, Bool.not_true, Bool.false_eq_true, if_false]

/-- R443, R446: a counter whose value has gone past its width, and says so. -/
def wrapped (n v : Nat) (s : State) : State := (s.put (F.PMU_CTR_VALUE.VALUE n) (v % 2 ^ 48)).put (F.PMU_CTR_VALUE.OVF n) 1

/-- R443: the overflow of a counter that no other one continues stays with it. -/
theorem addCounter_wraps {n amt : Nat} (fuel : Nat) (valid : s.flag (F.PMU_CTR_VALUE.VALID n) = true)
    (enabled : s.flag (F.PMU_CTR_CFG.ENABLE n) = true) (past : 2 ^ 48 ≤ s.get (F.PMU_CTR_VALUE.VALUE n) + amt)
    (last : ¬(n < 255 ∧ s.get (F.PMU_CTR_CFG.CHAIN (n + 1)) = 1)) (quiet : s.flag (F.PMU_CTR_CFG.PLATE_ON_OVF n) = false) :
    addCounter n amt (fuel + 1) s = wrapped n (s.get (F.PMU_CTR_VALUE.VALUE n) + amt) s := by
  have last' (v : Nat) : ¬(n < 255 ∧ (s.put (F.PMU_CTR_VALUE.VALUE n) v).get (F.PMU_CTR_CFG.CHAIN (n + 1)) = 1) := by
    rwa [State.get_put_lo rfl]
  have quiet' (v : Nat) : (wrapped n v s).flag (F.PMU_CTR_CFG.PLATE_ON_OVF n) = false := by
    rwa [State.flag_eq, wrapped, State.get_put_lo rfl, State.get_put_lo rfl]
  simp only [wrapped] at quiet'
  simp only [addCounter, valid, enabled, Bool.not_true, Bool.or_self, Bool.false_eq_true, if_false, Nat.not_lt.2 past, last', quiet']
  rfl

theorem exec_counterWrap_wraps {n : Fin 256} {inc : BitVec 48} (valid : s.flag (F.PMU_CTR_VALUE.VALID n) = true)
    (enabled : s.flag (F.PMU_CTR_CFG.ENABLE n) = true) (past : 2 ^ 48 ≤ s.get (F.PMU_CTR_VALUE.VALUE n) + inc.toNat)
    (last : n.val = 255 ∨ s.get (F.PMU_CTR_CFG.CHAIN (n.val + 1)) = 0) (quiet : s.flag (F.PMU_CTR_CFG.PLATE_ON_OVF n) = false) :
    exec (.counterWrap n inc) s = .next (wrapped n (s.get (F.PMU_CTR_VALUE.VALUE n) + inc.toNat) s) := by
  rw [exec_counterWrap, execCounterWrap, if_pos past, addCounter_wraps 255 valid enabled past (by omega) quiet]

end

end Sys2Proof.Machine

open Sys2Proof Sys2Proof.Machine in
/-- Settles O40: each event by what it does where its conditions hold. -/
theorem errorRows : Obligations.ErrorRows := by
  refine ⟨fun s code inst f a d => exec_errorRecord_defined inst f a d, fun s sl kind i m => exec_sramUe_clean,
    fun s sl i => exec_sramUe_way, fun s sl a c awake => ?_, fun s n v => ?_, fun s => rfl, fun s => exec_periodicPlate_due,
    fun s n => exec_pmuUe_valid, fun s n inc valid enabled past last quiet => ?_⟩
  · rw [exec_sramScrubStep_awake sl a c awake]
    cases c with
    | false => exact ⟨_, rfl, Tab.get_set_same _ _ _, fun k other => Tab.get_set_other other _ _, fun _ => rfl, rfl, nofun⟩
    | true => exact ⟨_, rfl, Tab.get_set_same _ _ _, fun k other => Tab.get_set_other other _ _, nofun, rfl, fun _ => get_bump_same _ _ _⟩
  · obtain ⟨value, valid, ovf⟩ := pmuValueWrite_shows n v s
    exact ⟨_, rfl, value, valid, ovf, rfl⟩
  · refine ⟨_, exec_counterWrap_wraps valid enabled past last quiet, ?_, State.get_put_same _ _ _, rfl⟩
    rw [wrapped, State.get_put_lo rfl, State.get_put_same]
    exact Nat.mod_mod _ _
end

section
/-!
Resets and power (R372, R401, R433, R457 to R471). A loss of the modules' contents reaches neither the security block nor the reset
inputs nor the fuses (`board`), a core reset keeps what `kept` lists, and a reset of the management domain clears what `mgmtPart` lists.
-/

namespace Sys2Proof.Machine

section
variable {s t : State}

/-! ### What a loss of the modules' contents leaves -/

/-- R457, R468: the security block, the reset inputs and the fuses. -/
def board (s : State) : SecSt × ResetSt × BitVec 2048 := (s.sec, s.rst, s.fuses)

theorem Quiet.board (h : Quiet s t) : board t = board s := by
  rw [h.rest]
  rfl

theorem board_log (s : State) (code inst addr detail : Nat) : board (s.log code inst addr detail) = board s :=
  (quiet_log (.refl s) code inst addr detail).board

theorem board_count (s : State) (ev inst amt : Nat) : board (s.count ev inst amt) = board s := by
  rw [(counts_count s ev inst amt).rest]
  rfl

theorem board_eventTo (slot : Nat) (e : EventRec) (s : State) : board (eventTo slot e s) = board s := by
  unfold eventTo
  extract_lets
  split
  · rfl
  · split
    · rfl
    · rfl

theorem board_eventAll (code detail : Nat) (s : State) : board (eventAll code detail s) = board s :=
  forAll_keeps board fun _ _ => board_eventTo _ _ _

/-! ### The catalogue -/

theorem board_metaMakeRoom (sl kind index : Nat) (s : State) : board (metaMakeRoom sl kind index s) = board s := by
  unfold metaMakeRoom
  split
  · rfl
  · split
    · split
      · rfl
      · rfl
    · rfl

theorem board_metaEnter (sl kind index : Nat) (val : BitVec 512) (dirty : Bool) (s : State) :
    board (metaEnter sl kind index val dirty s) = board s := board_metaMakeRoom sl kind index s.stamp.2

theorem board_metaWrite (sl kind index : Nat) (val : BitVec 512) (s : State) : board (metaWrite sl kind index val s) = board s := by
  unfold metaWrite
  split
  · rfl
  · split
    · rfl
    · exact board_metaEnter _ _ _ _ _ _

theorem board_setCat (page lo w v : Nat) (s : State) : board (setCat page lo w v s) = board s := board_metaWrite _ _ _ _ _

theorem board_setLocation (page kind loc : Nat) (s : State) : board (setLocation page kind loc s) = board s :=
  (board_setCat _ _ _ _ _).trans (board_setCat _ _ _ _ _)

/-! ### Frames and moves -/

theorem board_updateActive (s : State) : board (updateActive s) = board s := by
  unfold updateActive
  extract_lets
  split
  · rfl
  · split
    · rfl
    · rfl

theorem board_raiseLevel (n : Nat) (s : State) : board (raiseLevel n s) = board s :=
  (board_eventAll _ _ _).trans (board_log _ _ _ _ _)

theorem board_updateLevel (s : State) : board (updateLevel s) = board s := by
  unfold updateLevel
  split
  · rfl
  · exact forAll_keeps board board_raiseLevel

theorem board_poolChanged (s : State) : board (poolChanged s) = board s := (board_updateLevel _).trans (board_updateActive _)

theorem board_freeFrame (c f : Nat) (s : State) : board (freeFrame c f s) = board s := board_poolChanged _

theorem board_freeRun (c g n : Nat) (s : State) : board (freeRun c g n s) = board s := by
  unfold freeRun
  extract_lets
  split
  · rfl
  · split
    · exact board_poolChanged _
    · rfl

theorem board_sendSpillFree (member slot : Nat) (s : State) : board (sendSpillFree member slot s) = board s := by
  unfold sendSpillFree originate
  extract_lets
  split
  · rfl
  · rfl

theorem board_releaseLoc (l : Loc) (s : State) : board (releaseLoc l s) = board s := by
  unfold releaseLoc
  split
  · rfl
  · exact board_freeFrame _ _ _
  · exact board_freeRun _ _ _ _
  · exact board_sendSpillFree _ _ _

theorem board_abortMove (m : Move) (s : State) : board (abortMove m s) = board s := by
  unfold abortMove
  extract_lets t1 t2 t3 t4
  have counted : board t2 = board s := by
    unfold t2
    split
    · exact board_count _ _ _ _
    · rfl
  have released : board t4 = board t3 := by
    unfold t4
    split
    · split
      · exact board_sendSpillFree _ _ _
      · rfl
    · exact board_releaseLoc _ _
  exact (board_setCat _ _ _ _ _).trans (released.trans counted)

/-! ### Pages and channels -/

theorem board_discardPage (page : Nat) (s : State) : board (discardPage page s) = board s := by
  unfold discardPage
  extract_lets t1
  have aborted : board t1 = board s := by
    unfold t1
    split
    · exact board_abortMove _ _
    · rfl
  refine (forAll_keeps board ?_).trans aborted
  exact fun _ _ => rfl

theorem board_losePage (page : Nat) (s : State) : board (losePage page s) = board s :=
  (board_setLocation _ _ _ _).trans (board_discardPage _ _)

theorem board_loseBand (sl : Nat) (s : State) : board (loseBand sl s) = board s :=
  forAll_keeps board board_discardPage

theorem board_channelFails (c : Nat) (s : State) : board (channelFails c s) = board s := by
  unfold channelFails
  extract_lets band hit t1 t2
  have lost : board t2 = board s :=
    (forAll_keeps board board_losePage).trans (forAll_keeps board fun _ _ => board_log _ _ _ _ _)
  split
  · exact (board_loseBand _ _).trans lost
  · exact lost

theorem board_loseTables (c : Nat) (s : State) : board (loseTables c s) = board s := by
  unfold loseTables
  extract_lets
  refine (forAll_keeps board ?_).trans ((forAll_keeps board ?_).trans (forAll_keeps board ?_))
  all_goals exact fun _ _ => rfl

theorem board_loseContents (c : Nat) (s : State) : board (loseContents c s) = board s := by
  unfold loseContents
  extract_lets t1 mine
  have failed : board t1 = board s := by
    unfold t1
    split
    · exact board_channelFails _ _
    · rfl
  refine (board_loseTables _ _).trans ((forAll_keeps board ?_).trans failed)
  exact fun _ _ => rfl

theorem board_loseAll (s : State) : board (forAll (List.range 16) loseContents s) = board s := forAll_keeps board board_loseContents

/-- R457, R468: what is left of the device without power: its fuses and its flash, the DIMMs' cells, and the reset inputs as they are. -/
def unpowered (s : State) : State :=
  { pending := s.pending, out := s.out, freeCtr := s.freeCtr, useCtr := s.useCtr, nextId := s.nextId
    dram := s.dram, fuses := s.fuses, fuseShadow := s.fuses, sec := { nor := s.sec.nor }, rst := s.rst }

theorem blank_unpowered (s : State) : ∃ t, blank s = unpowered t ∧ t.sec = s.sec ∧ t.fuses = s.fuses := by
  obtain ⟨sec, others⟩ := Prod.mk.inj (board_loseAll s)
  obtain ⟨-, fuses⟩ := Prod.mk.inj others
  exact ⟨_, rfl, sec, fuses⟩

/-! ### A core reset -/

/-- What a core reset keeps, and the requests, which it ends. -/
def kept (s : State) : ResetSt × ThmSt × BitVec 2048 × Tab (BitVec 640) 0 × List Req := (s.rst, s.thm, s.fuses, s.dram, s.reqs)

theorem kept_cryptoReset (s : State) : kept (cryptoReset s) = kept s := by
  refine (forAll_keeps kept fun k t => ?_).trans rfl
  dsimp only
  split
  · rfl
  · rfl

theorem cryptoReset_keys (s : State) : (cryptoReset s).keys = {} := by
  refine (forAll_keeps State.keys fun k t => ?_).trans rfl
  dsimp only
  split
  · rfl
  · rfl

/-- R468: the time asleep is counted before the reset. -/
def sleepCounted (s : State) : State := if 2 ≤ sleepState s then s.count 0x002 0 (s.since s.pwr.entryTb) else s

theorem sleepCounted_rest (s : State) : sleepCounted s = { s with regs := (sleepCounted s).regs, pmu := (sleepCounted s).pmu } := by
  unfold sleepCounted
  split
  · exact (counts_count s _ _ _).rest
  · rfl

theorem kept_coreBlank (s : State) : kept (coreBlank (sleepCounted s)) = (s.rst, s.thm, s.fuses, s.dram, []) := by
  rw [sleepCounted_rest]
  rfl

/-- R457, R460: the registers that a core reset shows, its cause among them. -/
def resetRegs (chans why : Nat) (s : State) : State :=
  let t := s.put F.SEC_STATUS.FUSE_BUSY (bit s.sec.fuse.isSome)
  let t := ((t.put F.PWR_SL_STATUS.STATE 0).put F.PWR_SL_STATUS.IN_ENTRY 0).put F.PWR_RESET_CAUSE.CHAN chans
  let t := ((t.put F.PWR_RESET_CAUSE.CORE 1).put F.PWR_RESET_CAUSE.MGT 1).put F.PWR_RESET_CAUSE.CORE_WHY why
  showLog ((t.put F.PWR_RESET_CAUSE.MGT_WHY 0).put F.PWR_RESET_CAUSE.LAST 3)

theorem kept_put (s : State) (f : Fld) (v : Nat) : kept (s.put f v) = kept s := rfl

theorem kept_emit (s : State) (o : Out) : kept (s.emit o) = kept s := rfl

theorem kept_resetRegs (chans why : Nat) (s : State) : kept (resetRegs chans why s) = kept s := by
  simp only [resetRegs, showLog, kept_put]

theorem resetRegs_keys (chans why : Nat) (s : State) : (resetRegs chans why s).keys = s.keys := by
  simp only [resetRegs, showLog, State.put_keys]

theorem resetRegs_core (chans why : Nat) (s : State) : (resetRegs chans why s).get F.PWR_RESET_CAUSE.CORE = 1 := by
  simp only [resetRegs, showLog]
  rw [State.get_put_ne (by decide), State.get_put_ne (by decide), State.get_put_ne (by decide), State.get_put_ne (by decide),
    State.get_put_ne (by decide), State.get_put_same]
  rfl

theorem resetRegs_last (chans why : Nat) (s : State) : (resetRegs chans why s).get F.PWR_RESET_CAUSE.LAST = 3 := by
  simp only [resetRegs, showLog]
  rw [State.get_put_ne (by decide), State.get_put_same]
  rfl

/-- R468, R469: the state of a core reset before what leaves the device. -/
def coreCleared (chans why : Nat) (s : State) : State := resetRegs chans why (cryptoReset (coreBlank (sleepCounted s)))

/-- R460: the channels in service are noted beside those noted before. -/
def resetChans (s : State) : Nat :=
  (List.range 16).foldl (fun n c => if serving s c then n ||| 2 ^ c else n) (s.get F.PWR_RESET_CAUSE.CHAN)

theorem coreReset_eq (why : Nat) (s : State) : coreReset why s =
    if s.pwr.railsOff && !s.thm.tripped then ((coreCleared (resetChans s) why s).emit .transmittersIdle).emit (.rails true)
    else (coreCleared (resetChans s) why s).emit .transmittersIdle := by
  simp only [coreReset, coreCleared, resetRegs, sleepCounted, resetChans]

/-- What is emitted at the end of a core reset leaves every part of the state that does not look at the outputs. -/
theorem coreReset_part {β : Type} (part : State → β) (emitted : ∀ t o, part (State.emit t o) = part t) (why : Nat) (s : State) :
    part (coreReset why s) = part (coreCleared (resetChans s) why s) := by
  rw [coreReset_eq]
  split
  · rw [emitted, emitted]
  · rw [emitted]

theorem kept_coreReset (why : Nat) (s : State) : kept (coreReset why s) = (s.rst, s.thm, s.fuses, s.dram, []) := by
  rw [coreReset_part kept kept_emit, coreCleared, kept_resetRegs, kept_cryptoReset, kept_coreBlank]

theorem coreReset_keys (why : Nat) (s : State) : (coreReset why s).keys = {} := by
  rw [coreReset_part State.keys State.emit_keys, coreCleared, resetRegs_keys, cryptoReset_keys]

theorem coreReset_core (why : Nat) (s : State) : (coreReset why s).get F.PWR_RESET_CAUSE.CORE = 1 := by
  rw [coreReset_part (·.get F.PWR_RESET_CAUSE.CORE) (fun t o => State.emit_get t o _), coreCleared, resetRegs_core]

theorem coreReset_last (why : Nat) (s : State) : (coreReset why s).get F.PWR_RESET_CAUSE.LAST = 3 := by
  rw [coreReset_part (·.get F.PWR_RESET_CAUSE.LAST) (fun t o => State.emit_get t o _), coreCleared, resetRegs_last]

/-! ### Holding and letting go of a domain -/

/-- R469: a domain held by the reset inputs. -/
def held (s : State) : State := { s with rst := { s.rst with coreHeld := true, mgtHeld := true } }

theorem holdCore_holds (up : s.rst.coreHeld = false) : holdCore s = held (coreReset 0 s) := by
  rw [holdCore, up]
  rfl

theorem letCore_rest (s : State) : letCore s = { s with rst := (letCore s).rst } := by
  unfold letCore
  split
  · rfl
  · rfl

theorem letCore_coreHeld (s : State) : (letCore s).rst.coreHeld = s.rst.coreHeld := by
  unfold letCore
  split
  · rfl
  · rfl

theorem letCore_free (core : s.rst.coreIn = false) (power : s.rst.pwrLow = false) : letCore s =
    { s with rst := { s.rst with coreTb := s.now, mgtTb := if s.rst.mgtIn then s.rst.mgtTb else s.now } } := by
  rw [letCore, core, power]
  rfl

/-- R469: the reset input of the core domain is asserted. -/
def coreAsserted (s : State) : State := { s with rst := { s.rst with coreIn := true } }

theorem exec_coreRst_asserted (released : s.rst.coreIn = false) (up : s.rst.coreHeld = false) :
    exec (.coreRst true) s = .next (held (coreReset 0 (coreAsserted s))) := by
  rw [exec_coreRst, execCoreRst, released, ← holdCore_holds (s := coreAsserted s) up]
  rfl

theorem exec_coreRst_released (asserted : s.rst.coreIn = true) (power : s.rst.pwrLow = false) : exec (.coreRst false) s = .next { s with
    rst := { s.rst with coreIn := false, coreTb := s.now, mgtTb := if s.rst.mgtIn then s.rst.mgtTb else s.now } } := by
  rw [exec_coreRst, execCoreRst, asserted]
  exact congrArg Host.Outcome.next (letCore_free (s := { s with rst := { s.rst with coreIn := false } }) rfl power)

theorem exec_pwrOkLow_low (high : s.rst.pwrLow = false) : exec (.pwrOkLow true) s =
    .next (forAll (List.range 16) forceOff (holdCore { s with rst := { s.rst with pwrLow := true } })) := by
  simp only [exec_pwrOkLow, execPwrOkLow, high]
  rfl

theorem exec_pwrOkLow_high (low : s.rst.pwrLow = true) :
    exec (.pwrOkLow false) s = .next (letCore { s with rst := { s.rst with pwrLow := false } }) := by
  simp only [exec_pwrOkLow, execPwrOkLow, low]
  rfl

theorem exec_mgtRst_asserted (released : s.rst.mgtIn = false) (up : s.rst.coreHeld = false) :
    let m := managementReset 2 { s with rst := { s.rst with mgtIn := true } }
    exec (.mgtRst true) s = .next { m with rst := { m.rst with mgtHeld := true } } := by
  simp only [exec_mgtRst, execMgtRst, released, up]
  rfl

theorem exec_mgtRst_released (asserted : s.rst.mgtIn = true) :
    exec (.mgtRst false) s = .next { s with rst := { s.rst with mgtIn := false, mgtTb := s.now } } := by
  simp only [exec_mgtRst, execMgtRst, asserted]
  rfl

theorem exec_mgtLockstep_resets (awake : s.asleep = false) (up : s.rst.mgtHeld = false) : let m := managementReset 1 (s.log 0x05)
    exec .mgtLockstep s = .next { m with rst := { m.rst with mgtHeld := true, mgtTb := m.now } } := by
  simp only [exec_mgtLockstep, execMgtLockstep, awake, up]
  rfl

/-! ### A reset of the management domain -/

/-- What a reset of the management domain clears or loads again. -/
def mgmtPart (s : State) : Bool × BitVec 2048 × BitVec 2048 × Tab MbxSt {} × Option (Nat × Nat) × List ErrRec :=
  (s.sec.running, s.fuseShadow, s.fuses, s.mbx, s.claim, s.err.copies)

theorem mgmtPart_put (s : State) (f : Fld) (v : Nat) : mgmtPart (s.put f v) = mgmtPart s := rfl

theorem mgmtPart_abort (n : Nat) (s : State) :
    mgmtPart (forAll (List.range n) (fun c s => s.put (F.MBX_CH_STATUS.IN_ABORT c) 1) s) = mgmtPart s :=
  forAll_keeps mgmtPart fun _ _ => mgmtPart_put _ _ _

theorem mgmtPart_clearMgmt (s : State) : ∃ fuses, mgmtPart (clearMgmt s) = (false, fuses, fuses, {}, none, []) := by
  simp only [clearMgmt, showLog, mgmtPart_put, mgmtPart_abort]
  exact ⟨_, rfl⟩

theorem mgmtPart_managementReset (why : Nat) (s : State) :
    ∃ fuses, mgmtPart (managementReset why s) = (false, fuses, fuses, {}, none, []) := by
  simp only [managementReset, mgmtPart_put]
  exact mgmtPart_clearMgmt _

theorem managementReset_cause (why : Nat) (s : State) : (managementReset why s).get F.PWR_RESET_CAUSE.MGT = 1 ∧
    (managementReset why s).get F.PWR_RESET_CAUSE.MGT_WHY = why % 2 ^ F.PWR_RESET_CAUSE.MGT_WHY.width ∧
    (managementReset why s).get F.PWR_RESET_CAUSE.LAST = 4 := by
  simp only [managementReset]
  refine ⟨?_, ?_, ?_⟩
  · rw [State.get_put_lo rfl, State.get_put_lo rfl, State.get_put_same]
    rfl
  · rw [State.get_put_lo rfl, State.get_put_same]
  · rw [State.get_put_same]
    rfl

/-! ### Release and restart -/

theorem exec_resetRelease_core (held : s.rst.coreHeld = true) (core : s.rst.coreIn = false) (power : s.rst.pwrLow = false)
    (on : s.rst.off = false) (late : 10000 ≤ s.since s.rst.coreTb) :
    let t : State := { s with rst := { s.rst with coreHeld := false, mgtHeld := s.rst.mgtIn } }
    exec .resetRelease s = .next (if (ptmLink t).isNone then t.put F.TB_STATUS.COARSE 0 else t) := by
  simp only [exec_resetRelease, execResetRelease, held, core, power, on, decide_eq_false (Nat.not_lt.2 late), Bool.or_self,
    Bool.false_eq_true, if_false, if_true]

theorem exec_resetRelease_mgt (up : s.rst.coreHeld = false) (held : s.rst.mgtHeld = true) (released : s.rst.mgtIn = false)
    (late : 10000 ≤ s.since s.rst.mgtTb) : exec .resetRelease s = .next { s with rst := { s.rst with mgtHeld := false } } := by
  simp only [exec_resetRelease, execResetRelease, up, held, released, late, decide_true, Bool.not_false, Bool.and_self, Bool.false_eq_true,
    if_false, if_true]

/-- R401: the trip is over. -/
def cooled (s : State) : State := { s with thm := { s.thm with tripped := false, coolSince := none } }

/-- R401: the device as a restart resets it, with CAP at 128 W. -/
def restarted (s : State) : State := held (((coreReset 1 (cooled s)).put F.THM_STATUS.CAP 16).put F.THM_STATUS.THROTTLED 1)

theorem held_get (s : State) (f : Fld) : (held s).get f = s.get f := rfl
theorem held_thm (s : State) : (held s).thm = s.thm := rfl
theorem held_fuses (s : State) : (held s).fuses = s.fuses := rfl

theorem restarted_cap (s : State) : (restarted s).get F.THM_STATUS.CAP = 16 := by
  rw [restarted, held_get, State.get_put_lo rfl, State.get_put_same]
  rfl

theorem restarted_throttled (s : State) : (restarted s).get F.THM_STATUS.THROTTLED = 1 := by
  rw [restarted, held_get, State.get_put_same]
  rfl

theorem restarted_kept (s : State) : (restarted s).thm.tripped = false ∧ (restarted s).fuses = s.fuses := by
  have reset := kept_coreReset 1 (cooled s)
  simp only [kept, Prod.mk.injEq] at reset
  obtain ⟨-, thm, fuses, -⟩ := reset
  rw [restarted, held_thm, held_fuses, State.put_thm, State.put_thm, State.put_fuses, State.put_fuses, thm, fuses]
  exact ⟨rfl, rfl⟩

theorem exec_thermalRestart_cool {a : Nat} (tripped : s.thm.tripped = true) (stays : s.thm.stayOff = false)
    (cool : s.thm.coolSince = some a) (late : 1000000000 ≤ s.since a) : exec .thermalRestart s = .next (letCore (restarted s)) := by
  simp only [exec_thermalRestart, execThermalRestart, tripped, stays, cool, late, decide_true, Bool.not_true,
    Bool.or_self, Bool.false_eq_true, if_false, restarted, cooled, held]

end

end Sys2Proof.Machine

open Sys2Proof Sys2Proof.Machine in
/-- Settles O51: without power only `unpowered` is left; a core reset is `coreReset_eq`, and one of the management domain clears
`mgmtPart`. -/
theorem resetRows : Obligations.ResetRows := by
  refine ⟨fun s => ?_, fun s => ?_, fun s => ?_, fun s released up => ?_, fun s asserted power => ?_, fun s => exec_pwrOkLow_low,
    fun s => exec_pwrOkLow_high, fun s => exec_mgtRst_asserted, fun s why => ?_, fun s asserted => ?_, fun s => exec_mgtLockstep_resets,
    fun s held core power on late => ?_, fun s => exec_resetRelease_mgt, fun s a tripped stays cool late => ?_⟩
  · obtain ⟨t, left, sec, fuses⟩ := blank_unpowered s
    rw [exec_powerOn, execPowerOn, left]
    refine ⟨_, rfl, fuses, fuses, ?_, rfl, rfl, rfl, rfl, rfl, rfl, rfl, rfl, rfl, rfl, rfl, rfl⟩
    rw [← sec]
    rfl
  · obtain ⟨t, left, sec, fuses⟩ := blank_unpowered s
    rw [exec_brownOut, execBrownOut, left]
    refine ⟨_, rfl, fuses, ?_, ?_, ?_, State.get_put_same _ _ _, rfl, rfl, rfl, rfl, rfl, rfl⟩
    · rw [← sec]
      rfl
    · rw [State.get_put_ne (by decide), State.get_put_ne (by decide), State.get_put_same]
      rfl
    · rw [State.get_put_ne (by decide), State.get_put_same]
      rfl
  · obtain ⟨t, left, sec, fuses⟩ := blank_unpowered s
    rw [exec_vaux1v8Loss, execVaux1v8Loss, left]
    refine ⟨_, rfl, rfl, rfl, rfl, rfl, fuses, ?_⟩
    rw [← sec]
    rfl
  · have reset := kept_coreReset 0 (coreAsserted s)
    simp only [kept, Prod.mk.injEq] at reset
    obtain ⟨rst, -, fuses, dram, reqs⟩ := reset
    exact ⟨_, exec_coreRst_asserted released up, rfl, rfl, congrArg ResetSt.coreIn rst, fuses, dram, coreReset_core 0 _, coreReset_last 0 _,
      reqs, coreReset_keys 0 _⟩
  · exact ⟨_, exec_coreRst_released asserted power, rfl, rfl, rfl⟩
  · obtain ⟨fuses, cleared⟩ := mgmtPart_managementReset why s
    simp only [mgmtPart, Prod.mk.injEq] at cleared
    obtain ⟨running, shadow, blown, mbx, claim, copies⟩ := cleared
    exact ⟨running, shadow.trans blown.symm, mbx, claim, copies, managementReset_cause why s⟩
  · exact ⟨_, exec_mgtRst_released asserted, rfl, rfl, rfl⟩
  · rw [exec_resetRelease_core held core power on late]
    split
    · exact ⟨_, rfl, rfl, rfl, rfl⟩
    · exact ⟨_, rfl, rfl, rfl, rfl⟩
  · obtain ⟨thm, fuses⟩ := restarted_kept s
    refine ⟨_, exec_thermalRestart_cool tripped stays cool late, ?_⟩
    rw [letCore_coreHeld, letCore_rest]
    exact ⟨thm, restarted_cap s, restarted_throttled s, rfl, fuses⟩
end

section
/-!
A host's request of an address that no decoder and extent back (R47, R48, R480): it is recorded and answered at its port.
-/

namespace Sys2Proof.Machine

section
variable {s t : State} {slot hpa : Nat} {r : Req}

/-- What the port notes of a request is among what reporting changes. -/
theorem Noted.quiet (h : Noted s t) : Quiet s t := ⟨by rw [h.rest], h.reg⟩

/-- R22, R26, R381: a request that is received while the ports run is counted, wakes the device, and goes its way. -/
theorem receive_routes (up : (s.links.get (linkOfSlot slot)).up = true) (here : agentState s slot ≠ 2)
    (room : ingressFull s slot r.write = false) (ports : portsStopped s = false) :
    ∃ t, Noted s t ∧ receive slot hpa r s = route slot hpa r t := by
  unfold receive
  extract_lets c
  have counted : Counts s c := by
    unfold c
    split
    · exact counts_count s _ _ _
    split
    · exact counts_count s _ _ _
    · exact .refl s
  refine ⟨wakeRaw 0 c, counted.noted.trans (noted_wakeRaw 0 c), ?_⟩
  simp [up, here, room, counted.portsStopped, ports]

/-- R47, R48: a request of a known opcode from an ALIVE agent, at an address that the LD does not map, is recorded and answered. -/
theorem route_unmapped (hs : slot < 64) (known : ∀ d, r.intent ≠ .unknown d) (alive : agentState s slot = 1)
    (fatal : s.inFatal = false) (fence : fenced s = false) (unmapped : mapHpa s slot hpa = none) (n : Noted s t) :
    route slot hpa r t = replyTo r none 0 (t.log 0x12 slot) := by
  unfold route
  split
  next d hd => exact absurd hd (known d)
  · simp [n.inFatal, fatal, n.fenced, fence, n.agentState hs, alive, n.mapHpa, unmapped]

/-- R480: such a request changes only what reporting changes, and its host has its completion, and poison where it asked for data. -/
theorem receive_unmapped_answers {tag stream : Nat} (hs : slot < 64) (up : (s.links.get (linkOfSlot slot)).up = true)
    (alive : agentState s slot = 1) (ports : portsStopped s = false) (fatal : s.inFatal = false) (fence : fenced s = false)
    (unmapped : mapHpa s slot hpa = none) (src : r.src = .host slot tag stream) (stays : (r.stage == .away) = false)
    (heard : r.muted = false) (known : ∀ d, r.intent ≠ .unknown d) (room : ingressFull s slot r.write = false) :
    Quiet s (receive slot hpa r s) ∧ (∃ load, .cmp slot tag 0 load ∈ (receive slot hpa r s).out) ∧
    (wantsData r.intent = true → ∃ load, .memData slot tag none load ∈ (receive slot hpa r s).out) := by
  obtain ⟨t, noted, received⟩ := receive_routes (hpa := hpa) up (by rw [alive]; decide) room ports
  have logged : Quiet s (t.log 0x12 slot) := quiet_log noted.quiet _ _ _ _
  have receives : hostReceives (t.log 0x12 slot) slot = true := by
    rw [logged.hostReceives hs]
    simp [hostReceives, alive, up]
  obtain ⟨replied, cmp, poison⟩ := replyTo_poisons src stays heard receives
  rw [received, route_unmapped hs known alive fatal fence unmapped noted]
  exact ⟨logged.trans replied, cmp, poison⟩

theorem wantsData_readIntent (mv : Meta) (data : Bool) : wantsData (readIntent mv data) = true := by
  cases data
  · cases mv <;> rfl
  · rfl

end

end Sys2Proof.Machine

open Sys2Proof.Machine in
/-- Settles O7: the request is answered at its port (`receive_unmapped_answers`), which changes only what reporting changes. -/
theorem hostUnbackedAccess : Obligations.HostUnbackedAccess := by
  intro s m tag hpa mv up alive ports fatal fence unmapped still
  have still_of_quiet {t : State} (quiet : Quiet s t) : still t :=
    ⟨quiet.reqs, quiet.dram, quiet.wb, quiet.near, quiet.almanac, quiet.frames⟩
  refine ⟨fun data room => ?_, fun line poison room => ?_⟩
  · obtain ⟨write, known⟩ := readIntent_known mv data
    obtain ⟨quiet, cmp, poison⟩ := receive_unmapped_answers (r := hostReq s m tag.toNat (readIntent mv data) 0 0 false) m.isLt up
      alive ports fatal fence unmapped rfl rfl rfl known (by simpa only [hostReq, write] using room)
    exact ⟨_, rfl, poison (wantsData_readIntent mv data), cmp, still_of_quiet quiet⟩
  · obtain ⟨write, known⟩ := writeIntent_known s m mv
    obtain ⟨quiet, cmp, -⟩ := receive_unmapped_answers
      (r := hostReq s m tag.toNat (writeIntent s m mv) line (BitVec.allOnes 64) poison) m.isLt up
      alive ports fatal fence unmapped rfl rfl rfl known (by simpa only [hostReq, write] using room)
    exact ⟨_, rfl, cmp, still_of_quiet quiet⟩
end

section
/-!
Answers to snoops and their credits (R54, R205, R206).
-/

namespace Sys2Proof.Machine

section
variable {s : State}

/-- R54, R205: whether a snoop is out to the agent of a slot for a line. -/
def snoopOut (s : State) (m : Fin 64) (line : Nat) (n : Snoop) : Bool :=
  n.sent && !n.remote && slotOfHan s n.han == some m.val && snoopCpa s n == line

theorem snoopOut_eq_false {m : Fin 64} {line : Nat} {n : Snoop}
    (h : n.sent = true → n.remote = false → slotOfHan s n.han = some m.val → snoopCpa s n ≠ line) : snoopOut s m line n = false := by
  simpa [snoopOut] using h

/-- R205: an answer to the first snoop that is out for the line is taken for the home that made the snoop. -/
theorem exec_birsp_taken {m : Fin 64} {addr : BitVec 64} {n : Snoop} {a : BiAnswer}
    (out : s.snoops.find? (snoopOut s m (lineAddr addr.toNat)) = some n) :
    exec (.birsp m addr a) s =
      let b := if (takeAnswer n.inv a).2 then logProtocol m s else s
      if n.home.isSome then .next (answerHome n (takeAnswer n.inv a).1 b)
      else .next (settle (answerSnoop n.req n.han (takeAnswer n.inv a).1 b)) := by
  rw [exec_birsp, execBirsp]
  split
  next absent => cases out.symm.trans absent
  next found =>
    cases out.symm.trans found
    rfl

/-- R205: an answer to no snoop of the agent is a protocol error. -/
theorem exec_birsp_stray {m : Fin 64} {addr : BitVec 64} {a : BiAnswer}
    (none_out : ∀ n ∈ s.snoops, snoopOut s m (lineAddr addr.toNat) n = false) :
    exec (.birsp m addr a) s = .next (logProtocol m s) := by
  have absent : s.snoops.find? (snoopOut s m (lineAddr addr.toNat)) = none :=
    List.find?_eq_none.2 fun n hn => by simp [none_out n hn]
  rw [exec_birsp, execBirsp]
  split
  · rfl
  next found => cases absent.symm.trans found

/-- R206: a conflict is acknowledged where a snoop is out for the line, and is a protocol error elsewhere. -/
theorem exec_biconflict_eq (m : Fin 64) (addr : BitVec 64) (s : State) :
    exec (.biconflict m addr) s = .next (if s.snoops.any (snoopOut s m (lineAddr addr.toNat)) then
      s.emit (.conflictAck m (lineAddr addr.toNat)) else logProtocol m s) := by
  rw [exec_biconflict, execBiconflict]
  exact (apply_ite Host.Outcome.next _ _ _).symm

/-- R54: where every snoop is out, none is tried again. -/
theorem retrySnoops_of_sent (h : ∀ n ∈ s.snoops, n.sent = true) : retrySnoops s = s := by
  have none_waits : s.snoops.filter (fun n => !n.sent) = [] := List.filter_eq_nil_iff.2 fun n hn => by simp [h n hn]
  simp [retrySnoops, none_waits, forAll]

end

end Sys2Proof.Machine

open Sys2Proof.Machine in
/-- Settles O11: an answer is taken by the snoop that is out for the line (`exec_birsp_taken`), a stray one is recorded; credits make no
snoop leave where none waits (`retrySnoops_of_sent`). -/
theorem snoopAnswers : Obligations.SnoopAnswers := by
  refine ⟨fun s m addr n a out => ⟨fun own => ?_, fun away => ?_⟩, fun s m addr a stray => ?_, fun s m addr out => ?_,
    fun s link n sent => ?_, fun s link n => rfl⟩
  · rw [exec_birsp_taken out, own]
    rfl
  · rw [exec_birsp_taken out, away]
    rfl
  · have none_out : ∀ n ∈ s.snoops, snoopOut s m (lineAddr addr.toNat) n = false := fun n hn => snoopOut_eq_false (stray n hn)
    refine ⟨exec_birsp_stray none_out, ?_⟩
    rw [exec_biconflict_eq, List.any_eq_false.2 fun n hn => by simp [none_out n hn]]
    rfl
  · exact ⟨_, (exec_biconflict_eq m addr s).trans (congrArg _ (if_pos out)), rfl, rfl⟩
  · refine ⟨_, congrArg Host.Outcome.next (retrySnoops_of_sent (s := { s with links := _ }) sent), ?_, fun l other => ?_, rfl⟩
    · exact congrArg LinkSt.credits (Tab.get_upd_same _ _ _)
    · exact Tab.get_upd_other other _ _
end

section
/-!
Link drops (R55, R66, R67, R69). What `dropLink` does to one of the link's LDs (`dropLd`) takes its agent from ALIVE to DOWN and
changes no other agent's state; no stored line, frame, region or way of the almanac takes part.
-/

namespace Sys2Proof.Machine

section
variable {s : State}

/-- The stored lines, and the tables of the frames, the regions and the almanac. -/
def storage (s : State) : Tab (BitVec 640) 0 × Tab Frame {} × Tab Region {} × Tab AlmEnt {} := (s.dram, s.frames, s.regions, s.almanac)

/-- R67: a drop as it is noted in the registers of an LD. -/
def noteDrop (reads lost m : Nat) (s : State) : State :=
  let s := ((s.bump (F.AQ_DROP_LOG.DROPS m)).put (F.AQ_DROP_LOG.LOST_READS m) (min 255 reads)).put (F.AQ_DROP_LOG.LOST_WRITES m)
    (min 255 lost)
  s.put (F.HP_AGENT_STATE.DROP_TB m) (s.now / 256)

/-- R66, R67: what the drop of its link does to an LD. -/
def dropLd (reads lost m : Nat) (s : State) : State :=
  let s := noteDrop reads lost m s
  if agentState s m = 1 then
    let s := s.put (F.HP_AGENT_STATE.STATE m) 2
    holdSnoops m { s with lds := s.lds.upd m (fun x => { x with dropTimeout := s.get F.HP_DEAD_TIMEOUT.MS, dropTb := s.now }) }
  else s

theorem dropLink_up {l : Nat} (lost : Nat) (up : (s.links.get l).up = true) :
    dropLink l lost s = forAll (linkSlots (linkOff l s) l) (dropLd (openReads s l) lost) (linkOff l s) := by
  simp only [dropLink, up, Bool.not_true, Bool.false_eq_true, if_false]
  rfl

theorem holdSnoops_rest (m : Nat) (s : State) : holdSnoops m s = { s with snoops := (holdSnoops m s).snoops } := by
  unfold holdSnoops
  split
  · rfl
  · rfl

theorem dropLd_leaves (reads lost m : Nat) (s : State) :
    (dropLd reads lost m s).links = s.links ∧ storage (dropLd reads lost m s) = storage s := by
  unfold dropLd
  extract_lets u v
  split
  · rw [holdSnoops_rest]
    exact ⟨rfl, rfl⟩
  · exact ⟨rfl, rfl⟩

/-! ### Register fields -/

/-- A field that no drop is noted in. -/
theorem get_noteDrop {f : Fld} (low : f.lo ≤ 1) (below : f.addr < 2 ^ 32) (reads lost m : Nat) (s : State) :
    (noteDrop reads lost m s).get f = s.get f := by
  unfold noteDrop State.bump
  extract_lets u
  unfold u
  rw [State.get_put_ne, State.get_put_ne, State.get_put_ne, State.get_put_ne]
  all_goals
    simp only [Fld.key, F.HP_AGENT_STATE.DROP_TB, F.AQ_DROP_LOG.DROPS, F.AQ_DROP_LOG.LOST_READS, F.AQ_DROP_LOG.LOST_WRITES]
    omega

theorem get_dropLd {f : Fld} (low : f.lo ≤ 1) (below : f.addr < 2 ^ 32) (reads lost m : Nat)
    (other : f.key ≠ (F.HP_AGENT_STATE.STATE m).key) (s : State) : (dropLd reads lost m s).get f = s.get f := by
  unfold dropLd
  extract_lets u v
  split
  · rw [holdSnoops_rest]
    exact (State.get_put_ne other u 2).trans (get_noteDrop low below _ _ _ _)
  · exact get_noteDrop low below _ _ _ _

/-- R66: the drop of its link takes an ALIVE agent to DOWN; another state stays, and so does every other agent's. -/
theorem agentState_dropLd {j : Nat} (hj : j < 64) (reads lost m : Nat) (s : State) :
    agentState (dropLd reads lost m s) j = if j = m ∧ agentState s j = 1 then 2 else agentState s j := by
  have low : (F.HP_AGENT_STATE.STATE j).lo ≤ 1 := Nat.zero_le 1
  have below : (F.HP_AGENT_STATE.STATE j).addr < 2 ^ 32 := by simp only [F.HP_AGENT_STATE.STATE]; omega
  by_cases here : j = m
  · subst here
    have noted : agentState (noteDrop reads lost j s) j = agentState s j := get_noteDrop low below _ _ _ _
    unfold dropLd
    extract_lets u v
    rw [noted]
    split
    next alive =>
      rw [if_pos ⟨rfl, alive⟩, holdSnoops_rest]
      exact State.get_put_same u _ 2
    next dead => rw [if_neg fun h => dead h.2, noted]
  · rw [if_neg fun h => here h.1]
    exact get_dropLd low below _ _ _ (by simp only [Fld.key, F.HP_AGENT_STATE.STATE]; omega) s

theorem agentState_dropLds {j : Nat} (hj : j < 64) (reads lost : Nat) (l : List Nat) (s : State) :
    agentState (forAll l (dropLd reads lost) s) j = if j ∈ l ∧ agentState s j = 1 then 2 else agentState s j := by
  induction l generalizing s with
  | nil => simp [forAll]
  | cons m l ih =>
    have first := agentState_dropLd hj reads lost m s
    have rest := ih (dropLd reads lost m s)
    rw [forAll, List.foldl_cons, ← forAll, rest, first]
    by_cases here : j = m
    · subst here
      by_cases alive : agentState s j = 1 <;> simp [alive]
    · simp [here]

/-- A field of lowest bit 0 or 1 is no flit mode. -/
theorem get_linkOff {f : Fld} (low : f.lo ≤ 1) (l : Nat) (s : State) : (linkOff l s).get f = s.get f :=
  forAll_keeps (State.get · f) fun d t => State.get_put_ne (by simp only [Fld.key, F.HP_AGENT_STATE.FLIT68]; omega) t 0

theorem linkOff_links (l : Nat) (s : State) :
    (linkOff l s).links = s.links.upd l (fun x => { x with up := false, width := 0, credits := 32 }) :=
  forAll_keeps State.links fun _ _ => rfl

theorem storage_linkOff (l : Nat) (s : State) : storage (linkOff l s) = storage s := forAll_keeps storage fun _ _ => rfl

theorem linkSlots_linkOff (l : Nat) (s : State) : linkSlots (linkOff l s) l = linkSlots s l := by
  simp only [linkSlots, linkOff_links, Tab.get_upd_same]

/-! ### The drop -/

/-- R66, R67: a link is down, each of its LDs that was ALIVE is DOWN, and stored lines and the catalogue are as they were. -/
structure LinkDropped (l : Nat) (s t : State) : Prop where
  down : (t.links.get l).up = false
  agents : ∀ d < (s.links.get l).lds, 4 * l + d < 64 → agentState s (4 * l + d) = 1 → agentState t (4 * l + d) = 2
  storage : storage t = storage s

theorem dropLink_drops {l : Nat} (lost : Nat) (up : (s.links.get l).up = true) : LinkDropped l s (dropLink l lost s) := by
  rw [dropLink_up lost up]
  refine ⟨?_, fun d bound slot alive => ?_, ?_⟩
  · have links : (forAll (linkSlots (linkOff l s) l) (dropLd (openReads s l) lost) (linkOff l s)).links = (linkOff l s).links :=
      forAll_keeps State.links fun m t => (dropLd_leaves _ _ m t).1
    rw [links, linkOff_links, Tab.get_upd_same]
  · have member : 4 * l + d ∈ linkSlots s l := List.mem_map.2 ⟨d, List.mem_range.2 bound, rfl⟩
    have before : agentState (linkOff l s) (4 * l + d) = 1 := (get_linkOff (Nat.zero_le 1) l s).trans alive
    rw [agentState_dropLds slot, linkSlots_linkOff, if_pos ⟨member, before⟩]
  · have lines : storage (forAll (linkSlots (linkOff l s) l) (dropLd (openReads s l) lost) (linkOff l s)) = storage (linkOff l s) :=
      forAll_keeps storage fun m t => (dropLd_leaves _ _ m t).2
    rw [lines, storage_linkOff]

theorem LinkDropped.of_same {l : Nat} {u t : State} (h : LinkDropped l u t) (agents : ∀ m, agentState u m = agentState s m)
    (lds : (u.links.get l).lds = (s.links.get l).lds) (lines : Machine.storage u = Machine.storage s) : LinkDropped l s t :=
  ⟨h.down, fun d bound slot alive => h.agents d (lds ▸ bound) slot ((agents _).trans alive), h.storage.trans lines⟩

/-- R55: a link whose traffic failed its integrity check, before it drops. -/
def ideFailed (l : Nat) (s : State) : State :=
  { s with links := s.links.upd l (fun x => { x with ideInsecure := true, ideKey := none }) }

theorem ideFailed_drops {l : Nat} (lost : Nat) (up : (s.links.get l).up = true) : LinkDropped l s (dropLink l lost (ideFailed l s)) := by
  have link : (ideFailed l s).links.get l = { s.links.get l with ideInsecure := true, ideKey := none } := Tab.get_upd_same _ _ _
  exact (dropLink_drops (s := ideFailed l s) lost (by rw [link]; exact up)).of_same (fun _ => rfl) (by rw [link]) rfl

theorem disabled_drops {l : Nat} (lost : Nat) (up : (s.links.get l).up = true) :
    LinkDropped l s (dropLink l lost (s.put (F.HP_LINK_CTRL.DISABLE l) 1)) := by
  refine (dropLink_drops (s := s.put (F.HP_LINK_CTRL.DISABLE l) 1) lost up).of_same (fun m => ?_) rfl rfl
  exact State.get_put_ne (by simp only [Fld.key, F.HP_LINK_CTRL.DISABLE, F.HP_AGENT_STATE.STATE]; omega) s 1

/-- R66: a drop leaves the link's DISABLE as it is. -/
theorem disable_dropLink {l : Nat} (lost : Nat) (hl : l < 16) (up : (s.links.get l).up = true) :
    (dropLink l lost s).get (F.HP_LINK_CTRL.DISABLE l) = s.get (F.HP_LINK_CTRL.DISABLE l) := by
  have below : (F.HP_LINK_CTRL.DISABLE l).addr < 2 ^ 32 := by simp only [F.HP_LINK_CTRL.DISABLE]; omega
  rw [dropLink_up lost up]
  refine (forAll_keeps (State.get · (F.HP_LINK_CTRL.DISABLE l)) fun m t => ?_).trans (get_linkOff (Nat.le_refl 1) l s)
  exact get_dropLd (Nat.le_refl 1) below _ _ m
    (by simp only [Fld.key, F.HP_LINK_CTRL.DISABLE, F.HP_AGENT_STATE.STATE]; omega) t

end

end Sys2Proof.Machine

open Sys2Proof.Machine in
/-- Settles O23: every row that takes a link down is `dropLink` (`dropLink_drops`), the timeout check is `deadCheck` in its clock. -/
theorem linkDrops : Obligations.LinkDrops := by
  refine ⟨?_, fun s l lost exist => ?_, fun s m down late clock => ?_, fun s m early => ?_⟩
  · intro s l lost up dropped
    have shown {t : State} (h : LinkDropped l s t) : dropped t := by
      obtain ⟨dram, frames, regions, almanac⟩ : t.dram = s.dram ∧ t.frames = s.frames ∧ t.regions = s.regions ∧
        t.almanac = s.almanac := by simpa only [storage, Prod.mk.injEq] using h.storage
      exact ⟨h.down, fun d bound => h.agents d bound (by omega), dram, frames, regions, almanac⟩
    refine ⟨⟨_, rfl, shown (dropLink_drops _ up)⟩, fun exist => ⟨_, ?_, shown (dropLink_drops lost.toNat up)⟩,
      fun exist => ⟨_, ?_, shown (disabled_drops lost.toNat up), ?_⟩, fun protected_ => ⟨_, ?_, shown (ideFailed_drops lost.toNat up)⟩⟩
    · rw [exec_linkResetWrite, execLinkResetWrite, exist]
      rfl
    · rw [exec_linkDisableWrite, execLinkDisableWrite, exist]
      rfl
    · rw [disable_dropLink (s := s.put (F.HP_LINK_CTRL.DISABLE l) 1) _ l.isLt up]
      exact State.get_put_same s _ 1
    · have secure : ((s.links.get l).ide && (s.links.get l).up) = true := by rw [protected_, up]; rfl
      rw [exec_ideIntegrityFailure, execIdeIntegrityFailure, if_pos secure]
      rfl
  · refine ⟨s.put (F.HP_LINK_CTRL.DISABLE l) 0, ?_, State.get_put_same s _ 0, rfl⟩
    rw [exec_linkDisableWrite, execLinkDisableWrite, exist]
    rfl
  · have first : checkClock s = true := beq_iff_eq.2 clock
    rw [exec_hostDeadTimeout, execHostDeadTimeout, if_pos first, deadCheck, if_pos ⟨down, late⟩]
  · rw [exec_hostDeadTimeout, execHostDeadTimeout, deadCheck, checkClock]
    split
    next first =>
      rw [if_neg]
      rintro ⟨down, late⟩
      rcases early with clock | state | short
      · exact clock (beq_iff_eq.1 first)
      · exact state down
      · exact absurd late (Nat.not_le.2 short)
    · rfl
end

section
/-!
What a host reads and writes of its logical device beside CXL.mem (R44, R48, R61 to R64).
-/

namespace Sys2Proof.Machine

section
variable {s : State} {m : Nat}

/-! ### Host agent numbers -/

/-- R44: a map write that is taken. -/
def hanMapped (m v : Nat) (s : State) : State :=
  ((s.put (F.HP_HAN_MAP.VALID m) (slice v 7 1)).put (F.HP_HAN_MAP.ASSIGNED m) (slice v 7 1)).put (F.HP_HAN_MAP.HAN m) (slice v 0 6)

theorem get_valid_hanMapped (m v : Nat) (s : State) : (hanMapped m v s).get (F.HP_HAN_MAP.VALID m) = slice v 7 1 := by
  unfold hanMapped
  rw [State.get_put_ne (by simp [Fld.key, F.HP_HAN_MAP.VALID, F.HP_HAN_MAP.HAN]),
    State.get_put_ne (by simp [Fld.key, F.HP_HAN_MAP.VALID, F.HP_HAN_MAP.ASSIGNED])]
  exact State.get_put_fits (slice_lt v 7 1) s

/-- R44: a write to an unlocked slot of an IDLE or DEAD agent, whose number no other slot holds, is taken. -/
theorem exec_hanMapWrite_takes {m : Fin 64} {v : BitVec 32} (unlocked : s.flag (F.HP_PORT_CFG.LOCK (m.val / 16)) = false)
    (free : agentState s m = 0 ∨ agentState s m = 4) (alone : s.inClutch = false)
    (fresh : ∀ x : Fin 64, x ≠ m → s.flag (F.HP_HAN_MAP.ASSIGNED x) = true → s.get (F.HP_HAN_MAP.HAN x) ≠ slice v.toNat 0 6) :
    exec (.hanMapWrite m v) s = .next (hanMapped m v.toNat s) := by
  have no_other : slots.any (fun x => x != m.val && s.flag (F.HP_HAN_MAP.ASSIGNED x) &&
      s.get (F.HP_HAN_MAP.HAN x) == slice v.toNat 0 6) = false := by
    refine List.any_eq_false.2 fun x hx => ?_
    simpa [Fin.ext_iff] using fresh ⟨x, mem_slots hx⟩
  rw [exec_hanMapWrite, execHanMapWrite]
  simp only [unlocked, alone, no_other, Bool.false_or, Bool.and_false, Bool.false_eq_true, if_false]
  rcases free with idle | dead
  · simp only [idle]
    rfl
  · simp only [dead]
    rfl

/-- R44: a write for an agent in another state changes nothing. -/
theorem exec_hanMapWrite_ignored {m : Fin 64} {v : BitVec 32} (idle : agentState s m ≠ 0) (dead : agentState s m ≠ 4) :
    exec (.hanMapWrite m v) s = .next s := by
  rw [exec_hanMapWrite, execHanMapWrite]
  simp [idle, dead]

/-! ### Decoders -/

/-- R48: a range as a commit asks for it. -/
def hdmAsked (base size : BitVec 64) (ways : BitVec 5) (gran : BitVec 15) (dpa : BitVec 64) : Hdm :=
  { base := base.toNat, size := size.toNat, ways := ways.toNat, gran := gran.toNat, dpa := dpa.toNat, committed := true }

/-- R48: a well-shaped range. -/
def HdmShaped (d : Hdm) : Prop :=
  d.ways ∈ [1, 2, 3, 4, 6, 8, 12, 16] ∧ d.gran ∈ [256, 512, 1024, 2048, 4096, 8192, 16384] ∧ d.base % 2 ^ 28 = 0 ∧ d.size % 2 ^ 28 = 0 ∧
    d.size ≠ 0

/-- R48: a decoder that does not stand against a range: it is not committed, or overlaps neither of its addresses. -/
def hdmFree (d o : Hdm) : Bool :=
  !o.committed || (!overlaps d.dpa (hdmDpaLen d) o.dpa (hdmDpaLen o) && !overlaps d.base d.size o.base o.size)

/-- R48: whether decoder `k` of an LD takes a range: it is well-shaped, static extents cover it, and no other decoder overlaps it. -/
def hdmTakes (l : LdSt) (k : Fin 4) (d : Hdm) : Bool :=
  ([1, 2, 3, 4, 6, 8, 12, 16].contains d.ways && [256, 512, 1024, 2048, 4096, 8192, 16384].contains d.gran && d.base % 2 ^ 28 == 0
    && d.size % 2 ^ 28 == 0 && d.size != 0)
  && staticCovers l d.dpa (hdmDpaLen d)
  && (((List.range 4).filter (fun j => j != k.val)).map (fun j => l.hdm.getD j {})).all (hdmFree d)

/-- R48: a decoder as the commit of a range leaves it. -/
def hdmLeft (l : LdSt) (k : Fin 4) (d : Hdm) : Hdm :=
  if hdmTakes l k d then d else { d with committed := false, notCommitted := true }

/-- An LD's decoder `k` set. -/
def withHdm (m k : Nat) (d : Hdm) (s : State) : State :=
  { s with lds := s.lds.set m { s.lds.get m with hdm := (s.lds.get m).hdm.set k d } }

theorem exec_hdmDecoderCommit_eq (m : Fin 64) (k : Fin 4) (base size : BitVec 64) (ways : BitVec 5) (gran : BitVec 15) (dpa : BitVec 64)
    (s : State) : exec (.hdmDecoderCommit m k base size ways gran dpa) s =
      .next (withHdm m k (hdmLeft (s.lds.get m) k (hdmAsked base size ways gran dpa)) s) := rfl

theorem others_free_iff (l : LdSt) (k : Fin 4) (d : Hdm) :
    (((List.range 4).filter (fun j => j != k.val)).map (fun j => l.hdm.getD j {})).all (hdmFree d) = true ↔
      ∀ j : Fin 4, j ≠ k → hdmFree d (l.hdm.getD j.val {}) = true := by
  simp only [List.all_map, List.all_filter, List.all_eq_true, List.mem_range, Fin.forall_iff, Fin.ext_iff, ne_eq]
  refine forall_congr' fun j => forall_congr' fun hj => ?_
  by_cases here : j = k.val <;> simp [here]

theorem hdmTakes_iff (l : LdSt) (k : Fin 4) (d : Hdm) : hdmTakes l k d = true ↔
    HdmShaped d ∧ staticCovers l d.dpa (hdmDpaLen d) = true ∧ ∀ j : Fin 4, j ≠ k → hdmFree d (l.hdm.getD j.val {}) = true := by
  simp only [hdmTakes, Bool.and_eq_true, others_free_iff, HdmShaped, List.contains_iff_mem, beq_iff_eq, bne_iff_ne, and_assoc]

/-- R48: a commit leaves the decoder with the range as it was given, committed only if it is well-shaped. -/
theorem hdmLeft_asked (l : LdSt) (k : Fin 4) (d : Hdm) (asked : d.committed = true) (plain : d.notCommitted = false) :
    (hdmLeft l k d).base = d.base ∧ (hdmLeft l k d).size = d.size ∧ (hdmLeft l k d).dpa = d.dpa ∧
    ((hdmLeft l k d).committed = true → HdmShaped d) ∧ (hdmLeft l k d).notCommitted = !(hdmLeft l k d).committed := by
  unfold hdmLeft
  split
  next taken => exact ⟨rfl, rfl, rfl, fun _ => ((hdmTakes_iff l k d).1 taken).1, by rw [asked, plain]; rfl⟩
  · exact ⟨rfl, rfl, rfl, nofun, rfl⟩

/-! ### Accesses of a host -/

/-- R376, R381: an access to an LD that is reached, awake, wakes the device and is served. -/
theorem ioAccess_awake {k : State → State} (awake : s.asleep = false) (reached : ldReached s m = true) :
    ioAccess m k s = k (wakeRaw 0 s) := by
  obtain ⟨-, down⟩ := Bool.or_eq_false_iff.1 awake
  simp only [ioAccess, down, reached, awake, Bool.not_true, Bool.or_self, Bool.false_eq_true, if_false]

/-- R61: a read of the vendor DVSEC of an LD that is reached. -/
theorem exec_dvsec {m : Fin 64} (o : Fin 48) (down : s.coreDown = false) (reached : ldReached s m = true) :
    exec (.tbLoRead m (.dvsec o)) s = .next (dvsecRead m (o.val / 4 * 4) s) := by
  simp only [exec_tbLoRead, execTbLoRead, down, reached, Bool.not_true, Bool.or_self, Bool.false_eq_true, if_false]

theorem tbHi_eq (m : Nat) (s : State) : dvsecValue s m 0x24 = (s.lds.get m).tbLatch.getD (s.now / 2 ^ 32) := by
  cases h : (s.lds.get m).tbLatch <;> simp [dvsecValue, h]

/-- R61, R63: the counts of AQ_DROP_LOG are cleared. -/
def dropLogCleared (m : Nat) (s : State) : State :=
  ((s.put (F.AQ_DROP_LOG.DROPS m) 0).put (F.AQ_DROP_LOG.LOST_READS m) 0).put (F.AQ_DROP_LOG.LOST_WRITES m) 0

theorem get_dropLogCleared (m : Nat) (s : State) :
    (dropLogCleared m s).get (F.AQ_DROP_LOG.DROPS m) = 0 ∧ (dropLogCleared m s).get (F.AQ_DROP_LOG.LOST_READS m) = 0 ∧
    (dropLogCleared m s).get (F.AQ_DROP_LOG.LOST_WRITES m) = 0 := by
  have reads : (F.AQ_DROP_LOG.LOST_READS m).key ≠ (F.AQ_DROP_LOG.LOST_WRITES m).key := by
    simp [Fld.key, F.AQ_DROP_LOG.LOST_READS, F.AQ_DROP_LOG.LOST_WRITES]
  have drops : (F.AQ_DROP_LOG.DROPS m).key ≠ (F.AQ_DROP_LOG.LOST_WRITES m).key ∧
      (F.AQ_DROP_LOG.DROPS m).key ≠ (F.AQ_DROP_LOG.LOST_READS m).key := by
    simp [Fld.key, F.AQ_DROP_LOG.DROPS, F.AQ_DROP_LOG.LOST_READS, F.AQ_DROP_LOG.LOST_WRITES]
  unfold dropLogCleared
  exact ⟨by rw [State.get_put_ne drops.1, State.get_put_ne drops.2, State.get_put_same, Nat.zero_mod],
    by rw [State.get_put_ne reads, State.get_put_same, Nat.zero_mod], by rw [State.get_put_same, Nat.zero_mod]⟩

end

end Sys2Proof.Machine

open Sys2Proof.Machine in
/-- Settles O25: a map write that is taken is `hanMapped`, a commit is decided by `hdmTakes`, and an access of a host that is reached is
served (`exec_dvsec`, `ioAccess_awake`). -/
theorem hostRegisters : Obligations.HostRegisters := by
  refine ⟨fun s m v unlocked free alone fresh => ?_, fun s m v idle dead => exec_hanMapWrite_ignored idle dead,
    fun s m k base size ways gran dpa four => ?_, fun s m k base size ways gran dpa => ?_, fun s m v => ?_,
    fun s m down reached => ⟨?_, ?_, ?_, fun c o v => ⟨?_, ?_⟩, fun awake => ?_⟩⟩
  · exact ⟨_, exec_hanMapWrite_takes unlocked free alone fresh, get_valid_hanMapped _ _ _,
      State.get_put_fits (slice_lt v.toNat 0 6) _, rfl⟩
  · obtain ⟨base_eq, size_eq, dpa_eq, shaped, marked⟩ := hdmLeft_asked (s.lds.get m) k (hdmAsked base size ways gran dpa) rfl rfl
    have inside : k.val < (s.lds.get m).hdm.length := by omega
    refine ⟨_, _, exec_hdmDecoderCommit_eq m k base size ways gran dpa s, ?_, base_eq, size_eq, dpa_eq, fun taken => ?_, marked,
      fun j other => Tab.get_set_other other _ _, rfl⟩
    · rw [withHdm, Tab.get_set_same]
      exact List.getElem?_set_self inside
    · obtain ⟨-, -, base_aligned, size_aligned, nonempty⟩ := shaped taken
      exact ⟨base_aligned, size_aligned, fun h => nonempty (congrArg BitVec.toNat h)⟩
  · intro d l free shaped taken
    have takes : hdmTakes l k d = true ↔ taken := hdmTakes_iff l k d
    refine ⟨fun h => ?_, fun h => ?_⟩
    · exact (exec_hdmDecoderCommit_eq m k base size ways gran dpa s).trans (congrArg (fun x => Host.Outcome.next (withHdm m k x s))
        (if_pos (takes.2 h)))
    · exact (exec_hdmDecoderCommit_eq m k base size ways gran dpa s).trans (congrArg (fun x => Host.Outcome.next (withHdm m k x s))
        (if_neg (mt takes.1 h)))
  · rw [exec_streamCtrlWrite, execStreamCtrlWrite]
    split
    next low =>
      refine ⟨_, rfl, ?_, rfl⟩
      exact State.get_put_fits (slice_lt v.toNat 0 3) _
    · exact ⟨_, rfl, rfl, rfl⟩
  · exact ⟨_, exec_dvsec 0x20 down reached, congrArg LdSt.tbLatch (Tab.get_upd_same _ _ _), rfl, rfl⟩
  · refine ⟨_, exec_dvsec 0x24 down reached, congrArg LdSt.tbLatch (Tab.get_upd_same _ _ _), ?_, rfl⟩
    rw [← tbHi_eq]
    rfl
  · obtain ⟨drops, reads, writes⟩ := get_dropLogCleared m s
    exact ⟨_, exec_dvsec 0x1C down reached, drops, reads, writes, rfl, rfl⟩
  · simp only [exec_tbLoRead, execTbLoRead, down, reached, Bool.not_true, Bool.or_self, Bool.false_eq_true, if_false]
  · simp only [exec_tbLoRead, execTbLoRead, down, reached, Bool.not_true, Bool.or_self, Bool.false_eq_true, if_false]
  · refine ⟨?_, fun o => ⟨?_, ?_⟩, ?_, fun o => ?_⟩
    all_goals exact congrArg Host.Outcome.next (ioAccess_awake awake reached)
end

section
/-!
The standard commands of a mailbox (R50, R51, R58, R59, R320, R438): each is the effect of its command on the state in which it is served.
-/

namespace Sys2Proof.Machine

section
variable {s t : State} {m : Nat}

/-- R58: a command of class INFO that is served is answered with its values. -/
theorem stdInfo_served (h : StdServed s m false 1) (f : State → List Nat) :
    stdInfo m f s = (stdArrived s false).emit (.mailbox m .success (f (stdArrived s false))) := stdCommand_served h _

/-- R51, R52: extents that join leave an LD's table with them behind what it held, and nothing else changed. -/
theorem addDc_some {l : List Extent} (h : addDc m l s = some t) :
    (t.lds.get m).extents = (s.lds.get m).extents ++ l ∧ (∀ x, x ≠ m → t.lds.get x = s.lds.get x) ∧ t = { s with lds := t.lds } := by
  induction l generalizing s with
  | nil =>
    cases h
    exact ⟨(List.append_nil _).symm, fun _ _ => rfl, rfl⟩
  | cons e l ih =>
    rw [addDc] at h
    obtain ⟨extents, others, rest⟩ := ih (Option.ite_none_right_eq_some.1 h).2
    refine ⟨?_, fun x other => (others x other).trans (Tab.get_upd_other other _ _), rest⟩
    rw [extents, Tab.get_upd_same, List.append_assoc]
    rfl

/-- Whether a free value is drawn turns on no extent table. -/
theorem farDrawn_of_lds (h : t = { s with lds := t.lds }) (lds : Tab LdSt {}) :
    { t.farDrawn with lds := lds } = { s.farDrawn with lds := lds } := by
  have same : t.inClutch = s.inClutch := by rw [h]; rfl
  unfold State.farDrawn
  rw [same]
  split
  · rw [h]
    rfl
  · rw [h]

theorem emit_farDrawn (lds : Tab LdSt {}) (o : Out) (s : State) :
    ({ s.farDrawn with lds := lds } : State).emit o = { s.farDrawn with lds := lds, out := s.out ++ [o] } := by
  unfold State.farDrawn
  split
  · rfl
  · rfl

/-- R51: the host's response with extents that were offered and fit. -/
theorem acceptDc_takes {l : List DcExtent} (offered : l.all (fun x => (s.lds.get m).offers.contains x) = true)
    (room : (s.lds.get m).extents.length + l.length ≤ 256) (joined : addDc m (l.map (dcEntry s)) s = some t) :
    acceptDc m l s = ({}, { s.farDrawn with lds := t.lds.upd m (fun l => { l with offers := [] }) }) := by
  rw [← farDrawn_of_lds (addDc_some joined).2.2]
  simp only [acceptDc, offered, joined, Bool.not_true, Bool.false_eq_true, if_false, if_neg (Nat.not_lt.2 room)]

theorem sidebandAccess_asleep {row : Instr} {k : State → State} (asleep : s.asleep = true) :
    sidebandAccess row k s = { s with mgt := { s.mgt with rows := s.mgt.rows ++ [row] } } := by
  simp only [sidebandAccess, asleep, Bool.true_or, if_true]

end

end Sys2Proof.Machine

open Sys2Proof Sys2Proof.Machine in
/-- Settles O38: a command that is served is its effect (`stdCommand_served`, `fmCommand_served`), and extents join by `addDc_some`. -/
theorem standardCommands : Obligations.StandardCommands := by
  refine ⟨fun s m served => ?_, fun s m sb served => ⟨?_, ?_⟩, fun s m served => ⟨?_, ?_⟩, fun s m l running awake => ?_,
    ?_, ?_, ?_, ?_, fun s m gib asleep => ⟨?_, ?_, ?_⟩⟩
  · intro a info
    have served_as {i : Instr} {f : State → List Nat} {d : List Nat} (he : exec i s = .next (stdInfo m f s)) (hd : f a = d) : info i d :=
      he.trans (congrArg Host.Outcome.next (by rw [stdInfo_served served f, hd]))
    refine ⟨?_, ?_, ?_, ?_, ?_, ?_, ?_, ?_, congrArg Host.Outcome.next (stdCommand_served served _), fun n => ?_, fun v => ?_,
      fun ns => ?_, fun op other => ?_⟩
    iterate 8 exact served_as rfl rfl
    · exact ⟨_, congrArg Host.Outcome.next (stdCommand_served served _), congrArg LdSt.log (Tab.get_upd_same _ _ _), rfl⟩
    · exact ⟨_, congrArg Host.Outcome.next (stdCommand_served served _), congrArg LdSt.irqPolicy (Tab.get_upd_same _ _ _), rfl⟩
    · exact ⟨_, congrArg Host.Outcome.next (stdCommand_served served _), congrArg LdSt.timestamp (Tab.get_upd_same _ _ _),
        congrArg LdSt.timestampTb (Tab.get_upd_same _ _ _), rfl⟩
    · rw [exec_unsupportedMailboxOpcode, execUnsupportedMailboxOpcode, if_neg other]
      exact congrArg Host.Outcome.next (stdCommand_served served _)
  · exact congrArg Host.Outcome.next (fmCommand_served served _)
  · exact congrArg Host.Outcome.next (fmCommand_served served _)
  · exact congrArg Host.Outcome.next (stdCommand_served served _)
  · exact congrArg Host.Outcome.next (stdCommand_served served _)
  · have add : exec (.addDcResponse m (.offer l)) s = .next (offerDc m l s) := by
      rw [exec_addDcResponse, execAddDcResponse, running, awake]
      rfl
    rw [add]
    refine ⟨fun full => ?_, fun room fits => ?_, fun room unfit => ?_⟩
    · rw [offerDc, if_pos full]
    · rw [offerDc, if_neg (Nat.not_lt.2 room), fits]
      rfl
    · rw [offerDc, if_neg (Nat.not_lt.2 room), unfit]
      rfl
  · intro s t m l served a offered joined room
    obtain ⟨extents, others, -⟩ := addDc_some joined
    have answered := stdCommand_served served (acceptDc m l)
    rw [acceptDc_takes offered room joined] at answered
    refine ⟨_, congrArg Host.Outcome.next answered, congrArg LdSt.offers (Tab.get_upd_same _ _ _),
      (congrArg LdSt.extents (Tab.get_upd_same _ _ _)).trans extents,
      fun x other => (Tab.get_upd_other other _ _).trans (others x other), ?_⟩
    exact emit_farDrawn _ _ a
  · intro s m l served a stray
    have answered := stdCommand_served served (acceptDc m l)
    rw [acceptDc, stray] at answered
    exact congrArg Host.Outcome.next answered
  · intro s m l served a listed
    have every : l.all (fun x => (dcFind (stdArrived s false) m x).isSome) = true := List.all_eq_true.2 listed
    refine congrArg Host.Outcome.next ((stdCommand_served served _).trans ?_)
    simp only [every, if_true]
    rfl
  · intro s t m sb gib served a named met
    have room : ¬(ldsOfLink (stdArrived s sb) m).length < gib.length := Nat.not_lt.2 named
    have met : allocLds ((ldsOfLink (stdArrived s sb) m).zip (gib.map (·.toNat))) (stdArrived s sb) = ({}, t) := met
    refine congrArg Host.Outcome.next ((fmCommand_served served _).trans ?_)
    simp only [room, if_false, met, if_true]
  · exact congrArg Host.Outcome.next (sidebandAccess_asleep asleep)
  · exact congrArg Host.Outcome.next (sidebandAccess_asleep asleep)
  · exact congrArg Host.Outcome.next (sidebandAccess_asleep asleep)
end

section
/-!
Poison by command, and the standard commands that are turned away (R58, R160, R323, R438).
-/

namespace Sys2Proof.Machine

section
variable {s : State} {m : Nat}

/-- R438: a full-line write by DPA of an aligned, backed line whose home is this member enters as an internal request. -/
theorem writeDpa_enters {dpa : Nat} {e : Extent} (mapped : extentAt (s.lds.get m) dpa = some e) (aligned : dpa % 64 = 0)
    (back : backed s m (lineAddr (e.base + (dpa - e.dpa))) = true) (own : homePath s (lineAddr (e.base + (dpa - e.dpa))) = s.path)
    (d : BitVec 512) (poison : Bool) :
    writeDpa m dpa d poison s = ({}, addReq
      { id := 0, src := .internal, intent := .wrNC, addr := lineAddr (homeAddr s (lineAddr (e.base + (dpa - e.dpa))))
        master := hostMaster s m, agent := hanOf s m, input := m / 16, write := true, data := d, mask := BitVec.allOnes 64
        poison := poison, born := s.now } s) := by
  simp only [writeDpa, mapped, aligned, back, own, ne_eq, not_true_eq_false, Bool.not_true, Bool.false_eq_true, or_self, if_false, if_true]

/-- R46, R381: a command over a host link reaches the checks of its class. -/
theorem stdCommand_arrives {cls : Nat} (awake : s.asleep = false) (reached : ldReached s m = true) (f : State → StdVerdict × State) :
    stdCommand m cls f s = stdServe m false cls f (stdArrived s false) := ioAccess_awake awake reached

/-- R358: in boot recovery mode every standard command is unsupported. -/
theorem stdCommand_recovery {cls : Nat} (awake : s.asleep = false) (reached : ldReached s m = true)
    (running : (stdArrived s false).sec.running = true) (recovery : (stdArrived s false).flag F.SEC_STATUS.RECOVERY = true)
    (f : State → StdVerdict × State) :
    stdCommand m cls f s = (stdArrived s false).emit (.mailbox m .unsupported []) := by
  rw [stdCommand_arrives awake reached]
  simp only [stdServe, running, recovery, Bool.not_true, Bool.false_eq_true, if_false, if_true]

/-- R323: a standard command of a class that the port authority table denies to its port. -/
theorem stdCommand_denied {cls : Nat} (awake : s.asleep = false) (reached : ldReached s m = true)
    (running : (stdArrived s false).sec.running = true) (normal : (stdArrived s false).flag F.SEC_STATUS.RECOVERY = false)
    (barred : denied (stdArrived s false) cls (m / 4) = true) (f : State → StdVerdict × State) :
    stdCommand m cls f s = (stdArrived s false).emit (.mailbox m .denied []) := by
  rw [stdCommand_arrives awake reached]
  simp only [stdServe, running, normal, barred, Bool.not_true, Bool.false_eq_true, if_false, if_true]

end

end Sys2Proof.Machine

open Sys2Proof Sys2Proof.Machine in
/-- Settles O39: the writes enter by `writeDpa_enters`; what is turned away ends at `stdServe`'s checks. -/
theorem poisonCommands : Obligations.PoisonCommands := by
  refine ⟨fun s m dpa len served => ⟨_, congrArg Host.Outcome.next (stdCommand_served served _), rfl, rfl⟩,
    ?_, ?_⟩
  · intro s m dpa line e served a mapped aligned cpa back own r
    have entered (d : BitVec 512) (poison : Bool) :
        stdCommand m 0x0B (writeDpa m dpa.toNat d poison) s = (addReq (r d poison) a).emit (.mailbox m .success []) := by
      rw [stdCommand_served served, writeDpa_enters mapped aligned back own]
    exact ⟨congrArg Host.Outcome.next (entered 0 true), congrArg Host.Outcome.next (entered line false)⟩
  · intro s m dpa awake reached a running
    refine ⟨fun recovery => ⟨?_, ?_, ?_⟩, fun normal barred => ?_, fun normal barred => ?_⟩
    · exact congrArg Host.Outcome.next (stdCommand_recovery awake reached running recovery _)
    · exact congrArg Host.Outcome.next (stdCommand_recovery awake reached running recovery _)
    · exact congrArg Host.Outcome.next (stdCommand_recovery awake reached running recovery _)
    · exact congrArg Host.Outcome.next (stdCommand_denied awake reached running normal barred _)
    · exact congrArg Host.Outcome.next (stdCommand_denied awake reached running normal barred _)
end

section
/-!
The region rows (R49, R73, R75, R179, R319, R482). Freeing a region ends its walk and the walk's moves, which reaches neither the states
of regions nor stored lines, the regions that are being freed or the Long commands (`standing`); a change of class reaches neither
frames nor extent tables (`clearDirectory_rest`).
-/

namespace Sys2Proof.Machine

section
variable {s t : State} {p : Packet} {r : Nat}

/-! ### What the end of a walk leaves as it is -/

/-- The states of regions, the stored lines, the regions that are being freed, and the management unit. -/
def standing (s : State) : (Nat → Nat) × Tab (BitVec 640) 0 × List (Nat × List Nat) × MgtSt :=
  (fun x => (s.region x).state, s.dram, s.tier.freeing, s.mgt)

theorem Quiet.standing (h : Quiet s t) : standing t = standing s := by
  rw [h.rest]
  rfl

theorem standing_log (s : State) (code inst addr detail : Nat) : standing (s.log code inst addr detail) = standing s :=
  (quiet_log (.refl s) code inst addr detail).standing

theorem standing_eventAll (code detail : Nat) (s : State) : standing (eventAll code detail s) = standing s := by
  refine forAll_keeps standing fun m t => ?_
  unfold eventTo
  extract_lets
  split
  · rfl
  split
  · rfl
  · rfl

theorem standing_metaMakeRoom (sl kind index : Nat) (s : State) : standing (metaMakeRoom sl kind index s) = standing s := by
  unfold metaMakeRoom
  split
  · rfl
  split
  · split
    · rfl
    · rfl
  · rfl

theorem standing_metaWrite (sl kind index : Nat) (val : BitVec 512) (s : State) :
    standing (metaWrite sl kind index val s) = standing s := by
  unfold metaWrite
  split
  · rfl
  split
  · rfl
  · exact standing_metaMakeRoom sl kind index s.stamp.2

theorem standing_setCat (page lo w v : Nat) (s : State) : standing (setCat page lo w v s) = standing s := standing_metaWrite _ _ _ _ _

theorem standing_updateActive (s : State) : standing (updateActive s) = standing s := by
  unfold updateActive
  extract_lets
  split
  · rfl
  split
  · rfl
  · rfl

theorem standing_poolChanged (s : State) : standing (poolChanged s) = standing s := by
  refine Eq.trans ?_ (standing_updateActive s)
  unfold poolChanged updateLevel
  split
  · rfl
  · exact forAll_keeps standing fun n t => (standing_eventAll _ _ _).trans (standing_log _ _ _ _ _)

theorem standing_sendSpillFree (member slot : Nat) (s : State) : standing (sendSpillFree member slot s) = standing s := by
  unfold sendSpillFree originate
  extract_lets
  split
  · rfl
  · rfl

theorem standing_releaseLoc (l : Loc) (s : State) : standing (releaseLoc l s) = standing s := by
  unfold releaseLoc
  split
  · rfl
  · exact standing_poolChanged _
  · unfold freeRun
    extract_lets
    split
    · rfl
    split
    · exact standing_poolChanged _
    · rfl
  · exact standing_sendSpillFree _ _ _

theorem standing_abortMove (m : Move) (s : State) : standing (abortMove m s) = standing s := by
  unfold abortMove
  extract_lets t1 t2 t3 t4
  have counted : standing t2 = standing s := by
    unfold t2
    split
    · exact (quiet_count (.refl t1) _ _ _).standing
    · rfl
  have released : standing t4 = standing t3 := by
    unfold t4
    split
    · split
      · exact standing_sendSpillFree _ _ _
      · rfl
    · exact standing_releaseLoc _ _
  exact (standing_setCat _ _ _ _ _).trans (released.trans counted)

theorem standing_recountKeys (s : State) : standing (recountKeys s) = standing s := by
  refine forAll_keeps standing fun k t => ?_
  unfold settleKey
  split
  · exact standing_log _ _ _ _ _
  · rfl

/-- R72, R300: the write of a descriptor changes the region table, and the masters by its charge. -/
theorem writeRegion_eq (s : State) (r : Nat) (f : Region → Region) :
    ∃ m, s.writeRegion r f = { s with regions := s.regions.upd r f, masters := m } := ⟨_, writeRegion_rest s r f⟩

theorem standing_writeRegion (r : Nat) (f : Region → Region) (s : State) : standing (s.writeRegion r f) =
    (fun x => if x = r then (f (s.region r)).state else (s.region x).state, s.dram, s.tier.freeing, s.mgt) := by
  obtain ⟨m, written⟩ := writeRegion_eq s r f
  rw [written]
  refine Prod.ext (funext fun x => ?_) rfl
  exact (congrArg Region.state (Tab.get_upd s.regions x r f)).trans (apply_ite Region.state _ _ _)

/-- A write of a descriptor that keeps the region's state. -/
theorem standing_writeRegion_of_state {f : Region → Region} (keeps : ∀ d, (f d).state = d.state) (r : Nat) (s : State) :
    standing (s.writeRegion r f) = standing s := by
  refine (standing_writeRegion r f s).trans (Prod.ext (funext fun y => ?_) rfl)
  change (if y = r then (f (s.region r)).state else (s.region y).state) = (s.region y).state
  split
  next here => rw [here, keeps]
  · rfl

theorem standing_hideWalk (w : Nat) (s : State) : standing (hideWalk w s) = standing s := forAll_keeps standing fun _ _ => rfl

theorem standing_setWalks (walks : List (Nat × Walk)) (s : State) : standing { s with walks := walks } = standing s := rfl

theorem standing_endWalk (w : Nat) (x : Walk) (s : State) : standing (endWalk w x s) = standing s := by
  have written : standing (s.writeRegion x.region fun d => { d with walk := false, srcKey := 0, srcGen := 0 }) = standing s :=
    standing_writeRegion_of_state (f := fun d => { d with walk := false, srcKey := 0, srcGen := 0 }) (fun _ => rfl) x.region s
  unfold endWalk
  generalize (s.writeRegion x.region fun d => { d with walk := false, srcKey := 0, srcGen := 0 }) = t at written ⊢
  exact (standing_recountKeys _).trans ((standing_hideWalk _ _).trans ((standing_setWalks _ _).trans written))

/-- R75, R183: the end of a region's walk and of the walk's moves. -/
theorem standing_dropWalk (r : Nat) (s : State) : standing (dropWalk r s) = standing s := by
  unfold dropWalk
  refine (forAll_keeps standing fun w t => ?_).trans rfl
  split
  · exact (standing_endWalk _ _ _).trans (forAll_keeps standing standing_abortMove)
  · rfl

/-! ### Freeing a region -/

theorem standing_farDrawn (s : State) : standing s.farDrawn = standing s := by
  unfold State.farDrawn
  split
  · rfl
  · rfl

theorem standing_setFreeing (freeing : List (Nat × List Nat)) (s : State) :
    standing { s with tier := { s.tier with freeing := freeing } } = ((standing s).1, s.dram, freeing, s.mgt) := rfl

/-- R75: the region is FREEING with its sweep at the start; the other regions, stored lines and the management unit are as they were. -/
theorem startFreeing_frees (r : Nat) (s : State) : standing (startFreeing r s) =
    (fun x => if x = r then 2 else (s.region x).state, s.dram, s.tier.freeing ++ [(r, List.replicate 16 0)], s.mgt) := by
  have dropped := standing_dropWalk r s
  unfold startFreeing
  generalize dropWalk r s = t at dropped ⊢
  have written := standing_writeRegion r (fun d => { d with state := 2 }) t
  generalize (t.writeRegion r fun d => { d with state := 2 }) = u at written ⊢
  simp only [standing, Prod.mk.injEq, funext_iff] at dropped written
  obtain ⟨states, dram, freeing, mgt⟩ := dropped
  obtain ⟨states', dram', freeing', mgt'⟩ := written
  refine Prod.ext (funext fun x => (states' x).trans ?_) (Prod.ext (dram'.trans dram) (Prod.ext ?_ (mgt'.trans mgt)))
  · rw [states]
  · exact congrArg (· ++ [(r, List.replicate 16 0)]) (freeing'.trans freeing)

theorem regionHeld_eq_false (h : regionHeld s r = false) :
    (longsOn s 0x0202 r).isEmpty = true ∧ (longsOn s 0x0206 r).isEmpty = true := by
  simpa [regionHeld] using h

/-- R75: a region that no Long command holds, ALLOCATED and mapped by no extent table, starts being freed. -/
theorem regionFree_starts (op : p.opcode.toNat = 0x0202) (free : regionHeld s (p.par 0 15) = false)
    (allocated : (s.region (p.par 0 15)).state = 1) (unmapped : regionMapped s (p.par 0 15) = false) :
    regionFree p s = startLong p (p.par 0 15) 0 (startFreeing (p.par 0 15) s.farDrawn) := by
  have first : longRuns s p (p.par 0 15) = false := by rw [longRuns, op, (regionHeld_eq_false free).1]; rfl
  simp [regionFree, first, free, allocated, unmapped]

/-- R179: a region that no Long command holds, ALLOCATED with a GEN that can rise, and with no walk, waits for its walk. -/
theorem regionRekey_starts (op : p.opcode.toNat = 0x0206) (free : regionHeld s (p.par 0 15) = false)
    (allocated : (s.region (p.par 0 15)).state = 1) (gen : (s.region (p.par 0 15)).gen ≠ 127)
    (still : (s.region (p.par 0 15)).walk = false) (unasked : s.walkQueue.any (fun q => q.region == p.par 0 15) = false) :
    regionRekey p s =
      startLong p (p.par 0 15) 0 { s with walkQueue := s.walkQueue ++ [{ region := p.par 0 15, toKey := none }] } := by
  have first : longRuns s p (p.par 0 15) = false := by rw [longRuns, op, (regionHeld_eq_false free).2]; rfl
  simp only [regionRekey, first, free, allocated, gen, still, unasked, Bool.false_eq_true, if_false, ne_eq, not_true_eq_false, or_self]

/-! ### The class of a region -/

/-- R196: what the zeroing of a directory slot may change. -/
theorem clearDirectory_eq (r d : Nat) (s : State) : ∃ regs almanac masters dram dir stamps slotStamps, clearDirectory r d s =
    { s with regs := regs, almanac := almanac, masters := masters, dram := dram, dir := dir, stamps := stamps, slotStamps := slotStamps } := by
  have frees := (freesWays_dropAlmanac r s).rest
  unfold clearDirectory
  extract_lets ofSlot other s1
  have charged : s1 = { dropAlmanac r s with masters := s1.masters } := chargeInternal_rest _ _ _
  clear_value s1
  rw [charged, frees]
  exact ⟨_, _, _, _, _, _, _, rfl⟩

/-- `t` is `s` with region `r` of class `cls`. -/
structure Classed (r cls : Nat) (s t : State) : Prop where
  cls : (t.region r).cls = cls
  state : (t.region r).state = (s.region r).state
  key : (t.region r).key = (s.region r).key
  others : ∀ x, x ≠ r → t.region x = s.region x
  frames : t.frames = s.frames
  lds : t.lds = s.lds

/-- R72 to R74: a region is given its class; only a shared one's directory slot is written. -/
theorem setClass_classed (r cls : Nat) (s : State) :
    Classed r cls s (setClass r cls s) ∧ (cls ≠ 1 → (setClass r cls s).dram = s.dram) := by
  unfold setClass
  extract_lets d t
  obtain ⟨m, written⟩ : ∃ m, t = { s with regions := s.regions.upd r fun a =>
      { a with cls := cls, dirSlot := d, lease := if a.lease = 3 then 3 else 0, breaker := 0 }, masters := m } := writeRegion_eq _ _ _
  have here : t.region r =
      { s.region r with cls := cls, dirSlot := d, lease := if (s.region r).lease = 3 then 3 else 0, breaker := 0 } := by
    rw [written]
    exact Tab.get_upd_same _ _ _
  have classed : Classed r cls s t := by
    refine ⟨by rw [here], by rw [here], by rw [here], fun x other => ?_, ?_, ?_⟩
    · rw [written]
      exact Tab.get_upd_other other _ _
    · rw [written]
    · rw [written]
  split
  next shared =>
    obtain ⟨hcls, hstate, hkey, hothers, hframes, hlds⟩ := classed
    obtain ⟨_, _, _, _, _, _, _, cleared⟩ := clearDirectory_eq r d t
    rw [cleared]
    exact ⟨⟨hcls, hstate, hkey, hothers, hframes, hlds⟩, fun h => absurd shared h⟩
  next => exact ⟨classed, fun _ => by rw [written]⟩

/-- R214: the directory slot of a region that is shared no more is emptied and drops out of the scrub's passes. -/
def directoryLeft (r : Nat) (s : State) : State :=
  if (s.region r).cls = 1 then dropPassSlot (s.region r).dirSlot (clearDirectory r (s.region r).dirSlot s) else s

/-- R73, R74: the change of a class. -/
theorem regionClass_changes (range : p.par 16 2 ≠ 3) (free : regionHeld s (p.par 0 15) = false)
    (allocated : (s.region (p.par 0 15)).state = 1) (unmapped : regionMapped s (p.par 0 15) = false)
    (room : p.par 16 2 = 1 → (slotsFree s).isEmpty = false) :
    regionClass p s = ok (if (s.region (p.par 0 15)).cls = p.par 16 2 then s.farDrawn
      else setClass (p.par 0 15) (p.par 16 2) (directoryLeft (p.par 0 15) s.farDrawn)) := by
  have slots : ¬(p.par 16 2 = 1 ∧ (slotsFree s).isEmpty = true) := fun h => by rw [room h.1] at h; exact Bool.noConfusion h.2
  simp only [regionClass, range, free, allocated, unmapped, slots, if_false, Bool.false_eq_true, ne_eq, not_true_eq_false, or_self]
  split
  · rfl
  · rfl

theorem farDrawn_leaves (s : State) : s.farDrawn.regions = s.regions ∧ s.farDrawn.dram = s.dram ∧ s.farDrawn.frames = s.frames ∧
    s.farDrawn.lds = s.lds := by
  unfold State.farDrawn
  split
  · exact ⟨rfl, rfl, rfl, rfl⟩
  · exact ⟨rfl, rfl, rfl, rfl⟩

theorem directoryLeft_leaves (r : Nat) (s : State) : (directoryLeft r s).regions = s.regions ∧ (directoryLeft r s).frames = s.frames ∧
    (directoryLeft r s).lds = s.lds ∧ ((s.region r).cls ≠ 1 → (directoryLeft r s).dram = s.dram) := by
  unfold directoryLeft
  split
  next shared =>
    obtain ⟨_, _, _, _, _, _, _, cleared⟩ := clearDirectory_eq r (s.region r).dirSlot s
    rw [cleared]
    exact ⟨rfl, rfl, rfl, fun h => absurd shared h⟩
  · exact ⟨rfl, rfl, rfl, fun _ => rfl⟩

/-! ### Extents -/

/-- R482: an extent whose fields are in range, that overlaps no other and finds room joins the LD's table. -/
theorem extentSet_appends (length : p.length = 32) (slot : fieldLE p.bytes 0 8 < 64) (dpa : fieldLE p.bytes 8 8 % 2 ^ 30 = 0)
    (whole : fieldLE p.bytes 16 8 % 2 ^ 30 = 0) (nonempty : 0 < fieldLE p.bytes 16 8) (fits : fieldLE p.bytes 16 8 ≤ 2 ^ 51)
    (base : fieldLE p.bytes 24 8 % 2 ^ 30 = 0) (low : fieldLE p.bytes 24 8 < 2 ^ 51)
    (apart : (s.lds.get (fieldLE p.bytes 0 8)).extents.any (fun e =>
      decide (e.dpa < fieldLE p.bytes 8 8 + fieldLE p.bytes 16 8) && decide (fieldLE p.bytes 8 8 < e.dpa + e.gib * 2 ^ 30)) = false)
    (room : (s.lds.get (fieldLE p.bytes 0 8)).extents.length < 256)
    (good : badRegion s (fieldLE p.bytes 0 8) (fieldLE p.bytes 24 8) (fieldLE p.bytes 16 8 / 2 ^ 30) = none) :
    extentSet p s = ok { s.farDrawn with lds := s.lds.upd (fieldLE p.bytes 0 8) fun l => { l with
      extents := l.extents ++ [{ dpa := fieldLE p.bytes 8 8, gib := fieldLE p.bytes 16 8 / 2 ^ 30, base := fieldLE p.bytes 24 8
                                 source := none, shared := sharedAway s (fieldLE p.bytes 24 8) (fieldLE p.bytes 16 8 / 2 ^ 30) }] } } := by
  have size : ¬(fieldLE p.bytes 16 8 % 2 ^ 30 ≠ 0 ∨ fieldLE p.bytes 16 8 = 0 ∨ 2 ^ 51 < fieldLE p.bytes 16 8) := by omega
  have place : ¬(fieldLE p.bytes 24 8 % 2 ^ 30 ≠ 0 ∨ 2 ^ 51 ≤ fieldLE p.bytes 24 8) := by omega
  unfold extentSet
  extract_lets
  rw [if_neg (not_not.2 length), if_neg (not_le.2 slot), if_neg (not_not.2 dpa), if_neg size, if_neg place, if_neg (ne_true_of_eq_false apart),
    if_neg (not_le.2 room), good]

/-- R48, R50: an extent that no committed decoder covers leaves the LD's table. -/
theorem extentClear_drops {e : Extent} (length : p.length = 8)
    (found : (s.lds.get (p.par 0 6)).extents.find? (fun e => e.dpa == fieldLE p.bytes 0 8) = some e)
    (uncovered : hdmCovers (s.lds.get (p.par 0 6)) e = false) : extentClear p s = ok (dropExtent (p.par 0 6) e s) := by
  simp [extentClear, length, found, uncovered]

end

/-- Settles O30: the effect of each row, where its packet is decided here. -/
theorem regionRows : Obligations.RegionRows := by
  unfold Obligations.RegionRows
  refine ⟨rowAnswers_of 0x0101 identify (q := id) (fun _ _ => rfl) (fun _ => rfl) fun p u _ => ⟨rfl, rfl, rfl, rfl⟩,
    rowAnswers_of 0x0202 regionFree (q := id) (fun _ _ => rfl) (fun _ => rfl) fun p u pre => ?free,
    rowAnswers_of 0x0206 regionRekey (q := id) (fun _ _ => rfl) (fun _ => rfl) fun p u pre => ?rekey,
    rowAnswers_of 0x0203 regionClass (q := id) (fun _ _ => rfl) (fun _ => rfl) fun p u pre => ?cls,
    rowAnswers_of 0x0204 extentSet (q := id) (fun _ _ => rfl) (fun _ => rfl) fun p u pre => ?set,
    rowAnswers_of 0x0205 extentClear (q := id) (fun _ _ => rfl) (fun _ => rfl) fun p u pre => ?clear⟩
  case free =>
    obtain ⟨free, allocated, unmapped⟩ := pre
    rw [regionFree_starts rfl free allocated unmapped]
    have drawn := standing_farDrawn u
    have freed := startFreeing_frees ((opForm 0x0202 p).par 0 15) u.farDrawn
    generalize startFreeing ((opForm 0x0202 p).par 0 15) u.farDrawn = t at freed ⊢
    generalize u.farDrawn = d at drawn freed
    simp only [standing, Prod.mk.injEq, funext_iff] at drawn freed
    obtain ⟨states, dram, freeing, mgt⟩ := drawn
    obtain ⟨states', dram', freeing', mgt'⟩ := freed
    refine ⟨rfl, (states' _).trans (if_pos rfl), freeing'.trans (by rw [freeing]), fun x other => ?_, ?_, dram'.trans dram⟩
    · exact (states' x).trans ((if_neg other).trans (states x))
    · exact ⟨_, congrArg (fun m : MgtSt => m.longs ++ [_]) (mgt'.trans mgt), rfl, rfl⟩
  case rekey =>
    obtain ⟨free, allocated, gen, still, unasked⟩ := pre
    rw [regionRekey_starts rfl free allocated gen still unasked]
    exact ⟨rfl, rfl, ⟨_, rfl, rfl, rfl⟩, rfl⟩
  case cls =>
    obtain ⟨range, free, allocated, unmapped, room⟩ := pre
    rw [regionClass_changes range free allocated unmapped room]
    generalize (opForm 0x0203 p).par 0 15 = r at *
    generalize (opForm 0x0203 p).par 16 2 = cls at *
    obtain ⟨regions, dram, frames, lds⟩ := farDrawn_leaves u
    split
    next same =>
      refine ⟨rfl, ?_, ?_, ?_, fun x _ => ?_, fun _ _ => dram, frames, lds⟩
      · exact (congrArg (fun t => (Tab.get t r).cls) regions).trans same
      · exact (congrArg (fun t => (Tab.get t r).state) regions).trans allocated
      · exact congrArg (fun t => (Tab.get t r).key) regions
      · exact congrArg (fun t => Tab.get t x) regions
    next =>
      have left := directoryLeft_leaves r u.farDrawn
      obtain ⟨classed, kept⟩ := setClass_classed r cls (directoryLeft r u.farDrawn)
      generalize directoryLeft r u.farDrawn = d at left classed kept ⊢
      obtain ⟨regions', frames', lds', dram'⟩ := left
      obtain ⟨hcls, hstate, hkey, hothers, hframes, hlds⟩ := classed
      have region (x : Nat) : d.region x = u.region x := congrArg (fun t => Tab.get t x) (regions'.trans regions)
      have drawn : u.farDrawn.region r = u.region r := congrArg (fun t => Tab.get t r) regions
      refine ⟨rfl, hcls, (hstate.trans (by rw [region])).trans allocated, hkey.trans (by rw [region]), fun x other => ?_, fun old new => ?_,
        hframes.trans (frames'.trans frames), hlds.trans (lds'.trans lds)⟩
      · exact (hothers x other).trans (region x)
      · exact (kept new).trans ((dram' (by rwa [drawn])).trans dram)
  case set =>
    obtain ⟨length, slot, dpa, whole, nonempty, fits, base, low, apart, room, good⟩ := pre
    rw [extentSet_appends length slot dpa whole nonempty fits base low apart room good]
    exact ⟨rfl, congrArg LdSt.extents (Tab.get_upd_same _ _ _), fun m other => Tab.get_upd_other other _ _, rfl⟩
  case clear =>
    obtain ⟨length, e, found, uncovered⟩ := pre
    rw [extentClear_drops length found uncovered]
    exact ⟨rfl, ⟨e, found, congrArg LdSt.extents (Tab.get_upd_same _ _ _)⟩, fun m other => Tab.get_upd_other other _ _, rfl⟩

end Sys2Proof.Machine
end

section
/-!
Fuse bits, trial confirmation, SPDM and IDE keys (R55, R348, R349, R352, R359, R363 to R366). What the responder does with a request is
one function of the state in which the request is served; `spdmCommand_answers` says which state that is.
-/

namespace Sys2Proof.Machine

section
variable {s : State} {j : FuseJob} {b : Nat} {rest : List Nat}

/-! ### Fuses -/

/-- R348: what an attempt at a bit leaves: a record where neither fuse took it, else the bit blown, and marked weak where one took it. -/
def fuseTried (b : Nat) (r : Fin 3) (s : State) : State :=
  if r.val = 2 then s.log 0x60 0 0 b else if r.val = 1 then (blow b s).put F.SEC_STATUS.FUSE_WEAK 1 else blow b s

/-- R348: the next bit of a job that may go on is tried; the job ends with its last bit. -/
theorem exec_fuseBitProgram_tries (job : s.sec.fuse = some j) (next : j.left = b :: rest)
    (open_ : j.packet = none ∨ tjInWindow s = true) (r : Fin 3) : exec (.fuseBitProgram r) s =
      .next (if rest.isEmpty then fuseStop j 0 (fuseOnes (fuseTried b r s) j.bits) (fuseTried b r s)
        else { fuseTried b r s with sec := { (fuseTried b r s).sec with fuse := some { j with left := rest } } }) := by
  have goes : (j.packet.isSome && !tjInWindow s) = false := by
    rcases open_ with none | warm
    · rw [none]; rfl
    · rw [warm, Bool.not_true, Bool.and_false]
  simp only [exec_fuseBitProgram, execFuseBitProgram, job, next, goes, Bool.false_eq_true, if_false]
  split
  · rfl
  · rfl

/-- R349: outside the window a packet's job stops. -/
theorem exec_fuseBitProgram_stops (job : s.sec.fuse = some j) (next : j.left = b :: rest) (packet : j.packet.isSome = true)
    (cold : tjInWindow s = false) (r : Fin 3) :
    exec (.fuseBitProgram r) s = .next (fuseStop j 0x0C (fuseOnes s j.bits) s) := by
  simp only [exec_fuseBitProgram, execFuseBitProgram, job, next, packet, cold, Bool.not_false, Bool.and_self, if_true]

/-- Which bits are set after bit `b` was. -/
theorem getLsbD_or_two_pow {w : Nat} (v : BitVec w) (b i : Nat) :
    (v ||| BitVec.ofNat w (2 ^ b)).getLsbD i = (v.getLsbD i || (decide (i < w) && decide (b = i))) := by
  rw [BitVec.getLsbD_or, BitVec.getLsbD_ofNat, Nat.testBit_two_pow]

/-- R348: a bit that is not of the alarm's limits is blown in the fuses and in the shadow, and nothing else changes. -/
theorem blow_eq (other : b < 906 ∨ 921 < b) (s : State) :
    blow b s = { s with fuses := s.fuses ||| BitVec.ofNat 2048 (2 ^ b), fuseShadow := s.fuseShadow ||| BitVec.ofNat 2048 (2 ^ b) } :=
  if_neg (by omega)

/-! ### The responder -/

/-- R333, R364, R381: a request that arrives awake at a responder that answers is served, one over a host link after its wake. -/
theorem spdmCommand_answers {x : Nat} (awake : s.asleep = false) (reached : x ≠ 64 → ldReached s x = true) (first : x = 64 → s.mgt.rows = [])
    (answers : spdmAnswers (stdArrived s (x == 64)) x = true) (row : Instr) (k : State → State) :
    spdmCommand row x k s = .next (k (stdArrived s (x == 64))) := by
  unfold spdmCommand
  extract_lets serve
  have served : serve (stdArrived s (x == 64)) = k (stdArrived s (x == 64)) := if_pos answers
  refine congrArg Host.Outcome.next ?_
  split
  next mctp =>
    subst mctp
    have here : sidebandAccess row serve s = serve s := if_neg (by simp [awake, first rfl])
    exact here.trans served
  next doe =>
    rw [beq_eq_false_iff_ne.2 doe] at served ⊢
    exact (ioAccess_awake awake (reached doe)).trans served

theorem inSession_open {x : Fin 65} {n : BitVec 16} (open_ : (s.sec.sessions.get x).contains n.toNat = true) :
    inSession x n s = s.emit (.spdm x .ack) := by
  rw [inSession, if_pos open_]
  rfl

/-- What SPDM_GET_MEASUREMENTS names: one block, or all. -/
theorem one_measurement {i : BitVec 8} (low : 1 ≤ i.toNat) (high : i.toNat ≤ 6) :
    i.toNat ≠ 0xFF ∧ ¬(i.toNat ≠ 0xFF ∧ (i.toNat = 0 ∨ 6 < i.toNat)) := by omega

/-- R364: the number of a new session of transport `x`. -/
def sessionDrawn (x : Nat) (s : State) : Nat := freeSession (s.sec.sessions.get x) 5 (Config.spdmSession s.freeCtr).toNat

/-- R364: a session is opened, and its key exchange signed. -/
def sessionOpened (x : Nat) (s : State) : State :=
  { s.drawn with sec := { s.sec with sessions := s.sec.sessions.set x (s.sec.sessions.get x ++ [sessionDrawn x s]) } }.emit
    (.spdm x (.keyExchange (sessionDrawn x s) (Config.spdmSignature s.freeCtr)))

/-! ### IDE keys -/

/-- R55: the link with the key it was given. -/
def ideKeyed (l : Nat) (k : BitVec 256) (c : Bool) (s : State) : State :=
  { s with links := s.links.upd l fun x => { x with ide := true, ideMode := if c then 2 else 1, ideKey := some k, ideInsecure := false } }

theorem linkSlots_ideKeyed (l : Nat) (k : BitVec 256) (c : Bool) (s : State) : linkSlots (ideKeyed l k c s) l = linkSlots s l := by
  have keyed : (ideKeyed l k c s).links.get l = _ := Tab.get_upd_same s.links l _
  rw [linkSlots, keyed]
  rfl

/-- R55: IDE_KM over an open session of a link's LD gives the link its key; a link that was insecure sends its held snoops again. -/
theorem exec_ideKm_keys {l : Fin 16} (awake : s.asleep = false) (reached : ldReached s (4 * l) = true)
    (running : (wakeRaw 0 s).sec.running = true) (secured : ∃ m ∈ linkSlots s l, s.sec.sessions.get m ≠ []) (k : BitVec 256) (c : Bool) :
    exec (.ideKm l k c) s = .next ((if (s.links.get l).ideInsecure
      then settle (retrySnoops (forAll (linkSlots (wakeRaw 0 s) l) ldUp (ideKeyed l k c (wakeRaw 0 s))))
      else ideKeyed l k c (wakeRaw 0 s)).emit (.ideKm l)) := by
  obtain ⟨m, mine, session⟩ := secured
  have opened : (linkSlots s l).any (fun m => !(s.sec.sessions.get m).isEmpty) = true :=
    List.any_eq_true.2 ⟨m, mine, by simpa using session⟩
  rw [exec_ideKm, execIdeKm, ioAccess_awake awake reached, running, opened, ← linkSlots_ideKeyed l k c (wakeRaw 0 s)]
  rfl

end

end Sys2Proof.Machine

open Sys2Proof Sys2Proof.Machine in
/-- Settles O49: the fuse and trial rows by their branch, the responder's rows by the state in which they are served
(`spdmCommand_answers`). -/
theorem securityEvents : Obligations.SecurityEvents := by
  refine ⟨fun s j b rest r job next open_ => ⟨?_, ?_⟩, fun s b bound other => ?_,
    fun s j b rest r job next packet cold => exec_fuseBitProgram_stops job next packet cold r,
    fun s running applied pending ripe alive idle quiet => ?_,
    fun s x awake reached first => ?_, fun s x n => ?_, fun s l k c awake down reached => ?_⟩
  · rintro rfl
    exact exec_fuseBitProgram_tries job next open_ r
  · intro more
    rw [exec_fuseBitProgram_tries job next open_ r, if_neg (by simpa using more)]
    rfl
  · have set (v : BitVec 2048) : (v ||| BitVec.ofNat 2048 (2 ^ b)).getLsbD b = true := by
      rw [getLsbD_or_two_pow, decide_eq_true bound, decide_eq_true rfl, Bool.and_self, Bool.or_true]
    rw [blow_eq other]
    refine ⟨set _, set _, fun i ne => ?_, rfl⟩
    exact (getLsbD_or_two_pow _ b i).trans (by rw [decide_eq_false ne.symm, Bool.and_false, Bool.or_false])
  · simp [exec_trialConfirm, execTrialConfirm, running, applied, pending, ripe, alive, idle, quiet]
  · intro a answers
    have served := spdmCommand_answers awake (fun doe => (reached doe).2) first answers
    refine ⟨?certificate, fun i low high => ?one, ?all, fun n open_ => ⟨?update, ?beat⟩, fun dik => ?challenge, fun dik i low high => ?signed,
      fun dik room => ?exchange⟩
    case certificate => exact served _ _
    case one =>
      refine (served _ _).trans ?_
      obtain ⟨one, named⟩ := one_measurement low high
      rw [if_neg named, if_neg one]
      rfl
    case all => exact served _ _
    case update => exact (served _ _).trans (congrArg Host.Outcome.next (inSession_open open_))
    case beat => exact (served _ _).trans (congrArg Host.Outcome.next (inSession_open open_))
    case challenge =>
      refine (served _ _).trans ?_
      rw [dik]
      rfl
    case signed =>
      refine (served _ _).trans ?_
      obtain ⟨one, named⟩ := one_measurement low high
      rw [if_neg named, if_neg one, dik]
      rfl
    case exchange =>
      refine ⟨sessionOpened x a, sessionDrawn x a, (served _ _).trans ?_, Tab.get_set_same _ _ _, rfl, rfl⟩
      exact congrArg Host.Outcome.next ((if_neg (by rw [dik]; exact Bool.false_ne_true)).trans (if_neg (not_le.2 room)))
  · refine ⟨_, rfl, fun k => ?_, rfl⟩
    rw [Tab.get_upd_same]
    simp
  · intro a running secured b
    exact exec_ideKm_keys awake reached running secured k c
end

section
/-!
Boot, flash operations, register accesses, the frame executive and packets of any opcode (R60, R318, R333, R335 to R337, R356, R358, R360,
R410, R454, R461).
-/

namespace Sys2Proof.Machine

section
variable {s : State} {o : NorOp} {rest : List NorOp}

/-! ### Flash operations -/

/-- R360: the operation under way has taken its effect, and the flash is free. -/
def norDone (o : NorOp) (rest : List NorOp) (s : State) : State :=
  { s with sec := { s.sec with nor := norApply o s.sec.nor, norOps := rest, norBusy := false } }.put F.SEC_STATUS.FLASH_BUSY 0

/-- R352, R360: the end of an operation is told to the FW_WRITE that asked for it, and the last one of BOOT_CTRL selects the copy. -/
theorem exec_norWriteComplete_done (first : s.sec.norOps = o :: rest) (busy : s.sec.norBusy = true) : exec .norWriteComplete s =
    .next (issueNor (
      let t := if o.who = .fwWrite then fwPageDone o.bytes.length (norDone o rest s) else norDone o rest s
      if o.who = .bootCtrl ∧ o.erase = 0 then bootCtrlDone t else t)) := by
  simp only [exec_norWriteComplete, execNorWriteComplete, first, busy, Bool.not_true, Bool.false_eq_true, if_false]
  rfl

/-! ### Register accesses -/

/-- R461: why an access faults, or 0. -/
def accessCause (a : Nat) (wide : Bool) (s : State) : Nat :=
  if !inBlock a then 1 else if a % (if wide then 8 else 4) ≠ 0 then 2 else if inReset s a then 3 else 0

/-- R461: a faulting access: it is recorded, and a load reads 0. -/
def accessFault (a cause : Nat) (s : State) : RegAccess → State
  | .store _ => accessError a cause true s
  | .load => (accessError a cause false s).emit (.loaded a 0)

/-- R454: an access of a register. -/
def accessServed (a : Nat) (wide : Bool) (s : State) : RegAccess → State
  | .store x => writeWord a wide x.toNat s
  | .load => loadWord a wide s

/-- R454, R461: an access of the running processor faults by its cause, or is served. -/
theorem exec_registerWrite_eq (awake : s.asleep = false) (free : s.rst.mgtHeld = false) (a : BitVec 32) (w : Bool) (v : RegAccess) :
    exec (.registerWrite a w v) s = .next (if accessCause a.toNat w s ≠ 0 then accessFault a.toNat (accessCause a.toNat w s) s v
      else accessServed a.toNat w s v) := by
  simp only [exec_registerWrite, execRegisterWrite, awake, free, Bool.or_self, Bool.false_eq_true, if_false]
  unfold accessCause
  cases v with
  | store x => exact (apply_ite Host.Outcome.next _ _ _).symm
  | load => exact (apply_ite Host.Outcome.next _ _ _).symm

theorem accessCause_of_outside {a : Nat} {w : Bool} (outside : inBlock a = false) : accessCause a w s = 1 := if_pos (by rw [outside]; rfl)

theorem accessCause_inside {a : Nat} {w : Bool} (inside : inBlock a = true) :
    accessCause a w s = if a % (if w then 8 else 4) ≠ 0 then 2 else if inReset s a then 3 else 0 := if_neg (by rw [inside]; exact Bool.false_ne_true)

/-- A put after changes of registers alone is one of registers alone. -/
theorem put_regs {t : State} (f : Fld) (v : Nat) (changed : ∃ regs, t = { s with regs := regs }) :
    ∃ regs, t.put f v = { s with regs := regs } := by
  obtain ⟨regs, rfl⟩ := changed
  exact ⟨_, rfl⟩

/-- R461: a faulting access shows in MGT_ACCESS_ERR, and in registers alone. -/
theorem accessError_records (a : Nat) {cause : Nat} (fits : cause < 8) (write : Bool) (s : State) :
    ∃ regs, accessError a cause write s = { s with regs := regs } ∧
      State.get { s with regs := regs } F.MGT_ACCESS_ERR.VALID = 1 ∧ State.get { s with regs := regs } F.MGT_ACCESS_ERR.CAUSE = cause ∧
      State.get { s with regs := regs } F.MGT_ACCESS_ERR.ADDR = a % 2 ^ F.MGT_ACCESS_ERR.ADDR.width := by
  have records : (accessError a cause write s).get F.MGT_ACCESS_ERR.VALID = 1 ∧
      (accessError a cause write s).get F.MGT_ACCESS_ERR.CAUSE = cause ∧
      (accessError a cause write s).get F.MGT_ACCESS_ERR.ADDR = a % 2 ^ F.MGT_ACCESS_ERR.ADDR.width := by
    unfold accessError State.bump
    refine ⟨?_, ?_, ?_⟩
    · rw [State.get_put_lo (by decide), State.get_put_same]
      rfl
    · rw [State.get_put_lo (by decide), State.get_put_lo (by decide), State.get_put_lo (by decide), State.get_put_fits fits]
    · rw [State.get_put_lo (by decide), State.get_put_lo (by decide), State.get_put_lo (by decide), State.get_put_lo (by decide),
        State.get_put_same]
  obtain ⟨regs, left⟩ : ∃ regs, accessError a cause write s = { s with regs := regs } :=
    put_regs _ _ (put_regs _ _ (put_regs _ _ (put_regs _ _ (put_regs _ _ ⟨s.regs, rfl⟩))))
  rw [left] at records
  exact ⟨regs, left, records⟩

/-- R461: an access that faults is recorded with its cause and its address, and changes nothing else; a load reads 0. -/
theorem exec_registerWrite_faults (awake : s.asleep = false) (free : s.rst.mgtHeld = false) {a : BitVec 32} {w : Bool} {cause : Nat}
    (why : accessCause a.toNat w s = cause) (fault : cause ≠ 0) (fits : cause < 8) (v : RegAccess) :
    ∃ t, exec (.registerWrite a w v) s = .next t ∧ t.get F.MGT_ACCESS_ERR.VALID = 1 ∧ t.get F.MGT_ACCESS_ERR.CAUSE = cause ∧
      t.get F.MGT_ACCESS_ERR.ADDR = a.toNat % 2 ^ F.MGT_ACCESS_ERR.ADDR.width ∧
      t.out = (match v with
        | .store _ => s.out
        | .load => s.out ++ [.loaded a.toNat 0]) ∧ t = { s with regs := t.regs, out := t.out } := by
  refine ⟨accessFault a.toNat cause s v, ?_, ?_⟩
  · rw [exec_registerWrite_eq awake free, why, if_pos fault]
  · cases v with
    | store x =>
      obtain ⟨regs, left, valid, written, addr⟩ := accessError_records a.toNat fits true s
      rw [accessFault, left]
      exact ⟨valid, written, addr, rfl, rfl⟩
    | load =>
      obtain ⟨regs, left, valid, written, addr⟩ := accessError_records a.toNat fits false s
      rw [accessFault, left]
      exact ⟨valid, written, addr, rfl, rfl⟩

/-! ### Packets of any opcode -/

theorem opForm_own (p : Packet) : opForm p.opcode.toNat p = { p with muted := false } := by
  rw [opForm, BitVec.ofNat_toNat, BitVec.setWidth_eq]

/-- R318: neither the tag nor the count of a packet defines an opcode. -/
theorem opDefined_decidedIn (p : Packet) (op : Nat) (s : State) : opDefined (decidedIn p s) op = opDefined s op := by
  have recovery : (decidedIn p s).get F.SEC_STATUS.RECOVERY = s.get F.SEC_STATUS.RECOVERY := count_get _ _ _ _ (by decide) (by decide)
  simp only [opDefined, State.flag_eq, recovery]

/-- R318 step 2. -/
theorem checkPacket_undefined {p : Packet} (header : headerFault p = false) (undefined : opDefined s p.opcode.toNat = false) :
    checkPacket p s = some { status := 0x02 } := by
  simp [checkPacket, header, undefined]

/-- R318: a packet of no defined command that is decided here as it arrives is answered as unsupported. -/
theorem exec_unsupportedCommand_answers {p q : Packet} (muted : { p with muted := false } = q) (undefined : opDefined s p.opcode.toNat = false)
    (now : decidesNow q s = true) (fresh : tagHeld q s = false) (header : headerFault q = false) (here : goesToHead q (decidedIn q s) = false) :
    exec (.unsupportedCommand p) s = .next (answer q { status := 0x02 } (decidedIn q s)) := by
  obtain rfl : opForm p.opcode.toNat p = q := (opForm_own p).trans muted
  have unknown : opDefined (decidedIn (opForm p.opcode.toNat p) s) (opForm p.opcode.toNat p).opcode.toNat = false := by
    rw [opDefined_decidedIn, opForm_own, undefined]
  rw [exec_unsupportedCommand, execUnsupportedCommand, undefined, runCmd_decides now fresh,
    decideWith_fails header here (checkPacket_undefined header unknown)]
  rfl

end

end Sys2Proof.Machine

open Sys2Proof Sys2Proof.Machine in
/-- Settles O50: an access of a register by its cause (`exec_registerWrite_eq`), an undefined opcode by the check that it fails; the other
rows by their branch. -/
theorem bootAndRegisters : Obligations.BootAndRegisters := by
  refine ⟨fun s d stopped free up => ?boot, fun s o rest first busy fw boot => ?other, fun s o rest first busy fw => ?page,
    fun s o rest first busy boot program => ?control, fun s r rest first awake warm applied quiet => ?logbook,
    fun s a w v awake free => ?access, fun s n c awake running due => ?slot, fun s m l up => ⟨fun fits => ?fits, fun short => ?short⟩,
    fun s p => ?unsupported⟩
  case boot => simp only [exec_boot, execBoot, stopped, free, up, Bool.or_self, Bool.false_eq_true, if_false]
  case other =>
    rw [exec_norWriteComplete_done first busy, if_neg fw]
    exact congrArg (fun t => Host.Outcome.next (issueNor t)) (if_neg fun last => boot last.1 last.2)
  case page =>
    rw [exec_norWriteComplete_done first busy, if_pos fw]
    exact congrArg (fun t => Host.Outcome.next (issueNor t)) (if_neg fun last => NorWho.noConfusion (fw.symm.trans last.1))
  case control =>
    have fw : o.who ≠ .fwWrite := fun fw => NorWho.noConfusion (boot.symm.trans fw)
    have last : o.who = .bootCtrl ∧ o.erase = 0 := ⟨boot, program⟩
    rw [exec_norWriteComplete_done first busy, if_neg fw]
    exact congrArg (fun t => Host.Outcome.next (issueNor t)) (if_pos last)
  case logbook => simp [exec_logbookWrite, execLogbookWrite, first, awake, warm, applied, quiet]
  case access =>
    intro wrong
    refine ⟨fun outside => ?_, fun inside askew => ?_, fun inside aligned held => ?_, fun inside aligned live => ?_⟩
    · exact exec_registerWrite_faults awake free (accessCause_of_outside outside) (by decide) (by decide) v
    · exact exec_registerWrite_faults awake free ((accessCause_inside inside).trans (if_pos askew)) (by decide) (by decide) v
    · exact exec_registerWrite_faults awake free ((accessCause_inside inside).trans ((if_neg (not_not.2 aligned)).trans (if_pos held)))
        (by decide) (by decide) v
    · have fine : accessCause a.toNat w s = 0 :=
        (accessCause_inside inside).trans ((if_neg (not_not.2 aligned)).trans (if_neg (ne_true_of_eq_false live)))
      rw [exec_registerWrite_eq awake free, fine]
      rfl
  case slot =>
    have goes : (s.asleep || !s.sec.running || !(s.inFatal || unitWaits s 0x0A 0)) = false := by
      rw [awake, running, Bool.or_eq_true_iff.2 due]
      rfl
    rw [exec_frameExecutiveSlot, execFrameExecutiveSlot, goes]
    rfl
  case fits =>
    have long : ¬l.length < 16 := not_lt.2 (of_decide_eq_true fits)
    simp only [exec_aqCommandTunnel, execAqCommandTunnel, up, long, Bool.not_true, Bool.false_eq_true, if_false]
  case short =>
    have less : l.length < 16 := not_le.1 (of_decide_eq_false short)
    simp only [exec_aqCommandTunnel, execAqCommandTunnel, up, less, Bool.not_true, Bool.false_eq_true, if_false, if_true]
  case unsupported =>
    intro q undefined now fresh header here
    exact exec_unsupportedCommand_answers rfl undefined now fresh header here
end
